-- ==== Sys2Proof/Word.lean ====
section
/-!
DEFINITION. The byte of the host link, and points of the frame and of the design.
-/

namespace Sys2Proof

/-- A byte on the host link (10, R158: 8 data bits). -/
abbrev Byte := BitVec 8

/-- A pair of coordinates in units of 0.1 mm (00, Table 0-3): a design position, a frame absolute
position or a displacement. -/
structure Point where
  x : Int
  y : Int
deriving DecidableEq, Repr, Inhabited

/-- Sum of two points, axis by axis. -/
def Point.add (p q : Point) : Point := ⟨p.x + q.x, p.y + q.y⟩

/-- Difference of two points, axis by axis. -/
def Point.sub (p q : Point) : Point := ⟨p.x - q.x, p.y - q.y⟩

end Sys2Proof
end

