-- ==== Sys2Proof/Config.lean ====
section
/-!
DEFINITION. What is fixed for every FJ48: the capacities the manual gives, and the free value that
stands for what it does not state.
-/

namespace Sys2Proof.Config

/-- The free value: nothing is known of it. `State.free` counts how often it has been taken, so every
taking is a fresh, unconstrained number. Log 4. -/
opaque freeNat : Nat → Nat

/-- Block slots of the Design Store (02 section 2.1). -/
def slotCount : Nat := 32
/-- Head positions of the head table (01 section 1.7). -/
def headPositions : Nat := 8
/-- Places of the reply queue (10 Table 10-1). -/
def replyPlaces : Nat := 4
/-- Places of the event queue (10 Table 10-1). -/
def eventPlaces : Nat := 32
/-- Receive frame buffers (10 Table 10-1). -/
def receiveBuffers : Nat := 2
/-- Places of the head bus command queue (06 Table 6-1). -/
def queuePlaces : Nat := 16
/-- Gap records in all, and for one head (09 R146). -/
def gapPlaces : Nat := 16
/-- Gap records of one head (09 R146). -/
def gapsPerHead : Nat := 4
/-- Motion records of a full lookahead window (03 R53). -/
def windowSize : Nat := 16
/-- Record indices lie below this (00 Table 0-3; 02 R35). -/
def recordLimit : Nat := 16777216
/-- Design and frame positions lie in -posLimit..posLimit (00 Table 0-3). -/
def posLimit : Int := 32000

end Sys2Proof.Config
end

