-- ==== Sys2Proof/Syntax.lean ====
section
/-!
DEFINITION. The commands of the FJ48: one constructor of `Instr` per row of spec/opcode_table.json,
and the types of their operands.
-/

namespace Sys2Proof

/-- Who sent a request (10, R161): addressed frames carry the host's tag and are replied to; broadcast
frames are not. -/
inductive Sender where
  | addressed (tag : Byte)
  | broadcast
deriving DecidableEq, Repr

/-- The two frame axes. -/
inductive AxisName where
  | x
  | y
deriving DecidableEq, Repr, Inhabited

/-- Case state of a head board's status record (06, Table 6-3). -/
inductive CaseState where
  | atRest
  | moving
  | jammed
deriving DecidableEq, Repr, Inhabited

/-- Trim state of a head board's status record (06, Table 6-3). -/
inductive TrimState where
  | idle
  | busy
  | done
  | failed
deriving DecidableEq, Repr, Inhabited

/-- A head board's status record (06, Table 6-3). -/
structure StatusRecord where
  casePos   : Nat
  caseState : CaseState
  trimState : TrimState
  engaged   : Bool
  penetrations : Nat
  feed      : Nat
  tension   : Nat
  bobbinLow : Bool
deriving DecidableEq, Repr, Inhabited

/-- Contents of the MACHINE group (11, Table 11-1). -/
structure MachineGroup where
  headCount : Nat
  kX : Nat
  kY : Nat
  xLow : Int
  xHigh : Int
  yLow : Int
  yHigh : Int
  homeX : Int
  homeY : Int
deriving DecidableEq, Repr, Inhabited

/-- Contents of the SPEED LIMITS group (11, Table 11-1). -/
structure SpeedGroup where
  crawl : Nat
  maxSpeed : Nat
  accel : Nat
  decel : Nat
  openAngle : Nat
  closeAngle : Nat
  tieIn : Nat
deriving DecidableEq, Repr, Inhabited

/-- Contents of the THREAD group (11, Table 11-1): B, TL, TH, U, Lr, derate, bobbin warn level, O. -/
structure ThreadGroup where
  breakB : Nat
  tensionLow : Nat
  tensionHigh : Nat
  upper : Nat
  lower : Nat
  derate : Nat
  warnLevel : Nat
  overlap : Nat
deriving DecidableEq, Repr, Inhabited

/-- Contents of the PACING group (11, Table 11-1): L, H and R. -/
structure PacingGroup where
  low : Nat
  high : Nat
  retain : Nat
deriving DecidableEq, Repr, Inhabited

/-- The fields of one guard zone (04, Table 4-3). -/
structure ZoneFields where
  active : Bool
  xBase : Int
  kx : Nat
  yBase : Int
  ky : Nat
deriving DecidableEq, Repr, Inhabited

/-- The commands of the FJ48. The docstring of each names its row's rule. A request carries its
sender and the fields of its body (10, Table 10-6; 11, Table 11-1); an event carries what the
mechanism shows at that moment. Log 1. -/
inductive Instr where
  /-- POWER_ON (R175): strap levels and input levels as they are at power-on. -/
  | powerOn (rateStraps addressStraps : Nat) (hostReady estop homeX homeY : Bool)
  /-- FRAME_CLOSE (R160): the bytes received since the last FLAG, then the closing FLAG. -/
  | frameClose (bytes : List Byte)
  /-- FRAME_ABORT (R159): the bytes received since the last FLAG, then 0x7D and a FLAG. -/
  | frameAbort (bytes : List Byte)
  /-- REQUEST_DECODE (R161). -/
  | requestDecode
  /-- OPEN_DESIGN (R31). -/
  | openDesign (src : Sender)
  /-- DESIGN_BLOCK (R36): the whole body, which the Design Store judges itself (R33). -/
  | designBlock (src : Sender) (body : List Byte)
  /-- DISCARD_DESIGN (R32). -/
  | discardDesign (src : Sender)
  /-- START (R12). -/
  | start (src : Sender)
  /-- RESUME (R13). -/
  | resume (src : Sender)
  /-- STOP (R16). -/
  | stop (src : Sender)
  /-- STEP (R21). -/
  | step (src : Sender)
  /-- CLEAR_HALT (R97). -/
  | clearHalt (src : Sender)
  /-- RUN_TO_MARK (R22). -/
  | runToMark (src : Sender) (label : Nat)
  /-- SET_MODE (R19): the mode as sent, SINGLE 0, BURST 1, CONTINUOUS 2. -/
  | setMode (src : Sender) (mode : Nat)
  /-- HEAD_ON (R24). -/
  | headOn (src : Sender) (head : Nat)
  /-- HEAD_OFF (R24). -/
  | headOff (src : Sender) (head : Nat)
  /-- SPEED_CEILING (R57). -/
  | speedCeiling (src : Sender) (rpm : Nat)
  /-- SET_ORIGIN (R74). -/
  | setOrigin (src : Sender)
  /-- HOME_FRAME (R80). -/
  | homeFrame (src : Sender)
  /-- REFERENCE_SHAFT (R92). -/
  | referenceShaft (src : Sender)
  /-- MOVE_FRAME (R77). -/
  | moveFrame (src : Sender) (dx dy : Int)
  /-- MAP_COLOUR (R115): slot and the eight needles in head order. -/
  | mapColour (src : Sender) (slot : Nat) (needles : List Nat)
  /-- BOBBIN_SET (R133). -/
  | bobbinSet (src : Sender) (head count : Nat)
  /-- SET_POLICY (R138): STOP-ALL 0, DROP-OUT 1. -/
  | setPolicy (src : Sender) (policy : Nat)
  /-- REPAIR_DONE (R141). -/
  | repairDone (src : Sender) (head : Nat)
  /-- SEW_GAPS (R150). -/
  | sewGaps (src : Sender)
  /-- ABANDON_GAP (R155): a head, or 0 for all. -/
  | abandonGap (src : Sender) (head : Nat)
  /-- BACK (R156). -/
  | back (src : Sender) (n : Nat)
  /-- FORWARD (R157). -/
  | forward (src : Sender) (n : Nat)
  /-- STATUS (R165): bit 0 RUN to bit 7 LINK. -/
  | status (src : Sender) (selection : Nat)
  /-- READ_HEAD (R166). -/
  | readHead (src : Sender) (head : Nat)
  /-- READ_GAPS (R166). -/
  | readGaps (src : Sender)
  /-- RESET (R169): CONTROLLED 0, IMMEDIATE 1. -/
  | reset (src : Sender) (mode : Nat)
  /-- CONFIGURE_MACHINE (R71). -/
  | configureMachine (src : Sender) (group : MachineGroup)
  /-- CONFIGURE_SPEED_LIMITS (R85). -/
  | configureSpeedLimits (src : Sender) (group : SpeedGroup)
  /-- CONFIGURE_MOVE_TABLE (R50): piece and its 32 entries. -/
  | configureMoveTable (src : Sender) (piece : Nat) (entries : List Nat)
  /-- CONFIGURE_THREAD (R130). -/
  | configureThread (src : Sender) (group : ThreadGroup)
  /-- CONFIGURE_PACING (R47). -/
  | configurePacing (src : Sender) (group : PacingGroup)
  /-- CONFIGURE_ZONE (R73): the zone, its active byte and its fields. -/
  | configureZone (src : Sender) (zone : Nat) (active : Nat) (xBase : Int) (kx : Nat) (yBase : Int) (ky : Nat)
  /-- CONFIGURE_ARBITER (R164): 16 phases, REPLY 0, EVENT 1, GRANT 2, PROGRESS 3. -/
  | configureArbiter (src : Sender) (phases : List Nat)
  /-- CONFIGURE_POLL (R108): poll angle and idle period in ms. -/
  | configurePoll (src : Sender) (angle period : Nat)
  /-- CONFIGURE_PROGRESS (R168). -/
  | configureProgress (src : Sender) (period : Nat)
  /-- CONFIGURE_POLICY (R138). -/
  | configurePolicy (src : Sender) (policy : Nat)
  /-- CONFIGURE_MODE (R19). -/
  | configureMode (src : Sender) (mode : Nat)
  /-- CONFIGURE_READ_BACK (R176): the group code, and the piece or zone where one is sent. -/
  | configureReadBack (src : Sender) (group : Nat) (number : Option Nat)
  /-- OUTBOUND_WALK (R164). -/
  | outboundWalk
  /-- HOST_READY_CHANGE (R158): the input's new level. -/
  | hostReadyChange (level : Bool)
  /-- ENCODER_COUNT (R84): forward or reverse. -/
  | encoderCount (forward : Bool)
  /-- INDEX_PULSE (R84). -/
  | indexPulse
  /-- SHAFT_REST_DECLARED (R89). -/
  | shaftRestDeclared
  /-- STALL_TIMER_EXPIRY (R94). -/
  | stallTimerExpiry
  /-- ESTOP_ASSERT (R95): the steps of the move in flight issued by then, per axis (R82). -/
  | estopAssert (xSteps ySteps : Nat)
  /-- ESTOP_NEGATE (R95). -/
  | estopNegate
  /-- WARNING_HOLD_EXPIRY (R14). -/
  | warningHoldExpiry
  /-- STITCH_MOVE_COMPLETE (R68). -/
  | stitchMoveComplete
  /-- TRAVEL_SEGMENT_COMPLETE (R76). -/
  | travelSegmentComplete
  /-- RESEAT_COMPLETE (R82): the axis whose re-seat completes. -/
  | reseatComplete (axis : AxisName)
  /-- HOME_SENSOR_CHANGE (R81): the axis and its sensor's new level. -/
  | homeSensorChange (axis : AxisName) (active : Bool)
  /-- HOME_BACKOFF_DONE (R81). -/
  | homeBackoffDone
  /-- HOMING_TIMEOUT (R81). -/
  | homingTimeout
  /-- HEAD_ANSWER (R106): the head the answer names, whether its check word is right, and the status
  record it carries (read only when a POLL is in flight; an acknowledgement carries none). -/
  | headAnswer (head : Nat) (checkOk : Bool) (record : StatusRecord)
  /-- HEAD_ATTEMPT_TIMEOUT (R103). -/
  | headAttemptTimeout
  /-- REST_TIMER_EXPIRY (R108). -/
  | restTimerExpiry
  /-- TRIM_TIMER_EXPIRY (R117). -/
  | trimTimerExpiry (head : Nat)
  /-- CASE_TIMER_EXPIRY (R120). -/
  | caseTimerExpiry (head : Nat)
  /-- FIRST_FLAG_AFTER_POWER_ON (R159): the bytes before it, then the FLAG. -/
  | firstFlagAfterPowerOn (bytes : List Byte)
deriving DecidableEq, Repr

end Sys2Proof
end

