-- ==== Sys2Proof/Decode.lean ====
section
/-!
DEFINITION. The words of the opcode table. spec/opcode_table.json gives NO row any bits (each row's
`fields` list is empty and none has a `fixed` pattern), so no word spells a command. The commands of
the host arrive as frames instead: their bytes are read by Machine/Operands.lean (REQUEST_DECODE).
-/

namespace Sys2Proof

/-- The command that the table's bits spell: none, since no row has bits. -/
def decodeTableWord (_nbits _w : Nat) : Option Instr := none

end Sys2Proof
end

