-- ==== Sys2Proof/Machine/State.lean ====
section
/-!
DEFINITION. The state of the FJ48, block by block as Figure 0-1 of 00_scope.md draws it, the outcomes
other than a next state, and the state after power-on. Plain data throughout.
-/

namespace Sys2Proof.Machine

/-! ## Run Controller (01) -/

/-- Run states, Table 1-1. -/
inductive RunState where
  | unconfigured | idle | arming | travelling | running | changing | stopping | paused | waiting
  | finished | halted
deriving DecidableEq, Repr, Inhabited

/-- The pass (R4). -/
inductive Pass where
  | main | patch
deriving DecidableEq, Repr, Inhabited

/-- Stop causes, Table 1-3. -/
inductive StopCause where
  | host | programmed | mark | starved | pinned | fault | frameLimit | zone | noHead | gapsFull
  | stall | step | estop
deriving DecidableEq, Repr, Inhabited

/-- Run modes (R19). -/
inductive RunMode where
  | single | burst | continuous
deriving DecidableEq, Repr, Inhabited

/-- Head states, Table 1-6. -/
inductive HeadState where
  | off | idle | sewing | resting | dropped | patch | lost
deriving DecidableEq, Repr, Inhabited

/-- The two engagement commands of the head bus. -/
inductive Engage where
  | lower | lift
deriving DecidableEq, Repr, Inhabited

/-- An engagement order (R25): the command, the head state it brings when it takes effect, whether it
makes a join (R142, R152), and whether step 4 of a start sequence waits for it (R14). -/
structure EngageOrder where
  cmd : Engage
  becomes : HeadState
  join : Bool
  forStart : Bool
deriving DecidableEq, Repr, Inhabited

/-- One entry of the head table (R23). `acked` is an order acknowledged at the head bus that waits for
the next TDC crossing (R106). -/
structure HeadEntry where
  state : HeadState
  needle : Nat
  queued : Option Engage
  acked : Option EngageOrder
deriving DecidableEq, Repr, Inhabited

/-- Where the single-head alignments of a join or patch join stand (R144, R152). -/
inductive JoinPhase where
  | pick
  | aligning (head : Nat)
  | lowering (head : Nat)
deriving DecidableEq, Repr, Inhabited

/-- What follows when every waiting head has joined (R144, R151). -/
inductive AfterJoin where
  | running
  | fromWaiting
  | stepEngage
  | patch
deriving DecidableEq, Repr, Inhabited

/-- Where the end stops of a patch stop point stand (R152). -/
inductive EndPhase where
  | pick
  | trimming (head : Nat)
  | lifting (head : Nat)
deriving DecidableEq, Repr, Inhabited

/-- Which part of a sequence the Run Controller is carrying out beside the run state: the warning hold
and the four steps of R14 (a step is `due` before it is judged), a change at a COLOUR or TRIM record,
the joins of R144, the patch stop work of R151, and the travels of R76. -/
inductive Activity where
  | none
  | hold
  | dueTravel
  | returnTravel
  | dueReference
  | referencing
  | dueAlign
  | aligning
  | dueEngage
  | engaging
  | changing
  | joining (todo : List Nat) (phase : JoinPhase) (after : AfterJoin)
  | endStops (phase : EndPhase)
  | patchTravel
  | hostTravel
deriving DecidableEq, Repr, Inhabited

/-- The Run Controller: Table 1-2, the start-warning output (R15), the head table (R23), the return
state of a halt (R96), and how far its current sequence has come. -/
structure Run where
  state : RunState
  pass : Pass
  mainCursor : Nat
  patchCursor : Option Nat
  cause : Option StopCause
  mode : RunMode
  mark : Option Nat
  segmentStart : Nat
  tieIn : Nat
  startReturn : Option RunState
  travelReturn : Option RunState
  passReturn : Option RunState
  point : Option Nat
  haltReturn : Option RunState
  warning : Bool
  heads : List HeadEntry
  activity : Activity
  /-- the value the next RUN STARTED event carries (Table 1-5) -/
  startValue : Nat
  /-- a STEP that keeps the tie-in count (R21) -/
  keepTieIn : Bool
  /-- a STEP is being executed (R21) -/
  stepping : Bool
  /-- its motion record has been penetrated (R21) -/
  stepDone : Bool
  /-- the move of the record at the cursor has begun and the record is not yet penetrated (R5, R6) -/
  carry : Bool
  /-- the place where the pass or resume began, or whose join stops are made (R151) -/
  patchDone : Option Nat
  /-- gaps sewn in the pass (R154) -/
  patchSewn : Nat
deriving DecidableEq, Repr, Inhabited

/-! ## Design Store (02) -/

/-- A design record (Table 10-7). A SPEED record holds its limit in rpm, as R38 stores it. -/
inductive DesignRecord where
  | stitch (dx dy : Int)
  | jump (dx dy : Int)
  | trim
  | colour (slot : Nat)
  | speed (limit : Nat)
  | stop
  | mark (label : Nat)
  | finish
deriving DecidableEq, Repr, Inhabited

/-- Stamps of a slot (Table 2-1): design position, colour slot and speed limit in force. `afterTrim` says
beside them whether the record just before is a TRIM record, which R124 asks of the design when the block of
that record may be held no more. -/
structure Stamp where
  pos : Point
  colour : Nat
  limit : Nat
  afterTrim : Bool
deriving DecidableEq, Repr, Inhabited

/-- Slot states (R27). -/
inductive SlotState where
  | free | filled | active | retained
deriving DecidableEq, Repr, Inhabited

/-- A slot (Table 2-1). The record count is the length of `records`. -/
structure Slot where
  state : SlotState
  seq : Nat
  first : Bool
  last : Bool
  firstIndex : Nat
  records : List DesignRecord
  entry : Stamp
  exit : Stamp
deriving DecidableEq, Repr, Inhabited

/-- Design states (R30). -/
inductive DesignState where
  | absent | loading | complete
deriving DecidableEq, Repr, Inhabited

/-- The Design Store (R26 to R28, Table 2-2). `granted` is the outstanding grant count G; `filledEnd`
is also the next record index. The ahead count is a function of this state (R39). -/
structure Store where
  design : DesignState
  slots : List Slot
  nextSeq : Nat
  granted : Nat
  filledEnd : Nat
  tail : Option Stamp
deriving DecidableEq, Repr, Inhabited

/-! ## Speed Governor (03) -/

/-- A motion record of the lookahead window (R49, R53): its index, its bound S(j) with crawl points applied,
its distance n(j), and whether a stop point follows it. -/
structure WindowEntry where
  index : Nat
  bound : Nat
  distance : Nat
  stopFollows : Bool
deriving DecidableEq, Repr, Inhabited

/-- The Speed Governor (R49). `last = none` is "at rest". -/
structure Governor where
  last : Option Nat
  bound : Option Nat
  ceiling : Nat
  derate : Bool
  window : List WindowEntry
deriving DecidableEq, Repr, Inhabited

/-! ## Frame Drive (04) -/

/-- What kind of move an axis has in flight (Table 4-2). -/
inductive MoveKind where
  | stitch | segment | reseat | homing
deriving DecidableEq, Repr, Inhabited

/-- A move in flight on one axis: its displacement, its whole number of steps (signed, R67) and how
many of them are known to have been issued. -/
structure AxisMove where
  kind : MoveKind
  delta : Int
  steps : Int
  issued : Nat
deriving DecidableEq, Repr, Inhabited

/-- One axis of the Frame Drive (Table 4-2), its direction output and its home sensor input. -/
structure Axis where
  pos : Int
  steps : Int
  residue : Nat
  move : Option AxisMove
  referenced : Bool
  offPath : Option Nat
  dirUp : Bool
  homeActive : Bool
deriving DecidableEq, Repr, Inhabited

/-- A guard zone with its pending request (Table 4-3). -/
structure Zone where
  fields : ZoneFields
  waiting : Option ZoneFields
deriving DecidableEq, Repr, Inhabited

/-- The stitch or JUMP move in flight (R68 to R70). -/
structure StitchMove where
  index : Nat
  jump : Bool
  record : Nat
  latePosted : Bool
deriving DecidableEq, Repr, Inhabited

/-- A travel move in flight (R76), or the chain of them that BACK and FORWARD make. `legs` are the
targets still to be travelled to; `origin`, `shift`, `count` and `made` describe the leg under way:
its start, displacement, number of segments and segments completed; `index` is the table index of the
segment in flight, if one is. -/
structure Travel where
  legs : List Point
  origin : Point
  shift : Point
  count : Nat
  made : Nat
  index : Option Nat
  stopAsked : Bool
deriving DecidableEq, Repr, Inhabited

/-- The steps of homing one axis (R81); `waiting` while a stitch move is still in flight (R68). -/
inductive HomingPhase where
  | waiting | away | backoff | down
deriving DecidableEq, Repr, Inhabited

/-- A homing in progress (R80, R81). -/
structure Homing where
  axis : AxisName
  phase : HomingPhase
deriving DecidableEq, Repr, Inhabited

/-- The Frame Drive (R66). K, the field limits and the home coordinates stand in `Settings`. -/
structure FrameDrive where
  x : Axis
  y : Axis
  origin : Option Point
  zones : List Zone
  stitch : Option StitchMove
  travel : Option Travel
  homing : Option Homing
deriving DecidableEq, Repr, Inhabited

/-! ## Shaft Unit (05) -/

/-- Shaft states, Table 5-2. -/
inductive ShaftState where
  | unreferenced | referencing | atRest | running | stopping | holding
deriving DecidableEq, Repr, Inhabited

/-- The lockout set (Table 5-3), one flag for each reason. -/
structure Lockout where
  jump : Bool
  late : Bool
  rest : Bool
  travel : Bool
  homing : Bool
  referencing : Bool
  halt : Bool
deriving DecidableEq, Repr, Inhabited

/-- The Shaft Unit (R84 to R86). `braked` is set from the braking TDC on (R89); `stall` holds the
stall timer's length while it runs (R94); the `seen` flags and `wraps` keep a crossing from being
reported twice between two crossings of TDC (R84); the two angles are those in force (R85);
`hostReference` marks a referencing asked for by REFERENCE SHAFT (R93); `estop` is the input level. -/
structure Shaft where
  state : ShaftState
  referenced : Bool
  angle : Nat
  speed : Nat
  hold : Bool
  braked : Bool
  stall : Option Nat
  lockout : Lockout
  seenOpen : Bool
  seenLate : Bool
  seenClose : Bool
  seenPoll : Bool
  wraps : Nat
  openAngle : Nat
  closeAngle : Nat
  hostReference : Bool
  estop : Bool
deriving DecidableEq, Repr, Inhabited

/-! ## Head Bus Controller (06) -/

/-- Commands of Table 6-2, and the queued POLL (R104). The Run Controller issues `engage`, the Thread
Change Unit issues the others. -/
inductive BusWork where
  | caseMove (ahead : Bool) (places : Nat)
  | trim
  | engage (order : EngageOrder)
  | clear
  | poll
deriving DecidableEq, Repr, Inhabited

/-- An entry of the command queue or the held-back list (Table 6-1). -/
structure BusCommand where
  head : Nat
  work : BusWork
deriving DecidableEq, Repr, Inhabited

/-- Transaction marks (R100). -/
inductive Mark where
  | fresh | one | two
deriving DecidableEq, Repr, Inhabited

/-- What a transaction carries (R105). -/
inductive TransactionKind where
  | command (work : BusWork)
  | probe
  | roundPoll
deriving DecidableEq, Repr, Inhabited

/-- The transaction in flight (Table 6-1). `reported` is false after a RESET (R112). -/
structure Transaction where
  kind : TransactionKind
  head : Nat
  attempt : Nat
  mark : Mark
  reported : Bool
deriving DecidableEq, Repr, Inhabited

/-- What the Head Bus Controller keeps for one head (Table 6-1). -/
structure HeadLink where
  probe : Bool
  timeouts : Nat
  lost : Bool
  nextMark : Mark
  record : Option StatusRecord
deriving DecidableEq, Repr, Inhabited

/-- A poll round in progress (Table 6-1, R107): the heads still to poll, and those that have become OFF or lost
since it started. Its list is empty while its last poll is in flight (Table 6-4). -/
structure Round where
  todo : List Nat
  passed : List Nat
deriving DecidableEq, Repr, Inhabited

/-- The Head Bus Controller (R99). `restTimer` holds the period loaded while the timer runs. -/
structure Bus where
  queue : List BusCommand
  held : List BusCommand
  inFlight : Option Transaction
  round : Option Round
  restTimer : Option Nat
  heads : List HeadLink
deriving DecidableEq, Repr, Inhabited

/-! ## Thread Change Unit (07) -/

/-- Work in progress (Table 7-1). -/
inductive Work where
  | none | trim | colourChange | alignAll | alignOne
deriving DecidableEq, Repr, Inhabited

/-- Trim progress of a head (Table 7-1). -/
inductive TrimProgress where
  | absent | waiting | done | handedOver
deriving DecidableEq, Repr, Inhabited

/-- Case progress of a head (Table 7-1). -/
inductive CaseProgress where
  | absent | lifting | moving | clearing | lowering | arrived | resting | handedOver
deriving DecidableEq, Repr, Inhabited

/-- What the Thread Change Unit keeps for one head (Table 7-1). `part` marks a participant; the two
timers run from the acknowledgement of the latest TRIM or CASE MOVE (R117, R120), and only records
accepted while they run are read. -/
structure HeadWork where
  part : Bool
  trim : TrimProgress
  trimAttempt : Nat
  trimTimer : Bool
  case : CaseProgress
  target : Nat
  caseAttempt : Nat
  ahead : Bool
  distance : Nat
  caseTimer : Option Nat
  lastKnown : Option Nat
deriving DecidableEq, Repr, Inhabited

/-- A pending entry of the colour map (R115). -/
structure PendingNeedle where
  slot : Nat
  head : Nat
  needle : Nat
deriving DecidableEq, Repr, Inhabited

/-- The Thread Change Unit (R113). `map` has 64 rows of 8 needles. -/
structure ThreadChange where
  map : List (List Nat)
  waiting : List PendingNeedle
  work : Work
  newSlot : Nat
  casing : Bool
  heads : List HeadWork
deriving DecidableEq, Repr, Inhabited

/-! ## Thread Monitor (08) -/

/-- Head fault kinds, Table 8-2. -/
inductive FaultKind where
  | upperBreak | bobbinOut | caseJam | trimFail | lost
deriving DecidableEq, Repr, Inhabited

/-- How a pending fault is handled (08, section 8.5). -/
inductive Handling where
  | held | dropped
deriving DecidableEq, Repr, Inhabited

/-- A pending fault (Table 8-1). -/
structure PendingFault where
  kind : FaultKind
  handling : Handling
deriving DecidableEq, Repr, Inhabited

/-- What the Thread Monitor keeps for one head (Table 8-1). -/
structure HeadWatch where
  countdown : Nat
  armed : Bool
  ownTieIn : Nat
  bobbin : Nat
  countLow : Bool
  sensorLow : Bool
  excursion : Nat
  warn : Bool
  fault : Option PendingFault
  joining : Bool
deriving DecidableEq, Repr, Inhabited

/-- Fault policies (R138). -/
inductive Policy where
  | stopAll | dropOut
deriving DecidableEq, Repr, Inhabited

/-- The Thread Monitor (R130). -/
structure Monitor where
  heads : List HeadWatch
  warnCount : Nat
  policy : Policy
deriving DecidableEq, Repr, Inhabited

/-! ## Gap Table (09) -/

/-- Gap states (Table 9-1). -/
inductive GapState where
  | opened | closed | sewing
deriving DecidableEq, Repr, Inhabited

/-- A gap record (Table 9-1). -/
structure Gap where
  head : Nat
  start : Nat
  stop : Option Nat
  entry : Point
  colour : Nat
  state : GapState
deriving DecidableEq, Repr, Inhabited

/-! ## Link Interface (10) -/

/-- A checked frame in a receive buffer (R160): broadcast or addressed, class, tag and body. -/
structure InFrame where
  broadcast : Bool
  cls : Nat
  tag : Byte
  body : List Byte
deriving DecidableEq, Repr, Inhabited

/-- Result codes, Table 10-2. -/
inductive ResultCode where
  | ok | clamped | busy | range | notConfigured | notReferenced | notGranted | outOfOrder | format
  | faultPending | noData | nothingToDo | unknown
deriving DecidableEq, Repr, Inhabited

/-- A reply: result code and data (R162). -/
structure Reply where
  code : ResultCode
  data : List Byte
deriving DecidableEq, Repr, Inhabited

/-- A place of the reply queue: reserved (`none`) or holding a reply (Table 10-1). -/
structure ReplyPlace where
  tag : Byte
  reply : Option Reply
deriving DecidableEq, Repr, Inhabited

/-- Event kinds, Table 10-5. -/
inductive EventKind where
  | runStarted | stopped | waiting | colourBegun | colourDone | markReached | designEnded | headFault
  | headRepaired | gapOpened | gapClosed | patchDone | tensionWarn | tensionClear | bobbinLow
  | lateMove | frameHomed | homeFailed | shaftReferenced | halted | travelDone | resetDone
deriving DecidableEq, Repr, Inhabited

/-- An event (R167): kind, head or 0, record index and value. -/
structure Event where
  kind : EventKind
  head : Nat
  index : Nat
  value : Nat
deriving DecidableEq, Repr, Inhabited

/-- Sources of the outbound line (R163). -/
inductive OutSource where
  | reply | event | grant | progress
deriving DecidableEq, Repr, Inhabited

/-- The pending grant record (R42): first sequence number and count. -/
structure Grant where
  seq : Nat
  count : Nat
deriving DecidableEq, Repr, Inhabited

/-- A progress report (R168). -/
structure Progress where
  index : Nat
  speed : Nat
  pos : Point
  pass : Pass
deriving DecidableEq, Repr, Inhabited

/-- The Link Interface (Table 10-1), the straps as read at power-on and the host-ready input (R158),
and the bytes of the frame last begun on the transmit line (R159). `resetBy` is the sender of a
CONTROLLED RESET performing its stop; `replyFirst` marks the reply to RESET, sent ahead of the walk
(R169); `grant = none` is the empty grant record. -/
structure Link where
  rateStraps : Nat
  addressStraps : Nat
  hostReady : Bool
  flagSeen : Bool
  assembling : List Byte
  escaped : Bool
  buffers : List InFrame
  errors : Nat
  resetBy : Option Sender
  replies : List ReplyPlace
  replyFirst : Bool
  grant : Option Grant
  events : List Event
  overflow : Bool
  progress : Option Progress
  progressCount : Nat
  phases : List OutSource
  pointer : Nat
  transmit : List Byte
deriving DecidableEq, Repr, Inhabited

/-! ## Machine configuration (11) -/

/-- The configuration groups in force (Table 11-2), with the three marks of R175. Guard zones, phase
table, policy and run mode stand with their blocks. -/
structure Settings where
  machine : MachineGroup
  machineSet : Bool
  speeds : SpeedGroup
  speedsSet : Bool
  table : List Nat
  pieces : List Bool
  tableLoaded : Bool
  thread : ThreadGroup
  pacing : PacingGroup
  pollAngle : Nat
  pollPeriod : Nat
  progressPeriod : Nat
deriving DecidableEq, Repr, Inhabited

/-! ## The whole machine -/

/-- The state of the FJ48. `pending` is the queue of commands waiting to be taken, oldest first;
`free` counts the free values taken (log 4). -/
structure State where
  run : Run
  store : Store
  gov : Governor
  frame : FrameDrive
  shaft : Shaft
  bus : Bus
  change : ThreadChange
  monitor : Monitor
  gaps : List Gap
  link : Link
  cfg : Settings
  free : Nat
  pending : List Instr
deriving DecidableEq, Repr, Inhabited

/-- Reasons for which the machine would stop with a fault: NONE. The manual gives every command an
effect in every state; what goes wrong is a reply code, an event, a head fault or a stop cause, all of
them effects on `State`. Safe: nothing stops a run. -/
inductive Fault where
deriving DecidableEq, Repr

/-- Reasons for refusing a command. -/
inductive Refusal where
  /-- Raised by an arm of `exec` for a command that has no meaning yet; safe. No arm raises it. -/
  | notModelled (mnemonic : String)
deriving DecidableEq, Repr

/-! ## Updates by block -/

/-- Replaces the Run Controller's state. -/
def State.setRun (s : State) (r : Run) : State := { s with run := r }
/-- Replaces the Design Store's state. -/
def State.setStore (s : State) (b : Store) : State := { s with store := b }
/-- Replaces the Speed Governor's state. -/
def State.setGov (s : State) (b : Governor) : State := { s with gov := b }
/-- Replaces the Frame Drive's state. -/
def State.setFrame (s : State) (b : FrameDrive) : State := { s with frame := b }
/-- Replaces the Shaft Unit's state. -/
def State.setShaft (s : State) (b : Shaft) : State := { s with shaft := b }
/-- Replaces the Head Bus Controller's state. -/
def State.setBus (s : State) (b : Bus) : State := { s with bus := b }
/-- Replaces the Thread Change Unit's state. -/
def State.setChange (s : State) (b : ThreadChange) : State := { s with change := b }
/-- Replaces the Thread Monitor's state. -/
def State.setMonitor (s : State) (b : Monitor) : State := { s with monitor := b }
/-- Replaces the Gap Table. -/
def State.setGaps (s : State) (b : List Gap) : State := { s with gaps := b }
/-- Replaces the Link Interface's state. -/
def State.setLink (s : State) (b : Link) : State := { s with link := b }
/-- Replaces the configuration in force. -/
def State.setCfg (s : State) (b : Settings) : State := { s with cfg := b }
/-- Replaces the count of free values taken. -/
def State.setFree (s : State) (n : Nat) : State := { s with free := n }
/-- Replaces the queue of waiting commands. -/
def State.setPending (s : State) (q : List Instr) : State := { s with pending := q }

/-! ## Power-on values -/

/-- Table 10-4. -/
def defaultPhases : List OutSource :=
  [.reply, .event, .grant, .reply, .event, .reply, .progress, .event,
   .reply, .grant, .event, .reply, .event, .reply, .grant, .progress]

/-- The default colour map of R114: needle (s mod 12) + 1 on every head. -/
def defaultMap : List (List Nat) := (List.range 64).map (fun s => List.replicate 8 (s % 12 + 1))

/-- A FREE slot. Its other fields have no meaning (R26); a slot made FREE takes these. Log 3. -/
def Slot.empty : Slot := ⟨.free, 0, false, false, 0, [], ⟨⟨0, 0⟩, 0, 0, false⟩, ⟨⟨0, 0⟩, 0, 0, false⟩⟩

/-- Table 11-2, power-on column. -/
def Settings.default : Settings where
  machine := ⟨1, 640, 640, -3000, 3000, -2000, 2000, -3000, -2000⟩
  machineSet := false
  speeds := ⟨80, 1000, 40, 150, 760, 240, 3⟩
  speedsSet := false
  table := List.replicate 128 0
  pieces := List.replicate 4 false
  tableLoaded := false
  thread := ⟨6, 40, 200, 8, 2, 70, 500, 3⟩
  pacing := ⟨384, 1536, 240⟩
  pollAngle := 512
  pollPeriod := 20
  progressPeriod := 50

/-- A head that takes part in no work of the Thread Change Unit (Table 7-1); the last known case
position is kept by every clearing (R113, R122). -/
def HeadWork.cleared (lastKnown : Option Nat) : HeadWork :=
  ⟨false, .absent, 0, false, .absent, 0, 0, false, 0, none, lastKnown⟩

/-- The per-head items of Table 8-1 at power-on, the countdown loaded with the B given. -/
def HeadWatch.cleared (b : Nat) : HeadWatch := ⟨b, false, 0, 0, false, false, 0, false, none, false⟩

/-- An axis at power-on (Table 4-2). Log 2 for the direction output. -/
def Axis.atPowerOn (homeActive : Bool) : Axis := ⟨0, 0, 0, none, false, none, false, homeActive⟩

/-- An empty lockout set (R91). -/
def Lockout.empty : Lockout := ⟨false, false, false, false, false, false, false⟩

/-- The state after power-on with these strap and input levels (R175 and the power-on column of every
block's table), the emergency-stop input still to be looked at (R86). -/
def State.atPowerOn (rateStraps addressStraps : Nat) (hostReady homeX homeY : Bool) : State where
  run := {
    state := .unconfigured, pass := .main, mainCursor := 0, patchCursor := none, cause := none,
    mode := .burst, mark := none, segmentStart := 0, tieIn := 0, startReturn := none,
    travelReturn := none, passReturn := none, point := none, haltReturn := none, warning := false,
    heads := ⟨.idle, 0, none, none⟩ :: List.replicate 7 ⟨.off, 0, none, none⟩,
    activity := .none, startValue := 1, keepTieIn := false, stepping := false, stepDone := false,
    carry := false, patchDone := none, patchSewn := 0 }
  store := ⟨.absent, List.replicate 32 Slot.empty, 0, 0, 0, none⟩
  gov := ⟨none, none, 1000, false, []⟩
  frame := ⟨Axis.atPowerOn homeX, Axis.atPowerOn homeY, none,
    List.replicate 4 ⟨⟨false, 0, 14, 0, 14⟩, none⟩, none, none, none⟩
  shaft := {
    state := .unreferenced, referenced := false, angle := 0, speed := 0, hold := false, braked := false,
    stall := none, lockout := Lockout.empty, seenOpen := false, seenLate := false, seenClose := false,
    seenPoll := false, wraps := 0, openAngle := 760, closeAngle := 240, hostReference := false,
    estop := false }
  bus := ⟨[], [], none, none, some 20, List.replicate 8 ⟨false, 0, false, .fresh, none⟩⟩
  change := ⟨defaultMap, [], .none, 0, false, List.replicate 8 (HeadWork.cleared none)⟩
  monitor := ⟨List.replicate 8 (HeadWatch.cleared 6), 0, .stopAll⟩
  gaps := []
  link := {
    rateStraps := rateStraps, addressStraps := addressStraps, hostReady := hostReady, flagSeen := false,
    assembling := [], escaped := false, buffers := [], errors := 0, resetBy := none, replies := [],
    replyFirst := false, grant := none, events := [], overflow := false, progress := none,
    progressCount := 0, phases := defaultPhases, pointer := 1, transmit := [] }
  cfg := Settings.default
  free := 0
  pending := []

/-- The machine right after reset: power-on (R175) with both strap groups 0, host ready negated, both
home sensors inactive and the emergency stop negated. Log 2. -/
def State.reset : State := State.atPowerOn 0 0 false false false

end Sys2Proof.Machine
end

