-- ==== Sys2Proof/Machine/Ops.lean ====
section
/-!
DEFINITION. Operations that every block shares: the cursor, the event queue, the per-head lists, the
lockout set, free values, and the reply queue.
-/

namespace Sys2Proof.Machine

/-! ## The cursor -/

/-- The record index at which records are executed: the patch cursor in a patch pass, the main cursor
otherwise (R4). -/
def State.cursor (s : State) : Nat :=
  if s.run.pass = .patch then s.run.patchCursor.getD s.run.mainCursor else s.run.mainCursor

/-- The ahead count: the filled end minus the main cursor (R39). -/
def State.ahead (s : State) : Nat := s.store.filledEnd - s.run.mainCursor

/-! ## Events (R163, R167) -/

/-- The event queue of the Link Interface after an event is posted: queued in order while there is
room, otherwise dropped with the overflow flag set (R163). -/
def Link.post (l : Link) (e : Event) : Link :=
  if l.events.length < Config.eventPlaces then { l with events := l.events ++ [e] }
  else { l with overflow := true }

/-- Posts an event with a record index of its own. -/
def State.postAt (s : State) (kind : EventKind) (head index value : Nat) : State :=
  s.setLink (s.link.post ⟨kind, head, index, value⟩)

/-- Posts an event at the cursor (R83, 08 Table 8-3, R93). -/
def State.post (s : State) (kind : EventKind) (head value : Nat) : State :=
  s.postAt kind head s.cursor value

/-! ## Codes (R170: position in the table that lists it) -/

/-- Run state code, Table 1-1. -/
def RunState.code : RunState → Nat
  | .unconfigured => 0 | .idle => 1 | .arming => 2 | .travelling => 3 | .running => 4 | .changing => 5
  | .stopping => 6 | .paused => 7 | .waiting => 8 | .finished => 9 | .halted => 10
/-- Pass code. -/
def Pass.code : Pass → Nat
  | .main => 0 | .patch => 1
/-- Stop cause code: 1 upward in the order of Table 1-3. -/
def StopCause.code : StopCause → Nat
  | .host => 1 | .programmed => 2 | .mark => 3 | .starved => 4 | .pinned => 5 | .fault => 6
  | .frameLimit => 7 | .zone => 8 | .noHead => 9 | .gapsFull => 10 | .stall => 11 | .step => 12
  | .estop => 13
/-- Stop cause code, 0 for none. -/
def causeCode (c : Option StopCause) : Nat := (c.map StopCause.code).getD 0
/-- Run mode code. -/
def RunMode.code : RunMode → Nat
  | .single => 0 | .burst => 1 | .continuous => 2
/-- Head state code, Table 1-6. -/
def HeadState.code : HeadState → Nat
  | .off => 0 | .idle => 1 | .sewing => 2 | .resting => 3 | .dropped => 4 | .patch => 5 | .lost => 6
/-- Shaft state code, Table 5-2. -/
def ShaftState.code : ShaftState → Nat
  | .unreferenced => 0 | .referencing => 1 | .atRest => 2 | .running => 3 | .stopping => 4 | .holding => 5
/-- Design state code, R30. -/
def DesignState.code : DesignState → Nat
  | .absent => 0 | .loading => 1 | .complete => 2
/-- Gap state code, Table 9-1. -/
def GapState.code : GapState → Nat
  | .opened => 0 | .closed => 1 | .sewing => 2
/-- Case state code, Table 6-3. -/
def caseStateCode : CaseState → Nat
  | .atRest => 0 | .moving => 1 | .jammed => 2
/-- Trim state code, Table 6-3. -/
def trimStateCode : TrimState → Nat
  | .idle => 0 | .busy => 1 | .done => 2 | .failed => 3
/-- Fault kind code: 1 upward in the order of Table 8-2. -/
def FaultKind.code : FaultKind → Nat
  | .upperBreak => 1 | .bobbinOut => 2 | .caseJam => 3 | .trimFail => 4 | .lost => 5
/-- Fault kind code, 0 for none. -/
def faultCode (f : Option PendingFault) : Nat := (f.map (fun p => p.kind.code)).getD 0
/-- Queued engagement command code, Table 10-9. -/
def engageCode : Option Engage → Nat
  | none => 0 | some .lower => 1 | some .lift => 2
/-- Result code, Table 10-2. -/
def ResultCode.code : ResultCode → Nat
  | .ok => 0 | .clamped => 1 | .busy => 2 | .range => 3 | .notConfigured => 4 | .notReferenced => 5
  | .notGranted => 6 | .outOfOrder => 7 | .format => 8 | .faultPending => 9 | .noData => 10
  | .nothingToDo => 11 | .unknown => 12
/-- Event kind code, Table 10-5. -/
def EventKind.code : EventKind → Nat
  | .runStarted => 1 | .stopped => 2 | .waiting => 3 | .colourBegun => 4 | .colourDone => 5
  | .markReached => 6 | .designEnded => 7 | .headFault => 8 | .headRepaired => 9 | .gapOpened => 10
  | .gapClosed => 11 | .patchDone => 12 | .tensionWarn => 13 | .tensionClear => 14 | .bobbinLow => 15
  | .lateMove => 16 | .frameHomed => 17 | .homeFailed => 18 | .shaftReferenced => 19 | .halted => 20
  | .travelDone => 21 | .resetDone => 22

/-! ## Heads: numbered 1 to 8, kept at positions 0 to 7 -/

/-- The eight head numbers, in head order. -/
def headNumbers : List Nat := [1, 2, 3, 4, 5, 6, 7, 8]

/-- A head number a request may name (1..8). -/
def validHead (h : Nat) : Bool := 1 ≤ h && h ≤ 8

/-- The head table entry of head `h` (R23). -/
def State.headAt (s : State) (h : Nat) : HeadEntry := s.run.heads.getD (h - 1) default
/-- Changes the head table entry of head `h`. -/
def State.modHead (s : State) (h : Nat) (f : HeadEntry → HeadEntry) : State :=
  s.setRun { s.run with heads := s.run.heads.modify (h - 1) f }
/-- The Thread Monitor's items of head `h` (Table 8-1). -/
def State.watchAt (s : State) (h : Nat) : HeadWatch := s.monitor.heads.getD (h - 1) default
/-- Changes the Thread Monitor's items of head `h`. -/
def State.modWatch (s : State) (h : Nat) (f : HeadWatch → HeadWatch) : State :=
  s.setMonitor { s.monitor with heads := s.monitor.heads.modify (h - 1) f }
/-- The Thread Change Unit's items of head `h` (Table 7-1). -/
def State.workAt (s : State) (h : Nat) : HeadWork := s.change.heads.getD (h - 1) default
/-- Changes the Thread Change Unit's items of head `h`. -/
def State.modWork (s : State) (h : Nat) (f : HeadWork → HeadWork) : State :=
  s.setChange { s.change with heads := s.change.heads.modify (h - 1) f }
/-- The Head Bus Controller's items of head `h` (Table 6-1). -/
def State.linkAt (s : State) (h : Nat) : HeadLink := s.bus.heads.getD (h - 1) default
/-- Changes the Head Bus Controller's items of head `h`. -/
def State.modLink (s : State) (h : Nat) (f : HeadLink → HeadLink) : State :=
  s.setBus { s.bus with heads := s.bus.heads.modify (h - 1) f }

/-- SEWING and PATCH are the engaged states (Table 1-6). -/
def HeadState.engaged : HeadState → Bool
  | .sewing => true
  | .patch => true
  | .off => false
  | .idle => false
  | .resting => false
  | .dropped => false
  | .lost => false

/-- Is head `h` engaged? -/
def State.engagedHead (s : State) (h : Nat) : Bool := (s.headAt h).state.engaged

/-- Is any head engaged? -/
def State.anyEngaged (s : State) : Bool := headNumbers.any s.engagedHead

/-! ## Lockout, free values, small changes of the run -/

/-- Changes the lockout set (R91). -/
def State.modLockout (s : State) (f : Lockout → Lockout) : State :=
  s.setShaft { s.shaft with lockout := f s.shaft.lockout }

/-- The needle lockout output: asserted while the set holds a reason (R91). -/
def Lockout.asserted (l : Lockout) : Bool :=
  l.jump || l.late || l.rest || l.travel || l.homing || l.referencing || l.halt

/-- A free value below `n` (0 when `n` is 0): an unconstrained number within the limit the manual
sets. Log 4. -/
def freeBelow (counter n : Nat) : Nat := if n = 0 then 0 else Config.freeNat counter % n

/-- Takes one free value. -/
def State.tick (s : State) : State := s.setFree (s.free + 1)

/-- Records a stop cause: the first one is kept (R3). -/
def State.recordCause (s : State) (c : StopCause) : State :=
  if s.run.cause.isNone then s.setRun { s.run with cause := some c } else s

/-- Changes the run state. -/
def State.enter (s : State) (r : RunState) : State := s.setRun { s.run with state := r }

/-- Sets what the Run Controller is carrying out. -/
def State.doing (s : State) (a : Activity) : State := s.setRun { s.run with activity := a }

/-! ## Replies (R161, R162) -/

/-- The own address, or none with straps at 15 (R158). -/
def Link.ownAddress (l : Link) : Option Nat :=
  if l.addressStraps = 15 then none else some l.addressStraps

/-- Reserves a place at the tail of the reply queue (R161). -/
def Link.reserve (l : Link) (tag : Byte) : Link := { l with replies := l.replies ++ [⟨tag, none⟩] }

/-- Writes a reply into the place reserved last (R162): requests are decoded one at a time, so it is
the place of the request being answered. -/
def Link.answer (l : Link) (r : Reply) : Link :=
  { l with replies := l.replies.modify (l.replies.length - 1) (fun p => { p with reply := some r }) }

/-- A reply with no data. -/
def Reply.plain (c : ResultCode) : Reply := ⟨c, []⟩

/-- What the owner of a request gives back: the state after it took or refused the request, and its
reply. `none` only for a CONTROLLED RESET that first performs a stop: its reply comes when the reset
takes effect (R169). -/
abbrev Served := State × Option Reply

/-- A refusal: nothing changes (R161). -/
def refuse (s : State) (c : ResultCode) : Served := (s, some (Reply.plain c))

/-- A request taken and answered OK. -/
def taken (s : State) : Served := (s, some (Reply.plain .ok))

/-- Writes the owner's reply, if it has one, into the place reserved for it. -/
def State.deliver (r : Served) : State :=
  match r.2 with
  | some reply => r.1.setLink (r.1.link.answer reply)
  | none => r.1

/-- An addressed request reaching its owner (R161, R162). It waits, changing nothing, while no reply
place is free or the Controller has no own address. With a place reserved, it is answered BUSY while a
CONTROLLED RESET performs its stop, and is otherwise handed to its owner. Log 1. -/
def State.takeAddressed (s : State) (tag : Byte) (owner : State → Served) : State :=
  if s.link.ownAddress.isNone || Config.replyPlaces ≤ s.link.replies.length then s
  else
    let reserved := s.setLink (s.link.reserve tag)
    if s.link.resetBy.isSome then State.deliver (refuse reserved .busy)
    else State.deliver (owner reserved)

/-- A request from its sender, for the classes that a broadcast frame does not reach: a broadcast one
is dropped (R161). -/
def State.takeRequest (s : State) (src : Sender) (owner : State → Served) : State :=
  match src with
  | .addressed tag => s.takeAddressed tag owner
  | .broadcast => s

/-- A request from its sender, for STOP and RESET, which are acted on when broadcast too, with no reply
(R161). -/
def State.takeBoth (s : State) (src : Sender) (owner : State → Served) : State :=
  match src with
  | .addressed tag => s.takeAddressed tag owner
  | .broadcast => if s.link.resetBy.isSome then s else (owner s).1

end Sys2Proof.Machine
end

