-- ==== Sys2Proof/Machine/Operands.lean ====
section
/-!
DEFINITION. Every operand form of the host link: numbers and their bytes (R170), the check word,
escaping (R159), design records (Table 10-7), and the bodies of the requests (Tables 10-6 and 11-1).
-/

namespace Sys2Proof.Machine

/-! ## Numbers (R170: most significant byte first, two's complement) -/

/-- One byte. -/
def be1 (n : Nat) : List Byte := [BitVec.ofNat 8 n]
/-- Two bytes. -/
def be2 (n : Nat) : List Byte := [BitVec.ofNat 8 (n / 256), BitVec.ofNat 8 n]
/-- Three bytes: a record index. -/
def be3 (n : Nat) : List Byte := [BitVec.ofNat 8 (n / 65536), BitVec.ofNat 8 (n / 256), BitVec.ofNat 8 n]
/-- Four bytes. -/
def be4 (n : Nat) : List Byte :=
  [BitVec.ofNat 8 (n / 16777216), BitVec.ofNat 8 (n / 65536), BitVec.ofNat 8 (n / 256), BitVec.ofNat 8 n]
/-- A signed two-byte number. -/
def sbe2 (i : Int) : List Byte := be2 (i % 65536).toNat
/-- A signed four-byte number. -/
def sbe4 (i : Int) : List Byte := be4 (i % 4294967296).toNat
/-- A flag: 0 clear, 1 set. -/
def flagByte (b : Bool) : List Byte := be1 (if b then 1 else 0)

/-- Reads one byte of a body; a missing byte reads 0 (the callers have checked the length). -/
def byteAt (body : List Byte) (i : Nat) : Nat := (body.getD i 0).toNat
/-- Reads a two-byte number. -/
def twoAt (body : List Byte) (i : Nat) : Nat := byteAt body i * 256 + byteAt body (i + 1)
/-- Reads a four-byte number. -/
def fourAt (body : List Byte) (i : Nat) : Nat := twoAt body i * 65536 + twoAt body (i + 2)
/-- A number of `size` values read as two's complement. -/
def asSigned (size n : Nat) : Int := if 2 * n < size then (n : Int) else (n : Int) - (size : Int)
/-- Reads a signed byte. -/
def signed1At (body : List Byte) (i : Nat) : Int := asSigned 256 (byteAt body i)
/-- Reads a signed two-byte number. -/
def signed2At (body : List Byte) (i : Nat) : Int := asSigned 65536 (twoAt body i)
/-- Reads a signed four-byte number. -/
def signed4At (body : List Byte) (i : Nat) : Int := asSigned 4294967296 (fourAt body i)

/-! ## Check word (R170) and escaping (R159) -/

/-- One bit of the division by x^16 + x^12 + x^5 + 1. -/
def crcBit (c : BitVec 16) : BitVec 16 := if c.msb then (c <<< 1) ^^^ 0x1021#16 else c <<< 1

/-- One byte of the check word, most significant bit first. -/
def crcByte (c : BitVec 16) (b : Byte) : BitVec 16 :=
  crcBit (crcBit (crcBit (crcBit (crcBit (crcBit (crcBit (crcBit (c ^^^ (b.setWidth 16 <<< 8)))))))))

/-- The check word of some bytes, started at 0xFFFF and not inverted. -/
def crc (bytes : List Byte) : BitVec 16 := bytes.foldl crcByte 0xFFFF#16

/-- The check word's two bytes, high byte first. -/
def crcBytes (bytes : List Byte) : List Byte := be2 (crc bytes).toNat

/-- The FLAG byte. -/
def flagMark : Byte := 0x7E#8
/-- The escape byte. -/
def escapeMark : Byte := 0x7D#8

/-- A content byte as it is sent (R159). -/
def escapeByte (b : Byte) : List Byte :=
  if b = flagMark ∨ b = escapeMark then [escapeMark, b ^^^ 0x20#8] else [b]

/-- A whole content as it is sent (R159). -/
def escapeBytes (content : List Byte) : List Byte := content.flatMap escapeByte

/-- The content of an outbound frame (Table 10-3): own address, class, tag, body length, body, check
word. -/
def frameContent (address cls : Nat) (tag : Byte) (body : List Byte) : List Byte :=
  let head := be1 address ++ be1 cls ++ [tag] ++ be2 body.length ++ body
  head ++ crcBytes head

/-- A frame as it goes out on the line: FLAG, escaped content, FLAG (R159). -/
def frameBytes (address cls : Nat) (tag : Byte) (body : List Byte) : List Byte :=
  [flagMark] ++ escapeBytes (frameContent address cls tag body) ++ [flagMark]

/-! ## Design records (Table 10-7) -/

/-- A record's three bytes. `none` for an unknown kind, a dx or dy of -128, or a COLOUR slot above 63
(R34). A SPEED record's limit is turned into rpm. Bytes a kind does not use are not kept. -/
def recordOf (kind b2 b3 : Byte) : Option DesignRecord :=
  let dx := asSigned 256 b2.toNat
  let dy := asSigned 256 b3.toNat
  match kind.toNat with
  | 1 => if dx = -128 ∨ dy = -128 then none else some (.stitch dx dy)
  | 2 => if dx = -128 ∨ dy = -128 then none else some (.jump dx dy)
  | 3 => some .trim
  | 4 => if b2.toNat ≤ 63 then some (.colour b2.toNat) else none
  | 5 => some (.speed (b2.toNat * 10))
  | 6 => some .stop
  | 7 => some (.mark b2.toNat)
  | 8 => some .finish
  | _ => none

/-- The records of a block, three bytes each; `none` when one is not a record or bytes are left over
(R34). -/
def recordsOf : List Byte → Option (List DesignRecord)
  | [] => some []
  | a :: b :: c :: rest =>
    match recordOf a b c, recordsOf rest with
    | some r, some rs => some (r :: rs)
    | _, _ => none
  | _ => none

/-! ## Requests (Tables 10-6 and 11-1) -/

/-- A decoded request: the same fields as the command of its name. -/
inductive Request where
  | openDesign
  | designBlock (body : List Byte)
  | discardDesign
  | start
  | resume
  | stop
  | step
  | clearHalt
  | runToMark (label : Nat)
  | setMode (mode : Nat)
  | headOn (head : Nat)
  | headOff (head : Nat)
  | speedCeiling (rpm : Nat)
  | setOrigin
  | homeFrame
  | referenceShaft
  | moveFrame (dx dy : Int)
  | mapColour (slot : Nat) (needles : List Nat)
  | bobbinSet (head count : Nat)
  | setPolicy (policy : Nat)
  | repairDone (head : Nat)
  | sewGaps
  | abandonGap (head : Nat)
  | back (n : Nat)
  | forward (n : Nat)
  | status (selection : Nat)
  | readHead (head : Nat)
  | readGaps
  | reset (mode : Nat)
  | configureMachine (group : MachineGroup)
  | configureSpeedLimits (group : SpeedGroup)
  | configureMoveTable (piece : Nat) (entries : List Nat)
  | configureThread (group : ThreadGroup)
  | configurePacing (group : PacingGroup)
  | configureZone (zone active : Nat) (xBase : Int) (kx : Nat) (yBase : Int) (ky : Nat)
  | configureArbiter (phases : List Nat)
  | configurePoll (angle period : Nat)
  | configureProgress (period : Nat)
  | configurePolicy (policy : Nat)
  | configureMode (mode : Nat)
  | configureReadBack (group : Nat) (number : Option Nat)
  /-- a CONFIGURE body of a wrong length, FORMAT (R171) -/
  | configureShort
deriving DecidableEq, Repr

/-- What the decoder makes of a frame's class and body (R161). -/
inductive Decoded where
  | unknown
  | short
  | request (r : Request)
deriving DecidableEq, Repr

/-- The request when the body holds at least `need` bytes, otherwise a short body (R161). -/
def withBody (body : List Byte) (need : Nat) (r : Request) : Decoded :=
  if body.length < need then .short else .request r

/-- The bytes of the contents that follow the group code (Table 11-1); 0 for an unknown group. -/
def groupLength (group : Nat) : Nat :=
  match group with
  | 1 => 17 | 2 => 13 | 3 => 65 | 4 => 9 | 5 => 6 | 6 => 8 | 7 => 16 | 8 => 3 | 9 => 2 | 10 => 1
  | 11 => 1 | _ => 0

/-- The body length of a read-back: the group code, and for MOVE TABLE and ZONE the piece or zone number
(R171). -/
def readBackLength (group : Nat) : Nat := if group = 3 ∨ group = 6 then 2 else 1

/-- A setting request, its contents being present in full. `b` is the whole body. -/
def settingOf (b : List Byte) : Request :=
  match byteAt b 0 with
  | 1 => .configureMachine ⟨byteAt b 1, twoAt b 2, twoAt b 4, signed2At b 6, signed2At b 8,
      signed2At b 10, signed2At b 12, signed2At b 14, signed2At b 16⟩
  | 2 => .configureSpeedLimits ⟨twoAt b 1, twoAt b 3, twoAt b 5, twoAt b 7, twoAt b 9, twoAt b 11,
      byteAt b 13⟩
  | 3 => .configureMoveTable (byteAt b 1) ((List.range 32).map (fun i => twoAt b (2 + 2 * i)))
  | 4 => .configureThread ⟨byteAt b 1, byteAt b 2, byteAt b 3, byteAt b 4, byteAt b 5, byteAt b 6,
      twoAt b 7, byteAt b 9⟩
  | 5 => .configurePacing ⟨twoAt b 1, twoAt b 3, twoAt b 5⟩
  | 6 => .configureZone (byteAt b 1) (byteAt b 2) (signed2At b 3) (byteAt b 5) (signed2At b 6) (byteAt b 8)
  | 7 => .configureArbiter ((List.range 16).map (fun i => byteAt b (1 + i)))
  | 8 => .configurePoll (twoAt b 1) (byteAt b 3)
  | 9 => .configureProgress (twoAt b 1)
  | 10 => .configurePolicy (byteAt b 1)
  | 11 => .configureMode (byteAt b 1)
  | _ => .configureReadBack (byteAt b 0) none

/-- A CONFIGURE body (R171): a read-back, a body of a wrong length, or a setting request. A group code
outside 1..11 goes to the read-back, which answers it RANGE. -/
def configureOf (b : List Byte) : Request :=
  let group := byteAt b 0
  if group = 0 ∨ 11 < group then .configureReadBack group none
  else if b.length = readBackLength group then
    .configureReadBack group (if readBackLength group = 2 then some (byteAt b 1) else none)
  else if b.length < 1 + groupLength group then .configureShort
  else settingOf b

/-- Class and body to request (Table 10-6). Body bytes beyond what the class uses are ignored (R161). The outbound
classes 128 to 131 are unknown here, as classes that the table does not list are (log 80). -/
def decodeRequest (cls : Nat) (b : List Byte) : Decoded :=
  match cls with
  | 1 => .request .openDesign
  | 2 => .request (.designBlock b)
  | 3 => .request .discardDesign
  | 4 => .request .start
  | 5 => .request .resume
  | 6 => .request .stop
  | 7 => .request .step
  | 8 => .request .clearHalt
  | 9 => withBody b 1 (.runToMark (byteAt b 0))
  | 10 => withBody b 1 (.setMode (byteAt b 0))
  | 11 => withBody b 1 (.headOn (byteAt b 0))
  | 12 => withBody b 1 (.headOff (byteAt b 0))
  | 13 => withBody b 2 (.speedCeiling (twoAt b 0))
  | 14 => .request .setOrigin
  | 15 => .request .homeFrame
  | 16 => .request .referenceShaft
  | 17 => withBody b 8 (.moveFrame (signed4At b 0) (signed4At b 4))
  | 18 => withBody b 9 (.mapColour (byteAt b 0) ((List.range 8).map (fun i => byteAt b (1 + i))))
  | 19 => withBody b 3 (.bobbinSet (byteAt b 0) (twoAt b 1))
  | 20 => withBody b 1 (.setPolicy (byteAt b 0))
  | 21 => withBody b 1 (.repairDone (byteAt b 0))
  | 22 => .request .sewGaps
  | 23 => withBody b 1 (.abandonGap (byteAt b 0))
  | 24 => withBody b 2 (.back (twoAt b 0))
  | 25 => withBody b 2 (.forward (twoAt b 0))
  | 26 => withBody b 1 (.status (byteAt b 0))
  | 27 => withBody b 1 (.readHead (byteAt b 0))
  | 28 => .request .readGaps
  | 29 => withBody b 1 (.reset (byteAt b 0))
  | 30 => withBody b 1 (configureOf b)
  | _ => .unknown

end Sys2Proof.Machine
end

