-- ==== Sys2Proof/Machine/Store.lean ====
section
/-!
DEFINITION. The Design Store's own work (02): what it answers for a record index, the states of its
slots, release, pacing and grants, the acceptance of a block, and the movements of the two cursors,
each of which is reported to it.
-/

namespace Sys2Proof.Machine

/-! ## Reading (R28, R29) -/

/-- Does the slot hold the record with this index? A FREE slot holds none. -/
def Slot.holds (sl : Slot) (i : Nat) : Bool :=
  sl.state != .free && sl.firstIndex ≤ i && i < sl.firstIndex + sl.records.length

/-- The slot that holds a record index, if one does. -/
def Store.slotOf (st : Store) (i : Nat) : Option Slot := st.slots.find? (fun sl => sl.holds i)

/-- The record at an index, when it lies in a slot that is not FREE (R29). -/
def Store.recordAt (st : Store) (i : Nat) : Option DesignRecord :=
  match st.slotOf i with
  | some sl => sl.records[i - sl.firstIndex]?
  | none => none

/-- The stamps after one record: a motion record moves the position, COLOUR sets the colour in force
from the next record on, SPEED the limit (R29, R37); the record itself is then the one just before (R124). -/
def Stamp.after (before : Stamp) (r : DesignRecord) : Stamp :=
  let t := { before with afterTrim := r == .trim }
  match r with
  | .stitch dx dy => { t with pos := t.pos.add ⟨dx, dy⟩ }
  | .jump dx dy => { t with pos := t.pos.add ⟨dx, dy⟩ }
  | .colour c => { t with colour := c }
  | .speed l => { t with limit := l }
  | .trim => t
  | .stop => t
  | .mark _ => t
  | .finish => t

/-- The exit stamps of some records begun at these stamps (R37). -/
def Stamp.through (t : Stamp) (rs : List DesignRecord) : Stamp := rs.foldl Stamp.after t

/-- The stamps before the first block (R29, R37): position (0, 0), colour slot 0, machine max,
no record behind. -/
def State.firstStamp (s : State) : Stamp := ⟨⟨0, 0⟩, 0, s.cfg.speeds.maxSpeed, false⟩

/-- The stamps at the end of the accepted records (R29). -/
def State.tailStamp (s : State) : Stamp := s.store.tail.getD s.firstStamp

/-- Design position, colour slot and speed limit in force at a record index (R29). An index just past a
held block takes that block's exit stamps; the filled end takes the tail stamps. Log 9 for an index
that no slot reaches. -/
def State.stampAt (s : State) (i : Nat) : Stamp :=
  match s.store.slotOf i with
  | some sl => sl.entry.through (sl.records.take (i - sl.firstIndex))
  | none =>
    match s.store.slots.find? (fun sl => sl.state != .free && sl.firstIndex + sl.records.length == i) with
    | some sl => sl.exit
    | none => s.tailStamp

/-- The number of FREE slots. -/
def Store.freeCount (st : Store) : Nat := st.slots.countP (fun sl => sl.state == .free)

/-- One step back along the unbroken run of held records (R28). -/
def Store.backOne (st : Store) (e : Nat) : Nat :=
  if e = 0 then 0
  else match st.slotOf (e - 1) with
    | some sl => sl.firstIndex
    | none => e

/-- Repeats `backOne`; one repetition for each slot is enough. -/
def Store.backMany (st : Store) : Nat → Nat → Nat
  | 0, e => e
  | n + 1, e => st.backMany n (st.backOne e)

/-- The earliest retained record (R28). -/
def State.earliestRetained (s : State) : Nat := s.store.backMany Config.slotCount s.run.mainCursor

/-! ## Slot states, retention and release (R27, R44, R45) -/

/-- The state that R27 gives a slot which is not FREE. -/
def State.slotState (s : State) (sl : Slot) : SlotState :=
  if sl.holds s.run.mainCursor then .active
  else if s.run.pass = .patch && (s.run.patchCursor.any (fun c => sl.holds c)) then .active
  else if s.run.mainCursor ≤ sl.firstIndex then .filled
  else .retained

/-- Brings the state of every slot up to date with the cursors (R27). -/
def State.refreshSlots (s : State) : State :=
  s.setStore { s.store with
    slots := s.store.slots.map (fun sl => if sl.state = .free then sl else { sl with state := s.slotState sl }) }

/-- Do the index ranges [a, b) and [c, d) share a record? -/
def rangesMeet (a b c d : Nat) : Bool := max a c < min b d

/-- The range of a gap: up to its end, or up to the main cursor while it is OPEN (R146). -/
def Gap.stopAt (g : Gap) (mainCursor : Nat) : Nat := g.stop.getD mainCursor

/-- Is one of the slot's records held by the window of R records or by a gap (R44)? The patch cursor's
own block is ACTIVE, so the evaluation does not reach it. -/
def State.slotHeld (s : State) (sl : Slot) : Bool :=
  let a := sl.firstIndex
  let b := sl.firstIndex + sl.records.length
  let m := s.run.mainCursor
  rangesMeet a b (m - s.cfg.pacing.retain) m || s.gaps.any (fun g => rangesMeet a b g.start (g.stopAt m))

/-- Would a release evaluation free the slot (R45)? -/
def State.releasable (s : State) (sl : Slot) : Bool := sl.state == .retained && !s.slotHeld sl

/-- Frees every RETAINED slot none of whose records is held (R45). -/
def State.releaseSlots (s : State) : State :=
  s.setStore { s.store with slots := s.store.slots.map (fun sl => if s.releasable sl then Slot.empty else sl) }

/-! ## Pacing and grants (R40 to R43) -/

/-- The pacing target T (R40). -/
def State.pacingTarget (s : State) : Nat :=
  if s.ahead < s.cfg.pacing.low then 2 else if s.ahead < s.cfg.pacing.high then 1 else 0

/-- The pending grant record after a grant of `n` blocks from `seq` (R42). -/
def grantMerge (old : Option Grant) (seq n : Nat) : Grant :=
  match old with
  | some g => ⟨g.seq, g.count + n⟩
  | none => ⟨seq, n⟩

/-- Issues a grant of `n` blocks (R42). -/
def State.grantBlocks (s : State) (n : Nat) : State :=
  let seq := (s.store.nextSeq + s.store.granted) % 65536
  (s.setStore { s.store with granted := s.store.granted + n }).setLink
    { s.link with grant := some (grantMerge s.link.grant seq n) }

/-- A pacing evaluation (R41). -/
def State.pace (s : State) : State :=
  if s.store.design = .loading then
    let n := min (s.pacingTarget - s.store.granted) (s.store.freeCount - s.store.granted)
    if n = 0 then s else s.grantBlocks n
  else s

/-- A release evaluation, followed by a pacing evaluation when it frees a slot (R45). -/
def State.release (s : State) : State :=
  if s.store.slots.any s.releasable then s.releaseSlots.pace else s

/-! ## Cursor movements (R4, R46) -/

/-- The first record index of the block that holds `i`, which names the block. -/
def Store.blockOf (st : Store) (i : Nat) : Option Nat := (st.slotOf i).map Slot.firstIndex

/-- The block that a cursor at `i` stood in last: the one that holds `i`, or, at an index that no slot holds, the
one it has just left; at the filled end that is the last block, which a BACK into it then does not enter anew (log
85). -/
def Store.lastBlock (st : Store) (i : Nat) : Option Nat :=
  match st.blockOf i with
  | some b => some b
  | none => if i = 0 then none else st.blockOf (i - 1)

/-- Does going from `a` to `b` enter a record of a different block (R4)? -/
def Store.entersBlock (st : Store) (a b : Nat) : Bool :=
  (st.blockOf b).isSome && st.lastBlock a != st.blockOf b

/-- Moves the main cursor, brings the slots up to date and, when it enters a record of a different
block, makes one release evaluation and one pacing evaluation (R46). -/
def State.moveMain (s : State) (i : Nat) : State :=
  let entered := s.store.entersBlock s.run.mainCursor i
  let s := (s.setRun { s.run with mainCursor := i }).refreshSlots
  if entered then s.releaseSlots.pace else s

/-- Moves the patch cursor; a release evaluation follows when it leaves a block (R45, R46). Placed at SEW GAPS it comes
from the main cursor (log 68). -/
def State.movePatch (s : State) (i : Nat) : State :=
  let old := s.run.patchCursor.getD s.run.mainCursor
  let leaves := s.store.blockOf old != s.store.blockOf i
  let s := (s.setRun { s.run with patchCursor := some i }).refreshSlots
  if leaves then s.release else s

/-- Advances the cursor that executes records past the record it stands at (R4). -/
def State.advanceCursor (s : State) : State :=
  if s.run.pass = .patch then s.movePatch (s.cursor + 1) else s.moveMain (s.run.mainCursor + 1)

/-! ## Arrival of a block (R33 to R38) -/

/-- Clamps a SPEED record into crawl..machine max (R38). -/
def Settings.clampRecord (c : Settings) (r : DesignRecord) : DesignRecord :=
  match r with
  | .speed l => .speed (max c.speeds.crawl (min l c.speeds.maxSpeed))
  | .stitch dx dy => .stitch dx dy
  | .jump dx dy => .jump dx dy
  | .trim => .trim
  | .colour n => .colour n
  | .stop => .stop
  | .mark n => .mark n
  | .finish => .finish

/-- Is the position inside -32000..+32000 on both axes (R35)? -/
def posInDesign (p : Point) : Bool :=
  -Config.posLimit ≤ p.x && p.x ≤ Config.posLimit && -Config.posLimit ≤ p.y && p.y ≤ Config.posLimit

/-- Does the design position stay in range through the records (R35)? -/
def positionsInDesign : Stamp → List DesignRecord → Bool
  | _, [] => true
  | t, r :: rs => posInDesign (t.after r).pos && positionsInDesign (t.after r) rs

/-- The END record stands where R34 wants it: last with the LAST flag, nowhere without it, and no
record behind it. -/
def endRecordRight (last : Bool) (rs : List DesignRecord) : Bool :=
  if last then rs.getLast? == some .finish && !(rs.dropLast.contains .finish)
  else !(rs.contains .finish)

/-- The records of a body of R34's form: as many as the count says, 1..96, each a record. -/
def blockRecords (body : List Byte) : Option (List DesignRecord) :=
  let count := byteAt body 3
  if 1 ≤ count ∧ count ≤ 96 ∧ body.length = 4 + 3 * count then recordsOf (body.drop 4) else none

/-- The store after a grant's sequence number has been used by an accepted block: an unsent grant for it
is taken out of the pending record (R36). -/
def grantUsed (old : Option Grant) (seq : Nat) : Option Grant :=
  match old with
  | some g => if g.seq = seq then (if g.count ≤ 1 then none else some ⟨(g.seq + 1) % 65536, g.count - 1⟩) else some g
  | none => none

/-- Acceptance of a block of (clamped) records (R36 to R38), pacing still to come. -/
def State.acceptBlock (s : State) (seq : Nat) (last : Bool) (rs : List DesignRecord) : State :=
  let entry := s.tailStamp
  let exit := entry.through rs
  let start := s.store.filledEnd
  let fresh : Slot := ⟨.filled, seq, s.store.tail.isNone, last, start, rs, entry, exit⟩
  let slot := { fresh with state := s.slotState fresh }
  let at_ := s.store.slots.findIdx (fun sl => sl.state == .free)
  let s := s.setStore { s.store with
    slots := s.store.slots.set at_ slot
    granted := s.store.granted - 1
    nextSeq := (s.store.nextSeq + 1) % 65536
    filledEnd := start + rs.length
    tail := some exit }
  let s := s.setLink { s.link with grant := grantUsed s.link.grant seq }
  if last then
    (s.setStore { s.store with design := .complete, granted := 0 }).setLink { s.link with grant := none }
  else s

/-- The store emptied, with the design state given (Table 2-2). The pending grant record is emptied
too. -/
def State.clearStore (s : State) (d : DesignState) : State :=
  (s.setStore ⟨d, List.replicate Config.slotCount Slot.empty, 0, 0, 0, none⟩).setLink
    { s.link with grant := none }

/-- The answer to the question of R20: PINNED when no slot is FREE and G is 0 (R48). -/
def State.starvationCause (s : State) : StopCause :=
  if s.store.freeCount = 0 ∧ s.store.granted = 0 then .pinned else .starved

end Sys2Proof.Machine
end

