-- ==== Sys2Proof/Machine/Flags.lean ====
section
/-!
DEFINITION. The judgements that rules share: targets against field and zones (R71 to R73), stop points
(R8, R143, R151), which heads are able to sew (R12, R116), and what kind of state the machine is in.
-/

namespace Sys2Proof.Machine

/-! ## Field and zones (R71 to R73) -/

/-- Does a frame absolute position lie inside the field (R71)? -/
def inField (m : MachineGroup) (p : Point) : Bool :=
  m.xLow ≤ p.x && p.x ≤ m.xHigh && m.yLow ≤ p.y && p.y ≤ m.yHigh

/-- Does it lie inside this zone (R73)? The quotients are floors. -/
def inZone (z : ZoneFields) (p : Point) : Bool :=
  z.active && p.x / (2 ^ z.kx : Int) == z.xBase / (2 ^ z.kx : Int)
    && p.y / (2 ^ z.ky : Int) == z.yBase / (2 ^ z.ky : Int)

/-- The frame's position F on both axes. -/
def FrameDrive.pos (f : FrameDrive) : Point := ⟨f.x.pos, f.y.pos⟩

/-- The origin, or, when it is not set, the F that a START would make the origin (R74). -/
def State.originPos (s : State) : Point := s.frame.origin.getD s.frame.pos

/-- The frame absolute position of a record index: the origin plus its design position. -/
def State.framePosAt (s : State) (i : Nat) : Point := s.originPos.add (s.stampAt i).pos

/-- The displacement of a motion record, `none` for the other kinds. -/
def motionOf (r : DesignRecord) : Option (Int × Int) :=
  match r with
  | .stitch dx dy => some (dx, dy)
  | .jump dx dy => some (dx, dy)
  | .trim => none
  | .colour _ => none
  | .speed _ => none
  | .stop => none
  | .mark _ => none
  | .finish => none

/-- Is it a STITCH? -/
def isStitch (r : DesignRecord) : Bool :=
  match r with
  | .stitch _ _ => true
  | .jump _ _ => false
  | .trim => false
  | .colour _ => false
  | .speed _ => false
  | .stop => false
  | .mark _ => false
  | .finish => false

/-- Table index of a displacement (R51, R68): its longer axis. -/
def moveIndex (dx dy : Int) : Nat := max dx.natAbs dy.natAbs

/-! ## Selected gaps (R150, R151) -/

/-- Is the gap selected for the patch pass? -/
def Gap.selected (g : Gap) : Bool := g.state == .sewing

/-- Does the gap's range hold the index (R146)? -/
def Gap.covers (g : Gap) (mainCursor i : Nat) : Bool := g.start ≤ i && i < g.stopAt mainCursor

/-- Is there a selected gap that covers the index? -/
def State.patchCovers (s : State) (i : Nat) : Bool :=
  s.gaps.any (fun g => g.selected && g.covers s.run.mainCursor i)

/-- Is head `h` in the engaged set at the index (R151)? -/
def State.inPatchSet (s : State) (i h : Nat) : Bool :=
  s.gaps.any (fun g => g.selected && g.head == h && g.covers s.run.mainCursor i)

/-- Is a gap selected at all? -/
def State.patchLeft (s : State) : Bool := s.gaps.any Gap.selected

/-- A patch pass with no selected gap left, which is to end (R154). -/
def State.patchOver (s : State) : Bool := s.run.pass == .patch && !s.patchLeft

/-- A patch stop point (R151): an end stop, a join stop away from the place where the pass, the resume
or the work of this stop began, a jump point (no selected gap covers the index, unless a jump point has
been placed further on), or the jump point placed. Log 10. -/
def State.patchStop (s : State) (i : Nat) : Bool :=
  s.gaps.any (fun g => g.selected && g.stop == some i)
    || (s.gaps.any (fun g => g.selected && g.start == i) && s.run.patchDone != some i)
    || (!s.patchCovers i && s.run.point.isNone)
    || s.run.point == some i

/-! ## Stop points (R8) -/

/-- What makes a record index a stop point. -/
inductive StopKind where
  | patch
  | join
  | stop
  | colour (slot : Nat)
  | trim
  | finish
  | mark (label : Nat)
  | fieldLimit
  | zone
  | filledEnd
deriving DecidableEq, Repr

/-- The answer of R72 for a motion record that begins at index `i`: a field-limit stop point, for a
STITCH a guard-zone stop point, or clear. -/
def State.judgeMotion (s : State) (i : Nat) (dx dy : Int) (stitch : Bool) : Option StopKind :=
  let target := (s.framePosAt i).add ⟨dx, dy⟩
  if !(inField s.cfg.machine target) then some .fieldLimit
  else if stitch && s.frame.zones.any (fun z => inZone z.fields target) then some .zone
  else none

/-- The stop point that a record is by itself (R8). -/
def State.recordStop (s : State) (i : Nat) (r : DesignRecord) : Option StopKind :=
  match r with
  | .stitch dx dy => s.judgeMotion i dx dy true
  | .jump dx dy => s.judgeMotion i dx dy false
  | .trim => some .trim
  | .colour c => some (.colour c)
  | .speed _ => none
  | .stop => some .stop
  | .mark l => if s.run.mark = some l then some (.mark l) else none
  | .finish => some .finish

/-- The stop point at an index (R8, R143, R151). An index that lies in no held slot is the end of the
filled records. -/
def State.stopKindAt (s : State) (i : Nat) : Option StopKind :=
  if s.run.pass = .patch ∧ s.patchStop i = true then some .patch
  else if s.run.pass = .main ∧ s.run.point = some i then some .join
  else match s.store.recordAt i with
    | some r => s.recordStop i r
    | none => some .filledEnd

/-- An effect record: SPEED, or a MARK that is not the target (R7). -/
def State.isEffect (s : State) (r : DesignRecord) : Bool :=
  match r with
  | .speed _ => true
  | .mark l => s.run.mark != some l
  | .stitch _ _ => false
  | .jump _ _ => false
  | .trim => false
  | .colour _ => false
  | .stop => false
  | .finish => false

/-! ## Colour map and able heads (R12, R114, R116) -/

/-- The map entry for a slot and a head (R114). -/
def ThreadChange.mapAt (c : ThreadChange) (slot h : Nat) : Nat := (c.map.getD slot []).getD (h - 1) 0

/-- The pending entry for a slot and a head (R115). -/
def ThreadChange.waitingFor (c : ThreadChange) (slot h : Nat) : Option Nat :=
  (c.waiting.find? (fun p => p.slot == slot && p.head == h)).map PendingNeedle.needle

/-- A pending entry read in place of the map entry it will replace (R116). -/
def ThreadChange.needle (c : ThreadChange) (slot h : Nat) : Nat := (c.waitingFor slot h).getD (c.mapAt slot h)

/-- The colour slot in force at the cursor. -/
def State.colourNow (s : State) : Nat := (s.stampAt s.cursor).colour

/-- The cursor that a head sews for (R115): the patch cursor for a PATCH head, the main cursor for any other, such
as one still SEWING when a patch pass has begun, or one still PATCH when the pass has ended (log 70). -/
def State.headCursor (s : State) (h : Nat) : Nat :=
  if (s.headAt h).state = .patch then s.run.patchCursor.getD s.run.mainCursor else s.run.mainCursor

/-- The slot in force at the cursor that a head sews for (R115, R116). -/
def State.sewsFor (s : State) (h : Nat) : Nat := (s.stampAt (s.headCursor h)).colour

/-- Is head `h` able to sew with this slot in force (R12, read under R116)? In a patch pass a PATCH head
counts as R12's SEWING head does. Log 11. -/
def State.ableFor (s : State) (slot h : Nat) : Bool :=
  (match (s.headAt h).state with
    | .idle => true
    | .sewing => true
    | .resting => true
    | .patch => s.run.pass == .patch
    | .off => false
    | .dropped => false
    | .lost => false)
    && (s.watchAt h).fault.isNone && s.change.needle slot h != 0

/-- Is head `h` able to sew at the cursor (R12)? -/
def State.able (s : State) (h : Nat) : Bool := s.ableFor s.colourNow h

/-- Is any head able to sew (R12, condition 6)? -/
def State.anyAble (s : State) : Bool := headNumbers.any s.able

/-- Has a head that is not OFF a fault pending under the STOP-ALL policy (R12, condition 5): one whose
handling is HELD (08, section 8.5)? -/
def State.heldFault (s : State) : Bool :=
  headNumbers.any (fun h => (s.headAt h).state != .off &&
    ((s.watchAt h).fault.any (fun f => f.handling == .held)))

/-! ## The kind of state the machine is in -/

/-- Both frame axes are referenced. -/
def FrameDrive.referenced (f : FrameDrive) : Bool := f.x.referenced && f.y.referenced

/-- Is the shaft turning: REFERENCING, RUNNING or STOPPING (Table 5-2)? -/
def ShaftState.turning : ShaftState → Bool
  | .referencing => true
  | .running => true
  | .stopping => true
  | .unreferenced => false
  | .atRest => false
  | .holding => false

/-- Does the shaft turn for a run, RUNNING or STOPPING? Then it times the poll rounds by the poll angle (R107, R108). -/
def ShaftState.pollsByAngle (t : ShaftState) : Bool := t == .running || t == .stopping

/-- Is the activity part of a start sequence (R14)? -/
def Activity.starting : Activity → Bool
  | .hold => true
  | .dueTravel => true
  | .returnTravel => true
  | .dueReference => true
  | .referencing => true
  | .dueAlign => true
  | .aligning => true
  | .dueEngage => true
  | .engaging => true
  | .joining _ _ .stepEngage => true
  | .joining _ _ .running => false
  | .joining _ _ .fromWaiting => false
  | .joining _ _ .patch => false
  | .none => false
  | .changing => false
  | .endStops _ => false
  | .patchTravel => false
  | .hostTravel => false

/-- Is a run in progress (R139)? -/
def State.inRun (s : State) : Bool :=
  match s.run.state with
  | .running => true
  | .stopping => true
  | .changing => true
  | .waiting => true
  | .paused => true
  | .arming => true
  | .travelling => s.run.activity.starting || s.run.activity == .patchTravel || s.run.travelReturn == some .paused
  | .halted => s.run.haltReturn == some .paused
  | .unconfigured => false
  | .idle => false
  | .finished => false

/-- Is either axis off the path (R75)? -/
def State.offPath (s : State) : Bool :=
  s.frame.x.offPath.isSome || s.frame.y.offPath.isSome
    || (match s.frame.origin with
        | some o => s.frame.pos != o.add (s.stampAt s.cursor).pos
        | none => false)

/-- Is either axis HOMING or MOVING (Table 4-1)? -/
def FrameDrive.busy (f : FrameDrive) : Bool :=
  f.x.move.isSome || f.y.move.isSome || f.homing.isSome || f.stitch.isSome || f.travel.isSome

end Sys2Proof.Machine
end

