-- ==== Sys2Proof/Machine/Governor.lean ====
section
/-!
DEFINITION. The Speed Governor (03): record bounds, crawl points, the lookahead window and bound, the
effective ceiling, and the commanded speed.
-/

namespace Sys2Proof.Machine

/-- The configured arc (R85, Table 3-1). -/
def arcOf (g : SpeedGroup) : Nat := ((g.closeAngle : Int) - (g.openAngle : Int)) % 1024 |>.toNat

/-- The time bound of a move of index `k` (R51). -/
def Settings.timeBound (c : Settings) (k : Nat) (stitch : Bool) : Nat :=
  let t := c.table.getD k 0
  let arc := if stitch then arcOf c.speeds else 1024
  if t = 0 then c.speeds.maxSpeed else 60000000 * arc / (1024 * t)

/-- Is a STITCH of this index a held stitch (R52)? -/
def Settings.heldIndex (c : Settings) (k : Nat) : Bool := c.timeBound k true < c.speeds.crawl

/-- Is the record a held stitch (R52)? -/
def Settings.heldRecord (c : Settings) (r : DesignRecord) : Bool :=
  match r with
  | .stitch dx dy => c.heldIndex (moveIndex dx dy)
  | .jump _ _ => false
  | .trim => false
  | .colour _ => false
  | .speed _ => false
  | .stop => false
  | .mark _ => false
  | .finish => false

/-- The record bound S(j) of R52, for a record with this limit in force. -/
def Settings.recordBound (c : Settings) (r : DesignRecord) (limit : Nat) : Nat :=
  match motionOf r with
  | some (dx, dy) =>
    max c.speeds.crawl (min (c.timeBound (moveIndex dx dy) (isStitch r)) (min c.speeds.maxSpeed limit))
  | none => c.speeds.crawl

/-- What lies ahead of a motion record: a stop point, the next motion record, or nothing that can be
read. -/
inductive Outlook where
  | stop
  | motion (index : Nat) (held : Bool)
  | nothing
deriving DecidableEq, Repr

/-- Looks ahead from an index over effect records (R53). The number bounds the records looked at. -/
def State.lookAhead (s : State) : Nat → Nat → Outlook
  | 0, _ => .nothing
  | n + 1, i =>
    if (s.stopKindAt i).isSome then
      (if s.store.filledEnd ≤ i ∧ s.store.design ≠ .loading then .nothing else .stop)
    else match s.store.recordAt i with
      | none => .nothing
      | some r => if (motionOf r).isSome then .motion i (s.cfg.heldRecord r) else s.lookAhead n (i + 1)

/-- Looks ahead as far as the filled end. -/
def State.outlook (s : State) (i : Nat) : Outlook := s.lookAhead (s.store.filledEnd + 1 - i) i

/-- The bound of the motion record at an index (R52), before crawl points. -/
def State.boundAt (s : State) (i : Nat) : Nat :=
  match s.store.recordAt i with
  | some r => s.cfg.recordBound r (s.stampAt i).limit
  | none => s.cfg.speeds.crawl

/-- The lookahead window from the motion record at `i`, `n` records at most, each with its bound lowered
to crawl when a stop point or a held stitch follows it (R53, R54). -/
def State.windowFrom (s : State) : Nat → Nat → Nat → List WindowEntry
  | 0, _, _ => []
  | n + 1, i, dist =>
    match s.outlook (i + 1) with
    | .stop => [⟨i, s.cfg.speeds.crawl, dist, true⟩]
    | .motion j held =>
      ⟨i, if held then s.cfg.speeds.crawl else s.boundAt i, dist, false⟩ :: s.windowFrom n j (dist + 1)
    | .nothing => [⟨i, s.boundAt i, dist, false⟩]

/-- The lookahead window at `i` as the records, their settings and the stop points give it now (R53, R54). -/
def State.windowAt (s : State) (i : Nat) : List WindowEntry := s.windowFrom Config.windowSize i 0

/-- A record that was in the window already keeps its bound and its stop mark (R53). What it entered with can only be
lowered, by a stop point that has been placed behind it since (R54, R143, R151). -/
def WindowEntry.keeping (e : WindowEntry) (old : List WindowEntry) : WindowEntry :=
  match old.find? (fun k => k.index == e.index) with
  | some k => { e with bound := min k.bound e.bound, stopFollows := k.stopFollows || e.stopFollows }
  | none => e

/-- The lookahead window at `i` (R53, R64): rebuilt with the shaft at rest; while the shaft turns, the records that
stay in it keep what they entered with. -/
def State.windowKept (s : State) (i : Nat) : List WindowEntry :=
  if s.shaft.state.pollsByAngle then (s.windowAt i).map (fun e => e.keeping s.gov.window) else s.windowAt i

/-- The motion records from the current record onward (R49, R53): from the record whose move has begun, else
from the next motion record, unless a stop point stands before it. -/
def State.windowNow (s : State) : List WindowEntry :=
  if s.run.carry then s.windowKept s.cursor
  else match s.outlook s.cursor with
    | .motion i _ => s.windowKept i
    | .stop => []
    | .nothing => []

/-- The window follows the cursor, an accepted block and the restart of a held shaft (R53, R36, R64): records
leave it at the front and enter it at the back. Log 48. -/
def State.refreshWindow (s : State) : State := s.setGov { s.gov with window := s.windowNow }

/-- Is no motion record filled behind this index? -/
def State.lastMotion (s : State) (i : Nat) : Bool :=
  (List.range (s.store.filledEnd - (i + 1))).all (fun k =>
    ((s.store.recordAt (i + 1 + k)).bind motionOf).isNone)

/-- An accepted block will move the filled end: the record that was the last filled motion record loses what it has
kept, and is read afresh with the block (R53). -/
def State.openWindowEnd (s : State) : State :=
  s.setGov { s.gov with window := s.gov.window.filter (fun e => !s.lastMotion e.index) }

/-- The lookahead bound of a window: the least of S(j) + n(j) * D (R55). -/
def lookBound (decel maxSpeed : Nat) (w : List WindowEntry) : Nat :=
  w.foldl (fun g e => min g (e.bound + e.distance * decel)) maxSpeed

/-- The effective ceiling E (R56). -/
def State.effectiveCeiling (s : State) : Nat :=
  max s.cfg.speeds.crawl
    (if s.gov.derate then s.gov.ceiling * s.cfg.thread.derate / 100 else s.gov.ceiling)

/-- The commanded speed C(i) of R59 from G(i), E and the last commanded speed, with the STOPPING and
tie-in limits. -/
def State.speedFrom (s : State) (g e : Nat) : Nat :=
  match s.gov.last with
  | none => s.cfg.speeds.crawl
  | some p =>
    let c := min g (min (p + s.cfg.speeds.accel) (max e (p - s.cfg.speeds.decel)))
    let c := if s.run.state = .stopping then min c (max s.cfg.speeds.crawl (p - s.cfg.speeds.decel)) else c
    if 0 < s.run.tieIn then s.cfg.speeds.crawl else c

/-- One computation for the motion record at `i` (R55, R59): the window (R53), the bound and the commanded
speed, which becomes the last commanded speed. -/
def State.computeSpeed (s : State) (i : Nat) : State :=
  let w := s.windowKept i
  let g := lookBound s.cfg.speeds.decel s.cfg.speeds.maxSpeed w
  s.setGov { s.gov with window := w, bound := some g, last := some (s.speedFrom g s.effectiveCeiling) }

/-- The last commanded speed "at rest", the last lookahead bound none (R49). -/
def State.govAtRest (s : State) : State := s.setGov { s.gov with last := none, bound := none }

/-- Clamps a speed into crawl..machine max (R57, R58). -/
def clampSpeed (g : SpeedGroup) (v : Nat) : Nat := max g.crawl (min v g.maxSpeed)

/-- Places a join or jump point at the first motion record beyond the window of the next computation
(R143, R151), or at the filled end when the window reaches every filled motion record. An already
placed point serves. When a stop point comes before the next motion record the machine stops there: in the main pass
the point then stands at the filled end, so that a join is made at the filled end of a LOADING design too when a block
is accepted there before the stop; a patch pass gets none. Log 12. The next computation is looked at with the point as
far out as it can be, so that in a patch pass a place which no selected gap covers does not end it. -/
def State.placePoint (s : State) : State :=
  if s.run.point.isSome then s
  else
    let v := s.setRun { s.run with point := some s.store.filledEnd }
    let first := if s.run.carry then s.cursor + 1 else s.cursor
    match v.outlook first with
    | .motion i _ =>
      match (v.windowAt i).getLast? with
      | some e =>
        let beyond := (List.range (s.store.filledEnd - (e.index + 1))).find? (fun k =>
          match s.store.recordAt (e.index + 1 + k) with
          | some r => (motionOf r).isSome
          | none => false)
        s.setRun { s.run with point := some ((beyond.map (fun k => e.index + 1 + k)).getD s.store.filledEnd) }
      | none => s
    | .stop => if s.run.pass = .main then v else s
    | .nothing => s

end Sys2Proof.Machine
end

