-- ==== Sys2Proof/Machine/Heads.lean ====
section
/-!
DEFINITION. Changes of a head's state and what each brings with it: the colour map's pending entries
(R116), the armed flag (R131), the tension state and the derate flag (R135, R136, R56).
-/

namespace Sys2Proof.Machine

/-- The WARN count changes and the derate flag follows it (R56, R136). -/
def State.setWarnCount (s : State) (n : Nat) : State :=
  (s.setMonitor { s.monitor with warnCount := n }).setGov { s.gov with derate := n != 0 }

/-- The excursion counter becomes 0; a head in WARN becomes NORMAL, with TENSION CLEAR value 0 (R135,
R141). -/
def State.clearTension (s : State) (h : Nat) : State :=
  let wasWarn := (s.watchAt h).warn
  let s := s.modWatch h (fun w => { w with excursion := 0, warn := false })
  if wasWarn then (s.post .tensionClear h 0).setWarnCount (s.monitor.warnCount - 1) else s

/-- Writes one needle into the colour map (R115). -/
def ThreadChange.write (c : ThreadChange) (slot h needle : Nat) : ThreadChange :=
  { c with map := c.map.modify slot (fun row => row.set (h - 1) needle) }

/-- Writes every pending entry that satisfies the test into the map and clears it (R116). -/
def ThreadChange.apply (c : ThreadChange) (p : PendingNeedle → Bool) : ThreadChange :=
  let written := (c.waiting.filter p).foldl (fun c e => c.write e.slot e.head e.needle) c
  { written with waiting := c.waiting.filter (fun e => !p e) }

/-- Writes the pending entries of head `h` for every slot that it is no longer engaged for (R116): all of them when it
is not engaged, those for another slot than the one it sews for when it is. -/
def State.writePending (s : State) (h : Nat) : State :=
  s.setChange (s.change.apply (fun p => p.head == h && !(s.engagedHead h && p.slot == s.sewsFor h)))

/-- `writePending` for every head, after the cursor that PATCH heads sew for has gone elsewhere (R116). -/
def State.writePendings (s : State) : State := headNumbers.foldl State.writePending s

/-- Gives head `h` a new state. An engaged head's pending entries are written for each slot that it is then no longer
engaged for: all on leaving SEWING and PATCH, the other slots' when it goes from one of them to the other (R116, R150).
On leaving them its armed flag is cleared (R131); when it leaves them for DROPPED, LOST or OFF its tension counter and
state are cleared (R135). -/
def State.setHeadState (s : State) (h : Nat) (new : HeadState) : State :=
  let was := s.engagedHead h
  let s := s.modHead h (fun e => { e with state := new })
  if was then
    let s := s.writePending h
    if new.engaged then s
    else
      let s := s.modWatch h (fun w => { w with armed := false })
      if new == .dropped || new == .lost || new == .off then s.clearTension h else s
  else s

/-- Loads the machine tie-in count, which clears every armed flag (R11, R131). -/
def State.loadTieIn (s : State) : State :=
  (s.setRun { s.run with tieIn := s.cfg.speeds.tieIn }).setMonitor
    { s.monitor with heads := s.monitor.heads.map (fun w => { w with armed := false }) }

end Sys2Proof.Machine
end

