-- ==== Sys2Proof/Machine/HeadBus.lean ====
section
/-!
DEFINITION. The Head Bus Controller (06): issuing commands, the queue and the held-back list, the
choice of the next transaction, marks, retries, poll rounds.
-/

namespace Sys2Proof.Machine

/-- The engagement order of a command, if it is LOWER or LIFT. -/
def BusWork.order? (w : BusWork) : Option EngageOrder :=
  match w with
  | .engage o => some o
  | .caseMove _ _ => none
  | .trim => none
  | .clear => none
  | .poll => none

/-- Is it a LOWER or LIFT for head `h`? -/
def BusCommand.engages (c : BusCommand) (h : Nat) : Bool := c.head == h && c.work.order?.isSome

/-- The command a transaction carries, if it carries one. -/
def TransactionKind.work? (k : TransactionKind) : Option BusWork :=
  match k with
  | .command w => some w
  | .probe => none
  | .roundPoll => none

/-- The commands for which some test holds, queued, held back or in flight. -/
def Bus.outstanding (b : Bus) (p : BusCommand → Bool) : Bool :=
  b.queue.any p || b.held.any p
    || (match b.inFlight with
        | some t => (match t.kind.work? with
          | some w => p ⟨t.head, w⟩
          | none => false)
        | none => false)

/-- Is a LOWER or LIFT for head `h` queued, held back or in flight (R109)? -/
def Bus.engageOutstanding (b : Bus) (h : Nat) : Bool := b.outstanding (fun c => c.engages h)

/-- Is a LOWER or LIFT of step 4 of the start outstanding (R14, R25)? -/
def Bus.startOutstanding (b : Bus) : Bool :=
  b.outstanding (fun c => match c.work.order? with
    | some o => o.forStart
    | none => false)

/-- Puts a LOWER or LIFT in the place of the unsent one for the same head (R104, case 2). -/
def replaceEngage (c : BusCommand) (l : List BusCommand) : List BusCommand :=
  l.map (fun d => if d.engages c.head then c else d)

/-- Is the head taking part in the work of the Thread Change Unit? Its trim and case progress become
HANDED OVER (R122). -/
def State.handOver (s : State) (h : Nat) : State :=
  if (s.workAt h).part then
    s.modWork h (fun w => { w with trim := .handedOver, trimTimer := false, case := .handedOver, caseTimer := none })
  else s

/-- A command reported to its issuing block as not delivered (R104, R110): the Thread Change Unit hands
the head over (R122), whether the command was its own or a LOWER or LIFT posted for its work; a LOWER
or LIFT leaves the queued entry of the head table, and the head keeps the engagement it had (R106). -/
def State.notDelivered (s : State) (c : BusCommand) : State :=
  let s := s.handOver c.head
  if c.work.order?.isSome then s.modHead c.head (fun e => { e with queued := none }) else s

/-- A block issues a command (R104): reported as not delivered to a lost head, taking an older LOWER or
LIFT's place, queued, or held back. -/
def State.issue (s : State) (c : BusCommand) : State :=
  if (s.linkAt c.head).lost then s.notDelivered c
  else
    let s := match c.work.order? with
      | some o => s.modHead c.head (fun e => { e with queued := some o.cmd })
      | none => s
    if c.work.order?.isSome && (s.bus.queue ++ s.bus.held).any (fun d => d.engages c.head) then
      s.setBus { s.bus with queue := replaceEngage c s.bus.queue, held := replaceEngage c s.bus.held }
    else if s.bus.queue.length < Config.queuePlaces && s.bus.held.isEmpty then
      s.setBus { s.bus with queue := s.bus.queue ++ [c] }
    else s.setBus { s.bus with held := s.bus.held ++ [c] }

/-- Issues LIFT for a head; it has this state when the LIFT takes effect. -/
def State.issueLift (s : State) (h : Nat) (becomes : HeadState) (forStart : Bool) : State :=
  s.issue ⟨h, .engage ⟨.lift, becomes, false, forStart⟩⟩

/-- Issues LOWER for a head. -/
def State.issueLower (s : State) (h : Nat) (becomes : HeadState) (join forStart : Bool) : State :=
  s.issue ⟨h, .engage ⟨.lower, becomes, join, forStart⟩⟩

/-- Held-back commands take the free places of the queue, in their order (R104). -/
def Bus.refill (b : Bus) : Bus :=
  let n := Config.queuePlaces - b.queue.length
  { b with queue := b.queue ++ b.held.take n, held := b.held.drop n }

/-- The mark that a head's next transaction takes after this one (R100). -/
def Mark.after (m : Mark) : Mark :=
  match m with
  | .fresh => .two
  | .one => .two
  | .two => .one

/-- The mark of a retry (R100). -/
def Mark.retry (m : Mark) : Mark :=
  match m with
  | .fresh => .one
  | .one => .one
  | .two => .two

/-- Begins a transaction to head `h` with the head's next mark (R100). -/
def State.beginTransaction (s : State) (kind : TransactionKind) (h : Nat) : State :=
  let m := (s.linkAt h).nextMark
  let s := s.modLink h (fun l => { l with nextMark := m.after })
  s.setBus { s.bus with inFlight := some ⟨kind, h, 1, m, true⟩ }

/-- Is the head due for its POLL in a round (R107)? -/
def State.pollDue (s : State) (h : Nat) : Bool := (s.headAt h).state != .off && !(s.linkAt h).lost

/-- A round that starts with these heads to poll; with none it is over at once (R107). -/
def roundOf (l : List Nat) : Option Round := if l.isEmpty then none else some ⟨l, []⟩

/-- Is this head, at the front of the list, passed over (R107): not due now, or OFF or lost at some moment since the
round started? -/
def State.passedOver (s : State) (r : Round) (h : Nat) : Bool := !s.pollDue h || r.passed.contains h

/-- With the bus free, begins the oldest queued command, a probe, or the next due poll of the round, in
that order (R105). Heads at the front that are passed over leave the list as they come up, and the round ends when
none is left (R107); with its last poll begun it is still in progress (Table 6-4). -/
def State.pump (s : State) : State :=
  if s.bus.inFlight.isSome then s
  else match s.bus.queue with
    | c :: rest =>
      (s.setBus { s.bus with queue := rest }.refill).beginTransaction (.command c.work) c.head
    | [] =>
      match headNumbers.find? (fun h => (s.linkAt h).probe) with
      | some h => (s.modLink h (fun l => { l with timeouts := 0 })).beginTransaction .probe h
      | none =>
        match s.bus.round with
        | none => s
        | some r =>
          match r.todo.dropWhile (s.passedOver r) with
          | [] => s.setBus { s.bus with round := none }
          | h :: rest => (s.setBus { s.bus with round := some { r with todo := rest } }).beginTransaction .roundPoll h

/-- A round becomes due: it starts, or is skipped while one is in progress (R107). -/
def State.roundDue (s : State) : State :=
  match s.bus.round with
  | some _ => s
  | none => s.setBus { s.bus with round := roundOf (headNumbers.filter s.pollDue) }

/-- The round in progress will pass over a head that is lost or has become OFF, even if it comes back (R107, R110,
R111). Until it comes to the front the head keeps its place in the list (Table 6-4). -/
def Bus.passOver (b : Bus) (h : Nat) : Bus :=
  { b with round := b.round.map (fun r => { r with passed := r.passed.insert h }) }

/-- The transaction in flight has ended, and with it a round whose list is empty (R107, Table 6-4). -/
def State.endTransaction (s : State) : State :=
  s.setBus { s.bus with inFlight := none, round := s.bus.round.filter (fun r => !r.todo.isEmpty) }

/-- Clears a head's loss: lost flag, run count and probe request, next mark FRESH (R100, R110). The probe request goes
with the loss it belongs to (log 62). -/
def State.clearLoss (s : State) (h : Nat) : State :=
  s.modLink h (fun l => { l with lost := false, timeouts := 0, probe := false, nextMark := .fresh })

/-- Removes every entry of a lost head from the queue and the held-back list, reporting each as not
delivered (R110). -/
def State.purge (s : State) (h : Nat) : State :=
  let gone := (s.bus.queue ++ s.bus.held).filter (fun c => c.head == h)
  let s := s.setBus ({ s.bus with
    queue := s.bus.queue.filter (fun c => c.head != h)
    held := s.bus.held.filter (fun c => c.head != h) }).refill
  gone.foldl State.notDelivered s

end Sys2Proof.Machine
end

