-- ==== Sys2Proof/Machine/GapTable.lean ====
section
/-!
DEFINITION. The Gap Table (09, R146 to R149): opening, closing, truncating and removing gaps, each with
the release evaluation it is reported for.
-/

namespace Sys2Proof.Machine

/-- The OPEN gap of a head, if it has one (R146: never more than one). -/
def State.openGap (s : State) (h : Nat) : Option Gap :=
  s.gaps.find? (fun g => g.head == h && g.state == .opened)

/-- Puts a gap in its place: head order, then order of start (R146). -/
def insertGap (g : Gap) : List Gap → List Gap
  | [] => [g]
  | x :: xs =>
    if x.head < g.head ∨ (x.head = g.head ∧ x.start ≤ g.start) then x :: insertGap g xs else g :: x :: xs

/-- Can the table hold one more gap for the head (R147)? -/
def State.gapRoom (s : State) (h : Nat) : Bool :=
  s.gaps.countP (fun g => g.head == h) < Config.gapsPerHead && s.gaps.length < Config.gapPlaces

/-- The end of the head's latest CLOSED gap, 0 when it has none (R147). -/
def State.lastClosedEnd (s : State) (h : Nat) : Nat :=
  s.gaps.foldl (fun m g => if g.head == h && g.state == .closed then max m (g.stop.getD 0) else m) 0

/-- The start of a gap opened now (R147); during a colour change the record after the COLOUR record. -/
def State.gapStart (s : State) (h : Nat) : Nat :=
  if s.change.work = .colourChange then s.run.mainCursor + 1
  else max (max (s.run.mainCursor - s.cfg.thread.overlap) s.run.segmentStart)
    (max s.earliestRetained (s.lastClosedEnd h))

/-- Opens a gap and posts GAP OPENED (R147). -/
def State.openGapFor (s : State) (h : Nat) : State :=
  let start := s.gapStart h
  let stamp := s.stampAt start
  let gaps := insertGap ⟨h, start, none, stamp.pos, stamp.colour, .opened⟩ s.gaps
  (s.setGaps gaps).postAt .gapOpened h start gaps.length

/-- Closes the OPEN gap of a head at the main cursor, or removes it when it holds nothing, with GAP
CLOSED and a release evaluation (R148, R149). No effect for a head without one. -/
def State.closeGap (s : State) (h : Nat) : State :=
  match s.openGap h with
  | none => s
  | some g =>
    let e := s.run.mainCursor
    let isIt := fun (x : Gap) => x.head == h && x.state == .opened
    let gaps := if g.start < e
      then s.gaps.map (fun x => if isIt x then { x with stop := some e, state := .closed } else x)
      else s.gaps.filter (fun x => !isIt x)
    ((s.setGaps gaps).postAt .gapClosed h e (e - g.start)).release

/-- Closes every OPEN gap, in head order (R148, entry to FINISHED). -/
def State.closeAllGaps (s : State) : State := headNumbers.foldl State.closeGap s

/-- Removes the gaps that satisfy a test, with no event, and makes a release evaluation when one is
removed (R148, R149). -/
def State.removeGaps (s : State) (p : Gap → Bool) : State :=
  if s.gaps.any p then (s.setGaps (s.gaps.filter (fun g => !p g))).release else s

/-- A gap with its start raised to an index and its entry stamps taken afresh there (R149); unchanged
when its start is not below the index. -/
def State.truncated (s : State) (g : Gap) (i : Nat) : Gap :=
  if g.start < i then
    let stamp := s.stampAt i
    { g with start := i, entry := stamp.pos, colour := stamp.colour }
  else g

/-- The selected gaps of a head that satisfy a test leave the pass: each becomes CLOSED with its start
raised to the index (R153); one left with no range is removed. Log 13. -/
def State.deselect (s : State) (p : Gap → Bool) (i : Nat) : State :=
  let leaves := fun g => Gap.selected g && p g
  if s.gaps.any leaves then
    let gaps := s.gaps.map (fun g => if leaves g then { s.truncated g i with state := .closed } else g)
    (s.setGaps (gaps.filter (fun g => g.state != .closed || g.start < g.stop.getD 0))).release
  else s

/-- The smallest start of a selected gap at or above an index. -/
def State.nextPatchStart (s : State) (i : Nat) : Option Nat :=
  ((s.gaps.filter (fun g => g.selected && i ≤ g.start)).map Gap.start).min?

end Sys2Proof.Machine
end

