-- ==== Sys2Proof/Machine/Frame.lean ====
section
/-!
DEFINITION. The Frame Drive (04): step arithmetic (R67), stitch and JUMP moves (R68), the segments and
re-seats of travel moves (R76, R82), a move halted mid-way (R82), homing (R80, R81).
-/

namespace Sys2Proof.Machine

/-- The scale K of an axis (Table 4-2). -/
def State.scale (s : State) (a : AxisName) : Nat :=
  match a with
  | .x => s.cfg.machine.kX
  | .y => s.cfg.machine.kY

/-- One axis of the Frame Drive. -/
def FrameDrive.axis (f : FrameDrive) (a : AxisName) : Axis :=
  match a with
  | .x => f.x
  | .y => f.y

/-- Changes one axis. -/
def FrameDrive.modAxis (f : FrameDrive) (a : AxisName) (g : Axis → Axis) : FrameDrive :=
  match a with
  | .x => { f with x := g f.x }
  | .y => { f with y := g f.y }

/-- Changes one axis of the state's Frame Drive. -/
def State.modAxis (s : State) (a : AxisName) (g : Axis → Axis) : State := s.setFrame (s.frame.modAxis a g)

/-- The step count that R67 gives a position: floor(F * K / 256). -/
def stepsAt (k : Nat) (pos : Int) : Int := pos * k / 256

/-- The residue that R67 gives a position: (F * K) mod 256. -/
def residueAt (k : Nat) (pos : Int) : Nat := (pos * k % 256).toNat

/-- The steps of a move of `d` units, by the residue carry (R67). -/
def moveSteps (k residue : Nat) (d : Int) : Int := ((residue : Int) + d * k) / 256

/-- The new residue after a move of `d` units (R67). -/
def moveResidue (k residue : Nat) (d : Int) : Nat := (((residue : Int) + d * k) % 256).toNat

/-- Begins a move of `d` units on an axis (R67): none for 0 units; the direction output is set from the
sign of the steps, and stays as it was when there is no step to make (log 75). -/
def Axis.begin (a : Axis) (k : Nat) (kind : MoveKind) (d : Int) : Axis :=
  if d = 0 then a
  else
    let st := moveSteps k a.residue d
    { a with move := some ⟨kind, d, st, 0⟩, dirUp := if st = 0 then a.dirUp else decide (0 < st) }

/-- Completes the move in flight of this kind: F, step count and residue take their new values (R67). -/
def Axis.complete (a : Axis) (k : Nat) (kind : MoveKind) : Axis :=
  match a.move with
  | some m =>
    if m.kind = kind then
      { a with pos := a.pos + m.delta, steps := a.steps + m.steps, residue := moveResidue k a.residue m.delta, move := none }
    else a
  | none => a

/-- The signed number of steps when `n` of a move's steps have been issued. -/
def AxisMove.signed (m : AxisMove) (n : Nat) : Int := if 0 ≤ m.steps then (n : Int) else -(n : Int)

/-- The number of steps issued, when `n` is what is seen: not fewer than before and not more than the
move has. -/
def AxisMove.seen (m : AxisMove) (n : Nat) : Nat := max m.issued (min n m.steps.natAbs)

/-- Halts an axis mid-move with `n` steps seen as issued and `k` the halted move's index (R82): the
steps issued stay counted, F and residue stay, the off-path flag is set; an interrupted re-seat keeps
the index it had. A homing ends with the axis as it was (R81, log 14). -/
def Axis.halt (a : Axis) (n k : Nat) : Axis :=
  match a.move with
  | none => a
  | some m =>
    match m.kind with
    | .homing => { a with move := none }
    | .reseat => { a with steps := a.steps + m.signed (m.seen n), move := none }
    | .stitch => { a with steps := a.steps + m.signed (m.seen n), move := none, offPath := some k }
    | .segment => { a with steps := a.steps + m.signed (m.seen n), move := none, offPath := some k }

/-- The index of the stitch move or travel segment in flight. -/
def FrameDrive.moveIndexNow (f : FrameDrive) : Nat :=
  match f.stitch with
  | some m => m.index
  | none => ((f.travel.bind Travel.index).getD 0)

/-- Halts both axes at once with the steps seen as issued, ending stitch move, travel and homing (R82). -/
def FrameDrive.halt (f : FrameDrive) (nx ny : Nat) : FrameDrive :=
  let k := f.moveIndexNow
  { f with x := f.x.halt nx k, y := f.y.halt ny k, stitch := none, travel := none, homing := none }

/-! ## Stitch moves (R68) -/

/-- Begins the move of the motion record at index `i` (R68). -/
def State.beginMove (s : State) (i : Nat) (dx dy : Int) (jump : Bool) : State :=
  s.setFrame { s.frame with
    x := s.frame.x.begin s.cfg.machine.kX .stitch dx
    y := s.frame.y.begin s.cfg.machine.kY .stitch dy
    stitch := some ⟨moveIndex dx dy, jump, i, false⟩ }

/-- Completes the stitch move in flight (R68). -/
def State.completeMove (s : State) : State :=
  s.setFrame { s.frame with
    x := s.frame.x.complete s.cfg.machine.kX .stitch
    y := s.frame.y.complete s.cfg.machine.kY .stitch
    stitch := none }

/-! ## Travel moves (R76) -/

/-- Begins a travel move through these targets, with its lockout reason (R76). -/
def State.beginTravel (s : State) (legs : List Point) : State :=
  (s.setFrame { s.frame with travel := some ⟨legs, s.frame.pos, ⟨0, 0⟩, 0, 0, none, false⟩ }).modLockout
    (fun l => { l with travel := true })

/-- The number of segments of a displacement: ceil(M / 127) (R76). -/
def segmentCount (d : Point) : Nat := (moveIndex d.x d.y + 126) / 127

/-- The end of segment `n` of a leg (R76). -/
def Travel.segmentEnd (t : Travel) (n : Nat) : Point :=
  t.origin.add ⟨t.shift.x * n / t.count, t.shift.y * n / t.count⟩

/-- Begins the leg to a target: its start, displacement and number of segments (R76). -/
def State.beginLeg (s : State) (t : Travel) (target : Point) (rest : List Point) : State :=
  let d := target.sub s.frame.pos
  s.setFrame { s.frame with
    travel := some { t with legs := rest, origin := s.frame.pos, shift := d, count := segmentCount d, made := 0 } }

/-- Begins the next segment of the leg under way (R76, R67). -/
def State.beginSegment (s : State) (t : Travel) : State :=
  let d := (t.segmentEnd (t.made + 1)).sub s.frame.pos
  s.setFrame { s.frame with
    x := s.frame.x.begin s.cfg.machine.kX .segment d.x
    y := s.frame.y.begin s.cfg.machine.kY .segment d.y
    travel := some { t with index := some (moveIndex d.x d.y) } }

/-- Completes the segment in flight (R76). -/
def State.completeSegment (s : State) (t : Travel) : State :=
  s.setFrame { s.frame with
    x := s.frame.x.complete s.cfg.machine.kX .segment
    y := s.frame.y.complete s.cfg.machine.kY .segment
    travel := some { t with index := none, made := t.made + 1 } }

/-- Begins the re-seat of an interrupted axis: the steps back to floor(F * K / 256). One with no step to
make takes no time (R82). -/
def Axis.beginReseat (a : Axis) (k : Nat) : Axis :=
  if a.offPath.isNone then a
  else
    let st := stepsAt k a.pos - a.steps
    if st = 0 then { a with offPath := none }
    else { a with move := some ⟨.reseat, 0, st, 0⟩, dirUp := decide (0 < st) }

/-- Begins the re-seats that a travel move opens with (R76, R82): with both axes off path, both at once (log 76). -/
def State.beginReseats (s : State) : State :=
  s.setFrame { s.frame with
    x := s.frame.x.beginReseat s.cfg.machine.kX
    y := s.frame.y.beginReseat s.cfg.machine.kY }

/-- Completes an axis' re-seat: the off-path flag is cleared (R82). -/
def Axis.completeReseat (a : Axis) : Axis :=
  match a.move with
  | some m => if m.kind = .reseat then { a with steps := a.steps + m.steps, move := none, offPath := none } else a
  | none => a

/-- Is this axis being re-seated? -/
def Axis.reseating (a : Axis) : Bool :=
  match a.move with
  | some m => m.kind == .reseat
  | none => false

/-- Asks a travel move to end after its segment in flight (R78). -/
def State.askTravelStop (s : State) : State :=
  s.setFrame { s.frame with travel := s.frame.travel.map (fun t => { t with stopAsked := true }) }

/-! ## Homing (R80, R81) -/

/-- The name of the axis in FRAME HOMED and HOME FAILED: 1 X, 2 Y (Table 4-5). -/
def axisNumber (a : AxisName) : Nat :=
  match a with
  | .x => 1
  | .y => 2

/-- Starts homing an axis from where its sensor stands: away from an active sensor, else down to it
(R81). -/
def State.beginHoming (s : State) (a : AxisName) : State :=
  let active := (s.frame.axis a).homeActive
  let s := s.modAxis a (fun x => { x with move := some ⟨.homing, 0, 0, 0⟩, dirUp := active })
  s.setFrame { s.frame with homing := some ⟨a, if active then .away else .down⟩ }

/-- The homing ends, completed or not: its lockout reason goes (R81, Table 5-3). -/
def State.endHoming (s : State) : State :=
  let stop := fun (x : Axis) => match x.move with
    | some m => if m.kind = .homing then { x with move := none } else x
    | none => x
  (s.setFrame { s.frame with x := stop s.frame.x, y := stop s.frame.y, homing := none }).modLockout
    (fun l => { l with homing := false })

/-- The axis reaches its sensor on the way down (R81, step 3): referenced at the home coordinate, FRAME
HOMED, then the Y axis follows the X axis. -/
def State.axisHomed (s : State) (a : AxisName) : State :=
  let home := match a with
    | .x => s.cfg.machine.homeX
    | .y => s.cfg.machine.homeY
  let k := s.scale a
  let s := s.modAxis a (fun x => { x with
    pos := home, steps := stepsAt k home, residue := residueAt k home, move := none, referenced := true })
  let s := s.post .frameHomed 0 (axisNumber a)
  match a with
  | .x => s.beginHoming .y
  | .y => s.endHoming

end Sys2Proof.Machine
end

