-- ==== Sys2Proof/Machine/Shaft.lean ====
section
/-!
DEFINITION. The Shaft Unit (05): drive outputs (Table 5-2), starting, the stop order, the braking TDC,
holding, referencing, braking at once. The rest timer of the head bus follows the shaft state (R108).
-/

namespace Sys2Proof.Machine

/-- Enable output (Table 5-2). -/
def Shaft.enable (u : Shaft) : Bool :=
  match u.state with
  | .referencing => !u.braked
  | .running => true
  | .stopping => !u.braked
  | .unreferenced => false
  | .atRest => false
  | .holding => false

/-- Brake output (Table 5-2): applied whenever the drive is not enabled. -/
def Shaft.brake (u : Shaft) : Bool := !u.enable

/-- Enters a shaft state. The rest timer stops when RUNNING or STOPPING is entered and starts from a
full period when they are left (R108). -/
def State.shaftTo (s : State) (t : ShaftState) : State :=
  let was := s.shaft.state.pollsByAngle
  let s := s.setShaft { s.shaft with state := t }
  if t.pollsByAngle then s.setBus { s.bus with restTimer := none }
  else if was then s.setBus { s.bus with restTimer := some s.cfg.pollPeriod }
  else s

/-- The stall timer's length: floor(120,000 / crawl) ms (R94). -/
def stallLength (crawl : Nat) : Nat := 120000 / crawl

/-- The drive turns the shaft from rest at crawl (R87, R90, R93): brake off, stall timer started, and
the Open and Close angles in force taken from the configuration (R85). -/
def State.driveAtCrawl (s : State) (t : ShaftState) : State :=
  (s.setShaft { s.shaft with
    speed := s.cfg.speeds.crawl, braked := false, wraps := 0, stall := some (stallLength s.cfg.speeds.crawl),
    openAngle := s.cfg.speeds.openAngle, closeAngle := s.cfg.speeds.closeAngle }).shaftTo t

/-- The start order from rest (R87). The governor rebuilds its window first, while the shaft is still at rest, so that
a guard zone changed since the first move began counts (R64, log 48). The last commanded speed is crawl from here on
(R49, R59). -/
def State.startShaft (s : State) : State :=
  let s := s.refreshWindow
  ((s.modLockout (fun l => { l with rest := false })).driveAtCrawl .running).setGov
    { s.gov with last := some s.cfg.speeds.crawl }

/-- The restart from HOLDING (R90); the governor rebuilds its window, before the shaft turns again (R64). -/
def State.restartHold (s : State) : State :=
  let s := s.refreshWindow
  ((s.setShaft { s.shaft with hold := false }).modLockout (fun l => { l with rest := false })).driveAtCrawl .running

/-- The stop order at an Open angle, with the hold mark for a held stitch (R89, R90). A second order has
no further effect. -/
def State.orderStop (s : State) (hold : Bool) : State :=
  if s.shaft.state = .running then (s.setShaft { s.shaft with hold := hold }).shaftTo .stopping else s

/-- The brake at the braking TDC and at a referencing's index (R89, R93). -/
def State.brakeAtTop (s : State) : State :=
  (s.setShaft { s.shaft with speed := 0, braked := true, stall := none }).modLockout (fun l => { l with rest := true })

/-- Braked at once, wherever the shaft is: UNREFERENCED, stall timer stopped, hold mark clear (R93 STOP,
R94, R95, R98). -/
def State.brakeAtOnce (s : State) : State :=
  (s.setShaft { s.shaft with
    referenced := false, speed := 0, hold := false, braked := false, stall := none,
    hostReference := false }).shaftTo .unreferenced

/-- A referencing begins (R93). -/
def State.beginReferencing (s : State) (byHost : Bool) : State :=
  ((s.setShaft { s.shaft with referenced := false, hold := false, hostReference := byHost }).modLockout
    (fun l => { l with referencing := true })).driveAtCrawl .referencing

/-- A STOP ends a referencing (R93). -/
def State.stopReferencing (s : State) : State :=
  s.brakeAtOnce.modLockout (fun l => { l with referencing := false })

/-- A start sequence that is broken off ends the referencing it waits for, as a STOP does (R14, R17, R93). One that a
CONTROLLED RESET waits for is let run to the index (R93, R98, R169). -/
def State.cutReferencing (s : State) : State :=
  if s.shaft.state = .referencing ∧ s.link.resetBy = none then s.stopReferencing else s

/-- Pending guard zones come into force with the shaft at rest at TDC (R64). -/
def State.applyZones (s : State) : State :=
  s.setFrame { s.frame with zones := s.frame.zones.map (fun z =>
    match z.waiting with
    | some f => ⟨f, none⟩
    | none => z) }

/-- The late angle: Close - 16 (R85). -/
def lateAngle (close : Nat) : Nat := (close + 1008) % 1024

end Sys2Proof.Machine
end

