-- ==== Sys2Proof/Machine/RunControl.lean ====
section
/-!
DEFINITION. The Run Controller's common moves (01, 08, 09): engagement orders taking effect, lifting the
heads, the entries to PAUSED, FINISHED and WAITING, the end of a start sequence, stop orders from other
blocks, the end of a patch pass, and the begin of a start.
-/

namespace Sys2Proof.Machine

/-! ## Joins resolved at a stop (R142, R144) -/

/-- A head brought back with no stitch to sew now: it becomes IDLE, waits no more, and its OPEN gap is
closed at the main cursor (R142, R144, R153). -/
def State.bringBack (s : State) (h : Nat) : State :=
  ((s.modWatch h (fun w => { w with joining := false })).setHeadState h .idle).closeGap h

/-- The waiting joins resolved because the run is PAUSED or over (R144). -/
def State.resolveJoins (s : State) : State :=
  headNumbers.foldl (fun s h => if (s.watchAt h).joining then s.bringBack h else s) s

/-- Any head waiting to join? -/
def State.joinsWaiting (s : State) : Bool := headNumbers.any (fun h => (s.watchAt h).joining)

/-! ## Lifting (R25) -/

/-- Has the head a fault that takes it out of the run (08, section 8.5)? -/
def State.dropping (s : State) (h : Nat) : Bool := (s.watchAt h).fault.any (fun f => f.handling == .dropped)

/-- A SEWING, PATCH or RESTING head becomes IDLE: an engaged one when its LIFT takes effect, a RESTING one
at once. A head that a fault is taking out already has its LIFT. -/
def State.liftHead (s : State) (h : Nat) : State :=
  if s.engagedHead h then (if s.dropping h then s else s.issueLift h .idle false)
  else if (s.headAt h).state = .resting then s.setHeadState h .idle
  else s

/-- `liftHead` for every head, in head order. -/
def State.liftAll (s : State) : State := headNumbers.foldl State.liftHead s

/-- OPEN DESIGN and DISCARD DESIGN (R23): every SEWING, RESTING and PATCH head is IDLE at once, and an
engaged one is given LIFT. -/
def State.idleHead (s : State) (h : Nat) : State :=
  if s.engagedHead h then (s.setHeadState h .idle).issueLift h .idle false
  else if (s.headAt h).state = .resting then s.setHeadState h .idle
  else s

/-- `idleHead` for every head, in head order. -/
def State.idleAll (s : State) : State := headNumbers.foldl State.idleHead s

/-! ## What ends with a run -/

/-- The parts of a run that end with it: the sequence under way, the record being carried, the marks of
a STEP, the point placed, and the start-warning output (R15). -/
def Run.ended (r : Run) : Run :=
  { r with
    activity := .none, carry := false, stepping := false, stepDone := false, keepTieIn := false,
    point := none, startReturn := none, travelReturn := none, warning := false }

/-! ## The patch pass ends (R154) -/

/-- PATCH DONE is posted, the pass becomes MAIN and the patch cursor absent; the store brings its slots up
to date and releases; the run returns to the pass return state with no cause; the heads are lifted. A head that is
PATCH until its LIFT takes effect sews for the main cursor from here on (log 70), so its pending entry for the slot of
the pass is written now (R116). -/
def State.endPatch (s : State) : State :=
  let s := s.post .patchDone 0 s.run.patchSewn
  let back := s.run.passReturn.getD .paused
  let s := s.setRun { s.run.ended with
    state := back, pass := .main, patchCursor := none, cause := none, passReturn := none
    patchDone := none, patchSewn := 0 }
  let s := s.refreshSlots.release.writePendings
  s.resolveJoins.liftAll

/-- The patch pass ends if it has no selected gap left (R154). -/
def State.endPatchIfOver (s : State) : State := if s.patchOver then s.endPatch else s

/-- A patch pass with no selected gap left ends at once (R153, R154): in PAUSED, and in a start sequence that has begun
no work which must run on. The start's own referencing ends as by a STOP, unless a CONTROLLED RESET waits for it; a
return or patch travel ends after its segment, and the pass then. It is asked whenever a gap may have left the pass; a
run that becomes PAUSED asks for itself (`State.toPaused`). What the other states do is seen where their work ends
(`State.unlessOver`, `State.afterEndStops`). Log 65. -/
def State.endPatchIfEmpty (s : State) : State :=
  if s.patchOver then
    match s.run.state with
    | .paused => s.endPatch
    | .arming =>
      match s.run.activity with
      | .hold => s.endPatch
      | .dueTravel => s.endPatch
      | .referencing =>
        (if s.shaft.hostReference = false then s.cutReferencing else s).endPatch
      | _ => s
    | .travelling =>
      if s.run.activity = .returnTravel ∨ s.run.activity = .patchTravel then s.askTravelStop else s
    | .unconfigured => s
    | .idle => s
    | .running => s
    | .changing => s
    | .stopping => s
    | .waiting => s
    | .finished => s
    | .halted => s
  else s

/-! ## Entries to PAUSED, FINISHED and WAITING -/

/-- The run becomes PAUSED (R3): the waiting joins are resolved and STOPPED is posted with the recorded
cause. A patch pass that has lost its last selected gap by then ends here (R154, log 65). -/
def State.toPaused (s : State) : State :=
  let s := (s.setRun s.run.ended).enter .paused
  let s := s.resolveJoins
  (s.post .stopped 0 (causeCode s.run.cause)).endPatchIfOver

/-- The run becomes PAUSED with this cause, unless one is recorded (R3). -/
def State.pauseFor (s : State) (c : StopCause) : State := (s.recordCause c).toPaused

/-- The run becomes FINISHED (R9): every OPEN gap is closed at the END record, waiting heads become IDLE,
the others are lifted, DESIGN ENDED is posted with the number of gap records held. -/
def State.toFinished (s : State) : State :=
  let s := (s.setRun s.run.ended).enter .finished
  let s := s.closeAllGaps.resolveJoins.liftAll
  s.post .designEnded 0 s.gaps.length

/-- The run becomes WAITING with this cause recorded (R20). -/
def State.toWaiting (s : State) (c : StopCause) : State :=
  let s := (s.recordCause c).enter .waiting
  s.post .waiting 0 (causeCode s.run.cause)

/-- A start sequence ends (R14, R17): the run returns to the state it came from with its cause, the output
is negated, and STOPPED is posted. A run that returns to IDLE resolves the waiting joins (log 67) and lifts its heads,
whichever step the start ended in (log 66). -/
def State.endStart (s : State) : State :=
  match s.run.startReturn with
  | some .idle =>
    let s := (s.setRun s.run.ended).enter .idle
    let s := s.resolveJoins.liftAll
    s.post .stopped 0 (causeCode s.run.cause)
  | _ => s.toPaused

/-- The next step of a start sequence, unless it has been broken off: by a recorded stop cause (R14, R17), or because the
patch pass that it starts has lost its last selected gap (R154, log 65). -/
def State.unlessOver (s next : State) : State :=
  if s.run.cause.isSome then s.endStart else if s.patchOver then s.endPatch else next

/-! ## Stop orders (R16, R17) -/

/-- A stop order with a cause, or a STOP request (R16, R17). In the states where the work under way runs
on, the cause is only recorded, and what follows the work sees it. -/
def State.stopOrder (s : State) (c : StopCause) : State :=
  match s.run.state with
  | .running => (s.recordCause c).enter .stopping
  | .stopping => s
  | .changing => s.recordCause c
  | .waiting => (s.setRun { s.run with cause := some c }).toPaused
  | .arming =>
    match s.run.activity with
    | .hold => (s.recordCause c).endStart
    | .dueTravel => (s.recordCause c).cutReferencing.endStart
    | .referencing => (s.recordCause c).cutReferencing.endStart
    | _ => s.recordCause c
  | .travelling =>
    if s.run.activity = .returnTravel ∨ s.run.activity = .patchTravel then (s.recordCause c).askTravelStop else s
  | .unconfigured => s
  | .idle => s
  | .paused => s
  | .finished => s
  | .halted => s

/-! ## Engagement (R25, R106) -/

/-- A join takes effect (R142, R144, R152): the head waits no more, its own tie-in count is loaded and it is not
armed; in the main pass its OPEN gap is closed at the main cursor. -/
def State.joinEffect (s : State) (h : Nat) : State :=
  let s := s.modWatch h (fun w => { w with ownTieIn := s.cfg.speeds.tieIn, armed := false, joining := false })
  if s.run.pass = .main then s.closeGap h else s

/-- Does a LOWER bring this head into the state it is for? Not one that is OFF or LOST, nor a DROPPED one
with its fault still pending. -/
def State.lowers (s : State) (h : Nat) : Bool :=
  match (s.headAt h).state with
  | .off => false
  | .lost => false
  | .dropped => (s.watchAt h).fault.isNone
  | .idle => true
  | .sewing => true
  | .resting => true
  | .patch => true

/-- The head state side of an engagement order taking effect (R25). A LIFT moves an engaged head, and makes
DROPPED a head whose fault is taking it out. An order that was on its way when a fault handed the head over takes
effect all the same, though R122 has such a head keep its state (log 82). -/
def State.engagedBy (s : State) (h : Nat) (o : EngageOrder) : State :=
  match o.cmd with
  | .lower =>
    if s.lowers h then
      let s := s.setHeadState h o.becomes
      if o.join then s.joinEffect h else s
    else s
  | .lift =>
    if s.engagedHead h then s.setHeadState h (if s.dropping h then .dropped else o.becomes) else s

/-- An acknowledged engagement order takes effect at the head (R25): the queued entry of the head table is
cleared, unless a newer order is on its way, and the head state follows. -/
def State.takeOrder (s : State) (h : Nat) (o : EngageOrder) : State :=
  let newer := s.bus.engageOutstanding h
  let s := s.modHead h (fun e => { e with acked := none, queued := if newer then e.queued else none })
  s.engagedBy h o

/-- The orders acknowledged while the shaft turned take effect (R25, R106), in head order. -/
def State.applyAcked (s : State) : State :=
  headNumbers.foldl (fun s h =>
    match (s.headAt h).acked with
    | some o => s.takeOrder h o
    | none => s) s

/-! ## Direct joins at a rest (R143) -/

/-- The same work, its join made. -/
def BusWork.joined (w : BusWork) : BusWork :=
  match w with
  | .engage o => .engage { o with join := false }
  | .caseMove ahead places => .caseMove ahead places
  | .trim => .trim
  | .clear => .clear
  | .poll => .poll

/-- The same command, its join made when it is for head `h`. -/
def BusCommand.joined (c : BusCommand) (h : Nat) : BusCommand :=
  if c.head = h then { c with work := c.work.joined } else c

/-- The same transaction, its join made when it is for head `h`. -/
def Transaction.joined (t : Transaction) (h : Nat) : Transaction :=
  match t.kind with
  | .command w => if t.head = h then { t with kind := .command w.joined } else t
  | .probe => t
  | .roundPoll => t

/-- The join of head `h` is made: its LOWER goes on to the board and makes no second join. -/
def Bus.joined (b : Bus) (h : Nat) : Bus :=
  { b with
    queue := b.queue.map (fun c => c.joined h), held := b.held.map (fun c => c.joined h)
    inFlight := b.inFlight.map (fun t => t.joined h) }

/-- The join order for head `h` that has not been acknowledged, if one is outstanding. -/
def Bus.joinOrder (b : Bus) (h : Nat) : Option EngageOrder :=
  let flying := match b.inFlight with
    | some t => if t.reported && t.head == h then (t.kind.work?.bind BusWork.order?).toList else []
    | none => []
  (flying ++ ((b.queue ++ b.held).filter (fun c => c.head == h)).filterMap (fun c => c.work.order?)).find?
    (fun o => o.join)

/-- A direct join whose TDC crossing has not come takes effect when rest is declared (R143), whether its LOWER is
acknowledged or still on its way. Log 53. A LIFT that has been acknowledged and waits for the next crossing goes first:
in HOLDING no join is made then until the LOWER has been acknowledged (log 83). -/
def State.joinAtRest (s : State) (h : Nat) : State :=
  match (s.headAt h).acked with
  | some o => if o.join then s.takeOrder h o else s
  | none => match s.bus.joinOrder h with
    | some o => (s.setBus (s.bus.joined h)).engagedBy h o
    | none => s

/-- `joinAtRest` for every head, in head order. -/
def State.joinsAtRest (s : State) : State := headNumbers.foldl State.joinAtRest s

/-! ## Starts (R12 to R14) -/

/-- A start is taken: cause cleared, run state ARMING, the state it came from recorded, the start-warning
output asserted and the warning hold begun. From IDLE the origin is fixed if it is not set (R12, R74). In
a patch pass the place is marked as the one where the resume began (R151). -/
def State.beginStart (s : State) (value : Nat) (step keepTieIn : Bool) : State :=
  let s := if s.run.state = .idle then s.setFrame { s.frame with origin := some s.originPos } else s
  s.setRun { s.run with
    state := .arming, cause := none, startReturn := some s.run.state, warning := true, activity := .hold
    startValue := value, stepping := step, stepDone := false, keepTieIn := keepTieIn
    patchDone := if s.run.pass = .patch then s.run.patchCursor else none }

end Sys2Proof.Machine
end

