-- ==== Sys2Proof/Machine/Reset.lean ====
section
/-!
DEFINITION. RESET taking effect (10, R169): what each block does at a RESET of either mode. The modes are
0 CONTROLLED and 1 IMMEDIATE (Table 10-6).
-/

namespace Sys2Proof.Machine

/-- The run state after a RESET (R1). -/
def resetRunState (r : RunState) : RunState :=
  match r with
  | .unconfigured => .unconfigured
  | .halted => .halted
  | .idle => .idle
  | .arming => .idle
  | .travelling => .idle
  | .running => .idle
  | .changing => .idle
  | .stopping => .idle
  | .paused => .idle
  | .waiting => .idle
  | .finished => .idle

/-- The state that CLEAR HALT returns to after a RESET (R1, R96). -/
def resetHaltReturn (r : RunState) (h : Option RunState) : Option RunState :=
  if r = .halted then (if h = some .unconfigured then h else some .idle) else none

/-- The Run Controller at a RESET (R1, Table 1-2). The head table is treated by `HeadEntry.atReset`. -/
def Run.atReset (r : Run) : Run :=
  { r.ended with
    state := resetRunState r.state, haltReturn := resetHaltReturn r.state r.haltReturn
    pass := .main, mainCursor := 0, patchCursor := none, cause := none, mark := none, segmentStart := 0
    tieIn := 0, passReturn := none, patchDone := none, patchSewn := 0 }

/-- A head table entry at a RESET (R23): IDLE unless OFF, no engagement command queued, needle kept. -/
def HeadEntry.atReset (e : HeadEntry) : HeadEntry :=
  { e with state := if e.state = .off then .off else .idle, queued := none, acked := none }

/-- The Frame Drive at an IMMEDIATE RESET: every move halts at once (R82). How many steps of a move have
been issued by then the manual does not say; they are free values (log 6). -/
def State.frameHalted (s : State) : State :=
  let nx := Config.freeNat s.free
  let ny := Config.freeNat (s.free + 1)
  if s.frame.x.move.isSome || s.frame.y.move.isSome then
    (s.setFrame (s.frame.halt nx ny)).tick.tick
  else s.setFrame (s.frame.halt nx ny)

/-- The Shaft Unit at an IMMEDIATE RESET (R98): braked at once, UNREFERENCED. -/
def State.shaftImmediate (s : State) : State :=
  s.brakeAtOnce.modLockout (fun l =>
    { l with jump := false, late := false, travel := false, homing := false, referencing := false })

/-- The Shaft Unit at a CONTROLLED RESET (R98): the shaft state stays, the hold mark is clear. -/
def State.shaftControlled (s : State) : State :=
  (s.setShaft { s.shaft with hold := false }).modLockout (fun l =>
    { l with jump := false, late := false, travel := false, homing := false })

/-- What the Head Bus Controller keeps for one head at a RESET (R112). -/
def HeadLink.atReset (l : HeadLink) : HeadLink :=
  { l with probe := false, timeouts := 0, lost := false, nextMark := .fresh }

/-- The Head Bus Controller at a RESET (R112): an attempt in flight runs on, reported to no block. -/
def Bus.atReset (b : Bus) : Bus :=
  { b with
    queue := [], held := [], round := none, heads := b.heads.map HeadLink.atReset
    inFlight := b.inFlight.map (fun t => { t with reported := false }) }

/-- The Thread Change Unit at a RESET (R113). -/
def ThreadChange.atReset (c : ThreadChange) : ThreadChange :=
  { c with
    map := defaultMap, waiting := [], work := .none, casing := false
    heads := c.heads.map (fun w => HeadWork.cleared w.lastKnown) }

/-- The Thread Monitor at a RESET (R130), with the B in force. -/
def Monitor.atReset (m : Monitor) (b : Nat) : Monitor :=
  { m with heads := m.heads.map (fun _ => HeadWatch.cleared b), warnCount := 0 }

/-- The Link Interface at a RESET (R169): queues and slots emptied, then the reply to an addressed RESET,
sent ahead of the walk, and RESET DONE. -/
def Link.atReset (l : Link) (mode : Nat) (src : Sender) : Link :=
  { l with
    resetBy := none, grant := none, overflow := false, progress := none, progressCount := 0, pointer := 1
    replies := (match src with
      | .addressed tag => [⟨tag, some (Reply.plain .ok)⟩]
      | .broadcast => [])
    replyFirst := (match src with
      | .addressed _ => true
      | .broadcast => false)
    events := [⟨.resetDone, 0, 0, mode⟩] }

/-- The heads that are engaged, in head order. -/
def State.engagedHeads (s : State) : List Nat := headNumbers.filter s.engagedHead

/-- A RESET takes effect (R169, R1, R23, R26, R49, R66, R98, R112, R113, R130, R146): the frame keeps its
reference, a homing ends, the origin is forgotten, and LIFT is issued for every head that was engaged. -/
def State.resetEffect (s : State) (mode : Nat) (src : Sender) : State :=
  let engaged := s.engagedHeads
  let s := if mode = 1 then s.shaftImmediate.frameHalted else s.shaftControlled
  let s := s.endHoming
  let s := s.setFrame { s.frame with origin := none, travel := none }
  let s := s.setRun { s.run.atReset with heads := s.run.heads.map HeadEntry.atReset }
  let s := s.clearStore .absent
  let s := (s.setGov { s.gov with last := none, bound := none, derate := false, window := [] }).setGaps []
  let s := (s.setBus s.bus.atReset).setChange s.change.atReset
  let s := s.setMonitor (s.monitor.atReset s.cfg.thread.breakB)
  let s := s.setLink (s.link.atReset mode src)
  engaged.foldl (fun s h => s.issueLift h .idle false) s

/-- A CONTROLLED RESET in progress takes effect (R169). -/
def State.pendingReset (s : State) : State :=
  match s.link.resetBy with
  | some src => s.resetEffect 0 src
  | none => s

/-- Must a CONTROLLED RESET wait: for a stop, a referencing or a travel (R169)? With the shaft at rest a stitch move in
flight is no reason to wait: it runs on to its own end (R66, R68; log 54). -/
def State.resetWaits (s : State) : Bool :=
  s.shaft.state.turning || s.shaft.state == .holding || s.frame.travel.isSome

/-- A CONTROLLED RESET in progress takes effect once nothing is left that it waits for (R169): a shaft that has stopped
does not cut a travel short, whose segment ends first (R66, R78). -/
def State.resetIfDue (s : State) : State := if s.resetWaits then s else s.pendingReset

/-! ## Stall (R94) -/

/-- What the Run Controller does with a stall report (R94), by its run state. `host` says that the stalled
shaft was making a referencing asked for by REFERENCE SHAFT, for which a start may be waiting (R93, log 29). Log 22
for the states the rule does not name, among them an index fault of a shaft AT REST, turned by hand. -/
def State.stallReport (s : State) (host : Bool) : State :=
  match s.run.state with
  | .running => s.pauseFor .stall
  | .stopping => s.pauseFor .stall
  | .arming => if s.run.activity = .referencing ∨ (s.run.activity = .dueTravel ∧ host = true) then s.pauseFor .stall else s
  | .idle => if host then s.postAt .stopped 0 s.run.mainCursor StopCause.stall.code else s
  | .paused => if host then s.postAt .stopped 0 s.run.mainCursor StopCause.stall.code else s
  | .finished => if host then s.postAt .stopped 0 s.run.mainCursor StopCause.stall.code else s
  | .unconfigured => s
  | .travelling => s
  | .changing => s
  | .waiting => s
  | .halted => s

/-- A stall, an index fault or an overrun (R94): the shaft is braked at once, the reasons go, the governor
is at rest, acknowledged engagements take effect (log 23) and the Run Controller acts; a CONTROLLED RESET in progress
takes effect (R98, R169), unless the shaft stood at rest and it is a travel that the reset waits for (R78). -/
def State.stall (s : State) : State :=
  let host := s.shaft.hostReference
  let s := s.brakeAtOnce.modLockout (fun l =>
    { l with jump := false, late := false, rest := false, referencing := false })
  let s := s.govAtRest.applyAcked
  let s := s.setRun { s.run with carry := false }
  (s.stallReport host).resetIfDue

end Sys2Proof.Machine
end

