-- ==== Sys2Proof/Machine/Monitor.lean ====
section
/-!
DEFINITION. The Thread Monitor (08): head faults and the fault policy (R137 to R140, R153), repair and
rejoin (R141 to R143), and what a status record does to its counters (R131 to R136).
-/

namespace Sys2Proof.Machine

/-! ## Raising a fault (R137 to R140, R153) -/

/-- Writes the pending fault of a head. -/
def State.setFault (s : State) (h : Nat) (f : Option PendingFault) : State :=
  s.modWatch h (fun w => { w with fault := f })

/-- Handling of the pending fault of a head. -/
def State.setHandling (s : State) (h : Nat) (g : Handling) : State :=
  s.modWatch h (fun w => { w with fault := w.fault.map (fun f => { f with handling := g }) })

/-- Does head `j` remain to sew when head `h` faults (R139, check 1)? During a colour change the check is
made for the new slot. -/
def State.remains (s : State) (h j : Nat) : Bool :=
  j != h && (s.watchAt j).fault.isNone &&
    (if s.change.work = .colourChange then
      (s.workAt j).part && (s.workAt j).trim != .handedOver && (s.workAt j).case != .handedOver
        && (s.workAt j).target != 0
    else (s.headAt j).state == .sewing || s.able j)

/-- A fault is HELD (R138): the head keeps its state, a LOST fault makes it LOST (R140), and a stop order
goes to the Run Controller, which acts on it in the states that R138 names. -/
def State.hold (s : State) (h : Nat) (kind : FaultKind) (c : StopCause) : State :=
  let s := s.setHandling h .held
  let s := if kind = .lost then s.setHeadState h .lost else s
  s.stopOrder c

/-- A fault is DROPPED (R139, R153): a LOST head is LOST at once, an engaged head is given LIFT and is
DROPPED when it takes effect, any other head is DROPPED at once. -/
def State.drop (s : State) (h : Nat) (kind : FaultKind) : State :=
  let s := s.setHandling h .dropped
  if kind = .lost then s.setHeadState h .lost
  else if s.engagedHead h then s.issueLift h .dropped false
  else s.setHeadState h .dropped

/-- A new fault under DROP-OUT (R139; R153 in a patch pass; R144 for a head that waits to join, whose gap is
still OPEN). -/
def State.dropOut (s : State) (h : Nat) (kind : FaultKind) : State :=
  if s.run.pass = .patch then s.drop h kind
  else if !s.inRun then s.hold h kind .fault
  else if (s.openGap h).isSome then s.drop h kind
  else if !(headNumbers.any (fun j => s.remains h j)) then s.hold h kind .fault
  else if !(s.gapRoom h) then s.hold h kind .gapsFull
  else (s.openGapFor h).drop h kind

/-- A fault raised during a patch pass acts on the gaps (R153): the head's selected gap that covers the patch
cursor leaves the pass. When no selected gap covers it any more while the shaft turns, a jump point is
placed (R151). -/
def State.patchFault (s : State) (h : Nat) : State :=
  if s.run.pass = .patch then
    let f := s.cursor
    let m := s.run.mainCursor
    let s := s.deselect (fun g => g.head == h && g.covers m f) (f - s.cfg.thread.overlap)
    if s.shaft.state.turning && !(s.patchCovers f) then s.placePoint else s
  else s

/-- A fault of Table 8-2 is raised on a head (R137). LOST after a direct join's LOWER that was not delivered is such a
fault too (R143; log 90 for the repair that is undone). -/
def State.handleFault (s : State) (h : Nat) (kind : FaultKind) : State :=
  if (s.headAt h).state = .off then s
  else
    let pending := (s.watchAt h).fault.isSome
    let s := s.post .headFault h kind.code
    if pending then
      let s := s.patchFault h
      if kind = .lost then s.setHeadState h .lost else s
    else
      let s := s.modWatch h (fun w => { w with armed := false, joining := false, fault := some ⟨kind, .held⟩ })
      let s := (s.handOver h).patchFault h
      match s.monitor.policy with
      | .stopAll => s.hold h kind .fault
      | .dropOut => s.dropOut h kind

/-- A fault is raised (R137); a paused patch pass that it leaves without a selected gap ends at once (R153, R154). -/
def State.raiseFault (s : State) (h : Nat) (kind : FaultKind) : State := (s.handleFault h kind).endPatchIfEmpty

/-! ## Repair and rejoin (R141 to R143) -/

/-- A repaired head joins a run whose shaft is turning (R143): directly, by LOWER, when its case stands at its
target, otherwise by a join stop. -/
def State.joinTurning (s : State) (h : Nat) : State :=
  let target := s.change.needle (s.stampAt s.run.mainCursor).colour h
  if target ≠ 0 ∧ (s.workAt h).lastKnown = some target then s.issueLower h .sewing true false
  else (s.modWatch h (fun w => { w with joining := true })).placePoint

/-- The head waits to join (R142): it is DROPPED with its gap OPEN and no fault pending. -/
def State.waitToJoin (s : State) (h : Nat) : State := s.modWatch h (fun w => { w with joining := true })

/-- A head that dropped out is brought back (R142; R153 in a patch pass), by the run state. A LOST head is
DROPPED until it joins. In a patch pass it is IDLE and does not join for the gap that left the pass; another of its gaps
that is still selected stays so (log 79). Log 94 for TRAVELLING. -/
def State.rejoin (s : State) (h : Nat) : State :=
  if s.run.pass = .patch then s.bringBack h
  else
    let out := if (s.headAt h).state = .lost then s.setHeadState h .dropped else s
    match s.run.state with
    | .running => if s.shaft.state.turning then out.joinTurning h else out.waitToJoin h
    | .stopping => out.waitToJoin h
    | .changing => out.waitToJoin h
    | .waiting => out.waitToJoin h
    | .arming => out.waitToJoin h
    | .travelling => if s.inRun then out.waitToJoin h else s.bringBack h
    | .paused => s.bringBack h
    | .halted => s.bringBack h
    | .finished => s.bringBack h
    | .idle => s.bringBack h
    | .unconfigured => s.bringBack h

/-- The head state after the repair of this fault (R141's table). -/
def State.afterRepair (s : State) (h : Nat) (cleared : Option PendingFault) : State :=
  match cleared with
  | none => s
  | some f =>
    if f.handling = .dropped then s.rejoin h
    else match (s.headAt h).state with
      | .lost => if (s.openGap h).isSome then s.rejoin h else s.setHeadState h .idle
      | .dropped => s.rejoin h
      | .off => s
      | .idle => s
      | .sewing => s
      | .resting => s
      | .patch => s

/-- The repair of a head that is not OFF (R141); a paused patch pass left without a selected gap ends
(R153). -/
def State.repair (s : State) (h : Nat) : State :=
  let s := (s.modWatch h (fun w => { w with countdown := s.cfg.thread.breakB })).clearTension h
  let cleared := (s.watchAt h).fault
  let s := (s.setFault h none).post .headRepaired h (faultCode cleared)
  (s.afterRepair h cleared).endPatchIfEmpty

/-! ## Status records (R131 to R136) -/

/-- Own tie-in count and armed flag of an engaged head (R131). -/
def State.updateArmed (s : State) (h : Nat) (r : StatusRecord) : State :=
  s.modWatch h (fun w =>
    let own := w.ownTieIn - r.penetrations
    { w with ownTieIn := own, armed := s.run.tieIn == 0 && own == 0 && w.fault.isNone })

/-- The countdown after a record with penetrations (R132): at 0 with a fault pending it stays there, until REPAIR
DONE, HEAD ON, power-on or RESET loads it. -/
def HeadWatch.countdownAfter (w : HeadWatch) (load : Nat) (r : StatusRecord) : Nat :=
  if w.countdown = 0 ∧ w.fault.isSome = true then 0
  else if r.feed = 0 then w.countdown - r.penetrations else load

/-- The countdown of an engaged head (R132): UPPER BREAK when it stands at 0 with the head armed. -/
def State.updateCountdown (s : State) (h : Nat) (r : StatusRecord) : State :=
  if r.penetrations = 0 then s
  else
    let s := s.modWatch h (fun w => { w with countdown := w.countdownAfter s.cfg.thread.breakB r })
    if (s.watchAt h).countdown = 0 ∧ (s.watchAt h).armed = true then s.raiseFault h .upperBreak else s

/-- BOBBIN LOW by the count, once (R134, R133). -/
def State.judgeBobbin (s : State) (h : Nat) : State :=
  let w := s.watchAt h
  if w.bobbin ≤ s.cfg.thread.warnLevel ∧ w.countLow = false then
    (s.post .bobbinLow h 1).modWatch h (fun w => { w with countLow := true })
  else s

/-- Counting a head's bobbin (R134): BOBBIN OUT when the counter reaches 0. -/
def State.countBobbin (s : State) (h : Nat) (r : StatusRecord) : State :=
  if 0 < (s.watchAt h).bobbin ∧ 0 < r.penetrations then
    let s := s.modWatch h (fun w => { w with bobbin := w.bobbin - r.penetrations })
    let s := s.judgeBobbin h
    if (s.watchAt h).bobbin = 0 then s.raiseFault h .bobbinOut else s
  else s

/-- The bobbin sensor of a record (R134). -/
def State.senseBobbin (s : State) (h : Nat) (r : StatusRecord) : State :=
  if r.bobbinLow = true ∧ (s.watchAt h).sensorLow = false then
    (s.post .bobbinLow h 2).modWatch h (fun w => { w with sensorLow := true })
  else s

/-- The excursion counter after a reading (R135). -/
def excursionAfter (t : ThreadGroup) (reading counter : Nat) : Nat :=
  if reading < t.tensionLow ∨ t.tensionHigh < reading then min 31 (counter + 1) else counter - 1

/-- The tension reading of an engaged head (R135). -/
def State.judgeTension (s : State) (h : Nat) (r : StatusRecord) : State :=
  if r.penetrations = 0 then s
  else
    let n := excursionAfter s.cfg.thread r.tension (s.watchAt h).excursion
    let wasWarn := (s.watchAt h).warn
    let s := s.modWatch h (fun w => { w with excursion := n })
    if wasWarn = false ∧ s.cfg.thread.upper ≤ n then
      ((s.modWatch h (fun w => { w with warn := true })).post .tensionWarn h n).setWarnCount (s.monitor.warnCount + 1)
    else if wasWarn = true ∧ n ≤ s.cfg.thread.lower then
      ((s.modWatch h (fun w => { w with warn := false })).post .tensionClear h n).setWarnCount (s.monitor.warnCount - 1)
    else s

/-- The Thread Monitor reads a status record: threads and tension of a head that was engaged when it came
(R131, R132, R135), the bobbin of every head (R134). Log 5 for the order. -/
def State.watchRecord (s : State) (h : Nat) (r : StatusRecord) : State :=
  if s.engagedHead h then
    (((((s.updateArmed h r).updateCountdown h r).countBobbin h r).senseBobbin h r).judgeTension h r)
  else (s.countBobbin h r).senseBobbin h r

end Sys2Proof.Machine
end

