-- ==== Sys2Proof/Machine/Change.lean ====
section
/-!
DEFINITION. The Thread Change Unit (07): trims (R117, R118), case moves on the ring (R119 to R121), the
colour change (R123 to R127), the alignments (R128, R129), and what records, acknowledgements and timers
do to a head's progress.
-/

namespace Sys2Proof.Machine

/-! ## The ring (R119) -/

/-- Direction and distance of a case move from `p` to `q` (R119): forward when that way is not longer. -/
def ringMove (p q : Nat) : Bool × Nat :=
  let f := (q + 12 - p) % 12
  let b := (p + 12 - q) % 12
  if f ≤ b then (true, f) else (false, b)

/-- The case timer's length (R120). -/
def caseTime (distance : Nat) : Nat := 300 + 120 * distance

/-! ## Work -/

/-- No head takes part in any work; the last known positions stay. -/
def State.clearWork (s : State) : State :=
  s.setChange { s.change with
    work := .none, casing := false, heads := s.change.heads.map (fun w => HeadWork.cleared w.lastKnown) }

/-- The heads that take part in the work in progress. -/
def State.participants (s : State) : List Nat := headNumbers.filter (fun h => (s.workAt h).part)

/-! ## Trims (R117, R118) -/

/-- TRIM is issued for a head, attempt 1 (R117). -/
def State.beginTrim (s : State) (h : Nat) : State :=
  (s.modWork h (fun w => { w with part := true, trim := .waiting, trimAttempt := 1, trimTimer := false })).issue ⟨h, .trim⟩

/-- A trim of these heads. -/
def State.trimHeads (s : State) (heads : List Nat) : State := heads.foldl State.beginTrim s

/-- A failed trim attempt (R118). -/
def State.trimFailed (s : State) (h : Nat) : State :=
  if (s.workAt h).trimAttempt < 2 then
    let s := s.modWork h (fun w => { w with trimAttempt := 2, trimTimer := false })
    (s.issue ⟨h, .clear⟩).issue ⟨h, .trim⟩
  else
    (s.modWork h (fun w => { w with trim := .handedOver, trimTimer := false })).raiseFault h .trimFail

/-- A record accepted after the acknowledgement of the latest TRIM (R117). -/
def State.trimRecord (s : State) (h : Nat) (r : StatusRecord) : State :=
  if (s.workAt h).trim = .waiting ∧ (s.workAt h).trimTimer = true then
    match r.trimState with
    | .done => s.modWork h (fun w => { w with trim := .done, trimTimer := false })
    | .failed => s.trimFailed h
    | .busy => s
    | .idle => s
  else s

/-- Is the trim complete: no head still waiting (R117)? -/
def State.trimOver (s : State) : Bool := headNumbers.all (fun h => (s.workAt h).trim != .waiting)

/-! ## Case moves (R120, R121) -/

/-- A failed attempt of a case move (R121): CLEAR and a queued POLL, or after the third CASE JAM. -/
def State.caseFailed (s : State) (h : Nat) : State :=
  if (s.workAt h).caseAttempt < 3 then
    let s := s.modWork h (fun w => { w with case := .clearing, caseTimer := none })
    (s.issue ⟨h, .clear⟩).issue ⟨h, .poll⟩
  else
    (s.modWork h (fun w => { w with case := .handedOver, caseTimer := none })).raiseFault h .caseJam

/-- A case move from a position to the head's target (R120). -/
def State.caseMoveFrom (s : State) (h p : Nat) : State :=
  let m := ringMove p (s.workAt h).target
  let s := s.modWork h (fun w => { w with case := .moving, ahead := m.1, distance := m.2, caseTimer := none })
  s.issue ⟨h, .caseMove m.1 m.2⟩

/-- The state a head gets when a change lowers it: PATCH in a patch pass, else SEWING (R125, R127). -/
def State.sewingState (s : State) : HeadState := if s.run.pass = .patch then .patch else .sewing

/-- A head that arrives in the alignment of all heads is left lifted and IDLE, one that was RESTING too (R128). -/
def State.leftIdle (s : State) (h : Nat) : State :=
  if s.change.work = .alignAll ∧ (s.headAt h).state = .resting then s.setHeadState h .idle else s

/-- A case has arrived (R120): in a colour change LOWER follows (R125), in an alignment the head is left
lifted (R128, R129). -/
def State.arrived (s : State) (h : Nat) : State :=
  if s.change.work = .colourChange then
    (s.modWork h (fun w => { w with case := .lowering, caseTimer := none })).issueLower h s.sewingState false false
  else (s.modWork h (fun w => { w with case := .arrived, caseTimer := none })).leftIdle h

/-- A case move from the last known position (R120): none when it is the target (R119); with no position
known, the attempt has failed. -/
def State.caseMove (s : State) (h : Nat) : State :=
  match (s.workAt h).lastKnown with
  | some p => if p = (s.workAt h).target then s.arrived h else s.caseMoveFrom h p
  | none => s.caseFailed h

/-- A record accepted after the acknowledgement of the CASE MOVE (R120). -/
def State.caseRecord (s : State) (h : Nat) (r : StatusRecord) : State :=
  if (s.workAt h).case = .moving ∧ (s.workAt h).caseTimer.isSome = true then
    match r.caseState with
    | .atRest => if r.casePos = (s.workAt h).target then s.arrived h else s.caseFailed h
    | .moving => s
    | .jammed => s.caseFailed h
  else s

/-- The record of the queued POLL that follows a CLEAR (R121). -/
def State.clearedRecord (s : State) (h : Nat) (r : StatusRecord) : State :=
  let position := if r.casePos = 0 then (s.workAt h).lastKnown else some r.casePos
  if r.caseState = .atRest then
    match position with
    | some p =>
      if p = (s.workAt h).target then s.arrived h
      else (s.modWork h (fun w => { w with caseAttempt := w.caseAttempt + 1 })).caseMoveFrom h p
    | none => (s.modWork h (fun w => { w with caseAttempt := w.caseAttempt + 1 })).caseFailed h
  else (s.modWork h (fun w => { w with caseAttempt := w.caseAttempt + 1 })).caseFailed h

/-- Is another command of this kind for the head still to be sent? Then the one answered now is not the
latest (R117, R120, R121). Log 34. -/
def State.laterQueued (s : State) (h : Nat) (p : BusWork → Bool) : Bool :=
  (s.bus.queue ++ s.bus.held).any (fun c => c.head == h && p c.work)

/-- Is it a TRIM? -/
def BusWork.isTrim (w : BusWork) : Bool :=
  match w with
  | .trim => true
  | .caseMove _ _ => false
  | .engage _ => false
  | .clear => false
  | .poll => false

/-- Is it a CASE MOVE? -/
def BusWork.isCaseMove (w : BusWork) : Bool :=
  match w with
  | .caseMove _ _ => true
  | .trim => false
  | .engage _ => false
  | .clear => false
  | .poll => false

/-- Is it a queued POLL? -/
def BusWork.isPoll (w : BusWork) : Bool :=
  match w with
  | .poll => true
  | .caseMove _ _ => false
  | .trim => false
  | .engage _ => false
  | .clear => false

/-- The Thread Change Unit reads a status record (R117, R120, R121). `queued` says that a queued POLL
brought it. -/
def State.changeRecord (s : State) (h : Nat) (r : StatusRecord) (queued : Bool) : State :=
  let s := s.modWork h (fun w => { w with lastKnown := if r.casePos = 0 then w.lastKnown else some r.casePos })
  let s := s.trimRecord h r
  if (s.workAt h).case = .clearing then
    (if queued && !s.laterQueued h BusWork.isPoll then s.clearedRecord h r else s)
  else s.caseRecord h r

/-! ## Acknowledgements (R106, R117, R120) -/

/-- What an engagement change that takes effect means for the work in progress (R125): a lowered head has
arrived; a lifted head rests, or its case is turned. Its CASE MOVE is issued here, behind the LIFTs already queued
(log 64). -/
def State.workAfterOrder (s : State) (h : Nat) (o : EngageOrder) : State :=
  match o.cmd with
  | .lower =>
    if (s.workAt h).case = .lowering then s.modWork h (fun w => { w with case := .arrived }) else s
  | .lift =>
    if (s.workAt h).case = .lifting then
      (if (s.workAt h).target = 0 then s.modWork h (fun w => { w with case := .resting }) else s.caseMove h)
    else s

/-- An engagement change takes effect at the acknowledgement, with the shaft not turning for a stitch
(R106). -/
def State.takeEffect (s : State) (h : Nat) (o : EngageOrder) : State := (s.takeOrder h o).workAfterOrder h o

/-- A command has been acknowledged (R106): TRIM and CASE MOVE start their timers, LOWER and LIFT take effect
now or, with the shaft state RUNNING or STOPPING, at the next TDC crossing. Of two orders acknowledged for one head before
one crossing, the later one takes effect there (log 77). -/
def State.acknowledged (s : State) (h : Nat) (w : BusWork) : State :=
  match w with
  | .trim =>
    if (s.workAt h).trim = .waiting ∧ s.laterQueued h BusWork.isTrim = false then
      s.modWork h (fun w => { w with trimTimer := true })
    else s
  | .caseMove _ _ =>
    if (s.workAt h).case = .moving ∧ s.laterQueued h BusWork.isCaseMove = false then
      s.modWork h (fun w => { w with caseTimer := some (caseTime w.distance) })
    else s
  | .engage o =>
    if s.shaft.state.pollsByAngle then s.modHead h (fun e => { e with acked := some o }) else s.takeEffect h o
  | .clear => s
  | .poll => s

/-! ## Colour change (R123 to R127) -/

/-- Does the head take part in a colour change (R123, R127)? -/
def State.changes (s : State) (h : Nat) : Bool :=
  (s.watchAt h).fault.isNone &&
    (match (s.headAt h).state with
      | .off => false
      | .lost => false
      | .dropped => false
      | .idle => s.run.pass == .main
      | .sewing => s.run.pass == .main
      | .resting => s.run.pass == .main || s.inPatchSet s.cursor h
      | .patch => s.run.pass == .main || s.inPatchSet s.cursor h)

/-- The participants of a piece of work are fixed with their targets for a slot. -/
def State.fixParticipants (s : State) (heads : List Nat) (slot : Nat) : State :=
  heads.foldl (fun s h => s.modWork h (fun w =>
    { w with part := true, target := s.change.needle slot h, caseAttempt := 1 })) s

/-- The head is lifted for its move, or turned at once when it is not engaged (R125, third row). -/
def State.liftThenMove (s : State) (h : Nat) : State :=
  if s.engagedHead h then
    (s.modWork h (fun w => { w with case := .lifting })).issueLift h .idle false
  else s.caseMove h

/-- One participant at the beginning of the case step of a colour change (R125). -/
def State.caseStepHead (s : State) (h : Nat) : State :=
  let w := s.workAt h
  if w.trim = .handedOver ∨ w.case = .handedOver then s.modWork h (fun w => { w with case := .handedOver })
  else if w.target = 0 then
    if s.engagedHead h then
      (s.modWork h (fun w => { w with case := .lifting })).issueLift h .resting false
    else (s.setHeadState h .resting).modWork h (fun w => { w with case := .resting })
  else if w.lastKnown = some w.target then
    if s.engagedHead h then s.modWork h (fun w => { w with case := .arrived })
    else (s.modWork h (fun w => { w with case := .lowering })).issueLower h s.sewingState false false
  else s.liftThenMove h

/-- The case step begins (R124, R125). -/
def State.beginCaseStep (s : State) : State :=
  let s := s.setChange { s.change with casing := true }
  s.participants.foldl State.caseStepHead s

/-- Is every participant's case progress ARRIVED, RESTING or HANDED OVER (R126, R128, R129)? -/
def State.casesOver (s : State) : Bool :=
  s.participants.all (fun h => match (s.workAt h).case with
    | .arrived => true
    | .resting => true
    | .handedOver => true
    | .absent => false
    | .lifting => false
    | .moving => false
    | .clearing => false
    | .lowering => false)

/-- Is the record of the design immediately before the COLOUR record at the cursor a TRIM record (R124)? The
stamps say it of a record whose block is no longer held, too. -/
def State.trimmedBefore (s : State) : Bool := (s.stampAt s.cursor).afterTrim

/-- A colour change is taken (R123): COLOUR BEGUN, the participants fixed, NO HEAD judged, and the trim step
or the case step begun (R124). -/
def State.beginColour (s : State) (slot : Nat) : State :=
  let s := s.post .colourBegun 0 slot
  let heads := headNumbers.filter s.changes
  if heads.all (fun h => s.change.needle slot h == 0) then s.pauseFor .noHead
  else
    let s := (s.enter .changing).doing .changing
    let s := s.setChange { s.change with work := .colourChange, newSlot := slot, casing := false }
    let s := s.fixParticipants heads slot
    if s.trimmedBefore then s.beginCaseStep else s.trimHeads (heads.filter s.engagedHead)

/-- The Run Controller's part in the end of a trim or colour change (R10): the cursor passes the record, the
segment start follows in the main pass, the tie-in count is loaded. -/
def State.passChange (s : State) : State :=
  let s := s.advanceCursor
  let s := if s.run.pass = .main then s.setRun { s.run with segmentStart := s.run.mainCursor } else s
  (s.doing .none).loadTieIn

/-- A colour change is complete (R126). -/
def State.colourDone (s : State) : State :=
  let slot := s.change.newSlot
  let s := (s.post .colourDone 0 slot).clearWork
  let s := s.setChange (s.change.apply (fun p => p.slot != slot))
  s.passChange

/-- A trim at a TRIM record is taken (R117). -/
def State.takeTrim (s : State) : State :=
  let s := (s.enter .changing).doing .changing
  let s := s.setChange { s.change with work := .trim }
  s.trimHeads (headNumbers.filter s.engagedHead)

/-- A trim at a TRIM record is complete (R117, R10). -/
def State.trimDone (s : State) : State :=
  s.clearWork.passChange

/-! ## Alignment (R128, R129) -/

/-- The heads that step 3 of a start sequence looks at: all, or in a patch pass the engaged set (R150). -/
def State.alignable (s : State) (h : Nat) : Bool :=
  s.run.pass == .main || s.inPatchSet s.cursor h

/-- Is the alignment of step 3 needed (R14, R128)? A patch resume with no gap at its cursor needs none. Log
26. -/
def State.alignNeeded (s : State) : Bool :=
  let heads := headNumbers.filter s.alignable
  let able := heads.filter s.able
  if heads.isEmpty then false
  else able.isEmpty || able.any (fun h => (s.workAt h).lastKnown != some (s.change.needle s.colourNow h))

/-- Does the head take part in the alignment of all heads (R128)? -/
def State.aligns (s : State) (h : Nat) : Bool :=
  s.alignable h && (s.watchAt h).fault.isNone &&
    (match (s.headAt h).state with
      | .off => false
      | .lost => false
      | .dropped => false
      | .idle => true
      | .sewing => true
      | .resting => true
      | .patch => true)

/-- The alignment of step 3 is begun, or the start sequence ends with NO HEAD (R128). -/
def State.beginAlign (s : State) : State :=
  let slot := s.colourNow
  let heads := headNumbers.filter s.aligns
  if heads.all (fun h => s.change.needle slot h == 0) then (s.recordCause .noHead).endStart
  else
    let moved := heads.filter (fun h =>
      s.change.needle slot h != 0 && (s.workAt h).lastKnown != some (s.change.needle slot h))
    let s := (s.enter .changing).doing .aligning
    let s := s.setChange { s.change with work := .alignAll }
    let s := s.fixParticipants moved slot
    moved.foldl State.liftThenMove s

/-- How a single-head alignment begins (R129). -/
inductive AlignOne where
  | noHead
  | already
  | moving
deriving DecidableEq, Repr

/-- What a single-head alignment of head `h` to a slot will do (R129). -/
def State.alignKind (s : State) (h slot : Nat) : AlignOne :=
  let q := s.change.needle slot h
  if q = 0 then .noHead else if (s.workAt h).lastKnown = some q then .already else .moving

/-- A single-head alignment that needs a move begins it (R129). -/
def State.beginAlignOne (s : State) (h slot : Nat) : State :=
  let s := s.setChange { s.change with work := .alignOne }
  (s.fixParticipants [h] slot).caseMove h

/-! ## Timers -/

/-- The trim timer of a head expires (R117). -/
def State.trimExpired (s : State) (h : Nat) : State :=
  if (s.workAt h).trim = .waiting ∧ (s.workAt h).trimTimer = true then s.trimFailed h else s

/-- The case timer of a head expires (R120). -/
def State.caseExpired (s : State) (h : Nat) : State :=
  if (s.workAt h).case = .moving ∧ (s.workAt h).caseTimer.isSome = true then s.caseFailed h else s

end Sys2Proof.Machine
end

