-- ==== Sys2Proof/Machine/Sequence.lean ====
section
/-!
DEFINITION. What the Controller does by itself as soon as it can: the record at the cursor with the shaft at
rest (R6, R9, R18, R20), start sequences (R14), trims and changes, joins (R144), patch stops (R151, R152),
travel moves (R76, R78) and homings (R81). `advance` makes the next such step, if one is due; `settle`
makes them until none is. A command that may set one off ends with `finish`.
-/

namespace Sys2Proof.Machine

/-! ## The record at the cursor -/

/-- Passes over the effect records at the cursor (R7). The number bounds how many. -/
def State.passUpTo (s : State) : Nat → State
  | 0 => s
  | n + 1 =>
    if (s.stopKindAt s.cursor).isSome then s
    else match s.store.recordAt s.cursor with
      | some r => if s.isEffect r then s.advanceCursor.passUpTo n else s
      | none => s

/-- Passes over the effect records at the cursor (R7). -/
def State.passEffects (s : State) : State := s.passUpTo (s.store.filledEnd - s.cursor)

/-- Begins the move of the motion record at the cursor with its commanded speed computed (R5, R6, R59; log 50 for the
computation of a start from rest). A JUMP adds its lockout reason (R88, R91; log 19 for a JUMP begun from rest). -/
def State.beginRecord (s : State) (r : DesignRecord) : State :=
  match motionOf r with
  | none => s
  | some (dx, dy) =>
    let jump := !isStitch r
    let s := (s.computeSpeed s.cursor).beginMove s.cursor dx dy jump
    let s := s.setRun { s.run with carry := true }
    if jump then s.modLockout (fun l => { l with jump := true }) else s

/-- Begins the move of the motion record at the cursor with the shaft at rest (R6). The window and the bound are those
of the computation made as the move begins; the last commanded speed stays "at rest" until the shaft is started
(R49, R59; log 50). -/
def State.beginFromRest (s : State) (r : DesignRecord) : State :=
  let t := s.beginRecord r
  t.setGov { t.gov with last := none }

/-- The cursor moves past a STOP record (Table 1-4, R18). -/
def State.passStop (s : State) : State := s.advanceCursor

/-- The cursor moves past the matched MARK, the target is cleared and MARK REACHED is posted (Table 1-4,
R18). Log 30 for its index. -/
def State.passMark (s : State) (label : Nat) : State :=
  let s := s.advanceCursor
  (s.setRun { s.run with mark := none }).post .markReached 0 label

/-- The run has starved at the filled end (R20). -/
def State.starve (s : State) : State :=
  let c := s.starvationCause
  if s.run.mode = .continuous then s.toWaiting c else s.pauseFor c

/-! ## Before the run becomes RUNNING (R144) -/

/-- The run becomes RUNNING (R6), or PAUSED when a stop cause has been recorded meanwhile (R10, R144,
R151). -/
def State.goOn (s : State) : State :=
  if s.run.cause.isSome then s.toPaused else (s.enter .running).doing .none

/-- What follows when every waiting head has joined (R144, R151, R20, R14): the run becomes PAUSED when a stop cause has
been recorded meanwhile, in a start sequence from IDLE too (log 81). -/
def State.afterJoins (s : State) (after : AfterJoin) : State :=
  match after with
  | .running => s.goOn
  | .patch => s.goOn
  | .stepEngage => if s.run.cause.isSome then s.toPaused else (s.enter .arming).doing .dueEngage
  | .fromWaiting =>
    if s.run.cause.isSome then s.toPaused
    else (((s.enter .running).doing .none).loadTieIn).post .runStarted 0 4

/-- The heads that wait to join, in head order. -/
def State.waitingHeads (s : State) : List Nat := headNumbers.filter (fun h => (s.watchAt h).joining)

/-- The waiting heads of the main pass that can join, in head order. One that a fault or a loss has taken out waits no
more. -/
def State.stillWaiting (s : State) : List Nat :=
  if s.run.pass = .main then
    s.waitingHeads.filter (fun h => (s.watchAt h).fault.isNone && !(s.linkAt h).lost)
  else []

/-- The run is about to become RUNNING with the shaft at rest: the waiting heads join first, with the run
state CHANGING (R144). -/
def State.aboutToRun (s : State) (after : AfterJoin) : State :=
  if s.run.pass = .main ∧ s.joinsWaiting = true then
    (s.enter .changing).doing (.joining s.waitingHeads .pick after)
  else s.afterJoins after

/-- After a trim or colour change (R10, R126): PAUSED with a recorded cause; the end of a patch pass that has lost its last
selected gap meanwhile (R154); PAUSED with NO HEAD when a colour change has left no head engaged; otherwise the run goes
on. -/
def State.afterChange (s : State) (colour : Bool) : State :=
  if s.run.cause.isSome then s.toPaused
  else if s.patchOver then s.endPatch
  else if colour && !s.anyEngaged then s.pauseFor .noHead
  else s.aboutToRun .running

/-! ## At rest (R6, R9, R18) -/

/-- The Run Controller acts on the record at the cursor with the run state RUNNING and the shaft at rest
(R6, R9, Table 1-4). In a patch pass a place that no selected gap covers is a patch stop whatever stands
there (log 10). -/
def State.actOn (s : State) : State :=
  if s.run.pass = .patch ∧ s.patchCovers s.cursor = false then
    ((s.setRun { s.run with point := none }).enter .changing).doing (.endStops .pick)
  else match s.stopKindAt s.cursor with
    | some .patch => ((s.setRun { s.run with point := none }).enter .changing).doing (.endStops .pick)
    | some .join => (s.setRun { s.run with point := none }).aboutToRun .running
    | some .stop => s.passStop.pauseFor .programmed
    | some (.colour c) => s.beginColour c
    | some .trim => s.takeTrim
    | some .finish => s.toFinished
    | some (.mark l) => (s.passMark l).pauseFor .mark
    | some .fieldLimit => s.pauseFor .frameLimit
    | some .zone => s.pauseFor .zone
    | some .filledEnd => s.starve
    | none => match s.store.recordAt s.cursor with
      | some r => s.beginFromRest r
      | none => s

/-- With the run state RUNNING and the shaft at rest: a completed STEP pauses (R21), else effect records are
passed and the Run Controller acts on what stands at the cursor (R6, R9). A block accepted since the stop was ordered
at the filled end is seen here, and the run goes on (log 56). -/
def State.actAtRest (s : State) : State :=
  if s.run.stepDone then s.pauseFor .step else s.passEffects.actOn

/-- What the end of a stop finds at the cursor (R18): in the main pass the record itself, whether or not a join point
stands there too. -/
def State.restKind (s : State) : Option StopKind :=
  (if s.run.pass = .main then s.setRun { s.run with point := none } else s).stopKindAt s.cursor

/-- The end of a stop with the run state STOPPING and the shaft at rest (R18). A patch stop point leaves the
cursor where it is (log 24). -/
def State.stoppingEnd (s : State) : State :=
  match s.restKind with
  | some .stop => s.passStop.toPaused
  | some (.mark l) => (s.passMark l).toPaused
  | some .finish => if s.run.pass = .patch then s.toPaused else s.toFinished
  | some .patch => s.toPaused
  | some .join => s.toPaused
  | some (.colour _) => s.toPaused
  | some .trim => s.toPaused
  | some .fieldLimit => s.toPaused
  | some .zone => s.toPaused
  | some .filledEnd => s.toPaused
  | none => s.toPaused

/-- The run state RUNNING or STOPPING with nothing else under way: the shaft is started when the move from
rest has completed and no LOWER or LIFT of the start is outstanding (R87, R25); a held shaft restarts
(R90); otherwise the Run Controller acts on the cursor. A shaft that an index fault in the start has left
UNREFERENCED begins nothing, in RUNNING and in STOPPING (log 84). -/
def State.advanceRun (s : State) : Option State :=
  if s.frame.stitch.isSome then none
  else match s.shaft.state with
    | .holding => some s.restartHold
    | .atRest =>
      if s.run.carry then (if s.bus.startOutstanding then none else some s.startShaft)
      else if s.run.state = .running then some s.actAtRest
      else some s.stoppingEnd
    | .unreferenced => none
    | .referencing => none
    | .running => none
    | .stopping => none

/-! ## Start sequences (R14) -/

/-- Step 1: return travel when the frame is off the path (R14, R79). -/
def State.stepTravel (s : State) : State :=
  if s.offPath then
    let target := s.framePosAt s.cursor
    if inField s.cfg.machine target then
      let s := s.setRun { s.run with state := .travelling, travelReturn := some .arming, activity := .returnTravel }
      s.beginTravel [target]
    else (s.recordCause .frameLimit).endStart
  else s.doing .dueReference

/-- Step 2: shaft referencing when the shaft is not referenced (R14); a referencing already in progress is
waited for (R93). -/
def State.stepReference (s : State) : State :=
  if s.shaft.state = .referencing then s.doing .referencing
  else if s.shaft.referenced then s.doing .dueAlign
  else (s.beginReferencing false).doing .referencing

/-- Step 3: alignment when it is needed (R14, R128). -/
def State.stepAlign (s : State) : State :=
  if s.alignNeeded then s.beginAlign else s.aboutToRun .stepEngage

/-- What step 4 does with one head in the main pass (R25): LOWER for every head able to sew, rest for a head
whose needle is 0. -/
def State.engageMain (s : State) (h : Nat) : State :=
  let slot := s.colourNow
  let canRest := match (s.headAt h).state with
    | .off => false
    | .dropped => false
    | .lost => false
    | .patch => false
    | .idle => true
    | .sewing => true
    | .resting => true
  if s.able h then s.issueLower h .sewing false true
  else if canRest && (s.watchAt h).fault.isNone && s.change.needle slot h == 0 then
    (if s.engagedHead h then s.issueLift h .resting true else s.setHeadState h .resting)
  else s

/-- What step 4 does with one head in a patch pass (R150): heads of the engaged set become PATCH or RESTING,
every other head is lifted. A head of the set with a fault pending, or DROPPED or LOST, is passed over (log 95). -/
def State.engagePatch (s : State) (h : Nat) : State :=
  if s.inPatchSet s.cursor h then
    if s.able h then s.issueLower h .patch false true
    else
      let canRest := match (s.headAt h).state with
        | .off => false
        | .dropped => false
        | .lost => false
        | .patch => true
        | .idle => true
        | .sewing => true
        | .resting => true
      if canRest && (s.watchAt h).fault.isNone then
        (if s.engagedHead h then s.issueLift h .resting true else s.setHeadState h .resting)
      else s
  else if s.engagedHead h then s.issueLift h .idle true
  else if (s.headAt h).state = .resting then s.setHeadState h .idle
  else s

/-- Step 4: engagement of the heads (R14, R25, R150). -/
def State.stepEngage (s : State) : State :=
  let s := (s.enter .arming).doing .engaging
  headNumbers.foldl (if s.run.pass = .patch then State.engagePatch else State.engageMain) s

/-- The end of step 4: the run becomes RUNNING with the tie-in count loaded, and RUN STARTED is posted
(R14, R11, R21). -/
def State.stepRun (s : State) : State :=
  let value := s.run.startValue
  let keep := s.run.keepTieIn
  let s := s.setRun { s.run with state := .running, activity := .none, startReturn := none, keepTieIn := false }
  (if keep then s else s.loadTieIn).post .runStarted 0 value

/-! ## Joins (R144, R152) -/

/-- The slot in force at the cursor a joining head is to sew for (R129). -/
def State.joinSlot (s : State) : Nat := s.colourNow

/-- A head picked for its join: one whose join a fault has undone is passed over; a head with no needle rests
and has joined; one whose case stands right is lowered; otherwise it is aligned (R144, R152, R129). The join
pending flag stays until the join takes effect. Log 27; log 79 for a head repaired in the pass. -/
def State.pickJoin (s : State) (h : Nat) (rest : List Nat) (after : AfterJoin) : State :=
  let waits := if after = .patch then s.inPatchSet s.cursor h else (s.watchAt h).joining
  if !waits then s.doing (.joining rest .pick after)
  else if (s.watchAt h).fault.isSome || (after == .patch && (s.headAt h).state != .idle && (s.headAt h).state != .resting) then
    (s.deselect (fun g => g.head == h && g.start == s.cursor) s.cursor).doing (.joining rest .pick after)
  else
    let becomes : HeadState := if after = .patch then .patch else .sewing
    match s.alignKind h s.joinSlot with
    | .noHead =>
      let s := s.setHeadState h .resting
      (if after = .patch then s else s.joinEffect h).doing (.joining rest .pick after)
    | .already => (s.issueLower h becomes true false).doing (.joining rest (.lowering h) after)
    | .moving => (s.beginAlignOne h s.joinSlot).doing (.joining rest (.aligning h) after)

/-- Is an engagement order for the head still under way? -/
def State.engaging (s : State) (h : Nat) : Bool :=
  s.bus.engageOutstanding h || (s.headAt h).acked.isSome

/-- The heads whose joins are still to be made, in head order: in the main pass all that wait now, one repaired meanwhile
among them (R144), in a patch pass the rest of the list made at the place (R152). -/
def State.joinsLeft (s : State) (todo : List Nat) : List Nat := if s.run.pass = .main then s.stillWaiting else todo

/-- The next step of the joins (R144, R152): the run goes on when no head waits any more. When the patch joins are over,
the place is marked as done. -/
def State.advanceJoins (s : State) (todo : List Nat) (phase : JoinPhase) (after : AfterJoin) : Option State :=
  match phase with
  | .pick =>
    match s.joinsLeft todo with
    | h :: rest => some (s.pickJoin h rest after)
    | [] =>
      let s := if after = .patch then s.setRun { s.run with patchDone := some s.cursor } else s
      some (s.afterJoins after)
  | .aligning h =>
    if s.casesOver then
      let arrived := (s.workAt h).case == .arrived
      let s := s.clearWork
      let becomes : HeadState := if after = .patch then .patch else .sewing
      some (if arrived then (s.issueLower h becomes true false).doing (.joining todo (.lowering h) after)
        else s.doing (.joining todo .pick after))
    else none
  | .lowering h => if s.engaging h then none else some (s.doing (.joining todo .pick after))

/-! ## Patch stops (R151, R152, R154) -/

/-- The head's gap that ends at the cursor has been sewn and is removed (R152). -/
def State.gapSewn (s : State) (h : Nat) : State :=
  let c := s.cursor
  let s := s.setRun { s.run with patchSewn := s.run.patchSewn + 1 }
  (s.removeGaps (fun g => g.selected && g.head == h && g.stop == some c)).doing (.endStops .pick)

/-- The first head, in head order, whose selected gap ends at the cursor. -/
def State.nextEndStop (s : State) : Option Nat :=
  headNumbers.find? (fun h => s.gaps.any (fun g => g.selected && g.head == h && g.stop == some s.cursor))

/-- The heads whose selected gap starts at the cursor. -/
def State.joinStops (s : State) : List Nat :=
  headNumbers.filter (fun h => s.gaps.any (fun g => g.selected && g.head == h && g.start == s.cursor))

/-- The jump (R151): the patch cursor goes to the next selected start, and patch travel to that gap's entry
position begins; outside the field the run is PAUSED with FRAME LIMIT. A head that is still PATCH sews for the new place
(R116). -/
def State.jumpTo (s : State) (start : Nat) : State :=
  let s := ((s.setRun { s.run with patchDone := none }).movePatch start).writePendings
  let entry := match s.gaps.find? (fun g => g.selected && g.start == start) with
    | some g => g.entry
    | none => (s.stampAt start).pos
  let target := s.originPos.add entry
  if inField s.cfg.machine target then
    (s.setRun { s.run with state := .travelling, travelReturn := some .changing, activity := .patchTravel }).beginTravel [target]
  else s.pauseFor .frameLimit

/-- After the end stops at a place (R151): the joins there, the jump, or the end of the pass. -/
def State.afterEndStops (s : State) : State :=
  if s.patchCovers s.cursor then
    s.doing (.joining (if s.run.patchDone = some s.cursor then [] else s.joinStops) .pick .patch)
  else match s.nextPatchStart s.cursor with
    | some i => s.jumpTo i
    | none => match s.nextPatchStart 0 with
      | some i => s.jumpTo i
      | none => s.endPatch

/-- The end stop of a head (R152): trim, LIFT, the gap removed. A head that is not engaged has nothing to
trim, and a RESTING one becomes IDLE. Log 95 for a DROPPED or LOST one. -/
def State.beginEndStop (s : State) (h : Nat) : State :=
  if s.engagedHead h then
    ((s.setChange { s.change with work := .trim }).beginTrim h).doing (.endStops (.trimming h))
  else if (s.headAt h).state = .resting then (s.setHeadState h .idle).gapSewn h
  else s.gapSewn h

/-- The trim of an end stop is complete (R152): LIFT follows, unless a fault holds the head in its state or is
taking it out (R138, R153; log 27). -/
def State.endStopTrimmed (s : State) (h : Nat) : State :=
  let s := s.clearWork
  if s.engagedHead h && (s.watchAt h).fault.isNone then
    (s.issueLift h .idle false).doing (.endStops (.lifting h))
  else s.gapSewn h

/-- The next step at a patch stop point (R151, R152). -/
def State.advanceEndStops (s : State) (phase : EndPhase) : Option State :=
  match phase with
  | .pick => match s.nextEndStop with
    | some h => some (s.beginEndStop h)
    | none => some s.afterEndStops
  | .trimming h => if s.trimOver then some (s.endStopTrimmed h) else none
  | .lifting h => if s.engaging h then none else some (s.gapSewn h)

/-! ## Travel moves (R76, R78) -/

/-- A travel move has ended (R78): lockout released; a CONTROLLED RESET in progress takes effect; otherwise
the run returns to the state the travel was made from, or its sequence goes on. The chain of BACK or FORWARD ends
once, with one TRAVEL DONE (log 57); a patch pass that lost its last selected gap meanwhile ends then (R154, log 65). -/
def State.endTravel (s : State) (stopped : Bool) : State :=
  let s := (s.setFrame { s.frame with travel := none }).modLockout (fun l => { l with travel := false })
  if s.link.resetBy.isSome then s.pendingReset
  else match s.run.activity with
    | .returnTravel =>
      let s := s.setRun { s.run with state := .arming, travelReturn := none, activity := .dueReference }
      if stopped then s.unlessOver s.endStart else s
    | .patchTravel =>
      let s := s.setRun { s.run with travelReturn := none }
      if stopped then (if s.run.cause.isNone && s.patchOver then s.endPatch else s.toPaused)
      else (s.enter .changing).doing (.joining s.joinStops .pick .patch)
    | _ =>
      let back := s.run.travelReturn.getD .idle
      let s := s.setRun { s.run with state := back, travelReturn := none, activity := .none }
      let s := if back = .paused then s.resolveJoins else s
      (s.post .travelDone 0 (if stopped then 1 else 0)).endPatchIfEmpty

/-- The next step of a travel move (R76, R78): it waits for the move in flight; it ends when a stop was asked
for; an interrupted axis is re-seated first; then segment by segment and leg by leg. A stop asked for during the
re-seat ends the travel when the re-seat is complete (log 58). The legs of BACK and FORWARD are one travel (log 57). -/
def State.advanceTravel (s : State) (t : Travel) : Option State :=
  if s.frame.stitch.isSome || s.frame.x.move.isSome || s.frame.y.move.isSome || t.index.isSome then none
  else if t.stopAsked then some (s.endTravel true)
  else if s.frame.x.offPath.isSome || s.frame.y.offPath.isSome then some s.beginReseats
  else if t.made < t.count then some (s.beginSegment t)
  else match t.legs with
    | p :: rest => some (s.beginLeg t p rest)
    | [] => some (s.endTravel false)

/-! ## The next step -/

/-- Step 1 needs the frame at rest to judge the path (R75), and with the frame off the path it needs the shaft at
rest to travel (R76), so there it waits for a referencing asked for by REFERENCE SHAFT; on the path step 2 waits for
it (R93). While a CONTROLLED RESET performs its stop no further step is begun. Log 29. -/
def State.mayTravel (s : State) : Bool :=
  s.frame.stitch.isNone && s.link.resetBy.isNone && (s.shaft.state != .referencing || !s.offPath)

/-- The next step of what the Run Controller is carrying out. -/
def State.advanceActivity (s : State) : Option State :=
  match s.run.activity with
  | .none => if s.run.state = .running ∨ s.run.state = .stopping then s.advanceRun else none
  | .hold => none
  | .dueTravel => if s.mayTravel then some s.stepTravel else none
  | .returnTravel => none
  | .dueReference => if s.link.resetBy.isSome then none else some (s.unlessOver s.stepReference)
  | .referencing => if s.shaft.state = .atRest then some (s.unlessOver (s.doing .dueAlign)) else none
  | .dueAlign => some (s.unlessOver s.stepAlign)
  | .aligning => if s.casesOver then
      let s := s.clearWork
      some (s.unlessOver ((s.enter .arming).aboutToRun .stepEngage))
    else none
  | .dueEngage => some (s.unlessOver s.stepEngage)
  | .engaging => if s.bus.startOutstanding then none else some (s.unlessOver s.stepRun)
  | .changing =>
    match s.change.work with
    | .trim => if s.trimOver then some (s.trimDone.afterChange false) else none
    | .colourChange =>
      if s.change.casing then (if s.casesOver then some (s.colourDone.afterChange true) else none)
      else if s.trimOver then some s.beginCaseStep else none
    | .none => none
    | .alignAll => none
    | .alignOne => none
  | .joining todo phase after => s.advanceJoins todo phase after
  | .endStops phase => s.advanceEndStops phase
  | .patchTravel => none
  | .hostTravel => none

/-- The next step that is due by itself, if one is. -/
def State.advance (s : State) : Option State :=
  match s.frame.travel with
  | some t => s.advanceTravel t
  | none =>
    match s.frame.homing with
    | some hm =>
      if hm.phase = .waiting then (if s.frame.stitch.isNone then some (s.beginHoming hm.axis) else none)
      else s.advanceActivity
    | none => s.advanceActivity

/-- Makes the steps that are due, up to a number of them. -/
def State.settle : Nat → State → State
  | 0, s => s
  | n + 1, s =>
    match s.advance with
    | some t => State.settle n t
    | none => s

/-- More steps than any one command sets off (log 33). -/
def settleSteps : Nat := 262144

/-- A command ends: what is due by itself is done, and a free head bus begins its next transaction
(R105). -/
def State.finish (s : State) : State := (State.settle settleSteps s).pump

end Sys2Proof.Machine
end

