-- ==== Sys2Proof/Machine/Rotation.lean ====
section
/-!
DEFINITION. The main shaft's events (05): what happens at each crossing (R84, R5, R69, R70, R89, R107), the
index pulse, rest, and the stall timer. Commands ENCODER_COUNT, INDEX_PULSE, SHAFT_REST_DECLARED,
STALL_TIMER_EXPIRY.
-/

namespace Sys2Proof.Machine

/-! ## Crossings -/

/-- The Open angle of a move still in flight (R69, R70): a late STITCH begins nothing; a late JUMP is reported
once and its revolution locked out, and the cursor stays on the record behind it, an effect record too (log 38). -/
def State.openInFlight (s : State) (m : StitchMove) : State :=
  if m.jump then
    let s := if m.latePosted then s else s.postAt .lateMove 0 m.record m.index
    (s.setFrame { s.frame with stitch := some { m with latePosted := true } }).modLockout
      (fun l => { l with late := true })
  else s

/-- The commanded speed is handed to the Shaft Unit with a move (R5, R88). -/
def State.takeSpeed (s : State) : State := s.setShaft { s.shaft with speed := s.gov.last.getD 0 }

/-- The Run Controller at an Open angle with no move in flight and no record carried (R5, R18, R21, R61). -/
def State.openDecide (s : State) : State :=
  if s.run.stepDone then s.orderStop false
  else
    let s := s.passEffects
    if s.run.state = .stopping ∧ s.gov.last = some s.cfg.speeds.crawl then s.orderStop false
    else if (s.stopKindAt s.cursor).isSome then s.orderStop false
    else match s.store.recordAt s.cursor with
      | some r =>
        let t := (s.beginRecord r).takeSpeed
        if s.cfg.heldRecord r then t.orderStop true else t
      | none => s.orderStop false

/-- The crossing of the Open angle (R5, R91): the JUMP and Late reasons end, then the Run Controller acts. A
revolution that carries a record begins nothing new. -/
def State.openAction (s : State) : State :=
  let s := s.modLockout (fun l => { l with jump := false, late := false })
  match s.frame.stitch with
  | some m => s.openInFlight m
  | none =>
    if s.shaft.state = .running ∧ (s.run.state = .running ∨ s.run.state = .stopping) ∧ s.run.carry = false then
      s.openDecide
    else s

/-- A record has been executed at a Close angle: every P of them a progress report is written (R168). -/
def State.countProgress (s : State) (index : Nat) : State :=
  if s.cfg.progressPeriod = 0 then s
  else
    let n := s.link.progressCount + 1
    if n < s.cfg.progressPeriod then s.setLink { s.link with progressCount := n }
    else s.setLink { s.link with
      progressCount := 0
      progress := some ⟨index, s.gov.last.getD 0, (s.stampAt s.cursor).pos, s.run.pass⟩ }

/-- The record at the cursor is penetrated, or a JUMP executed (R5): the cursor advances, a STITCH counts the
tie-in down (R11), a STEP has made its motion record (R21), and the window moves on (R53). -/
def State.penetrate (s : State) (r : DesignRecord) : State :=
  let index := s.cursor
  let s := s.advanceCursor
  let s := s.setRun { s.run with
    carry := false, stepDone := s.run.stepping
    tieIn := if isStitch r then s.run.tieIn - 1 else s.run.tieIn }
  s.refreshWindow.countProgress index

/-- The crossing of the Close angle (R5, R69, R70): a STITCH is penetrated when its move is complete and the
revolution is not a late one; a JUMP is executed whether or not its move has completed. -/
def State.closeAction (s : State) : State :=
  if s.run.carry then
    match s.store.recordAt s.cursor with
    | some r =>
      if isStitch r then
        (if s.frame.stitch.isNone && !s.shaft.lockout.late then s.penetrate r else s)
      else s.penetrate r
    | none => s
  else s

/-- Is the shaft past its braking and not yet at rest (R89, R93)? -/
def Shaft.coasting (u : Shaft) : Bool := u.braked && (u.state == .stopping || u.state == .referencing)

/-- The STITCH move in flight at the late angle is late (R69): LATE MOVE is posted once for it, and the revolution is
locked out. -/
def State.judgeLate (s : State) : State :=
  match s.frame.stitch with
  | some m =>
    if m.jump then s
    else
      let s := if m.latePosted then s else s.post .lateMove 0 m.index
      (s.setFrame { s.frame with stitch := some { m with latePosted := true } }).modLockout
        (fun l => { l with late := true })
  | none => s

/-- The crossing of the late angle: the STITCH move in flight is judged late (R69), and a shaft braked before this count
has overrun (R89). Log 73 for the order. With the late angle at 0 the count of the braking TDC is no overrun, and a
held STITCH in flight is judged late on it (log 55), as at a late angle that comes before the braking TDC (log 87). -/
def State.lateAction (s : State) (coasted : Bool) : State :=
  let t := s.judgeLate
  if coasted && t.shaft.coasting then t.stall else t

/-- A crossing of TDC opens a new revolution, in which each angle can be reported again (R84). -/
def State.newRevolution (s : State) : State :=
  s.setShaft { s.shaft with seenOpen := false, seenLate := false, seenClose := false, seenPoll := false }

/-- The crossing of TDC (R25, R89): engagement changes take effect, and a shaft that is to stop is braked. -/
def State.tdcAction (s : State) : State :=
  let s := if s.shaft.state.pollsByAngle then s.applyAcked else s
  if s.shaft.state = .stopping ∧ s.shaft.braked = false then s.brakeAtTop else s

/-- The crossing of the poll angle (R107). -/
def State.pollAction (s : State) : State := if s.shaft.state.pollsByAngle then s.roundDue else s

/-- Are crossings reported (R84)? -/
def Shaft.reports (u : Shaft) : Bool := u.referenced && u.state.turning

/-- Everything that crosses when a forward count brings the angle to `a` (R84). Crossings on one count are
not ordered by the manual; log 5 gives the order taken. A poll angle crossed in this revolution is not crossed again
at a changed setting (log 61). -/
def State.crossings (s : State) (a : Nat) : State :=
  let coasted := s.shaft.coasting
  let s := if a = 0 then s.tdcAction else s
  let s := if a = s.cfg.pollAngle ∧ s.shaft.seenPoll = false then
      (s.setShaft { s.shaft with seenPoll := true }).pollAction else s
  let s := if a = lateAngle s.shaft.closeAngle ∧ s.shaft.seenLate = false then
      (s.setShaft { s.shaft with seenLate := true }).lateAction coasted else s
  let s := if a = s.shaft.closeAngle ∧ s.shaft.seenClose = false then
      (s.setShaft { s.shaft with seenClose := true }).closeAction else s
  if a = s.shaft.openAngle ∧ s.shaft.seenOpen = false then
    (s.setShaft { s.shaft with seenOpen := true }).openAction else s

/-- A forward count (R84). A shaft that has rocked back over TDC reports nothing until it has come back over
it, and that count opens no new revolution (log 20). A crossing of TDC opens one whether it is reported or not
(log 60). -/
def State.countForward (s : State) : State :=
  let a := (s.shaft.angle + 1) % 1024
  let back := s.shaft.wraps
  let s := s.setShaft { s.shaft with angle := a, wraps := if a = 0 then back - 1 else back }
  let s := if a = 0 ∧ back = 0 then s.newRevolution else s
  if s.shaft.reports && back == 0 then (s.crossings a).finish else s

/-- A reverse count (R84). -/
def State.countReverse (s : State) : State :=
  s.setShaft { s.shaft with
    angle := (s.shaft.angle + 1023) % 1024
    wraps := if s.shaft.angle = 0 then s.shaft.wraps + 1 else s.shaft.wraps }

/-- Command ENCODER_COUNT (R84). -/
def execEncoderCount (forward : Bool) (s : State) : Host.Outcome State Fault Refusal :=
  .next (if forward then s.countForward else s.countReverse)

/-! ## The index (R84, R93, R94) -/

/-- The stall timer, when it runs, is restarted from full length (R94). -/
def State.restartStall (s : State) : State :=
  s.setShaft { s.shaft with stall := s.shaft.stall.map (fun _ => stallLength s.cfg.speeds.crawl) }

/-- The index ends the search of a referencing (R93): the angle is 0, the shaft is referenced and braked. -/
def State.indexFound (s : State) : State :=
  (s.setShaft { s.shaft with angle := 0, referenced := true, wraps := 0 }).newRevolution.brakeAtTop

/-- Does this angle at the index differ from 0 by at most 4 counts (R84)? -/
def indexRight (angle : Nat) : Bool := angle ≤ 4 || 1020 ≤ angle

/-- The index of a referenced shaft within 4 counts (R84): the angle is set to 0. Raised to 0 by it, the angle
crosses TDC here (log 20), reported or not (log 60). -/
def State.indexCorrects (s : State) : State :=
  let below := 1020 ≤ s.shaft.angle
  let back := s.shaft.wraps
  let s := s.setShaft { s.shaft with angle := 0, wraps := if below then back - 1 else back }
  let s := if below ∧ back = 0 then s.newRevolution else s
  if below && s.shaft.reports && back == 0 then (s.crossings 0).finish else s

/-- Command INDEX_PULSE (R84, R93, R94). -/
def execIndexPulse (s : State) : Host.Outcome State Fault Refusal :=
  let angle := s.shaft.angle
  let s := s.restartStall
  .next (if !s.shaft.referenced then
      (if s.shaft.state = .referencing then s.indexFound.finish else s.setShaft { s.shaft with angle := 0, wraps := 0 })
    else if indexRight angle then s.indexCorrects
    else (s.setShaft { s.shaft with angle := 0, wraps := 0 }).stall.finish)

/-! ## Rest (R89, R90, R93) -/

/-- A join or jump point that the run has not reached, or has reached another stop before, is cleared, and a head that
waits joins at that stop (R143): where nothing stands at the cursor that stops the run any more, as when a pending ZONE
request has just freed it, the join point is this stop. -/
def State.clearPoint (s : State) : State :=
  let t := s.setRun { s.run with point := none }
  if s.run.point = some s.cursor then s
  else if s.stillWaiting.isEmpty = false ∧ t.stopKindAt s.cursor = none then
    s.setRun { s.run with point := some s.cursor }
  else t

/-- Rest at the end of a stop: HOLDING for a held stitch, otherwise AT REST (R89, R90, R64); direct joins take
effect (R143). -/
def State.stopRests (s : State) : State :=
  if s.shaft.hold then ((s.shaftTo .holding).applyZones).joinsAtRest
  else
    let s := ((s.shaftTo .atRest).govAtRest).applyZones
    s.applyAcked.joinsAtRest.clearPoint.resetIfDue

/-- Rest at the end of a referencing (R93). -/
def State.referencingRests (s : State) : State :=
  let s := (s.setShaft { s.shaft with hostReference := false }).shaftTo .atRest
  let s := s.modLockout (fun l => { l with referencing := false })
  ((s.post .shaftReferenced 0 s.shaft.angle).applyZones).resetIfDue

/-- Command SHAFT_REST_DECLARED (R89). -/
def execShaftRestDeclared (s : State) : Host.Outcome State Fault Refusal :=
  .next (if s.shaft.braked then
      match s.shaft.state with
      | .stopping => s.stopRests.finish
      | .referencing => s.referencingRests.finish
      | .unreferenced => s
      | .atRest => s
      | .running => s
      | .holding => s
    else s)

/-- Command STALL_TIMER_EXPIRY (R94). -/
def execStallTimerExpiry (s : State) : Host.Outcome State Fault Refusal :=
  .next (if s.shaft.stall.isSome then s.stall.finish else s)

end Sys2Proof.Machine
end

