-- ==== Sys2Proof/Machine/HeadEvents.lean ====
section
/-!
DEFINITION. The head bus's events (06): an accepted answer and what it is handed to (R106, R109, R111), a
timeout with its retry or the loss of the head (R103, R110), the rest timer (R108), and the timers of the
Thread Change Unit. Commands HEAD_ANSWER, HEAD_ATTEMPT_TIMEOUT, REST_TIMER_EXPIRY, TRIM_TIMER_EXPIRY,
CASE_TIMER_EXPIRY.
-/

namespace Sys2Proof.Machine

/-! ## Status records (R106, R109) -/

/-- A record takes the place of the head's last one. -/
def State.storeRecord (s : State) (h : Nat) (r : StatusRecord) : State :=
  s.modLink h (fun l => { l with record := some r })

/-- The Run Controller takes the needle of a record that shows the case AT REST (R23, R106). -/
def State.takeNeedle (s : State) (h : Nat) (r : StatusRecord) : State :=
  if r.caseState = .atRest then s.modHead h (fun e => { e with needle := r.casePos }) else s

/-- A record's engaged flag is compared with the head table when no engagement change is under way (R109); a
board that does not follow is sent the command the table calls for. -/
def State.resync (s : State) (h : Nat) (r : StatusRecord) : State :=
  if s.engaging h then s
  else if r.engaged = s.engagedHead h then s
  else if s.engagedHead h then s.issueLower h (s.headAt h).state false false
  else s.issueLift h (s.headAt h).state false

/-- A status record is accepted (R106): stored, and handed to the Run Controller, the Thread Change Unit and
the Thread Monitor, each for its own state; then the engagement is compared (R109). Log 5 for the order. -/
def State.acceptRecord (s : State) (h : Nat) (r : StatusRecord) (queued : Bool) : State :=
  (((((s.storeRecord h r).takeNeedle h r).changeRecord h r queued).watchRecord h r).resync h r)

/-- An answered probe (R111, R110, R141): the loss is cleared, the record handed on, the repair made. An OFF
head is not repaired. -/
def State.probeAnswered (s : State) (h : Nat) (r : StatusRecord) : State :=
  let s := (s.clearLoss h).acceptRecord h r false
  if (s.headAt h).state = .off then s else s.repair h

/-- The result of an answered transaction (R106). -/
def State.answered (s : State) (t : Transaction) (r : StatusRecord) : State :=
  match t.kind with
  | .command .poll => s.acceptRecord t.head r true
  | .command w => s.acknowledged t.head w
  | .probe => s.probeAnswered t.head r
  | .roundPoll => s.acceptRecord t.head r false

/-- Does the transaction bring a status record? -/
def TransactionKind.bringsRecord (k : TransactionKind) : Bool :=
  match k with
  | .command w => w.isPoll
  | .probe => true
  | .roundPoll => true

/-- Command HEAD_ANSWER (R103, R106): an answer that fails the check word or names another head is discarded.
After a RESET the result is reported to no block, but a record is stored (R112), not compared with the head table
(log 89), and no needle or last known case position is taken from it (R23, R120; log 93). -/
def execHeadAnswer (head : Nat) (checkOk : Bool) (record : StatusRecord) (s : State) :
    Host.Outcome State Fault Refusal :=
  .next (match s.bus.inFlight with
    | none => s
    | some t =>
      if checkOk = false ∨ head ≠ t.head then s
      else
        let s := s.endTransaction
        if t.reported then
          ((s.modLink t.head (fun l => { l with timeouts := 0 })).answered t record).finish
        else (if t.kind.bringsRecord then s.storeRecord t.head record else s).finish)

/-! ## Timeouts (R103, R110) -/

/-- A head is lost (R110): the transaction ends unanswered, its queued commands are reported not delivered,
the lost flag is set and the probe request cleared, and the loss is raised. -/
def State.headLost (s : State) (t : Transaction) : State :=
  let s := s.endTransaction
  let s := match t.kind.work? with
    | some w => s.notDelivered ⟨t.head, w⟩
    | none => s
  let s := s.purge t.head
  let s := (s.setBus (s.bus.passOver t.head)).modLink t.head (fun l => { l with lost := true, probe := false })
  (s.handOver t.head).raiseFault t.head .lost

/-- A timed-out attempt (R103): retried at once with the mark of R100, or the head is lost. A run count set to 0
between two attempts (R110) lets the attempts go on from there (log 63). -/
def State.timedOut (s : State) (t : Transaction) : State :=
  let s := s.modLink t.head (fun l => { l with timeouts := l.timeouts + 1 })
  if (s.linkAt t.head).timeouts < 3 then
    s.setBus { s.bus with inFlight := some { t with attempt := t.attempt + 1, mark := t.mark.retry } }
  else s.headLost t

/-- Command HEAD_ATTEMPT_TIMEOUT (R103, R110; R112 after a RESET). -/
def execHeadAttemptTimeout (s : State) : Host.Outcome State Fault Refusal :=
  .next (match s.bus.inFlight with
    | none => s
    | some t => (if t.reported then s.timedOut t else s.endTransaction).finish)

/-! ## Timers -/

/-- Command REST_TIMER_EXPIRY (R108): a round is due, and the timer restarts from a full period. -/
def execRestTimerExpiry (s : State) : Host.Outcome State Fault Refusal :=
  .next (if s.bus.restTimer.isSome then
      let s := s.roundDue
      (s.setBus { s.bus with restTimer := some s.cfg.pollPeriod }).finish
    else s)

/-- Command TRIM_TIMER_EXPIRY (R117, R118). -/
def execTrimTimerExpiry (head : Nat) (s : State) : Host.Outcome State Fault Refusal :=
  .next (s.trimExpired head).finish

/-- Command CASE_TIMER_EXPIRY (R120, R121). -/
def execCaseTimerExpiry (head : Nat) (s : State) : Host.Outcome State Fault Refusal :=
  .next (s.caseExpired head).finish

end Sys2Proof.Machine
end

