-- ==== Sys2Proof/Machine/FrameEvents.lean ====
section
/-!
DEFINITION. The frame's events (04): moves, segments, re-seats and homing, and the expiry of the warning
hold (R14). Commands STITCH_MOVE_COMPLETE, TRAVEL_SEGMENT_COMPLETE, RESEAT_COMPLETE, HOME_SENSOR_CHANGE,
HOME_BACKOFF_DONE, HOMING_TIMEOUT, WARNING_HOLD_EXPIRY.
-/

namespace Sys2Proof.Machine

/-- Command STITCH_MOVE_COMPLETE (R68): F, step count and residue take their new values, and a shaft that
waits on the move is started or restarted. -/
def execStitchMoveComplete (s : State) : Host.Outcome State Fault Refusal :=
  .next (if s.frame.stitch.isSome then s.completeMove.finish else s)

/-- Command TRAVEL_SEGMENT_COMPLETE (R76): the next segment begins or the travel ends under R78. -/
def execTravelSegmentComplete (s : State) : Host.Outcome State Fault Refusal :=
  .next (match s.frame.travel with
    | some t => if t.index.isSome then (s.completeSegment t).finish else s
    | none => s)

/-- Command RESEAT_COMPLETE (R82). -/
def execReseatComplete (axis : AxisName) (s : State) : Host.Outcome State Fault Refusal :=
  .next (if (s.frame.axis axis).reseating then (s.modAxis axis Axis.completeReseat).finish else s)

/-- The axis of a homing enters the next step, driven in this direction (R81). -/
def State.homingTo (s : State) (hm : Homing) (p : HomingPhase) (up : Bool) : State :=
  let s := s.modAxis hm.axis (fun x => { x with dirUp := up })
  s.setFrame { s.frame with homing := some { hm with phase := p } }

/-- What a sensor change means for a homing of its axis (R81). A change during the 20 units of step 1 is not waited
for and means nothing (log 59). -/
def State.sensorSeen (s : State) (hm : Homing) (active : Bool) : State :=
  match hm.phase with
  | .waiting => s
  | .away => if active then s else s.homingTo hm .backoff true
  | .backoff => s
  | .down => if active then (s.axisHomed hm.axis).finish else s

/-- Command HOME_SENSOR_CHANGE (R81): the input's new level, read only during the homing of its axis. -/
def execHomeSensorChange (axis : AxisName) (active : Bool) (s : State) : Host.Outcome State Fault Refusal :=
  let s := s.modAxis axis (fun x => { x with homeActive := active })
  .next (match s.frame.homing with
    | some hm => if hm.axis = axis then s.sensorSeen hm active else s
    | none => s)

/-- Command HOME_BACKOFF_DONE (R81, step 1): the 20 units are done, and the axis is driven downward until the sensor
next becomes active (log 59). -/
def execHomeBackoffDone (s : State) : Host.Outcome State Fault Refusal :=
  .next (match s.frame.homing with
    | some hm => if hm.phase = .backoff then s.homingTo hm .down false else s
    | none => s)

/-- Command HOMING_TIMEOUT (R81): the axis stays unreferenced and the homing ends. -/
def execHomingTimeout (s : State) : Host.Outcome State Fault Refusal :=
  .next (match s.frame.homing with
    | some hm =>
      if hm.phase = .waiting then s else (s.endHoming.post .homeFailed 0 (axisNumber hm.axis)).finish
    | none => s)

/-- Command WARNING_HOLD_EXPIRY (R14): the start sequence begins its steps. -/
def execWarningHoldExpiry (s : State) : Host.Outcome State Fault Refusal :=
  .next (if s.run.activity = .hold then (s.doing .dueTravel).finish else s)

end Sys2Proof.Machine
end

