-- ==== Sys2Proof/Machine/Halt.lean ====
section
/-!
DEFINITION. Emergency stop and power-on (05 R95 to R97, 11 R175). Commands ESTOP_ASSERT, ESTOP_NEGATE,
POWER_ON, and the request CLEAR HALT.
-/

namespace Sys2Proof.Machine

/-- The state that CLEAR HALT will return to, and the cause it will carry (R96). -/
def State.haltPlan (s : State) : RunState × Option StopCause :=
  let start : RunState × Option StopCause :=
    if s.run.startReturn = some .idle then (.idle, none) else (.paused, some .estop)
  match s.run.state with
  | .unconfigured => (.unconfigured, s.run.cause)
  | .idle => (.idle, s.run.cause)
  | .finished => (.finished, s.run.cause)
  | .paused => (.paused, s.run.cause)
  | .arming => start
  | .travelling =>
    match s.run.activity with
    | .returnTravel => start
    | .patchTravel => (.paused, some .estop)
    | _ => if s.run.travelReturn = some .paused then (.paused, s.run.cause) else (.idle, none)
  | .changing => if s.run.activity.starting then start else (.paused, some .estop)
  | .running => (.paused, some .estop)
  | .stopping => (.paused, some .estop)
  | .waiting => (.paused, some .estop)
  | .halted => (s.run.haltReturn.getD .idle, s.run.cause)

/-- The run becomes HALTED with the plan recorded (R95, R96). -/
def State.enterHalt (s : State) : State :=
  let plan := s.haltPlan
  s.setRun { s.run.ended with state := .halted, haltReturn := some plan.1, cause := plan.2 }

/-- The Shaft Unit at an emergency stop (R95, R91): braked at once, Halt added, Rest kept. -/
def State.haltShaft (s : State) : State :=
  s.brakeAtOnce.modLockout (fun l => { Lockout.empty with rest := l.rest, halt := true })

/-- The value of HALTED (R95): 1 for a return PAUSED with ESTOP. -/
def haltedValue (r : Run) : Nat := if r.haltReturn = some .paused ∧ r.cause = some .estop then 1 else 0

/-- The machine halts (R95), with the steps of a move in flight that have been issued by then on each axis
(R82). A CONTROLLED RESET in progress takes effect after it. -/
def State.emergencyStop (s : State) (nx ny : Nat) : State :=
  let s := s.haltShaft.govAtRest
  let s := s.setFrame (s.frame.halt nx ny)
  let s := s.enterHalt.clearWork
  let s := s.post .halted 0 (haltedValue s.run)
  s.pendingReset

/-- Command ESTOP_ASSERT (R95): no further effect while the input is asserted or the run HALTED. -/
def execEstopAssert (xSteps ySteps : Nat) (s : State) : Host.Outcome State Fault Refusal :=
  let before := s.shaft.estop
  let s := s.setShaft { s.shaft with estop := true }
  .next (if before = true ∨ s.run.state = .halted then s else (s.emergencyStop xSteps ySteps).finish)

/-- Command ESTOP_NEGATE (R95): only the level of the input changes. -/
def execEstopNegate (s : State) : Host.Outcome State Fault Refusal :=
  .next (s.setShaft { s.shaft with estop := false })

/-- CLEAR HALT (R97): in HALTED with the input negated, the Halt reason goes and the run returns as recorded;
a head between LOWER and LIFT takes the state of its last answered command. The joins that wait are resolved as in
PAUSED (R144), each with the release evaluation of the gap it closes (R45; log 74 for R30's store "as it was"); a return to
IDLE keeps them waiting (log 91). A patch
pass that lost its last selected gap while HALTED ends (R154, log 65), and its LIFTs go out (R105). -/
def serveClearHalt (s : State) : Served :=
  if s.run.state = .halted then
    if s.shaft.estop then refuse s .busy
    else
      let s := s.modLockout (fun l => { l with halt := false })
      let back := s.run.haltReturn.getD .idle
      let s := (s.setRun { s.run with state := back, haltReturn := none }).applyAcked
      let s := if back = .paused then s.resolveJoins else s
      taken (if back = .paused ∧ s.run.cause = some .estop then s.post .stopped 0 StopCause.estop.code else s).endPatchIfEmpty.finish
  else taken s

/-- Command CLEAR_HALT (R97). -/
def execClearHalt (src : Sender) (s : State) : Host.Outcome State Fault Refusal :=
  .next (s.takeRequest src serveClearHalt)

/-- Command POWER_ON (R175, R158, R86): straps and inputs read, every block at its power-on values; an
emergency stop already asserted acts at once (R95). The commands that wait are not the machine's and stay, as
does the count of free values. -/
def execPowerOn (rateStraps addressStraps : Nat) (hostReady estop homeX homeY : Bool) (s : State) :
    Host.Outcome State Fault Refusal :=
  let t := ((State.atPowerOn rateStraps addressStraps hostReady homeX homeY).setPending s.pending).setFree s.free
  .next (if estop then (t.setShaft { t.shaft with estop := true }).emergencyStop 0 0 else t)

end Sys2Proof.Machine
end

