-- ==== Sys2Proof/Machine/DesignRequests.lean ====
section
/-!
DEFINITION. The requests of the design (02): OPEN DESIGN, DESIGN BLOCK, DISCARD DESIGN, and the resume of a
WAITING run that an accepted block may bring (R20).
-/

namespace Sys2Proof.Machine

/-! ## OPEN DESIGN and DISCARD DESIGN (R31, R32) -/

/-- The Run Controller after OPEN DESIGN and DISCARD DESIGN (Table 1-2, last column). -/
def Run.atOpen (r : Run) : Run :=
  { r.ended with
    state := .idle, pass := .main, mainCursor := 0, patchCursor := none, cause := none, segmentStart := 0
    tieIn := 0, passReturn := none, patchDone := none, patchSewn := 0 }

/-- What OPEN DESIGN and DISCARD DESIGN have in common: the gaps removed unsewn, the heads IDLE, the run
attributes, the empty store, the empty window (R31, R32, R1, R23, R49). The Thread Monitor keeps its items (R130). -/
def State.dropDesign (s : State) (d : DesignState) : State :=
  let s := s.idleAll.setGaps []
  let s := (s.setRun s.run.atOpen).clearStore d
  s.setGov { s.gov with window := [] }

/-- OPEN DESIGN (R31). -/
def serveOpenDesign (s : State) : Served :=
  if s.run.state = .idle ∨ s.run.state = .finished then
    let s := s.dropDesign .loading
    let s := s.setChange { s.change with map := defaultMap, waiting := [] }
    let s := s.setFrame { s.frame with origin := none }
    let s := s.setLink { s.link with progressCount := 0 }
    taken (s.grantBlocks (min 8 s.store.freeCount)).finish
  else refuse s .busy

/-- The join pending flags are cleared with the design's gaps (R144, DISCARD DESIGN). -/
def State.clearJoins (s : State) : State :=
  s.setMonitor { s.monitor with heads := s.monitor.heads.map (fun w => { w with joining := false }) }

/-- DISCARD DESIGN (R32): the colour map and the origin are kept, and the joins waiting are cleared with the
gaps (R144). -/
def serveDiscardDesign (s : State) : Served :=
  if s.run.state = .idle ∨ s.run.state = .paused ∨ s.run.state = .finished then
    taken (s.dropDesign .absent).clearJoins.finish
  else refuse s .busy

/-- Command OPEN_DESIGN (R31). -/
def execOpenDesign (src : Sender) (s : State) : Host.Outcome State Fault Refusal :=
  .next (s.takeRequest src serveOpenDesign)

/-- Command DISCARD_DESIGN (R32). -/
def execDiscardDesign (src : Sender) (s : State) : Host.Outcome State Fault Refusal :=
  .next (s.takeRequest src serveDiscardDesign)

/-! ## DESIGN BLOCK (R33 to R38) -/

/-- Motion records in the held slots from an index on (R20). -/
def State.motionAhead (s : State) : Nat :=
  (s.store.slots.map (fun sl =>
    if sl.state = .free then 0
    else (sl.records.drop (s.run.mainCursor - sl.firstIndex)).countP (fun r => (motionOf r).isSome
      && s.run.mainCursor < sl.firstIndex + sl.records.length))).sum

/-- May a WAITING run resume by itself (R20)? -/
def State.mayResume (s : State) : Bool :=
  (16 ≤ s.motionAhead || (s.store.design == .complete && s.run.mainCursor < s.store.filledEnd))
    && !s.heldFault && s.anyAble

/-- A WAITING run resumes by itself when it may (R20): the cause is cleared, and the joins that wait are made
first (R144). -/
def State.tryResume (s : State) : State :=
  if s.run.state = .waiting ∧ s.mayResume = true then
    (s.setRun { s.run with cause := none }).aboutToRun .fromWaiting
  else s

/-- The sequence number of a block's body. -/
def blockSeq (body : List Byte) : Nat := twoAt body 0

/-- The LAST flag of a block's body. -/
def blockLast (body : List Byte) : Bool := byteAt body 2 % 2 == 1

/-- The records of a block in the form that R34 asks for. -/
def blockForm (body : List Byte) : Option (List DesignRecord) :=
  match blockRecords body with
  | some rs => if endRecordRight (blockLast body) rs then some rs else none
  | none => none

/-- Does a block of these records keep indices and design positions in range (R35)? -/
def State.blockInRange (s : State) (rs : List DesignRecord) : Bool :=
  s.store.filledEnd + rs.length ≤ Config.recordLimit && positionsInDesign s.tailStamp rs

/-- The checks of R33: the code of the first that fails. -/
def State.blockRefused (s : State) (body : List Byte) : Option ResultCode :=
  if body.length < 4 then some .format
  else if s.store.design ≠ .loading then some .busy
  else if s.store.granted = 0 then some .notGranted
  else if blockSeq body ≠ s.store.nextSeq then some .outOfOrder
  else none

/-- The main cursor, waiting at the filled end, stands in the block just accepted: it has entered a record of a
different block (R45, R46), and pacing has been evaluated already. Log 49. -/
def State.enterAccepted (s : State) (waited : Bool) : State := if waited then s.release else s

/-- A block that passes is accepted with its SPEED records clamped (R36 to R38); pacing follows (R41), a cursor that
waited for it enters it, the governor extends its window (R53), and a WAITING run looks again (R20). -/
def State.takeBlock (s : State) (body : List Byte) (rs : List DesignRecord) : State :=
  let t := (s.openWindowEnd.acceptBlock (blockSeq body) (blockLast body) (rs.map s.cfg.clampRecord)).pace
  ((t.enterAccepted (s.run.mainCursor == s.store.filledEnd)).refreshWindow.tryResume).finish

/-- DESIGN BLOCK (R33 to R38). -/
def serveDesignBlock (body : List Byte) (s : State) : Served :=
  match s.blockRefused body with
  | some c => refuse s c
  | none =>
    match blockForm body with
    | none => refuse s .format
    | some rs =>
      if s.blockInRange rs then
        (s.takeBlock body rs, some (Reply.plain (if rs.map s.cfg.clampRecord = rs then .ok else .clamped)))
      else refuse s .range

/-- Command DESIGN_BLOCK (R36). -/
def execDesignBlock (src : Sender) (body : List Byte) (s : State) : Host.Outcome State Fault Refusal :=
  .next (s.takeRequest src (serveDesignBlock body))

end Sys2Proof.Machine
end

