-- ==== Sys2Proof/Machine/RunRequests.lean ====
section
/-!
DEFINITION. The run requests (01): START, RESUME, STEP, RUN TO MARK, STOP, SET MODE, HEAD ON, HEAD OFF.
-/

namespace Sys2Proof.Machine

/-! ## Conditions of a start (R12, R13) -/

/-- Is the record at an index a field-limit or guard-zone stop point (R12, R13)? -/
def State.outOfBounds (s : State) (i : Nat) : Bool :=
  match s.store.recordAt i with
  | some (.stitch dx dy) => (s.judgeMotion i dx dy true).isSome
  | some (.jump dx dy) => (s.judgeMotion i dx dy false).isSome
  | some .trim => false
  | some (.colour _) => false
  | some (.speed _) => false
  | some .stop => false
  | some (.mark _) => false
  | some .finish => false
  | none => false

/-- Conditions 3 to 7 of R12: the code of the first that fails. -/
def State.startRefused (s : State) : Option ResultCode :=
  if s.store.design = .absent ∨ s.store.recordAt 0 = none then some .noData
  else if !(s.frame.referenced && s.shaft.referenced) then some .notReferenced
  else if s.heldFault then some .faultPending
  else if !s.anyAble then some .notConfigured
  else if s.outOfBounds s.cursor then some .range
  else none

/-- Does a record lie at or after the cursor in the filled records (R13, condition 5)? -/
def State.dataAtCursor (s : State) : Bool :=
  s.store.slots.any (fun sl => sl.state != .free && s.cursor < sl.firstIndex + sl.records.length)

/-- Conditions 3 to 7 of R13: the code of the first that fails. -/
def State.resumeRefused (s : State) : Option ResultCode :=
  if s.heldFault then some .faultPending
  else if !s.frame.referenced then some .notReferenced
  else if !s.dataAtCursor then some .noData
  else if !s.anyAble then some .notConfigured
  else if s.outOfBounds s.cursor then some .range
  else none

/-- The conditions that follow from the run state: those of R12 in IDLE, those of R13 in PAUSED, BUSY in every
other state but UNCONFIGURED, which is refused first (R2). `modeRight` is condition 2. -/
def State.runRefused (s : State) (modeRight : Bool) : Option ResultCode :=
  if s.run.state = .unconfigured then some .notConfigured
  else if s.run.state = .idle then (if modeRight then s.startRefused else some .busy)
  else if s.run.state = .paused then (if modeRight then s.resumeRefused else some .busy)
  else some .busy

/-- The value that RUN STARTED will carry for START, RESUME and RUN TO MARK (Table 1-5). -/
def State.startedValue (s : State) : Nat := if s.run.state = .idle then 1 else 2

/-- START (R12; in PAUSED as a RESUME). -/
def serveStart (s : State) : Served :=
  match s.runRefused (s.run.mode != .single) with
  | some c => refuse s c
  | none => taken (s.beginStart s.startedValue false false)

/-- RESUME (R13). -/
def serveResume (s : State) : Served :=
  if s.run.state = .idle then refuse s .busy
  else match s.runRefused (s.run.mode != .single) with
    | some c => refuse s c
    | none => taken (s.beginStart 2 false false)

/-- STEP (R21): in SINGLE mode only. A STEP from PAUSED with cause STEP keeps the tie-in count. -/
def serveStep (s : State) : Served :=
  match s.runRefused (s.run.mode == .single) with
  | some c => refuse s c
  | none => taken (s.beginStart 3 true (s.run.state == .paused && s.run.cause == some .step))

/-- RUN TO MARK (R22). -/
def serveRunToMark (label : Nat) (s : State) : Served :=
  match s.runRefused (s.run.mode != .single) with
  | some c => refuse s c
  | none => taken ((s.setRun { s.run with mark := some label }).beginStart s.startedValue false false)

/-- Command START (R12). -/
def execStart (src : Sender) (s : State) : Host.Outcome State Fault Refusal := .next (s.takeRequest src serveStart)

/-- Command RESUME (R13). -/
def execResume (src : Sender) (s : State) : Host.Outcome State Fault Refusal := .next (s.takeRequest src serveResume)

/-- Command STEP (R21). -/
def execStep (src : Sender) (s : State) : Host.Outcome State Fault Refusal := .next (s.takeRequest src serveStep)

/-- Command RUN_TO_MARK (R22). -/
def execRunToMark (src : Sender) (label : Nat) (s : State) : Host.Outcome State Fault Refusal :=
  .next (s.takeRequest src (serveRunToMark label))

/-! ## STOP (R16) -/

/-- A STOP ends a homing with HOME FAILED value 3 or 4 (R81). -/
def State.stopHoming (s : State) : State :=
  match s.frame.homing with
  | some hm => s.endHoming.post .homeFailed 0 (axisNumber hm.axis + 2)
  | none => s

/-- STOP (R16): homing and referencing end, the travel of MOVE FRAME, BACK and FORWARD ends after its segment,
and a run is stopped with cause HOST. -/
def serveStop (s : State) : Served :=
  let s := s.stopHoming.stopOrder .host
  let s := if s.run.activity = .hostTravel then s.askTravelStop else s
  let s := if s.shaft.state = .referencing then s.stopReferencing else s
  taken s.finish

/-- Command STOP (R16): acted on when broadcast too. -/
def execStop (src : Sender) (s : State) : Host.Outcome State Fault Refusal := .next (s.takeBoth src serveStop)

/-! ## SET MODE (R19) -/

/-- The run mode of a code. -/
def runModeOf (n : Nat) : Option RunMode :=
  match n with
  | 0 => some .single
  | 1 => some .burst
  | 2 => some .continuous
  | _ => none

/-- Are SET MODE, SET POLICY and the groups MODE and POLICY taken now (R19, R138, R173)? -/
def State.settable (s : State) : Bool := s.run.state == .idle || s.run.state == .paused

/-- SET MODE and the MODE group (R19): the run state is checked before the value. -/
def serveSetMode (mode : Nat) (s : State) : Served :=
  if s.settable then
    match runModeOf mode with
    | some m => taken (s.setRun { s.run with mode := m })
    | none => refuse s .range
  else refuse s .busy

/-- Command SET_MODE (R19). -/
def execSetMode (src : Sender) (mode : Nat) (s : State) : Host.Outcome State Fault Refusal :=
  .next (s.takeRequest src (serveSetMode mode))

/-! ## HEAD ON and HEAD OFF (R24) -/

/-- An OFF head becomes IDLE, polled afresh (R24, R100, R110). -/
def State.bringOn (s : State) (h : Nat) : State :=
  (s.clearLoss h).modHead h (fun e => { e with state := .idle })

/-- HEAD ON for one head (R24): no effect unless the head is OFF; its countdown is loaded (R132). -/
def State.headOnEffect (s : State) (h : Nat) : State :=
  if (s.headAt h).state = .off then
    (s.bringOn h).modWatch h (fun w => { w with countdown := s.cfg.thread.breakB })
  else s

/-- HEAD OFF for one head (R24, R110, R153): lifted if engaged, its fault cleared, its OPEN gap closed at the
main cursor, its selected gaps out of a paused patch pass. -/
def State.headOffEffect (s : State) (h : Nat) : State :=
  if (s.headAt h).state = .off then s
  else
    let wasEngaged := s.engagedHead h
    let s := (s.setHeadState h .off).modWatch h (fun w => { w with fault := none, joining := false })
    let s := ((s.setBus (s.bus.passOver h)).clearLoss h).closeGap h
    let s := if wasEngaged then s.issueLift h .off false else s
    if s.run.pass = .patch then (s.deselect (fun g => g.head == h) s.cursor).endPatchIfOver else s

/-- HEAD ON (R24). -/
def serveHeadOn (head : Nat) (s : State) : Served :=
  if !s.settable then refuse s .busy
  else if validHead head && head ≤ s.cfg.machine.headCount then taken (s.headOnEffect head).finish
  else refuse s .range

/-- HEAD OFF (R24). -/
def serveHeadOff (head : Nat) (s : State) : Served :=
  if !s.settable then refuse s .busy
  else if validHead head then taken (s.headOffEffect head).finish
  else refuse s .range

/-- Command HEAD_ON (R24). -/
def execHeadOn (src : Sender) (head : Nat) (s : State) : Host.Outcome State Fault Refusal :=
  .next (s.takeRequest src (serveHeadOn head))

/-- Command HEAD_OFF (R24). -/
def execHeadOff (src : Sender) (head : Nat) (s : State) : Host.Outcome State Fault Refusal :=
  .next (s.takeRequest src (serveHeadOff head))

end Sys2Proof.Machine
end

