-- ==== Sys2Proof/Machine/MotionRequests.lean ====
section
/-!
DEFINITION. The requests that move frame and shaft outside a run (03, 04, 05): SPEED CEILING, SET ORIGIN,
HOME FRAME, REFERENCE SHAFT, MOVE FRAME.
-/

namespace Sys2Proof.Machine

/-- SPEED CEILING (R57): the value clamped into crawl..machine max, CLAMPED when it lay outside. -/
def serveSpeedCeiling (rpm : Nat) (s : State) : Served :=
  let v := clampSpeed s.cfg.speeds rpm
  (s.setGov { s.gov with ceiling := v }, some (Reply.plain (if v = rpm then .ok else .clamped)))

/-- Command SPEED_CEILING (R57). -/
def execSpeedCeiling (src : Sender) (rpm : Nat) (s : State) : Host.Outcome State Fault Refusal :=
  .next (s.takeRequest src (serveSpeedCeiling rpm))

/-- SET ORIGIN (R74): in IDLE with both axes referenced, the origin is the current F. -/
def serveSetOrigin (s : State) : Served :=
  if s.run.state ≠ .idle then refuse s .busy
  else if !s.frame.referenced then refuse s .notReferenced
  else taken (s.setFrame { s.frame with origin := some s.frame.pos })

/-- Command SET_ORIGIN (R74). -/
def execSetOrigin (src : Sender) (s : State) : Host.Outcome State Fault Refusal :=
  .next (s.takeRequest src serveSetOrigin)

/-- An axis whose homing is asked for: unreferenced, its off-path flag clear without a re-seat (R80, R82).
The step count of an interrupted axis stays as it was counted (log 86). -/
def Axis.unhomed (a : Axis) : Axis := { a with referenced := false, offPath := none }

/-- The homing of both axes begins with X (R80); it waits for a stitch move still in flight (R68). -/
def State.startHoming (s : State) : State :=
  (s.setFrame { s.frame with
    x := s.frame.x.unhomed, y := s.frame.y.unhomed, homing := some ⟨.x, .waiting⟩ }).modLockout
    (fun l => { l with homing := true })

/-- HOME FRAME (R80; R92 for a referencing in progress, judged after NOT CONFIGURED: log 88). -/
def serveHomeFrame (s : State) : Served :=
  if s.run.state = .unconfigured ∧ s.cfg.machineSet = false then refuse s .notConfigured
  else if s.run.state ≠ .unconfigured ∧ s.run.state ≠ .idle ∧ s.run.state ≠ .paused then refuse s .busy
  else if s.frame.homing.isSome ∨ s.shaft.state = .referencing then refuse s .busy
  else taken s.startHoming.finish

/-- Command HOME_FRAME (R80). -/
def execHomeFrame (src : Sender) (s : State) : Host.Outcome State Fault Refusal :=
  .next (s.takeRequest src serveHomeFrame)

/-- REFERENCE SHAFT (R92). -/
def serveReferenceShaft (s : State) : Served :=
  if s.run.state = .unconfigured ∧ s.cfg.speedsSet = false then refuse s .notConfigured
  else if s.run.state ≠ .unconfigured ∧ s.run.state ≠ .idle ∧ s.run.state ≠ .paused ∧ s.run.state ≠ .finished then
    refuse s .busy
  else if s.shaft.state = .referencing ∨ s.frame.travel.isSome ∨ s.frame.homing.isSome then refuse s .busy
  else taken (s.beginReferencing true)

/-- Command REFERENCE_SHAFT (R92). -/
def execReferenceShaft (src : Sender) (s : State) : Host.Outcome State Fault Refusal :=
  .next (s.takeRequest src serveReferenceShaft)

/-- A travel that the host asked for begins (R76 to R78): the state it is made from is recorded. -/
def State.hostTravel (s : State) (legs : List Point) : State :=
  (s.setRun { s.run with state := .travelling, travelReturn := some s.run.state, activity := .hostTravel }).beginTravel legs

/-- MOVE FRAME (R77; R92 for a referencing in progress). -/
def serveMoveFrame (dx dy : Int) (s : State) : Served :=
  let target := s.frame.pos.add ⟨dx, dy⟩
  if !s.settable || s.shaft.state == .referencing then refuse s .busy
  else if !s.frame.referenced then refuse s .notReferenced
  else if !(inField s.cfg.machine target) then refuse s .range
  else taken (s.hostTravel [target]).finish

/-- Command MOVE_FRAME (R77). -/
def execMoveFrame (src : Sender) (dx dy : Int) (s : State) : Host.Outcome State Fault Refusal :=
  .next (s.takeRequest src (serveMoveFrame dx dy))

end Sys2Proof.Machine
end

