-- ==== Sys2Proof/Machine/HeadRequests.lean ====
section
/-!
DEFINITION. The requests about heads (07, 08): MAP COLOUR, BOBBIN SET, SET POLICY, REPAIR DONE.
-/

namespace Sys2Proof.Machine

/-! ## MAP COLOUR (R115) -/

/-- Makes a needle pending for a slot and head, or clears the pending entry when the map has it already. -/
def ThreadChange.pend (c : ThreadChange) (slot h needle : Nat) : ThreadChange :=
  let others := c.waiting.filter (fun p => !(p.slot == slot && p.head == h))
  { c with waiting := if c.mapAt slot h = needle then others else others ++ [⟨slot, h, needle⟩] }

/-- One needle of MAP COLOUR (R115): pending for a head engaged with the slot in force at the cursor that it sews
for, in every run state, so also for one still SEWING in IDLE or FINISHED (log 69); written at once otherwise. Log 51
and log 52 for what is in force while an engagement changes. -/
def State.mapNeedle (s : State) (slot h needle : Nat) : State :=
  if s.engagedHead h && s.sewsFor h == slot then s.setChange (s.change.pend slot h needle)
  else s.setChange (s.change.write slot h needle)

/-- The eight needles of MAP COLOUR, in head order. -/
def State.mapNeedles (s : State) (slot : Nat) (needles : List Nat) : State :=
  headNumbers.foldl (fun s h => s.mapNeedle slot h (needles.getD (h - 1) 0)) s

/-- MAP COLOUR (R115): the run state is checked before the values. -/
def serveMapColour (slot : Nat) (needles : List Nat) (s : State) : Served :=
  if s.run.state = .changing then refuse s .busy
  else if 63 < slot ∨ needles.any (fun n => 12 < n) = true then refuse s .range
  else taken (s.mapNeedles slot needles)

/-- Command MAP_COLOUR (R115). -/
def execMapColour (src : Sender) (slot : Nat) (needles : List Nat) (s : State) : Host.Outcome State Fault Refusal :=
  .next (s.takeRequest src (serveMapColour slot needles))

/-! ## BOBBIN SET (R133) -/

/-- The bobbin counter of a head is set and both posted flags are cleared; a count at or below the warn level
is reported at once (R133). -/
def State.setBobbin (s : State) (h count : Nat) : State :=
  let s := s.modWatch h (fun w => { w with bobbin := count, countLow := false, sensorLow := false })
  if 0 < count then s.judgeBobbin h else s

/-- BOBBIN SET (R133). -/
def serveBobbinSet (head count : Nat) (s : State) : Served :=
  if validHead head then taken (s.setBobbin head count) else refuse s .range

/-- Command BOBBIN_SET (R133). -/
def execBobbinSet (src : Sender) (head count : Nat) (s : State) : Host.Outcome State Fault Refusal :=
  .next (s.takeRequest src (serveBobbinSet head count))

/-! ## SET POLICY (R138) -/

/-- The policy of a code. -/
def policyOf (n : Nat) : Option Policy :=
  match n with
  | 0 => some .stopAll
  | 1 => some .dropOut
  | _ => none

/-- SET POLICY and the POLICY group (R138): the run state is checked before the value. -/
def serveSetPolicy (policy : Nat) (s : State) : Served :=
  if s.settable then
    match policyOf policy with
    | some p => taken (s.setMonitor { s.monitor with policy := p })
    | none => refuse s .range
  else refuse s .busy

/-- Command SET_POLICY (R138). -/
def execSetPolicy (src : Sender) (policy : Nat) (s : State) : Host.Outcome State Fault Refusal :=
  .next (s.takeRequest src (serveSetPolicy policy))

/-! ## REPAIR DONE (R141, R111) -/

/-- A probe is asked for (R111): one already asked for is left as it is. -/
def HeadLink.askProbe (l : HeadLink) : HeadLink :=
  if l.probe then l else { l with probe := true, nextMark := .fresh }

/-- REPAIR DONE (R141): nothing for an OFF head, a probe for a head with its lost flag set, the repair at once
for any other. -/
def serveRepairDone (head : Nat) (s : State) : Served :=
  if !(validHead head) then refuse s .range
  else if (s.headAt head).state = .off then taken s
  else if (s.linkAt head).lost then taken (s.modLink head HeadLink.askProbe).finish
  else taken (s.repair head).finish

/-- Command REPAIR_DONE (R141). -/
def execRepairDone (src : Sender) (head : Nat) (s : State) : Host.Outcome State Fault Refusal :=
  .next (s.takeRequest src (serveRepairDone head))

end Sys2Proof.Machine
end

