-- ==== Sys2Proof/Machine/GapRequests.lean ====
section
/-!
DEFINITION. The requests about gaps and backtrack (09): SEW GAPS, ABANDON GAP, BACK, FORWARD.
-/

namespace Sys2Proof.Machine

/-! ## SEW GAPS (R150) -/

/-- Is the gap selectable (R150, condition 3)? -/
def State.selectable (s : State) (g : Gap) : Bool :=
  g.state == .closed && (s.headAt g.head).state != .off && (s.headAt g.head).state != .lost
    && (s.watchAt g.head).fault.isNone

/-- The smallest start among the selectable gaps. -/
def State.firstSelectable (s : State) : Option Nat := ((s.gaps.filter s.selectable).map Gap.start).min?

/-- Has a head whose selectable gap starts there a needle for the gap's colour (R150, condition 6)? -/
def State.firstGapSewable (s : State) (start : Nat) : Bool :=
  s.gaps.any (fun g => s.selectable g && g.start == start && s.change.needle g.colour g.head != 0)

/-- The conditions of R150 in their order: the start of the pass, or the code of the first that fails. -/
def State.sewGapsCheck (s : State) : Except ResultCode Nat :=
  if !((s.run.state == .paused && s.run.pass == .main) || s.run.state == .finished) || s.shaft.state == .referencing then
    .error .busy
  else if s.run.mode = .single then .error .busy
  else match s.firstSelectable with
    | none => .error .nothingToDo
    | some start =>
      if !s.frame.referenced then .error .notReferenced
      else if s.heldFault then .error .faultPending
      else if !(s.firstGapSewable start) then .error .notConfigured
      else if s.outOfBounds start then .error .range
      else .ok start

/-- The patch pass begins at this record (R150): the gaps are selected, the pass is PATCH, the return state is
recorded, and a RESUME is taken. -/
def State.beginPatch (s : State) (start : Nat) : State :=
  let s := s.setGaps (s.gaps.map (fun g => if s.selectable g then { g with state := .sewing } else g))
  let s := s.setRun { s.run with
    pass := .patch, patchCursor := none, passReturn := some s.run.state, state := .paused, patchSewn := 0, point := none }
  ((s.movePatch start).writePendings).beginStart 2 false false

/-- SEW GAPS (R150). -/
def serveSewGaps (s : State) : Served :=
  match s.sewGapsCheck with
  | .error c => refuse s c
  | .ok start => taken (s.beginPatch start)

/-- Command SEW_GAPS (R150). -/
def execSewGaps (src : Sender) (s : State) : Host.Outcome State Fault Refusal :=
  .next (s.takeRequest src serveSewGaps)

/-! ## ABANDON GAP (R155) -/

/-- The gaps of one head are given up (R155): CLOSED and SEWING gaps removed, an OPEN gap truncated to the main
cursor. The truncation is reported, with its release evaluation, also when the start does not rise (log 71). -/
def State.abandonHead (s : State) (h : Nat) : State :=
  let s := s.removeGaps (fun g => g.head == h && (g.state == .closed || g.state == .sewing))
  match s.openGap h with
  | some _ =>
    (s.setGaps (s.gaps.map (fun g =>
      if g.head == h && g.state == .opened then s.truncated g s.run.mainCursor else g))).release
  | none => s

/-- The heads that a head number of ABANDON GAP names: 0 is every head. -/
def abandonNames (head : Nat) : List Nat := if head = 0 then headNumbers else [head]

/-- ABANDON GAP (R155): the run state is checked before the head. A paused patch pass left with no selected gap
ends at once (R154). -/
def serveAbandonGap (head : Nat) (s : State) : Served :=
  if s.run.state ≠ .paused ∧ s.run.state ≠ .finished then refuse s .busy
  else if 8 < head then refuse s .range
  else taken ((abandonNames head).foldl State.abandonHead s).endPatchIfEmpty.finish

/-- Command ABANDON_GAP (R155). -/
def execAbandonGap (src : Sender) (head : Nat) (s : State) : Host.Outcome State Fault Refusal :=
  .next (s.takeRequest src (serveAbandonGap head))

/-! ## BACK (R156) -/

/-- Is it a COLOUR or a TRIM record? -/
def endsSegment (r : DesignRecord) : Bool :=
  match r with
  | .colour _ => true
  | .trim => true
  | .stitch _ _ => false
  | .jump _ _ => false
  | .speed _ => false
  | .stop => false
  | .mark _ => false
  | .finish => false

/-- The index after the last COLOUR or TRIM record before index `i`, looking no further back than `lowest`. -/
def State.segmentLimit (s : State) (lowest : Nat) : Nat → Nat
  | 0 => lowest
  | i + 1 =>
    if i < lowest then lowest
    else match s.store.recordAt i with
      | some r => if endsSegment r then i + 1 else s.segmentLimit lowest i
      | none => s.segmentLimit lowest i

/-- The limit of a BACK (R156): the greatest of the earliest retained record, the record after the last COLOUR
or TRIM, and the starts of the OPEN gaps. -/
def State.backLimit (s : State) : Nat :=
  let gapStart := s.gaps.foldl (fun m g => if g.state == .opened then max m g.start else m) 0
  max (s.segmentLimit s.earliestRetained s.run.mainCursor) gapStart

/-- The motion records from an index down to the limit, latest first, at most `n` of them. -/
def State.motionBack (s : State) (limit : Nat) : Nat → Nat → List Nat
  | 0, _ => []
  | i + 1, n =>
    if n = 0 ∨ i < limit then []
    else match s.store.recordAt i with
      | some r => if (motionOf r).isSome then i :: s.motionBack limit i (n - 1) else s.motionBack limit i n
      | none => s.motionBack limit i n

/-- The first leg of BACK and FORWARD: to the old cursor's position when the frame is off the path (R156,
R157), judged when the request is taken, before a stitch move still in flight completes (log 96). -/
def State.pathLeg (s : State) : List Point := if s.offPath then [s.framePosAt s.run.mainCursor] else []

/-- Are all these positions in the field (R156, R79)? -/
def State.allInField (s : State) (ps : List Point) : Bool := ps.all (inField s.cfg.machine)

/-- Takes the main cursor back to an index record by record, each block entered being reported (R156, R46). -/
def State.cursorBack (s : State) (new : Nat) : State :=
  (List.range (s.run.mainCursor - new)).foldl (fun s _ => s.moveMain (s.run.mainCursor - 1)) s

/-- Takes the main cursor forward to an index record by record (R157, R46). -/
def State.cursorForward (s : State) (new : Nat) : State :=
  (List.range (new - s.run.mainCursor)).foldl (fun s _ => s.moveMain (s.run.mainCursor + 1)) s

/-- CLOSED gaps that end above the new cursor are shortened to it; one left with no range is removed (R156). -/
def State.shortenGaps (s : State) (new : Nat) : State :=
  let s := s.setGaps (s.gaps.map (fun g =>
    if g.state == .closed && g.stopAt 0 > new then { g with stop := some (max g.start new) } else g))
  s.removeGaps (fun g => g.state == .closed && g.stop == some g.start)

/-- The reply of BACK and FORWARD: the count taken. -/
def countReply (k : Nat) : Option Reply := some ⟨.ok, be2 k⟩

/-- The checks that BACK and FORWARD share (R156): the code of the first that fails. -/
def State.backtrackRefused (s : State) (n : Nat) : Option ResultCode :=
  if s.run.state ≠ .paused ∨ s.run.pass ≠ .main ∨ s.shaft.state = .referencing then some .busy
  else if n = 0 then some .range
  else if !s.frame.referenced then some .notReferenced
  else none

/-- BACK (R156). Log 32 for the position of the old cursor. -/
def serveBack (n : Nat) (s : State) : Served :=
  match s.backtrackRefused n with
  | some c => refuse s c
  | none =>
    let passed := s.motionBack s.backLimit s.run.mainCursor n
    let legs := passed.map s.framePosAt
    if !(s.allInField legs) then refuse s .range
    else match passed.getLast? with
      | none => (s, countReply 0)
      | some new =>
        let path := s.pathLeg
        if !(s.allInField path) then refuse s .range
        else ((((s.cursorBack new).shortenGaps new).hostTravel (path ++ legs)).finish, countReply passed.length)

/-- Command BACK (R156). -/
def execBack (src : Sender) (n : Nat) (s : State) : Host.Outcome State Fault Refusal :=
  .next (s.takeRequest src (serveBack n))

/-! ## FORWARD (R157) -/

/-- The walk of FORWARD from an index over at most `n` motion records: where the cursor comes to stand, and the
motion records passed. The first number bounds the records looked at. -/
def State.walkForward (s : State) : Nat → Nat → Nat → Nat × List Nat
  | 0, i, _ => (i, [])
  | f + 1, i, n =>
    if n = 0 ∨ (s.stopKindAt i).isSome = true then (i, [])
    else match s.store.recordAt i with
      | some r =>
        if (motionOf r).isSome then
          let (j, l) := s.walkForward f (i + 1) (n - 1)
          (j, i :: l)
        else s.walkForward f (i + 1) n
      | none => (i, [])

/-- The target of the motion record at an index, as a frame absolute position. -/
def State.motionTarget (s : State) (i : Nat) : Point :=
  match (s.store.recordAt i).bind motionOf with
  | some (dx, dy) => (s.framePosAt i).add ⟨dx, dy⟩
  | none => s.framePosAt i

/-- FORWARD (R157). Log 32 for the position of the old cursor, log 92 for effect records before the stop point when
no motion record is passed. -/
def serveForward (n : Nat) (s : State) : Served :=
  match s.backtrackRefused n with
  | some c => refuse s c
  | none =>
    let walk := s.walkForward (s.store.filledEnd + 1 - s.run.mainCursor) s.run.mainCursor n
    match walk.2 with
    | [] => (s, countReply 0)
    | _ :: _ =>
      let path := s.pathLeg
      let legs := walk.2.map s.motionTarget
      if !(s.allInField path) then refuse s .range
      else (((s.cursorForward walk.1).hostTravel (path ++ legs)).finish, countReply walk.2.length)

/-- Command FORWARD (R157). -/
def execForward (src : Sender) (n : Nat) (s : State) : Host.Outcome State Fault Refusal :=
  .next (s.takeRequest src (serveForward n))

end Sys2Proof.Machine
end

