-- ==== Sys2Proof/Machine/Readout.lean ====
section
/-!
DEFINITION. What the host reads (10, R165, R166; 11, R176): STATUS, READ HEAD, READ GAPS and the read-back of
the configuration groups, in the layouts of Tables 10-8, 10-9 and 11-1.
-/

namespace Sys2Proof.Machine

/-! ## STATUS groups (Table 10-8) -/

/-- RUN. -/
def State.statusRun (s : State) : List Byte :=
  be1 s.run.state.code ++ be1 s.run.pass.code ++ be1 (causeCode s.run.cause) ++ be3 s.run.mainCursor
    ++ be3 (s.run.patchCursor.getD 0) ++ be1 s.run.mode.code ++ be1 s.shaft.state.code
    ++ flagByte s.shaft.referenced ++ flagByte s.shaft.estop

/-- SPEED (R65). -/
def State.statusSpeed (s : State) : List Byte :=
  be2 (s.gov.last.getD 0) ++ be2 (s.gov.bound.getD 0) ++ be2 s.effectiveCeiling ++ flagByte s.gov.derate

/-- The step count of an axis read with this free value: during a move it lies between its beginning and its
end, during a homing anywhere (R83, log 6). -/
def Axis.stepsRead (a : Axis) (free : Nat) : Int :=
  match a.move with
  | none => a.steps
  | some m =>
    match m.kind with
    | .homing => asSigned 4294967296 (free % 4294967296)
    | .stitch => a.steps + m.signed (max m.issued (free % (m.steps.natAbs + 1)))
    | .segment => a.steps + m.signed (max m.issued (free % (m.steps.natAbs + 1)))
    | .reseat => a.steps + m.signed (max m.issued (free % (m.steps.natAbs + 1)))

/-- One axis of FRAME, with the free value for its step count. -/
def Axis.bytes (a : Axis) (free : Nat) : List Byte := sbe2 a.pos ++ sbe4 (a.stepsRead free) ++ flagByte a.referenced

/-- The origin fields of FRAME; the four bytes of an origin that is not set are free values (log 7). -/
def State.originBytes (s : State) (freeX freeY : Nat) : List Byte :=
  match s.frame.origin with
  | some o => flagByte true ++ sbe2 o.x ++ sbe2 o.y
  | none => flagByte false ++ be2 (freeX % 65536) ++ be2 (freeY % 65536)

/-- FRAME (R83), with its four free values. -/
def State.statusFrame (s : State) : List Byte :=
  let f := fun n => Config.freeNat (s.free + n)
  s.frame.x.bytes (f 0) ++ s.frame.y.bytes (f 1) ++ s.originBytes (f 2) (f 3)

/-- The number of slots in a state. -/
def Store.countIn (st : Store) (k : SlotState) : Nat := st.slots.countP (fun sl => sl.state == k)

/-- STORE. -/
def State.statusStore (s : State) : List Byte :=
  be1 (s.store.countIn .free) ++ be1 (s.store.countIn .filled) ++ be1 (s.store.countIn .active)
    ++ be1 (s.store.countIn .retained) ++ be3 s.ahead ++ be1 s.store.granted ++ be2 s.store.nextSeq
    ++ be1 s.store.design.code

/-- HEADS. -/
def State.statusHeads (s : State) : List Byte :=
  headNumbers.flatMap (fun h =>
    be1 (s.headAt h).state.code ++ be1 (s.headAt h).needle ++ flagByte (s.watchAt h).warn)

/-- Handling code, HELD 0 and DROPPED 1. -/
def Handling.code : Handling → Nat
  | .held => 0 | .dropped => 1

/-- The handling byte of a pending fault; with no fault pending its value is free (log 7). -/
def handlingByte (f : Option PendingFault) (free : Nat) : List Byte :=
  match f with
  | some p => be1 p.handling.code
  | none => be1 (free % 256)

/-- FAULTS: per head the kind and the handling, then the overflow flag. Head `h` takes the free value number
`base + h`. -/
def State.statusFaults (s : State) (base : Nat) : List Byte :=
  headNumbers.flatMap (fun h =>
    be1 (faultCode (s.watchAt h).fault) ++ handlingByte (s.watchAt h).fault (Config.freeNat (s.free + base + h)))
    ++ flagByte s.link.overflow

/-- GAPS. -/
def State.statusGaps (s : State) : List Byte := be1 s.gaps.length

/-- LINK. -/
def State.statusLink (s : State) : List Byte := be2 s.link.errors

/-- Is group number `n` selected? An empty selection is RUN (R165). -/
def groupSelected (selection n : Nat) : Bool :=
  if selection % 256 = 0 then n == 0 else selection / 2 ^ n % 2 == 1

/-- The bytes of a group, when it is selected. -/
def groupBytes (selection n : Nat) (b : List Byte) : List Byte := if groupSelected selection n then b else []

/-- The data of a STATUS reply, the groups in their fixed order (R165). -/
def State.statusData (s : State) (selection : Nat) : List Byte :=
  groupBytes selection 0 s.statusRun ++ groupBytes selection 1 s.statusSpeed ++ groupBytes selection 2 s.statusFrame
    ++ groupBytes selection 3 s.statusStore ++ groupBytes selection 4 s.statusHeads
    ++ groupBytes selection 5 (s.statusFaults 4) ++ groupBytes selection 6 s.statusGaps
    ++ groupBytes selection 7 s.statusLink

/-- STATUS (R165): the overflow flag is cleared when FAULTS is selected (R163). Every STATUS counts the free
values it may have taken. -/
def serveStatus (selection : Nat) (s : State) : Served :=
  let cleared := if groupSelected selection 5 then s.setLink { s.link with overflow := false } else s
  (cleared.setFree (s.free + 16), some ⟨.ok, s.statusData selection⟩)

/-- Command STATUS (R165). -/
def execStatus (src : Sender) (selection : Nat) (s : State) : Host.Outcome State Fault Refusal :=
  .next (s.takeRequest src (serveStatus selection))

/-! ## READ HEAD and READ GAPS (R166, Table 10-9) -/

/-- The last status record, all 0 when none has been received. -/
def recordBytes (r : Option StatusRecord) : List Byte :=
  match r with
  | some r => be1 r.casePos ++ be1 (caseStateCode r.caseState) ++ be1 (trimStateCode r.trimState)
      ++ flagByte r.engaged ++ be1 r.penetrations ++ be2 r.feed ++ be1 r.tension ++ flagByte r.bobbinLow
  | none => List.replicate 9 0

/-- The data of a READ HEAD reply, with the free value of a handling byte that stands for no fault. -/
def State.readHeadData (s : State) (h : Nat) : List Byte :=
  let e := s.headAt h
  let l := s.linkAt h
  let w := s.watchAt h
  be1 e.state.code ++ be1 e.needle ++ be1 (engageCode e.queued) ++ flagByte l.lost ++ be1 l.timeouts
    ++ flagByte l.record.isSome ++ recordBytes l.record ++ be1 ((s.workAt h).lastKnown.getD 0)
    ++ be1 w.countdown ++ flagByte w.armed ++ be1 w.ownTieIn ++ be2 w.bobbin ++ flagByte w.countLow
    ++ flagByte w.sensorLow ++ be1 w.excursion ++ flagByte w.warn ++ be1 (faultCode w.fault)
    ++ handlingByte w.fault (Config.freeNat s.free) ++ flagByte w.joining

/-- READ HEAD (R166). -/
def serveReadHead (head : Nat) (s : State) : Served :=
  if validHead head then (s.tick, some ⟨.ok, s.readHeadData head⟩) else refuse s .range

/-- Command READ_HEAD (R166). -/
def execReadHead (src : Sender) (head : Nat) (s : State) : Host.Outcome State Fault Refusal :=
  .next (s.takeRequest src (serveReadHead head))

/-- One gap record as READ GAPS sends it: an OPEN gap's end is absent. -/
def Gap.bytes (g : Gap) : List Byte :=
  be1 g.head ++ be3 g.start ++ flagByte g.stop.isSome ++ be3 (g.stop.getD 0) ++ sbe2 g.entry.x ++ sbe2 g.entry.y
    ++ be1 g.colour ++ be1 g.state.code

/-- READ GAPS (R166). -/
def serveReadGaps (s : State) : Served :=
  (s, some ⟨.ok, be1 s.gaps.length ++ s.gaps.flatMap Gap.bytes⟩)

/-- Command READ_GAPS (R166). -/
def execReadGaps (src : Sender) (s : State) : Host.Outcome State Fault Refusal :=
  .next (s.takeRequest src serveReadGaps)

/-! ## Read-back of a configuration group (R176, Table 11-1) -/

/-- MACHINE. -/
def machineBytes (g : MachineGroup) : List Byte :=
  be1 g.headCount ++ be2 g.kX ++ be2 g.kY ++ sbe2 g.xLow ++ sbe2 g.xHigh ++ sbe2 g.yLow ++ sbe2 g.yHigh
    ++ sbe2 g.homeX ++ sbe2 g.homeY

/-- SPEED LIMITS. -/
def speedBytes (g : SpeedGroup) : List Byte :=
  be2 g.crawl ++ be2 g.maxSpeed ++ be2 g.accel ++ be2 g.decel ++ be2 g.openAngle ++ be2 g.closeAngle ++ be1 g.tieIn

/-- The 32 entries of a piece of the move time table. -/
def Settings.pieceEntries (c : Settings) (piece : Nat) : List Nat := (c.table.drop (32 * piece)).take 32

/-- Has the piece been accepted? -/
def Settings.pieceDone (c : Settings) (piece : Nat) : Bool := c.pieces.getD piece false

/-- THREAD. -/
def threadBytes (g : ThreadGroup) : List Byte :=
  be1 g.breakB ++ be1 g.tensionLow ++ be1 g.tensionHigh ++ be1 g.upper ++ be1 g.lower ++ be1 g.derate
    ++ be2 g.warnLevel ++ be1 g.overlap

/-- PACING. -/
def pacingBytes (g : PacingGroup) : List Byte := be2 g.low ++ be2 g.high ++ be2 g.retain

/-- The fields of a zone, its number first. -/
def zoneBytes (number : Nat) (z : ZoneFields) : List Byte :=
  be1 number ++ flagByte z.active ++ sbe2 z.xBase ++ be1 z.kx ++ sbe2 z.yBase ++ be1 z.ky

/-- A zone with its trailing bytes: whether a request is pending, and then its fields. -/
def zoneReadBack (number : Nat) (z : Zone) : List Byte :=
  zoneBytes number z.fields ++ flagByte z.waiting.isSome ++
    (match z.waiting with
      | some f => zoneBytes number f
      | none => [])

/-- Source code in the phase table (Table 11-1). -/
def OutSource.code : OutSource → Nat
  | .reply => 0 | .event => 1 | .grant => 2 | .progress => 3

/-- Policy code. -/
def Policy.code : Policy → Nat
  | .stopAll => 0 | .dropOut => 1

/-- The contents of a group and the bytes that follow them (R176); `none` for a group code, piece or zone out
of range. -/
def State.readBack (s : State) (group : Nat) (number : Option Nat) : Option (List Byte) :=
  match group with
  | 1 => some (machineBytes s.cfg.machine ++ flagByte s.cfg.machineSet)
  | 2 => some (speedBytes s.cfg.speeds ++ flagByte s.cfg.speedsSet)
  | 3 =>
    let p := number.getD 0
    if p ≤ 3 then
      some (be1 p ++ (s.cfg.pieceEntries p).flatMap be2 ++ flagByte s.cfg.tableLoaded ++ flagByte (s.cfg.pieceDone p))
    else none
  | 4 => some (threadBytes s.cfg.thread ++ be1 0)
  | 5 => some (pacingBytes s.cfg.pacing ++ be1 0)
  | 6 =>
    let n := number.getD 0
    if 1 ≤ n ∧ n ≤ 4 then (s.frame.zones[n - 1]?).map (zoneReadBack n) else none
  | 7 => some (s.link.phases.flatMap (fun p => be1 p.code) ++ be1 0)
  | 8 => some (be2 s.cfg.pollAngle ++ be1 s.cfg.pollPeriod ++ be1 0)
  | 9 => some (be2 s.cfg.progressPeriod ++ be1 0)
  | 10 => some (be1 s.monitor.policy.code ++ be1 0)
  | 11 => some (be1 s.run.mode.code ++ be1 0)
  | _ => none

/-- Is the read-back's length its group's (R171)? MOVE TABLE and ZONE are read back with the piece or zone
number, every other group with the group code alone. A group code outside 1..11 is judged by its range. -/
def readBackFits (group : Nat) (number : Option Nat) : Bool :=
  group == 0 || 11 < group || number.isSome == (readBackLength group == 2)

/-- A read-back CONFIGURE (R176): the data opens with the contents in force; FORMAT for a body of another
length, RANGE for a group, piece or zone out of range (R171). -/
def serveReadBack (group : Nat) (number : Option Nat) (s : State) : Served :=
  if readBackFits group number then
    match s.readBack group number with
    | some b => (s, some ⟨.ok, b⟩)
    | none => refuse s .range
  else refuse s .format

/-- Command CONFIGURE_READ_BACK (R176). -/
def execConfigureReadBack (src : Sender) (group : Nat) (number : Option Nat) (s : State) :
    Host.Outcome State Fault Refusal :=
  .next (s.takeRequest src (serveReadBack group number))

end Sys2Proof.Machine
end

