-- ==== Sys2Proof/Machine/Configure.lean ====
section
/-!
DEFINITION. The configuration groups (11, R171 to R175): run state first, then ranges and cross-checks, then
the group's own checks; a group is taken whole or refused whole.
-/

namespace Sys2Proof.Machine

/-- `v` in `lo..hi`. -/
def within (lo v hi : Nat) : Bool := lo ≤ v && v ≤ hi
/-- `v` in `lo..hi`, signed. -/
def withinInt (lo v hi : Int) : Bool := lo ≤ v && v ≤ hi
/-- A frame absolute position, -32000..+32000. -/
def isPosition (v : Int) : Bool := withinInt (-Config.posLimit) v Config.posLimit

/-- Are the groups MACHINE, SPEED LIMITS, MOVE TABLE and PACING taken in this run state (Table 11-3)? -/
def State.configurable (s : State) : Bool :=
  s.run.state == .unconfigured || s.run.state == .idle || s.run.state == .paused

/-- The run state leaves UNCONFIGURED when the three marks are set (R2, R175). -/
def State.leaveUnconfigured (s : State) : State :=
  if s.run.state = .unconfigured ∧ s.cfg.machineSet = true ∧ s.cfg.speedsSet = true ∧ s.cfg.tableLoaded = true then
    s.enter .idle
  else s

/-! ## MACHINE (R71, Table 11-2) -/

/-- The ranges and cross-checks of the MACHINE group. -/
def machineRight (g : MachineGroup) : Bool :=
  within 1 g.headCount 8 && within 64 g.kX 4096 && within 64 g.kY 4096
    && isPosition g.xLow && isPosition g.xHigh && isPosition g.yLow && isPosition g.yHigh
    && decide (g.xLow < g.xHigh) && decide (g.yLow < g.yHigh)
    && inField g ⟨g.homeX, g.homeY⟩

/-- Does the F of every referenced axis lie inside the new limits (R71)? -/
def FrameDrive.fits (f : FrameDrive) (g : MachineGroup) : Bool :=
  (!f.x.referenced || withinInt g.xLow f.x.pos g.xHigh) && (!f.y.referenced || withinInt g.yLow f.y.pos g.yHigh)

/-- An axis whose K becomes `k` (R71): unreferenced when K changes; its step count and residue are those that
R67 gives under the new K, but for an axis off path (log 25). -/
def Axis.rescaled (a : Axis) (old k : Nat) : Axis :=
  if old = k then a
  else if a.offPath.isSome then { a with referenced := false }
  else { a with referenced := false, steps := stepsAt k a.pos, residue := residueAt k a.pos }

/-- A change of the head count (R23, R174): heads beyond it OFF with the effects of HEAD OFF, heads newly within
it IDLE, one head after another in head order (log 72). -/
def State.changeHeadCount (s : State) (old new : Nat) : State :=
  headNumbers.foldl (fun s h =>
    if new < h then s.headOffEffect h
    else if old < h then (if (s.headAt h).state = .off then s.bringOn h else s)
    else s) s

/-- MACHINE is taken. -/
def State.takeMachine (s : State) (g : MachineGroup) : State :=
  let old := s.cfg.machine
  let s := s.setCfg { s.cfg with machine := g, machineSet := true }
  let s := s.setFrame { s.frame with x := s.frame.x.rescaled old.kX g.kX, y := s.frame.y.rescaled old.kY g.kY }
  ((s.changeHeadCount old.headCount g.headCount).leaveUnconfigured).finish

/-- MACHINE (R71, R171, R173). -/
def serveMachine (g : MachineGroup) (s : State) : Served :=
  if !s.configurable || s.frame.busy then refuse s .busy
  else if !(machineRight g) then refuse s .range
  else if !(s.frame.fits g) then refuse s .range
  else taken (s.takeMachine g)

/-- Command CONFIGURE_MACHINE. -/
def execConfigureMachine (src : Sender) (group : MachineGroup) (s : State) : Host.Outcome State Fault Refusal :=
  .next (s.takeRequest src (serveMachine group))

/-! ## SPEED LIMITS (R85, R58) -/

/-- The ranges and cross-checks of the SPEED LIMITS group. -/
def speedsRight (g : SpeedGroup) : Bool :=
  within 40 g.crawl 200 && within 200 g.maxSpeed 1500 && within 5 g.accel 200 && within 20 g.decel 400
    && decide (g.maxSpeed - g.crawl ≤ 16 * g.decel)
    && g.openAngle ≤ 1023 && g.closeAngle ≤ 1023 && within 128 (arcOf g) 768 && g.tieIn ≤ 9

/-- SPEED LIMITS (R85, R171, R173): the operator ceiling is clamped into the new range (R58). -/
def serveSpeedLimits (g : SpeedGroup) (s : State) : Served :=
  if !s.configurable || s.shaft.state == .referencing then refuse s .busy
  else if !(speedsRight g) then refuse s .range
  else
    let s := s.setCfg { s.cfg with speeds := g, speedsSet := true }
    taken (s.setGov { s.gov with ceiling := clampSpeed g s.gov.ceiling }).leaveUnconfigured

/-- Command CONFIGURE_SPEED_LIMITS. -/
def execConfigureSpeedLimits (src : Sender) (group : SpeedGroup) (s : State) : Host.Outcome State Fault Refusal :=
  .next (s.takeRequest src (serveSpeedLimits group))

/-! ## MOVE TABLE (R50) -/

/-- Do the entries never decrease? -/
def nonDecreasing : List Nat → Bool
  | [] => true
  | a :: rest => (match rest with
      | [] => true
      | b :: _ => a ≤ b) && nonDecreasing rest

/-- The table with a piece replaced. -/
def Settings.withPiece (c : Settings) (piece : Nat) (entries : List Nat) : Settings :=
  { c with
    table := c.table.take (32 * piece) ++ entries ++ c.table.drop (32 * piece + 32)
    pieces := c.pieces.set piece true }

/-- Do the entries fit the neighbouring pieces already accepted (R50)? -/
def Settings.fitsNeighbours (c : Settings) (piece : Nat) (entries : List Nat) : Bool :=
  (piece == 0 || !(c.pieceDone (piece - 1)) || c.table.getD (32 * piece - 1) 0 ≤ entries.headD 0)
    && (!(c.pieceDone (piece + 1)) || entries.getLastD 0 ≤ c.table.getD (32 * piece + 32) 0)

/-- Does the piece complete the four (R50)? -/
def Settings.completes (c : Settings) (piece : Nat) : Bool := (c.pieces.set piece true).all id

/-- Is the piece accepted (R50)? -/
def Settings.acceptsPiece (c : Settings) (piece : Nat) (entries : List Nat) : Bool :=
  if c.tableLoaded || c.completes piece then nonDecreasing (c.withPiece piece entries).table
  else nonDecreasing entries && c.fitsNeighbours piece entries

/-- MOVE TABLE (R50, R171, R173). -/
def serveMoveTable (piece : Nat) (entries : List Nat) (s : State) : Served :=
  if !s.configurable || s.shaft.state == .referencing then refuse s .busy
  else if 3 < piece then refuse s .range
  else if !(s.cfg.acceptsPiece piece entries) then refuse s .range
  else
    let loaded := s.cfg.tableLoaded || s.cfg.completes piece
    taken (s.setCfg { s.cfg.withPiece piece entries with tableLoaded := loaded }).leaveUnconfigured

/-- Command CONFIGURE_MOVE_TABLE. -/
def execConfigureMoveTable (src : Sender) (piece : Nat) (entries : List Nat) (s : State) :
    Host.Outcome State Fault Refusal :=
  .next (s.takeRequest src (serveMoveTable piece entries))

/-! ## THREAD and PACING (R130, R47) -/

/-- The ranges and cross-checks of the THREAD group. -/
def threadRight (g : ThreadGroup) : Bool :=
  within 2 g.breakB 31 && g.tensionLow ≤ 255 && g.tensionHigh ≤ 255 && decide (g.tensionLow < g.tensionHigh)
    && within 1 g.upper 31 && g.lower ≤ 30 && decide (g.lower < g.upper) && within 50 g.derate 100
    && g.warnLevel ≤ 65535 && g.overlap ≤ 15

/-- THREAD (R130): taken in every run state, no counter changed. -/
def serveThread (g : ThreadGroup) (s : State) : Served :=
  if threadRight g then taken (s.setCfg { s.cfg with thread := g }) else refuse s .range

/-- Command CONFIGURE_THREAD. -/
def execConfigureThread (src : Sender) (group : ThreadGroup) (s : State) : Host.Outcome State Fault Refusal :=
  .next (s.takeRequest src (serveThread group))

/-- The ranges and the cross-check of the PACING group. -/
def pacingRight (g : PacingGroup) : Bool :=
  within 96 g.low 3072 && within 96 g.high 3072 && decide (g.low < g.high) && g.retain ≤ 2000

/-- PACING (R47): a change of R makes a release evaluation at once. -/
def servePacing (g : PacingGroup) (s : State) : Served :=
  if !s.configurable then refuse s .busy
  else if !(pacingRight g) then refuse s .range
  else
    let old := s.cfg.pacing.retain
    let s := s.setCfg { s.cfg with pacing := g }
    taken (if old = g.retain then s else s.release)

/-- Command CONFIGURE_PACING. -/
def execConfigurePacing (src : Sender) (group : PacingGroup) (s : State) : Host.Outcome State Fault Refusal :=
  .next (s.takeRequest src (servePacing group))

/-! ## ZONE (R73, R64) -/

/-- The ranges of a zone's fields and its bases' multiples (R73). -/
def zoneRight (z : ZoneFields) : Bool :=
  within 4 z.kx 14 && within 4 z.ky 14 && isPosition z.xBase && isPosition z.yBase
    && z.xBase % (2 ^ z.kx : Int) == 0 && z.yBase % (2 ^ z.ky : Int) == 0

/-- A zone request as it is taken (R64): pending while the shaft turns, in force at once with it at rest. -/
def Zone.request (z : Zone) (turning : Bool) (f : ZoneFields) : Zone :=
  if turning then { z with waiting := some f } else ⟨f, none⟩

/-- ZONE (R73, R64): taken in every run state. -/
def serveZone (zone active : Nat) (xBase : Int) (kx : Nat) (yBase : Int) (ky : Nat) (s : State) : Served :=
  let f : ZoneFields := ⟨active == 1, xBase, kx, yBase, ky⟩
  if 1 ≤ zone ∧ zone ≤ 4 ∧ active ≤ 1 ∧ zoneRight f = true then
    taken (s.setFrame { s.frame with
      zones := s.frame.zones.modify (zone - 1) (fun z => z.request s.shaft.state.turning f) })
  else refuse s .range

/-- Command CONFIGURE_ZONE. -/
def execConfigureZone (src : Sender) (zone active : Nat) (xBase : Int) (kx : Nat) (yBase : Int) (ky : Nat)
    (s : State) : Host.Outcome State Fault Refusal :=
  .next (s.takeRequest src (serveZone zone active xBase kx yBase ky))

/-! ## ARBITER, POLL, PROGRESS (R164, R85, R108, R168) -/

/-- The source of a phase code. -/
def sourceOf (n : Nat) : Option OutSource :=
  match n with
  | 0 => some .reply
  | 1 => some .event
  | 2 => some .grant
  | 3 => some .progress
  | _ => none

/-- The phase table of 16 codes: every phase 0..3 and every source with a phase (R164), otherwise none. -/
def phasesOf (codes : List Nat) : Option (List OutSource) :=
  match codes.mapM sourceOf with
  | some l =>
    if l.contains .reply && l.contains .event && l.contains .grant && l.contains .progress then some l else none
  | none => none

/-- ARBITER (R164): the pointer keeps its value. -/
def serveArbiter (phases : List Nat) (s : State) : Served :=
  match phasesOf phases with
  | some l => taken (s.setLink { s.link with phases := l })
  | none => refuse s .range

/-- Command CONFIGURE_ARBITER. -/
def execConfigureArbiter (src : Sender) (phases : List Nat) (s : State) : Host.Outcome State Fault Refusal :=
  .next (s.takeRequest src (serveArbiter phases))

/-- POLL (R85, R108). -/
def servePoll (angle period : Nat) (s : State) : Served :=
  if angle ≤ 1023 ∧ 5 ≤ period ∧ period ≤ 200 then
    taken (s.setCfg { s.cfg with pollAngle := angle, pollPeriod := period })
  else refuse s .range

/-- Command CONFIGURE_POLL. -/
def execConfigurePoll (src : Sender) (angle period : Nat) (s : State) : Host.Outcome State Fault Refusal :=
  .next (s.takeRequest src (servePoll angle period))

/-- PROGRESS (R172, R168): clamped to 1000; the progress counter becomes 0. -/
def serveProgress (period : Nat) (s : State) : Served :=
  let s := (s.setCfg { s.cfg with progressPeriod := min period 1000 }).setLink { s.link with progressCount := 0 }
  (s, some (Reply.plain (if period ≤ 1000 then .ok else .clamped)))

/-- Command CONFIGURE_PROGRESS. -/
def execConfigureProgress (src : Sender) (period : Nat) (s : State) : Host.Outcome State Fault Refusal :=
  .next (s.takeRequest src (serveProgress period))

/-! ## POLICY and MODE (R138, R19) -/

/-- Command CONFIGURE_POLICY: the attribute that SET POLICY sets, under the same conditions (R138). -/
def execConfigurePolicy (src : Sender) (policy : Nat) (s : State) : Host.Outcome State Fault Refusal :=
  .next (s.takeRequest src (serveSetPolicy policy))

/-- Command CONFIGURE_MODE: the attribute that SET MODE sets, under the same conditions (R19). -/
def execConfigureMode (src : Sender) (mode : Nat) (s : State) : Host.Outcome State Fault Refusal :=
  .next (s.takeRequest src (serveSetMode mode))

end Sys2Proof.Machine
end

