-- ==== Sys2Proof/Machine/LinkEvents.lean ====
section
/-!
DEFINITION. The Link Interface (10): RESET (R169), frames coming in (R159, R160), decoding (R161), and frames
going out (R158, R163, R164).
-/

namespace Sys2Proof.Machine

/-! ## RESET (R169) -/

/-- A CONTROLLED RESET that performs a stop begins it (R169): a RUNNING run is stopped, a travel is asked to
end, a referencing runs on. -/
def State.beginReset (s : State) (src : Sender) : State :=
  let s := s.setLink { s.link with resetBy := some src }
  let s := if s.run.state = .running then s.stopOrder .host else s
  (if s.frame.travel.isSome then s.askTravelStop else s).finish

/-- RESET (R169). Its reply is placed when the reset takes effect. -/
def serveReset (src : Sender) (mode : Nat) (s : State) : Served :=
  if 1 < mode then refuse s .range
  else if mode = 0 ∧ s.resetWaits = true then (s.beginReset src, none)
  else ((s.resetEffect mode src).finish, none)

/-- Command RESET (R169): acted on when broadcast too. -/
def execReset (src : Sender) (mode : Nat) (s : State) : Host.Outcome State Fault Refusal :=
  .next (s.takeBoth src (serveReset src mode))

/-! ## Receiving (R159, R160) -/

/-- More content than this is not kept (R160). -/
def contentCut : Nat := 308

/-- A content byte joins the frame being assembled, which is cut off at 308 bytes (R160). -/
def Link.addByte (l : Link) (b : Byte) : Link :=
  { l with assembling := if l.assembling.length < contentCut then l.assembling ++ [b] else l.assembling, escaped := false }

/-- A byte other than FLAG comes in (R159): un-escaped, and ignored before the first FLAG. -/
def Link.receive (l : Link) (b : Byte) : Link :=
  if !l.flagSeen then l
  else if l.escaped then l.addByte (b ^^^ 0x20#8)
  else if b = escapeMark then { l with escaped := true }
  else l.addByte b

/-- The link error count rises by one, stopping at 65535 (R160). -/
def Link.countError (l : Link) : Link := { l with errors := min 65535 (l.errors + 1) }

/-- A new frame is opened: nothing is assembled yet. -/
def Link.opened (l : Link) : Link := { l with flagSeen := true, assembling := [], escaped := false }

/-- The size check of R160. -/
def sizeRight (content : List Byte) : Bool :=
  7 ≤ content.length && twoAt content 3 ≤ 300 && content.length == 7 + twoAt content 3

/-- The check word check of R160. -/
def checkRight (content : List Byte) : Bool :=
  crcBytes (content.take (content.length - 2)) == content.drop (content.length - 2)

/-- The address check of R160. -/
def Link.addressed (l : Link) (content : List Byte) : Bool :=
  byteAt content 0 == 15 || l.ownAddress == some (byteAt content 0)

/-- The frame that a checked content holds (Table 10-3). -/
def frameOf (content : List Byte) : InFrame :=
  ⟨byteAt content 0 == 15, byteAt content 1, content.getD 2 0, (content.drop 5).take (twoAt content 3)⟩

/-- The checks of a frame that is not empty, in their order (R160). -/
def Link.check (l : Link) (content : List Byte) : Link :=
  if !(sizeRight content) then l.countError
  else if !(checkRight content) then l.countError
  else if !(l.addressed content) then l
  else if Config.receiveBuffers ≤ l.buffers.length then l.countError
  else { l with buffers := l.buffers ++ [frameOf content] }

/-- A FLAG comes in (R159, R160): the first one opens a frame, one after an escape aborts, one with nothing
before it makes an empty frame, any other closes a frame, which is checked. Each opens a new frame. -/
def Link.flag (l : Link) : Link :=
  if !l.flagSeen || l.escaped || l.assembling.isEmpty then l.opened
  else (l.check l.assembling).opened

/-- Command FRAME_CLOSE (R160): bytes, then a FLAG. -/
def execFrameClose (bytes : List Byte) (s : State) : Host.Outcome State Fault Refusal :=
  .next (s.setLink (bytes.foldl Link.receive s.link).flag)

/-- Command FRAME_ABORT (R159): bytes, then 0x7D and a FLAG. -/
def execFrameAbort (bytes : List Byte) (s : State) : Host.Outcome State Fault Refusal :=
  .next (s.setLink ((bytes.foldl Link.receive s.link).receive escapeMark).flag)

/-- Command FIRST_FLAG_AFTER_POWER_ON (R159): the bytes before it are ignored. -/
def execFirstFlagAfterPowerOn (bytes : List Byte) (s : State) : Host.Outcome State Fault Refusal :=
  .next (if s.link.flagSeen then s else s.setLink (bytes.foldl Link.receive s.link).flag)

/-! ## Decoding (R161) -/

/-- The block that owns a request takes or refuses it. -/
def serve (src : Sender) (r : Request) (s : State) : Served :=
  match r with
  | .openDesign => serveOpenDesign s
  | .designBlock body => serveDesignBlock body s
  | .discardDesign => serveDiscardDesign s
  | .start => serveStart s
  | .resume => serveResume s
  | .stop => serveStop s
  | .step => serveStep s
  | .clearHalt => serveClearHalt s
  | .runToMark label => serveRunToMark label s
  | .setMode mode => serveSetMode mode s
  | .headOn head => serveHeadOn head s
  | .headOff head => serveHeadOff head s
  | .speedCeiling rpm => serveSpeedCeiling rpm s
  | .setOrigin => serveSetOrigin s
  | .homeFrame => serveHomeFrame s
  | .referenceShaft => serveReferenceShaft s
  | .moveFrame dx dy => serveMoveFrame dx dy s
  | .mapColour slot needles => serveMapColour slot needles s
  | .bobbinSet head count => serveBobbinSet head count s
  | .setPolicy policy => serveSetPolicy policy s
  | .repairDone head => serveRepairDone head s
  | .sewGaps => serveSewGaps s
  | .abandonGap head => serveAbandonGap head s
  | .back n => serveBack n s
  | .forward n => serveForward n s
  | .status selection => serveStatus selection s
  | .readHead head => serveReadHead head s
  | .readGaps => serveReadGaps s
  | .reset mode => serveReset src mode s
  | .configureMachine g => serveMachine g s
  | .configureSpeedLimits g => serveSpeedLimits g s
  | .configureMoveTable piece entries => serveMoveTable piece entries s
  | .configureThread g => serveThread g s
  | .configurePacing g => servePacing g s
  | .configureZone zone active xb kx yb ky => serveZone zone active xb kx yb ky s
  | .configureArbiter phases => serveArbiter phases s
  | .configurePoll angle period => servePoll angle period s
  | .configureProgress period => serveProgress period s
  | .configurePolicy policy => serveSetPolicy policy s
  | .configureMode mode => serveSetMode mode s
  | .configureReadBack group number => serveReadBack group number s
  | .configureShort => refuse s .format

/-- A broadcast frame (R161): STOP and RESET are acted on, with no reply; any other is dropped. -/
def State.decodeBroadcast (s : State) (f : InFrame) : State :=
  match decodeRequest f.cls f.body with
  | .request .stop => s.takeBoth .broadcast serveStop
  | .request (.reset mode) => s.takeBoth .broadcast (serveReset .broadcast mode)
  | _ => s

/-- An addressed frame (R161): its reply place reserved, then answered UNKNOWN, FORMAT or BUSY, or handed to its
owner. -/
def State.decodeAddressed (s : State) (f : InFrame) : State :=
  let s := s.setLink (s.link.reserve f.tag)
  match decodeRequest f.cls f.body with
  | .unknown => State.deliver (refuse s .unknown)
  | .short => State.deliver (refuse s .format)
  | .request r =>
    if s.link.resetBy.isSome then State.deliver (refuse s .busy)
    else State.deliver (serve (.addressed f.tag) r s)

/-- Command REQUEST_DECODE (R161): the oldest buffered frame is taken when it is broadcast or a reply place is
free. -/
def execRequestDecode (s : State) : Host.Outcome State Fault Refusal :=
  .next (match s.link.buffers with
    | [] => s
    | f :: rest =>
      if f.broadcast then (s.setLink { s.link with buffers := rest }).decodeBroadcast f
      else if s.link.replies.length < Config.replyPlaces then
        (s.setLink { s.link with buffers := rest }).decodeAddressed f
      else s)

/-! ## Sending (R158, R163, R164) -/

/-- The event kind and its fields as a body (Table 10-6). -/
def Event.body (e : Event) : List Byte := be1 e.kind.code ++ be1 e.head ++ be3 e.index ++ be3 e.value

/-- A progress report as a body. -/
def Progress.body (p : Progress) : List Byte :=
  be3 p.index ++ be2 p.speed ++ sbe2 p.pos.x ++ sbe2 p.pos.y ++ be1 p.pass.code

/-- A reply as a body: result code and data. -/
def Reply.body (r : Reply) : List Byte := be1 r.code.code ++ r.data

/-- Begins a frame on the transmit line (R159). -/
def Link.send (l : Link) (cls : Nat) (tag : Byte) (body : List Byte) : Link :=
  { l with transmit := frameBytes l.addressStraps cls tag body }

/-- Is the source non-empty (R163)? -/
def Link.ready (l : Link) (src : OutSource) : Bool :=
  match src with
  | .reply => (l.replies.head?.bind ReplyPlace.reply).isSome
  | .event => !l.events.isEmpty
  | .grant => l.grant.any (fun g => 0 < g.count)
  | .progress => l.progress.isSome

/-- Sends the next message of a source, which leaves it (R163). Nothing for an empty source. -/
def Link.sendFrom (l : Link) (src : OutSource) : Link :=
  match src with
  | .reply => match l.replies with
    | p :: rest => match p.reply with
      | some r => ({ l with replies := rest, replyFirst := false }).send 128 p.tag r.body
      | none => l
    | [] => l
  | .event => match l.events with
    | e :: rest => ({ l with events := rest }).send 130 0 e.body
    | [] => l
  | .grant => match l.grant with
    | some g => ({ l with grant := none }).send 129 0 (be2 g.seq ++ be1 g.count)
    | none => l
  | .progress => match l.progress with
    | some p => ({ l with progress := none }).send 131 0 p.body
    | none => l

/-- The phases from the pointer on, once round (R164), each with its number. -/
def Link.walkOrder (l : Link) : List (Nat × OutSource) :=
  let numbered := (List.range l.phases.length).map (· + 1) |>.zip l.phases
  numbered.drop (l.pointer - 1) ++ numbered.take (l.pointer - 1)

/-- The phase after this one: phase 16 is followed by phase 1. -/
def nextPhase (n : Nat) : Nat := if 16 ≤ n then 1 else n + 1

/-- One walk of the phase table (R164), with this test of which source has a message to send. -/
def Link.walkBy (l : Link) (ready : OutSource → Bool) : Link :=
  match l.walkOrder.find? (fun p => ready p.2) with
  | some (n, src) => { l.sendFrom src with pointer := nextPhase n }
  | none => l

/-- One walk of the phase table (R164). -/
def Link.walk (l : Link) : Link := l.walkBy l.ready

/-- With no own address, only RESET DONE events are sent (R158; log 15). -/
def Link.readyUnnamed (l : Link) (src : OutSource) : Bool :=
  src == .event && l.events.head?.any (fun e => e.kind == .resetDone)

/-- One walk of the phase table with no own address (R158, R164). -/
def Link.walkUnnamed (l : Link) : Link := l.walkBy l.readyUnnamed

/-- One message goes out: the reply to RESET first (R169), otherwise by the walk. -/
def Link.outbound (l : Link) : Link :=
  if !l.hostReady then l
  else if l.ownAddress.isNone then l.walkUnnamed
  else if l.replyFirst then l.sendFrom .reply
  else l.walk

/-- Command OUTBOUND_WALK (R164): the line is free; nothing is begun while host ready is negated (R158). -/
def execOutboundWalk (s : State) : Host.Outcome State Fault Refusal := .next (s.setLink s.link.outbound)

/-- Command HOST_READY_CHANGE (R158): the input's new level. -/
def execHostReadyChange (level : Bool) (s : State) : Host.Outcome State Fault Refusal :=
  .next (s.setLink { s.link with hostReady := level })

end Sys2Proof.Machine
end

