-- ==== Sys2Proof/Machine/Dispatch.lean ====
section
/-!
DEFINITION. One arm per command of the table, each a direct call of its meaning.
-/

namespace Sys2Proof.Machine

def exec (i : Instr) (s : State) : Host.Outcome State Fault Refusal :=
  match i with
  | .powerOn rateStraps addressStraps hostReady estop homeX homeY => Sys2Proof.Machine.execPowerOn rateStraps addressStraps hostReady estop homeX homeY s
  | .frameClose bytes => Sys2Proof.Machine.execFrameClose bytes s
  | .frameAbort bytes => Sys2Proof.Machine.execFrameAbort bytes s
  | .requestDecode => Sys2Proof.Machine.execRequestDecode s
  | .openDesign src => Sys2Proof.Machine.execOpenDesign src s
  | .designBlock src body => Sys2Proof.Machine.execDesignBlock src body s
  | .discardDesign src => Sys2Proof.Machine.execDiscardDesign src s
  | .start src => Sys2Proof.Machine.execStart src s
  | .resume src => Sys2Proof.Machine.execResume src s
  | .stop src => Sys2Proof.Machine.execStop src s
  | .step src => Sys2Proof.Machine.execStep src s
  | .clearHalt src => Sys2Proof.Machine.execClearHalt src s
  | .runToMark src label => Sys2Proof.Machine.execRunToMark src label s
  | .setMode src mode => Sys2Proof.Machine.execSetMode src mode s
  | .headOn src head => Sys2Proof.Machine.execHeadOn src head s
  | .headOff src head => Sys2Proof.Machine.execHeadOff src head s
  | .speedCeiling src rpm => Sys2Proof.Machine.execSpeedCeiling src rpm s
  | .setOrigin src => Sys2Proof.Machine.execSetOrigin src s
  | .homeFrame src => Sys2Proof.Machine.execHomeFrame src s
  | .referenceShaft src => Sys2Proof.Machine.execReferenceShaft src s
  | .moveFrame src dx dy => Sys2Proof.Machine.execMoveFrame src dx dy s
  | .mapColour src slot needles => Sys2Proof.Machine.execMapColour src slot needles s
  | .bobbinSet src head count => Sys2Proof.Machine.execBobbinSet src head count s
  | .setPolicy src policy => Sys2Proof.Machine.execSetPolicy src policy s
  | .repairDone src head => Sys2Proof.Machine.execRepairDone src head s
  | .sewGaps src => Sys2Proof.Machine.execSewGaps src s
  | .abandonGap src head => Sys2Proof.Machine.execAbandonGap src head s
  | .back src n => Sys2Proof.Machine.execBack src n s
  | .forward src n => Sys2Proof.Machine.execForward src n s
  | .status src selection => Sys2Proof.Machine.execStatus src selection s
  | .readHead src head => Sys2Proof.Machine.execReadHead src head s
  | .readGaps src => Sys2Proof.Machine.execReadGaps src s
  | .reset src mode => Sys2Proof.Machine.execReset src mode s
  | .configureMachine src group => Sys2Proof.Machine.execConfigureMachine src group s
  | .configureSpeedLimits src group => Sys2Proof.Machine.execConfigureSpeedLimits src group s
  | .configureMoveTable src piece entries => Sys2Proof.Machine.execConfigureMoveTable src piece entries s
  | .configureThread src group => Sys2Proof.Machine.execConfigureThread src group s
  | .configurePacing src group => Sys2Proof.Machine.execConfigurePacing src group s
  | .configureZone src zone active xBase kx yBase ky => Sys2Proof.Machine.execConfigureZone src zone active xBase kx yBase ky s
  | .configureArbiter src phases => Sys2Proof.Machine.execConfigureArbiter src phases s
  | .configurePoll src angle period => Sys2Proof.Machine.execConfigurePoll src angle period s
  | .configureProgress src period => Sys2Proof.Machine.execConfigureProgress src period s
  | .configurePolicy src policy => Sys2Proof.Machine.execConfigurePolicy src policy s
  | .configureMode src mode => Sys2Proof.Machine.execConfigureMode src mode s
  | .configureReadBack src group number => Sys2Proof.Machine.execConfigureReadBack src group number s
  | .outboundWalk => Sys2Proof.Machine.execOutboundWalk s
  | .hostReadyChange level => Sys2Proof.Machine.execHostReadyChange level s
  | .encoderCount forward => Sys2Proof.Machine.execEncoderCount forward s
  | .indexPulse => Sys2Proof.Machine.execIndexPulse s
  | .shaftRestDeclared => Sys2Proof.Machine.execShaftRestDeclared s
  | .stallTimerExpiry => Sys2Proof.Machine.execStallTimerExpiry s
  | .estopAssert xSteps ySteps => Sys2Proof.Machine.execEstopAssert xSteps ySteps s
  | .estopNegate => Sys2Proof.Machine.execEstopNegate s
  | .warningHoldExpiry => Sys2Proof.Machine.execWarningHoldExpiry s
  | .stitchMoveComplete => Sys2Proof.Machine.execStitchMoveComplete s
  | .travelSegmentComplete => Sys2Proof.Machine.execTravelSegmentComplete s
  | .reseatComplete axis => Sys2Proof.Machine.execReseatComplete axis s
  | .homeSensorChange axis active => Sys2Proof.Machine.execHomeSensorChange axis active s
  | .homeBackoffDone => Sys2Proof.Machine.execHomeBackoffDone s
  | .homingTimeout => Sys2Proof.Machine.execHomingTimeout s
  | .headAnswer head checkOk record => Sys2Proof.Machine.execHeadAnswer head checkOk record s
  | .headAttemptTimeout => Sys2Proof.Machine.execHeadAttemptTimeout s
  | .restTimerExpiry => Sys2Proof.Machine.execRestTimerExpiry s
  | .trimTimerExpiry head => Sys2Proof.Machine.execTrimTimerExpiry head s
  | .caseTimerExpiry head => Sys2Proof.Machine.execCaseTimerExpiry head s
  | .firstFlagAfterPowerOn bytes => Sys2Proof.Machine.execFirstFlagAfterPowerOn bytes s

end Sys2Proof.Machine
end

