-- ==== Sys2Proof/Safety.lean ====
section
/-!
DEFINITION. What a sound state and a safe run are, in the terms that the statements use: who sends a command, when a
request reaches its owner, when nothing is due by itself, and the invariants of the capacities and scales that the
manual gives.
-/

namespace Sys2Proof

/-- The sender of a request; `none` for the events of line, mechanism and timers, which no frame carries. -/
def Instr.sender? : Instr → Option Sender
  | .powerOn _ _ _ _ _ _ => none
  | .frameClose _ => none
  | .frameAbort _ => none
  | .requestDecode => none
  | .openDesign src => some src
  | .designBlock src _ => some src
  | .discardDesign src => some src
  | .start src => some src
  | .resume src => some src
  | .stop src => some src
  | .step src => some src
  | .clearHalt src => some src
  | .runToMark src _ => some src
  | .setMode src _ => some src
  | .headOn src _ => some src
  | .headOff src _ => some src
  | .speedCeiling src _ => some src
  | .setOrigin src => some src
  | .homeFrame src => some src
  | .referenceShaft src => some src
  | .moveFrame src _ _ => some src
  | .mapColour src _ _ => some src
  | .bobbinSet src _ _ => some src
  | .setPolicy src _ => some src
  | .repairDone src _ => some src
  | .sewGaps src => some src
  | .abandonGap src _ => some src
  | .back src _ => some src
  | .forward src _ => some src
  | .status src _ => some src
  | .readHead src _ => some src
  | .readGaps src => some src
  | .reset src _ => some src
  | .configureMachine src _ => some src
  | .configureSpeedLimits src _ => some src
  | .configureMoveTable src _ _ => some src
  | .configureThread src _ => some src
  | .configurePacing src _ => some src
  | .configureZone src _ _ _ _ _ _ => some src
  | .configureArbiter src _ => some src
  | .configurePoll src _ _ => some src
  | .configureProgress src _ => some src
  | .configurePolicy src _ => some src
  | .configureMode src _ => some src
  | .configureReadBack src _ _ => some src
  | .outboundWalk => none
  | .hostReadyChange _ => none
  | .encoderCount _ => none
  | .indexPulse => none
  | .shaftRestDeclared => none
  | .stallTimerExpiry => none
  | .estopAssert _ _ => none
  | .estopNegate => none
  | .warningHoldExpiry => none
  | .stitchMoveComplete => none
  | .travelSegmentComplete => none
  | .reseatComplete _ => none
  | .homeSensorChange _ _ => none
  | .homeBackoffDone => none
  | .homingTimeout => none
  | .headAnswer _ _ _ => none
  | .headAttemptTimeout => none
  | .restTimerExpiry => none
  | .trimTimerExpiry _ => none
  | .caseTimerExpiry _ => none
  | .firstFlagAfterPowerOn _ => none

/-- STOP and RESET, the two requests that are acted on when they are broadcast (R161). -/
def Instr.actsOnBroadcast : Instr → Bool
  | .stop _ => true
  | .reset _ _ => true
  | _ => false

namespace Machine

/-- The command that a decoded request is, from this sender; none for a CONFIGURE body of a wrong length. -/
def Request.command (src : Sender) : Request → Option Instr
  | .openDesign => some (.openDesign src)
  | .designBlock body => some (.designBlock src body)
  | .discardDesign => some (.discardDesign src)
  | .start => some (.start src)
  | .resume => some (.resume src)
  | .stop => some (.stop src)
  | .step => some (.step src)
  | .clearHalt => some (.clearHalt src)
  | .runToMark label => some (.runToMark src label)
  | .setMode mode => some (.setMode src mode)
  | .headOn head => some (.headOn src head)
  | .headOff head => some (.headOff src head)
  | .speedCeiling rpm => some (.speedCeiling src rpm)
  | .setOrigin => some (.setOrigin src)
  | .homeFrame => some (.homeFrame src)
  | .referenceShaft => some (.referenceShaft src)
  | .moveFrame dx dy => some (.moveFrame src dx dy)
  | .mapColour slot needles => some (.mapColour src slot needles)
  | .bobbinSet head count => some (.bobbinSet src head count)
  | .setPolicy policy => some (.setPolicy src policy)
  | .repairDone head => some (.repairDone src head)
  | .sewGaps => some (.sewGaps src)
  | .abandonGap head => some (.abandonGap src head)
  | .back n => some (.back src n)
  | .forward n => some (.forward src n)
  | .status selection => some (.status src selection)
  | .readHead head => some (.readHead src head)
  | .readGaps => some (.readGaps src)
  | .reset mode => some (.reset src mode)
  | .configureMachine g => some (.configureMachine src g)
  | .configureSpeedLimits g => some (.configureSpeedLimits src g)
  | .configureMoveTable piece entries => some (.configureMoveTable src piece entries)
  | .configureThread g => some (.configureThread src g)
  | .configurePacing g => some (.configurePacing src g)
  | .configureZone zone active xb kx yb ky => some (.configureZone src zone active xb kx yb ky)
  | .configureArbiter phases => some (.configureArbiter src phases)
  | .configurePoll angle period => some (.configurePoll src angle period)
  | .configureProgress period => some (.configureProgress src period)
  | .configurePolicy policy => some (.configurePolicy src policy)
  | .configureMode mode => some (.configureMode src mode)
  | .configureReadBack group number => some (.configureReadBack src group number)
  | .configureShort => none

/-- The part of the Link Interface that no posting, granting, progress report or RESET touches: straps, host-ready
input, reception, error count, phase table and the bytes on the line. -/
def Link.bare (l : Link) : Link :=
  { l with
    replies := [], replyFirst := false, resetBy := none, grant := none, events := [], overflow := false
    progress := none, progressCount := 0, pointer := 1 }

/-! ## Requests -/

/-- A request reaches its owner at once (R158, R161): there is an own address, a free reply place, and no CONTROLLED
RESET performing its stop. -/
def State.hears (s : State) : Bool :=
  s.link.addressStraps != 15 && s.link.replies.length < 4 && s.link.resetBy.isNone

/-- One more written reply at the tail of the reply queue (R162). -/
def State.replied (s : State) (tag : Byte) (code : ResultCode) (data : List Byte) : State :=
  s.setLink { s.link with replies := s.link.replies ++ [⟨tag, some ⟨code, data⟩⟩] }

/-! ## Nothing due -/

/-- No homing waits to begin with the frame free of stitch moves (R68, R80). -/
def FrameDrive.homingHeld (f : FrameDrive) : Bool :=
  match f.homing with
  | none => true
  | some hm => hm.phase != .waiting || f.stitch.isSome

/-- Nothing is due by itself: no sequence of the Run Controller and no travel is under way, no homing is due to begin,
and no record is to be executed. -/
def State.quiet (s : State) : Bool :=
  s.run.activity == .none && s.run.state != .running && s.run.state != .stopping
    && s.frame.travel.isNone && s.frame.homingHeld

/-- No sequence of the Run Controller, no travel and no homing is under way. -/
def State.calm (s : State) : Bool :=
  s.run.activity == .none && s.frame.travel.isNone && s.frame.homing.isNone

/-- A LIFT for head `h` is on its way: the head table has it queued (R25), and the command, which leaves the head in
this state, stands in the queue or the held-back list or is in flight (R104, R109). -/
def State.liftOnItsWay (s : State) (h : Nat) (becomes : HeadState) : Bool :=
  (s.headAt h).queued == some .lift
    && s.bus.outstanding (fun c => c == ⟨h, .engage ⟨.lift, becomes, false, false⟩⟩)

/-- No engagement order waits for the next TDC crossing (R106). -/
def State.ackedNone (s : State) : Bool := s.run.heads.all (fun e => e.acked.isNone)

/-- The patch pass, if one is under way, has a selected gap left: a PAUSED one without any ends at once (R154). -/
def State.passGoesOn (s : State) : Bool := s.run.pass == .main || s.patchLeft

/-! ## Invariants -/

/-- The lists that stand for a fixed number of like things keep that number: eight heads in four blocks, 64 slots of
eight needles, four zones, 128 table entries in four pieces, 16 phases. -/
def State.shapesRight (s : State) : Bool :=
  s.run.heads.length == 8 && s.monitor.heads.length == 8 && s.bus.heads.length == 8 && s.change.heads.length == 8
    && s.change.map.length == 64 && s.change.map.all (fun row => row.length == 8) && s.frame.zones.length == 4
    && s.cfg.table.length == 128 && s.cfg.pieces.length == 4 && s.link.phases.length == 16

/-- R43: 32 slots, and those that are not FREE together with G are at most 32. -/
def State.slotsRight (s : State) : Bool :=
  s.store.slots.length == 32 && (32 - s.store.freeCount) + s.store.granted ≤ 32 && s.store.freeCount ≤ 32

/-- The capacities of the Link Interface (R160, R163, R164, R168, Table 10-1). The progress counter stays within what a
progress period can be (R168, section 11.2). -/
def State.linkRight (s : State) : Bool :=
  s.link.replies.length ≤ 4 && s.link.events.length ≤ 32 && s.link.buffers.length ≤ 2 && s.link.errors ≤ 65535
    && s.link.assembling.length ≤ 308 && 1 ≤ s.link.pointer && s.link.pointer ≤ 16
    && s.link.progressCount ≤ 1000 && s.cfg.progressPeriod ≤ 1000

/-- R146: at most 16 gap records, at most 4 of one head, at most one OPEN gap of one head. -/
def State.gapsRight (s : State) : Prop :=
  s.gaps.length ≤ 16 ∧ ∀ h, s.gaps.countP (fun g => g.head == h) ≤ 4 ∧
    s.gaps.countP (fun g => g.head == h && g.state == .opened) ≤ 1

/-- R67 for one axis whose scale is `k`: residue and step count follow F while the axis is referenced and not off the
path, and the steps of a move in flight are those that will keep it so. -/
def Axis.stepsRight (a : Axis) (k : Nat) : Prop :=
  (a.referenced = true → a.residue = residueAt k a.pos ∧ (a.offPath = none → a.steps = stepsAt k a.pos)) ∧
  ∀ m, a.move = some m →
    (m.kind = .stitch ∨ m.kind = .segment → m.steps = moveSteps k a.residue m.delta) ∧
    (m.kind = .reseat → a.steps + m.steps = stepsAt k a.pos ∧ (a.referenced = true → a.offPath.isSome = true))

/-- R67 for both axes. -/
def State.stepsRight (s : State) : Prop :=
  s.frame.x.stepsRight s.cfg.machine.kX ∧ s.frame.y.stepsRight s.cfg.machine.kY

/-- R104: at most 16 queued commands, and none held back while a queue place is free. -/
def State.queueRight (s : State) : Bool :=
  s.bus.queue.length ≤ 16 && (s.bus.held.isEmpty || s.bus.queue.length == 16)

/-- R95: a HALTED run has the Halt reason in the lockout set and the shaft UNREFERENCED, nothing is under way, and no
recorded state is HALTED itself. -/
def State.haltRight (s : State) : Prop :=
  (s.run.state = .halted → s.shaft.lockout.halt = true ∧ s.shaft.state = .unreferenced ∧ s.run.activity = .none ∧
    s.frame.travel = none ∧ s.frame.homing = none) ∧
  s.run.haltReturn ≠ some .halted ∧ s.run.travelReturn ≠ some .halted ∧ s.run.passReturn ≠ some .halted

end Machine

end Sys2Proof
end

