-- ==== Sys2Proof/WellFormed.lean ====
section
/-!
DEFINITION. Which commands can arise: each operand within the width that its bytes, its strap, its
counter or its port can carry. A value inside its width but outside its rule's range is well formed:
the request is then answered RANGE, which is its meaning.
-/

namespace Sys2Proof

/-- A one-byte field (10, R170). -/
def inByte (n : Nat) : Bool := n < 256
/-- A two-byte field (10, R170). -/
def inTwoBytes (n : Nat) : Bool := n < 65536
/-- Is this a read-back and no setting? The code of POLICY or MODE with one more byte is the group's whole
contents, a setting request (11, R171, Table 11-1). -/
def readBackSpelled (group : Nat) (number : Option Nat) : Bool :=
  !(number.isSome && (group == 10 || group == 11))
/-- A signed two-byte field (10, R170). -/
def inSigned16 (i : Int) : Bool := -32768 ≤ i && i < 32768
/-- A signed four-byte field (10, R170). -/
def inSigned32 (i : Int) : Bool := -2147483648 ≤ i && i < 2147483648
/-- No byte of the list is a FLAG (R159): between two FLAGs there is none. -/
def noFlag (bytes : List Byte) : Bool := bytes.all (fun b => b != 0x7E#8)

/-- A status record within the ranges of Table 6-3 (06). -/
def StatusRecord.wf (r : StatusRecord) : Bool :=
  r.casePos ≤ 12 && r.penetrations ≤ 255 && r.feed ≤ 65535 && r.tension ≤ 255

/-- The command's operands lie within the widths that can carry them. -/
def Instr.wf : Instr → Bool
  | .powerOn rate addr _ _ _ _ => rate < 4 && addr < 16
  | .frameClose bytes => noFlag bytes
  | .frameAbort bytes => noFlag bytes
  | .requestDecode => true
  | .openDesign _ => true
  | .designBlock _ body => body.length ≤ 300
  | .discardDesign _ => true
  | .start _ => true
  | .resume _ => true
  | .stop _ => true
  | .step _ => true
  | .clearHalt _ => true
  | .runToMark _ label => inByte label
  | .setMode _ mode => inByte mode
  | .headOn _ head => inByte head
  | .headOff _ head => inByte head
  | .speedCeiling _ rpm => inTwoBytes rpm
  | .setOrigin _ => true
  | .homeFrame _ => true
  | .referenceShaft _ => true
  | .moveFrame _ dx dy => inSigned32 dx && inSigned32 dy
  | .mapColour _ slot needles => inByte slot && needles.length == 8 && needles.all inByte
  | .bobbinSet _ head count => inByte head && inTwoBytes count
  | .setPolicy _ policy => inByte policy
  | .repairDone _ head => inByte head
  | .sewGaps _ => true
  | .abandonGap _ head => inByte head
  | .back _ n => inTwoBytes n
  | .forward _ n => inTwoBytes n
  | .status _ selection => inByte selection
  | .readHead _ head => inByte head
  | .readGaps _ => true
  | .reset _ mode => inByte mode
  | .configureMachine _ g => inByte g.headCount && inTwoBytes g.kX && inTwoBytes g.kY &&
      inSigned16 g.xLow && inSigned16 g.xHigh && inSigned16 g.yLow && inSigned16 g.yHigh &&
      inSigned16 g.homeX && inSigned16 g.homeY
  | .configureSpeedLimits _ g => inTwoBytes g.crawl && inTwoBytes g.maxSpeed && inTwoBytes g.accel &&
      inTwoBytes g.decel && inTwoBytes g.openAngle && inTwoBytes g.closeAngle && inByte g.tieIn
  | .configureMoveTable _ piece entries => inByte piece && entries.length == 32 && entries.all inTwoBytes
  | .configureThread _ g => inByte g.breakB && inByte g.tensionLow && inByte g.tensionHigh &&
      inByte g.upper && inByte g.lower && inByte g.derate && inTwoBytes g.warnLevel && inByte g.overlap
  | .configurePacing _ g => inTwoBytes g.low && inTwoBytes g.high && inTwoBytes g.retain
  | .configureZone _ zone active xb kx yb ky => inByte zone && inByte active && inSigned16 xb && inByte kx &&
      inSigned16 yb && inByte ky
  | .configureArbiter _ phases => phases.length == 16 && phases.all inByte
  | .configurePoll _ angle period => inTwoBytes angle && inByte period
  | .configureProgress _ period => inTwoBytes period
  | .configurePolicy _ policy => inByte policy
  | .configureMode _ mode => inByte mode
  | .configureReadBack _ group number => inByte group && number.all inByte && readBackSpelled group number
  | .outboundWalk => true
  | .hostReadyChange _ => true
  | .encoderCount _ => true
  | .indexPulse => true
  | .shaftRestDeclared => true
  | .stallTimerExpiry => true
  | .estopAssert _ _ => true
  | .estopNegate => true
  | .warningHoldExpiry => true
  | .stitchMoveComplete => true
  | .travelSegmentComplete => true
  | .reseatComplete _ => true
  | .homeSensorChange _ _ => true
  | .homeBackoffDone => true
  | .homingTimeout => true
  | .headAnswer head _ record => 1 ≤ head && head ≤ 8 && record.wf
  | .headAttemptTimeout => true
  | .restTimerExpiry => true
  | .trimTimerExpiry head => 1 ≤ head && head ≤ 8
  | .caseTimerExpiry head => 1 ≤ head && head ≤ 8
  | .firstFlagAfterPowerOn bytes => noFlag bytes

end Sys2Proof
end

