-- ==== Sys2Proof/Certificates/Slice0/Obligations.lean ====
section
/-!
DEFINITION. The statements for the provers. A request is stated with its sender addressed and heard (`State.hears`);
what happens to one that is not heard, or is broadcast, is `Obligations.RequestsPassTheGate`. `State.pump` is the head
bus beginning its next transaction when it is free (R105), with which a command ends.
-/

open Sys2Proof Sys2Proof.Machine

/-! ## The machine as a whole -/

/-- A step takes the command at the front of the queue and is `exec` of it on the state with the queue's rest. On an
empty queue the block idles: that is the model's choice (log 17). -/
def Obligations.StepRunsFrontCommand : Prop :=
  (∀ (c : Instr) (rest : List Instr) (s : State), step (s.setPending (c :: rest)) = exec c (s.setPending rest)) ∧
  (∀ s : State, s.pending = [] → step s = .next s)

/-- Every command, in every state, answers a next state, and leaves the queue of the waiting commands alone. -/
def Obligations.EveryCommandAnswersNext : Prop :=
  ∀ (c : Instr) (s : State), ∃ t, exec c s = .next t ∧ t.pending = s.pending

/-- The gate before every request (R158, R161). A broadcast request other than STOP and RESET is dropped. An addressed
one is answered BUSY while a CONTROLLED RESET performs its stop. With no own address or no free reply place the command
of an addressed request changes nothing and is used up: that is the model's choice of how a request stands as a command
of its own (log 1, DESIGN CHOICE, unsafe). On the hardware no addressed frame is taken without an own address, and one
that finds no free reply place waits in its receive buffer; so it does on the frame path of the model, FRAME_CLOSE and
then REQUEST_DECODE (O18). -/
def Obligations.RequestsPassTheGate : Prop :=
  ∀ (c : Instr) (s : State),
    (c.sender? = some .broadcast → c.actsOnBroadcast = false → exec c s = .next s) ∧
    (∀ tag, c.sender? = some (.addressed tag) →
      (s.link.addressStraps = 15 ∨ 4 ≤ s.link.replies.length → exec c s = .next s) ∧
      (s.link.addressStraps ≠ 15 → s.link.replies.length < 4 → s.link.resetBy ≠ none →
        exec c s = .next (s.replied tag .busy [])))

/-- R158: the straps are read by POWER_ON, and kept by every other command. -/
def Obligations.StrapsReadOnlyAtPowerOn : Prop :=
  ∀ (c : Instr) (s t : State), exec c s = .next t →
    (∀ rate addr ready estop hx hy, c = .powerOn rate addr ready estop hx hy →
      t.link.rateStraps = rate ∧ t.link.addressStraps = addr) ∧
    ((∀ rate addr ready estop hx hy, c ≠ .powerOn rate addr ready estop hx hy) →
      t.link.rateStraps = s.link.rateStraps ∧ t.link.addressStraps = s.link.addressStraps)

/-! ## Invariants of every step -/

/-- R43: the slots that are not FREE plus G never exceed 32. -/
def Obligations.SlotsAndGrantsStayWithin32 : Prop :=
  ∀ s t : State, s.slotsRight = true → step s = .next t → t.slotsRight = true

/-- The queues and buffers of the Link Interface, its error and progress counters, its arbiter pointer and the progress
period stay within their capacities (R160, R161, R163, R164, R168). -/
def Obligations.LinkCapacitiesKept : Prop :=
  ∀ s t : State, s.linkRight = true → step s = .next t → t.linkRight = true

/-- R146: the Gap Table stays within 16 records, 4 of one head and one OPEN gap of one head. -/
def Obligations.GapTableBoundsKept : Prop :=
  ∀ s t : State, s.gapsRight → step s = .next t → t.gapsRight

/-- R67: whatever path the frame takes, the step count and the residue of a referenced axis that is not off the path
are those of its position. -/
def Obligations.StepCountFollowsPosition : Prop :=
  ∀ s t : State, s.stepsRight → step s = .next t → t.stepsRight

/-- R104: the command queue stays within 16, and nothing is held back while it has a free place. -/
def Obligations.HeadBusQueueBoundKept : Prop :=
  ∀ s t : State, s.queueRight = true → step s = .next t → t.queueRight = true

/-- R95: a HALTED run keeps the Halt reason of needle lockout and an UNREFERENCED shaft until CLEAR HALT. -/
def Obligations.HaltKeepsNeedlesLockedOut : Prop :=
  ∀ s t : State, s.haltRight → step s = .next t → t.haltRight

/-- Lists that stand for a fixed number of like things keep it, when the command taken is well formed. -/
def Obligations.ListShapesKept : Prop :=
  ∀ s t : State, (∀ c ∈ s.pending, c.wf = true) → s.shapesRight = true → step s = .next t → t.shapesRight = true

/-- The state after reset meets every invariant above. -/
def Obligations.ResetMeetsTheInvariants : Prop :=
  State.reset.slotsRight = true ∧ State.reset.linkRight = true ∧ State.reset.gapsRight ∧ State.reset.stepsRight ∧
    State.reset.queueRight = true ∧ State.reset.haltRight ∧ State.reset.shapesRight = true

/-! ## Power-on and the host link (10, 11) -/

/-- What power-on leaves (R175, Table 11-2, and the power-on columns of the blocks' tables). The straps and the input
levels are those that power-on found. That the state after reset is one power-on, with straps 0, host ready negated and
the home sensors inactive, is the model's choice (log 2). -/
def Obligations.PowerOnValues : Prop :=
  (∀ (rate addr : Nat) (ready homeX homeY : Bool),
    let p := State.atPowerOn rate addr ready homeX homeY
    (p.run.state = .unconfigured ∧ p.run.pass = .main ∧ p.run.mainCursor = 0 ∧ p.run.patchCursor = none ∧
      p.run.cause = none ∧ p.run.mode = .burst ∧ p.run.mark = none ∧ p.run.segmentStart = 0 ∧ p.run.tieIn = 0 ∧
      p.run.startReturn = none ∧ p.run.travelReturn = none ∧ p.run.passReturn = none ∧ p.run.haltReturn = none ∧
      p.run.point = none ∧ p.run.warning = false ∧ p.run.activity = .none ∧ p.run.carry = false ∧
      p.run.stepping = false ∧ p.run.stepDone = false ∧ p.run.keepTieIn = false ∧ p.run.patchDone = none ∧
      p.run.patchSewn = 0) ∧
    (∀ h, 1 ≤ h → h ≤ 8 → (p.headAt h).needle = 0 ∧ (p.headAt h).queued = none ∧ (p.headAt h).acked = none) ∧
    (p.headAt 1).state = .idle ∧ (∀ h, 2 ≤ h → h ≤ 8 → (p.headAt h).state = .off) ∧
    (p.store.design = .absent ∧ p.store.freeCount = 32 ∧ p.store.granted = 0 ∧ p.store.nextSeq = 0 ∧
      p.store.filledEnd = 0 ∧ p.store.tail = none) ∧
    p.gov = ⟨none, none, 1000, false, []⟩ ∧
    (p.frame.pos = ⟨0, 0⟩ ∧ p.frame.x.referenced = false ∧ p.frame.y.referenced = false ∧ p.frame.origin = none ∧
      ∀ z ∈ p.frame.zones, z.fields.active = false) ∧
    (p.shaft.state = .unreferenced ∧ p.shaft.speed = 0 ∧ p.shaft.hold = false ∧ p.shaft.lockout = Lockout.empty ∧
      p.shaft.angle = 0) ∧
    (p.bus.queue = [] ∧ p.bus.held = [] ∧ p.bus.inFlight = none ∧ p.bus.round = none ∧ p.bus.restTimer = some 20) ∧
    (∀ slot h, slot < 64 → 1 ≤ h → h ≤ 8 → p.change.mapAt slot h = slot % 12 + 1) ∧
    (p.monitor.policy = .stopAll ∧ p.monitor.warnCount = 0) ∧ p.gaps = [] ∧
    (p.link.errors = 0 ∧ p.link.pointer = 1 ∧ p.link.phases = [.reply, .event, .grant, .reply, .event, .reply,
      .progress, .event, .reply, .grant, .event, .reply, .event, .reply, .grant, .progress]) ∧
    (p.cfg.machineSet = false ∧ p.cfg.speedsSet = false ∧ p.cfg.tableLoaded = false ∧
      p.cfg.machine = ⟨1, 640, 640, -3000, 3000, -2000, 2000, -3000, -2000⟩ ∧
      p.cfg.speeds = ⟨80, 1000, 40, 150, 760, 240, 3⟩ ∧ p.cfg.thread = ⟨6, 40, 200, 8, 2, 70, 500, 3⟩ ∧
      p.cfg.pacing = ⟨384, 1536, 240⟩ ∧ p.cfg.pollAngle = 512 ∧ p.cfg.pollPeriod = 20 ∧ p.cfg.progressPeriod = 50)) ∧
  State.reset = State.atPowerOn 0 0 false false false

/-- POWER_ON completes in every state, with every operand: every block takes its power-on values, those that O13 lists
(R175); with the emergency-stop input asserted the machine halts at once, to return to UNCONFIGURED (R86, R95, R96).
That the waiting commands (log 17) and the count of free values (log 4) stay is the model's choice. -/
def Obligations.PowerOnRuns : Prop :=
  ∀ (rate addr : Nat) (ready estop homeX homeY : Bool) (s : State),
    let p := ((State.atPowerOn rate addr ready homeX homeY).setPending s.pending).setFree s.free
    exec (.powerOn rate addr ready estop homeX homeY) s = .next (if estop = true then
        ((p.setShaft { p.shaft with estop := true, lockout := { Lockout.empty with halt := true } }).setRun
          { p.run with state := .halted, haltReturn := some .unconfigured }).setLink
          { p.link with events := [⟨.halted, 0, 0, 0⟩] }
      else p)

/-- R159, R160, R170: a frame sent escaped, between FLAGs, with its check word, is received as it was sent: it enters a
free receive buffer behind those held. `a` is the own address, or 15 for a broadcast. -/
def Obligations.FrameRoundTrip : Prop :=
  ∀ (s : State) (a cls : Nat) (tag : Byte) (body : List Byte),
    s.link.flagSeen = true → s.link.escaped = false → s.link.assembling = [] → s.link.buffers.length < 2 →
    cls < 256 → body.length ≤ 300 → (a = 15 ∨ (a < 15 ∧ s.link.addressStraps = a)) →
    exec (.frameClose (escapeBytes (frameContent a cls tag body))) s =
      .next (s.setLink { s.link with buffers := s.link.buffers ++ [⟨a == 15, cls, tag, body⟩] })

/-- R160: the checks of a frame that is not empty, in their order: size (a content of more than 307 bytes fails it),
check word, address, buffer. Every failure but that of the address is counted, up to 65535. -/
def Obligations.FrameChecksInOrder : Prop :=
  ∀ (s : State) (content : List Byte),
    s.link.flagSeen = true → s.link.escaped = false → s.link.assembling = [] → content ≠ [] →
    let n := content.length
    let size := 7 ≤ n ∧ twoAt content 3 ≤ 300 ∧ n = 7 + twoAt content 3
    let check := crcBytes (content.take (n - 2)) = content.drop (n - 2)
    let mine := byteAt content 0 = 15 ∨ (s.link.addressStraps ≠ 15 ∧ byteAt content 0 = s.link.addressStraps)
    let counted := s.setLink { s.link with errors := min 65535 (s.link.errors + 1) }
    let run := exec (.frameClose (escapeBytes content)) s
    (307 < n → run = .next counted) ∧
    (n ≤ 307 → ¬ size → run = .next counted) ∧
    (size → ¬ check → run = .next counted) ∧
    (size → check → ¬ mine → run = .next s) ∧
    (size → check → mine → 2 ≤ s.link.buffers.length → run = .next counted)

/-- R159, R158, R164: a FLAG right after 0x7D discards the bytes assembled, escaped bytes among them or not, and opens a
new frame; the first FLAG after power-on opens a frame, the bytes before it ignored (that a later one is none and
changes nothing is the model's choice, log 41); a FLAG with nothing before it is ignored. The host-ready input is taken
at its level; no frame is begun while it is negated, nor when every source is empty. -/
def Obligations.LineOpensAbortsAndWaits : Prop :=
  ∀ (s : State) (bytes : List Byte) (level : Bool),
    let opened := s.setLink { s.link with flagSeen := true, assembling := [], escaped := false }
    (s.link.escaped = false → (∀ b ∈ bytes, b ≠ 0x7D#8) → exec (.frameAbort bytes) s = .next opened) ∧
    (s.link.escaped = false → exec (.frameAbort (escapeBytes bytes)) s = .next opened) ∧
    (s.link.flagSeen = false → exec (.firstFlagAfterPowerOn bytes) s = .next opened) ∧
    (s.link.flagSeen = true → exec (.firstFlagAfterPowerOn bytes) s = .next s) ∧
    (s.link.flagSeen = true → s.link.escaped = false → s.link.assembling = [] → exec (.frameClose []) s = .next s) ∧
    exec (.hostReadyChange level) s = .next (s.setLink { s.link with hostReady := level }) ∧
    (s.link.hostReady = false → exec .outboundWalk s = .next s) ∧
    (s.link.addressStraps ≠ 15 → s.link.replyFirst = false → (∀ src, s.link.ready src = false) →
      exec .outboundWalk s = .next s)

/-- R161. The oldest buffered frame, decoded, is the command of the request that it holds, made on the state without
that frame: an addressed one when a reply place is free, and a broadcast STOP or RESET. An unknown class is answered
UNKNOWN and a body too short for its class FORMAT; a broadcast frame of another class is dropped; an addressed frame
waits in its buffer while no reply place is free. Table 10-6 lists the classes 128..131 as outbound: that one of them
which comes in is answered UNKNOWN too is the model's reading (log 80). -/
def Obligations.DecoderHandsOnOrAnswers : Prop :=
  (
    ∀ (s : State) (f : InFrame) (rest : List InFrame) (r : Request) (c : Instr),
      s.link.buffers = f :: rest → decodeRequest f.cls f.body = .request r →
      let taken := s.setLink { s.link with buffers := rest }
      (f.broadcast = false → s.link.addressStraps ≠ 15 → s.link.replies.length < 4 →
        r.command (.addressed f.tag) = some c → ∃ t, exec .requestDecode s = .next t ∧ exec c taken = .next t) ∧
      (f.broadcast = true → r.command .broadcast = some c → c.actsOnBroadcast = true →
        ∃ t, exec .requestDecode s = .next t ∧ exec c taken = .next t)) ∧
  (
    ∀ (s : State) (f : InFrame) (rest : List InFrame), s.link.buffers = f :: rest →
      let taken := s.setLink { s.link with buffers := rest }
      (f.broadcast = false → 4 ≤ s.link.replies.length → exec .requestDecode s = .next s) ∧
      (f.broadcast = false → s.link.replies.length < 4 → (f.cls = 0 ∨ 30 < f.cls) →
        exec .requestDecode s = .next (taken.replied f.tag .unknown [])) ∧
      (f.broadcast = false → s.link.replies.length < 4 →
        (f.cls, f.body.length) ∈ ([(9, 1), (10, 1), (11, 1), (12, 1), (13, 2), (17, 8), (18, 9), (19, 3), (20, 1), (21, 1),
          (23, 1), (24, 2), (25, 2), (26, 1), (27, 1), (29, 1), (30, 1)] : List (Nat × Nat)).flatMap
          (fun p => (List.range p.2).map (fun k => (p.1, k))) →
        exec .requestDecode s = .next (taken.replied f.tag .format [])) ∧
      (f.broadcast = true → f.cls ≠ 6 → f.cls ≠ 29 → exec .requestDecode s = .next taken))

/-- R164, R163, R169, R158: the walk. It serves the first phase, from the pointer on and once round, whose source is
non-empty, and sets the pointer to the phase after it; `k` counts the phases passed over. The reply to a RESET is sent
ahead of the walk, which keeps the pointer. With address straps 15 nothing but a RESET DONE event is sent, at the first
EVENT phase: that reading of R158 is the model's choice (log 15). -/
def Obligations.WalkServesFirstReadyPhase : Prop :=
  ∀ s : State, s.link.hostReady = true →
    let l := s.link
    let run := exec .outboundWalk s
    let table := l.phases.length = 16 ∧ 1 ≤ l.pointer ∧ l.pointer ≤ 16
    let phase := fun (k : Nat) => l.phases[(l.pointer - 1 + k) % 16]?
    let serves := fun (k : Nat) (src : OutSource) =>
      run = .next (s.setLink { l.sendFrom src with pointer := (l.pointer + k) % 16 + 1 })
    (l.addressStraps ≠ 15 → l.replyFirst = false → table →
      ∀ k src, k < 16 → phase k = some src → l.ready src = true →
        (∀ j other, j < k → phase j = some other → l.ready other = false) → serves k src) ∧
    (l.addressStraps ≠ 15 → l.replyFirst = true →
      ∀ tag code data places, l.replies = ⟨tag, some ⟨code, data⟩⟩ :: places →
        run = .next (s.setLink { l with
          replies := places, replyFirst := false
          transmit := frameBytes l.addressStraps 128 tag (BitVec.ofNat 8 code.code :: data) })) ∧
    (l.addressStraps = 15 →
      ((∀ e, l.events.head? = some e → e.kind ≠ .resetDone) → run = .next s) ∧
      (∀ e, l.events.head? = some e → e.kind = .resetDone → table →
        ∀ k, k < 16 → phase k = some .event → (∀ j, j < k → phase j ≠ some .event) → serves k .event))

/-- R164: a source that stays non-empty is served at least once in every 16 frames, whatever the other blocks write
between the walks. `l n` is the Link Interface before frame `n`; its phase table keeps and gives the source a phase. -/
def Obligations.SourceServedWithin16Frames : Prop :=
  ∀ (l : Nat → Link) (src : OutSource),
    (l 0).phases.length = 16 → src ∈ (l 0).phases → 1 ≤ (l 0).pointer → (l 0).pointer ≤ 16 →
    (∀ n, (l n).hostReady = true ∧ (l n).addressStraps ≠ 15 ∧ (l n).replyFirst = false ∧ (l n).ready src = true) →
    (∀ n, (l (n + 1)).phases = (l n).phases ∧ (l (n + 1)).pointer = (l n).outbound.pointer) →
    ∃ n p, n < 16 ∧ (l n).outbound = { (l n).sendFrom src with pointer := p }

/-- R162, R163, Tables 10-3 and 10-6: the message of each source, which leaves it when its frame is begun. -/
def Obligations.MessageLayouts : Prop :=
  ∀ (l : Link) (tag : Byte) (code : ResultCode) (data : List Byte) (places : List ReplyPlace) (e : Event)
    (events : List Event) (g : Grant) (p : Progress),
    (l.replies = ⟨tag, some ⟨code, data⟩⟩ :: places →
      l.sendFrom .reply = { l with
        replies := places, replyFirst := false
        transmit := frameBytes l.addressStraps 128 tag (BitVec.ofNat 8 code.code :: data) }) ∧
    (l.events = e :: events →
      l.sendFrom .event = { l with
        events := events
        transmit := frameBytes l.addressStraps 130 0 (be1 e.kind.code ++ be1 e.head ++ be3 e.index ++ be3 e.value) }) ∧
    (l.grant = some g →
      l.sendFrom .grant = { l with
        grant := none, transmit := frameBytes l.addressStraps 129 0 (be2 g.seq ++ be1 g.count) }) ∧
    (l.progress = some p →
      l.sendFrom .progress = { l with
        progress := none
        transmit := frameBytes l.addressStraps 131 0
          (be3 p.index ++ be2 p.speed ++ sbe2 p.pos.x ++ sbe2 p.pos.y ++ be1 p.pass.code) })

/-! ## The Design Store (02) -/

/-- OPEN DESIGN and DISCARD DESIGN, taken (R31, R32, R1, R23, R25, R26, R42, R49, R74, R104, R113, R116, R130, R131,
R144): what the two have in common and what each does alone, with every block that neither touches. Every SEWING,
RESTING and PATCH head is IDLE, and an engaged one is given LIFT: the head table has it queued and the command is on
its way (`liftOnItsWay`; to a lost head no command is delivered). The Thread Monitor keeps every item but the armed
flags of the engaged heads (R131) and, at DISCARD DESIGN, the join pending flags (R144). OPEN DESIGN gives the colour
map its default; DISCARD DESIGN keeps it, the pending entries of the engaged heads written into it. -/
def Obligations.OpenAndDiscardDesign : Prop :=
  ∀ (s : State) (tag : Byte), s.hears = true →
    let src := Sender.addressed tag
    let common := fun (t : State) =>
      t.run = { s.run with
        state := .idle, pass := .main, mainCursor := 0, patchCursor := none, cause := none, segmentStart := 0, tieIn := 0
        startReturn := none, travelReturn := none, passReturn := none, point := none, warning := false
        heads := t.run.heads, activity := .none, keepTieIn := false, stepping := false, stepDone := false, carry := false
        patchDone := none, patchSewn := 0 } ∧
      (∀ h, 1 ≤ h → h ≤ 8 → (t.headAt h).needle = (s.headAt h).needle ∧ (t.headAt h).state =
        (if (s.headAt h).state = .sewing ∨ (s.headAt h).state = .resting ∨ (s.headAt h).state = .patch then .idle
          else (s.headAt h).state) ∧
        (s.engagedHead h = true → (s.linkAt h).lost = false → t.liftOnItsWay h .idle = true)) ∧
      t.monitor.policy = s.monitor.policy ∧ t.monitor.warnCount = s.monitor.warnCount ∧ t.gaps = [] ∧
      t.gov = { s.gov with window := [] } ∧ t.shaft = s.shaft ∧ t.cfg = s.cfg ∧ t.free = s.free ∧ t.pending = s.pending ∧
      ((∀ h, 1 ≤ h → h ≤ 8 → s.engagedHead h = false) → t.bus = s.pump.bus)
    (s.quiet = true → s.run.state = .idle ∨ s.run.state = .finished →
      ∃ t, exec (.openDesign src) s = .next t ∧ common t ∧
        (∀ h, 1 ≤ h → h ≤ 8 → t.watchAt h = { s.watchAt h with armed := !s.engagedHead h && (s.watchAt h).armed }) ∧
        t.store = ⟨.loading, List.replicate 32 Slot.empty, 0, 8, 0, none⟩ ∧
        t.change.map = defaultMap ∧ t.change.waiting = [] ∧ t.frame = { s.frame with origin := none } ∧
        t.link = { s.link with
          grant := some ⟨0, 8⟩, progressCount := 0, replies := s.link.replies ++ [⟨tag, some ⟨.ok, []⟩⟩] }) ∧
    (s.quiet = true → s.run.state = .idle ∨ s.run.state = .paused ∨ s.run.state = .finished →
      ∃ t, exec (.discardDesign src) s = .next t ∧ common t ∧
        (∀ h, 1 ≤ h → h ≤ 8 →
          t.watchAt h = { s.watchAt h with armed := !s.engagedHead h && (s.watchAt h).armed, joining := false }) ∧
        (s.shapesRight = true → ∀ slot h, slot < 64 → 1 ≤ h → h ≤ 8 →
          (s.engagedHead h = false ∨ (∀ p ∈ s.change.waiting, p.slot ≠ slot ∨ p.head ≠ h) →
            t.change.mapAt slot h = s.change.mapAt slot h) ∧
          (∀ needle, s.engagedHead h = true → s.change.waitingFor slot h = some needle →
            (∀ p ∈ s.change.waiting, p.slot = slot → p.head = h → p.needle = needle) →
            t.change.mapAt slot h = needle)) ∧
        t.change.waiting = s.change.waiting.filter (fun p => !(1 ≤ p.head && p.head ≤ 8 && s.engagedHead p.head)) ∧
        t.store = ⟨.absent, List.replicate 32 Slot.empty, 0, 0, 0, none⟩ ∧ t.frame = s.frame ∧
        t.link = { s.link with grant := none, replies := s.link.replies ++ [⟨tag, some ⟨.ok, []⟩⟩] }) ∧
    (s.run.state ≠ .idle → s.run.state ≠ .finished → exec (.openDesign src) s = .next (s.replied tag .busy []) ∧
      (s.run.state ≠ .paused → exec (.discardDesign src) s = .next (s.replied tag .busy [])))

/-- R33 to R35: the checks of a DESIGN BLOCK in their order, each refusal changing nothing but the reply queue. -/
def Obligations.DesignBlockChecksInOrder : Prop :=
  ∀ (s : State) (tag : Byte) (body : List Byte), s.hears = true →
    let answer := fun c => exec (.designBlock (.addressed tag) body) s = .next (s.replied tag c [])
    (body.length < 4 → answer .format) ∧
    (4 ≤ body.length →
      (s.store.design ≠ .loading → answer .busy) ∧
      (s.store.design = .loading →
        (s.store.granted = 0 → answer .notGranted) ∧
        (s.store.granted ≠ 0 →
          (twoAt body 0 ≠ s.store.nextSeq → answer .outOfOrder) ∧
          (twoAt body 0 = s.store.nextSeq →
            (blockForm body = none → answer .format) ∧
            (∀ rs, blockForm body = some rs →
              16777216 < s.store.filledEnd + rs.length ∨ positionsInDesign s.tailStamp rs = false → answer .range)))))

/-- R34, Table 10-7: the form of a block's body. It has the form exactly when its count is 1..96, it holds that many
records of three bytes, each a record of the table, and END stands last when the LAST flag is set and nowhere else.
The records of the table: a STITCH and a JUMP with signed displacements, of which -128 is refused, TRIM, COLOUR with a
slot of at most 63, SPEED in units of 10 rpm, STOP, MARK with its label, and END; no other kind is a record. -/
def Obligations.DesignBlockForm : Prop :=
  (∀ kind b c : Byte,
    let signed := fun (x : Byte) => if x.toNat < 128 then (x.toNat : Int) else (x.toNat : Int) - 256
    let refused := b.toNat = 128 ∨ c.toNat = 128
    (kind.toNat = 1 → recordOf kind b c = if refused then none else some (.stitch (signed b) (signed c))) ∧
    (kind.toNat = 2 → recordOf kind b c = if refused then none else some (.jump (signed b) (signed c))) ∧
    (kind.toNat = 3 → recordOf kind b c = some .trim) ∧
    (kind.toNat = 4 → recordOf kind b c = if b.toNat ≤ 63 then some (.colour b.toNat) else none) ∧
    (kind.toNat = 5 → recordOf kind b c = some (.speed (10 * b.toNat))) ∧
    (kind.toNat = 6 → recordOf kind b c = some .stop) ∧
    (kind.toNat = 7 → recordOf kind b c = some (.mark b.toNat)) ∧
    (kind.toNat = 8 → recordOf kind b c = some .finish) ∧
    (kind.toNat = 0 ∨ 8 < kind.toNat → recordOf kind b c = none)) ∧
  ∀ (body : List Byte) (rs : List DesignRecord), 4 ≤ body.length →
    (blockForm body = some rs ↔
      1 ≤ rs.length ∧ rs.length ≤ 96 ∧ byteAt body 3 = rs.length ∧ body.length = 4 + 3 * rs.length ∧
      (∀ i, i < rs.length →
        recordOf (body.getD (4 + 3 * i) 0) (body.getD (5 + 3 * i) 0) (body.getD (6 + 3 * i) 0) = rs[i]?) ∧
      (∀ i, i < rs.length → (rs[i]? = some .finish ↔ byteAt body 2 % 2 = 1 ∧ i + 1 = rs.length)))

/-- R36 to R38, R42, R45, R46, R53, R20, R144: a block that passes the checks. The lowest-numbered FREE slot takes it
with its stamps, G falls and the next sequence number rises by one, and a grant not yet sent no longer names it; a
LAST block completes the design. The pacing evaluation of R41 follows, then, for a main cursor that waited at the
filled end and so enters the block, a release evaluation (the moment is the model's choice, log 49), and the
governor extends its window: the records that stay in it keep what they entered with while the shaft turns, but for
the last filled motion record, which is read afresh with the block (R53; the model's choice, log 48). That RUN STARTED
carries the cursor as its record index is the model's choice too (log 30). `accepted b` is `b` with all this done. It is stated of a run at rest with nothing
due, and of one whose shaft turns. A WAITING run goes on by itself when R20 lets it (stated of a run where no head
waits to join): RUNNING, its cause cleared, the tie-in count loaded, RUN STARTED with value 4, and what is then
due done. -/
def Obligations.DesignBlockAccepted : Prop :=
  ∀ (s : State) (tag : Byte) (body : List Byte) (rs : List DesignRecord),
    s.hears = true → 4 ≤ body.length → s.store.design = .loading → s.store.granted ≠ 0 →
    twoAt body 0 = s.store.nextSeq → blockForm body = some rs → s.store.filledEnd + rs.length ≤ 16777216 →
    positionsInDesign s.tailStamp rs = true →
    let last := byteAt body 2 % 2 == 1
    let kept := rs.map s.cfg.clampRecord
    let code : ResultCode := if kept = rs then .ok else .clamped
    let exit := s.tailStamp.through kept
    let slot : Slot := ⟨
      if s.store.filledEnd ≤ s.run.mainCursor ∧ s.run.mainCursor < s.store.filledEnd + rs.length then .active
        else if s.run.pass = .patch ∧ s.run.patchCursor.any (fun c => s.store.filledEnd ≤ c &&
          c < s.store.filledEnd + rs.length) then .active
        else if s.run.mainCursor ≤ s.store.filledEnd then .filled else .retained,
      twoAt body 0, s.store.tail.isNone, last, s.store.filledEnd, kept, s.tailStamp, exit⟩
    let accepted := fun (b : State) =>
      let u := ((b.openWindowEnd.setStore {
        design := if last then .complete else .loading
        slots := s.store.slots.set (s.store.slots.findIdx (fun sl => sl.state == .free)) slot
        nextSeq := (s.store.nextSeq + 1) % 65536
        granted := if last then 0 else s.store.granted - 1
        filledEnd := s.store.filledEnd + rs.length
        tail := some exit }).setLink { b.link with
          grant := if last then none else
            match s.link.grant with
            | none => none
            | some g => if g.seq = twoAt body 0 then
                (if g.count ≤ 1 then none else some ⟨(g.seq + 1) % 65536, g.count - 1⟩) else some g }).pace
      let w := if s.run.mainCursor = s.store.filledEnd then u.release else u
      w.setGov { w.gov with window := w.windowNow }
    let v := accepted s
    let run := exec (.designBlock (.addressed tag) body) s
    let goesOn := s.run.state = .waiting ∧ v.heldFault = false ∧ v.anyAble = true ∧
      (16 ≤ v.motionAhead ∨ (last = true ∧ s.run.mainCursor < s.store.filledEnd + rs.length))
    (s.quiet = true ∨ (s.calm = true ∧ (s.shaft.state = .running ∨ s.shaft.state = .stopping)) → ¬ goesOn →
      run = .next ((v.pump).replied tag code [])) ∧
    (goesOn → s.joinsWaiting = false →
      let a := accepted (s.setLink (s.link.reserve tag))
      run = .next (State.deliver (((((a.setRun { s.run with
          state := .running, activity := .none, cause := none, tieIn := s.cfg.speeds.tieIn }).setMonitor { s.monitor with
          heads := s.monitor.heads.map (fun w => { w with armed := false }) }).setLink
        (a.link.post ⟨.runStarted, 0, s.cursor, 4⟩)).finish, some ⟨code, []⟩))))

/-- R40, R41, R42, R45, R44. A pacing evaluation, with L below H: it grants min(T - G, FREE - G) blocks when the design
is OPEN and G is below T, adding them to a grant not yet sent, and otherwise changes nothing. A release evaluation: it
frees exactly the RETAINED slots none of whose records lies among the R records before the main cursor or in the range
of a gap, and changes no other slot. -/
def Obligations.PacingAndRelease : Prop :=
  (
    ∀ s : State, s.cfg.pacing.low < s.cfg.pacing.high →
      let ahead := s.store.filledEnd - s.run.mainCursor
      let target := if ahead < s.cfg.pacing.low then 2 else if ahead < s.cfg.pacing.high then 1 else 0
      let n := min (target - s.store.granted) (s.store.freeCount - s.store.granted)
      s.pacingTarget = target ∧
      (s.store.design ≠ .loading ∨ n = 0 → s.pace = s) ∧
      (s.store.design = .loading → n ≠ 0 →
        s.pace = (s.setStore { s.store with granted := s.store.granted + n }).setLink { s.link with
          grant := some (match s.link.grant with
            | some g => ⟨g.seq, g.count + n⟩
            | none => ⟨(s.store.nextSeq + s.store.granted) % 65536, n⟩) })) ∧
  (
    ∀ (s : State) (i : Nat) (sl : Slot), s.store.slots[i]? = some sl →
      let held := fun (j : Nat) => (s.run.mainCursor - s.cfg.pacing.retain ≤ j ∧ j < s.run.mainCursor) ∨
        ∃ g ∈ s.gaps, g.start ≤ j ∧ j < g.stop.getD s.run.mainCursor
      (sl.state = .retained → (∀ j, sl.firstIndex ≤ j → j < sl.firstIndex + sl.records.length → ¬ held j) →
        s.release.store.slots[i]? = some Slot.empty) ∧
      (sl.state ≠ .retained ∨ (∃ j, sl.firstIndex ≤ j ∧ j < sl.firstIndex + sl.records.length ∧ held j) →
        s.release.store.slots[i]? = some sl))

/-! ## Run requests (01) -/

/-- R12, R13, R14, R15, R21, R22, R74, R151: START, RESUME, STEP and RUN TO MARK, taken. The run is ARMING with the
start-warning output asserted and the stop cause cleared; the state it came from is recorded; from IDLE the origin is
fixed when it is not set (that a STEP fixes it too is the model's choice, log 20). `startRefused` and `resumeRefused`
are the conditions 3 to 7 of R12 and R13. -/
def Obligations.StartsArmTheRun : Prop :=
  ∀ (s : State) (tag : Byte) (label : Nat), s.hears = true →
    (s.run.state = .idle ∧ s.startRefused = none) ∨ (s.run.state = .paused ∧ s.resumeRefused = none) →
    let fixed := if s.run.state = .idle then
      s.setFrame { s.frame with origin := some (s.frame.origin.getD ⟨s.frame.x.pos, s.frame.y.pos⟩) } else s
    let armed := fun (mark : Option Nat) (value : Nat) (step keep : Bool) => (fixed.setRun { s.run with
      state := .arming, cause := none, startReturn := some s.run.state, warning := true, activity := .hold, mark := mark
      startValue := value, stepping := step, stepDone := false, keepTieIn := keep
      patchDone := if s.run.pass = .patch then s.run.patchCursor else none }).replied tag .ok []
    let value := if s.run.state = .idle then 1 else 2
    (s.run.mode ≠ .single →
      exec (.start (.addressed tag)) s = .next (armed s.run.mark value false false) ∧
      (s.run.state = .paused → exec (.resume (.addressed tag)) s = .next (armed s.run.mark 2 false false)) ∧
      (label < 256 → exec (.runToMark (.addressed tag) label) s = .next (armed (some label) value false false))) ∧
    (s.run.mode = .single → exec (.step (.addressed tag)) s =
      .next (armed s.run.mark 3 true (s.run.state == .paused && s.run.cause == some .step)))

/-- R12, R13, R2, R19, R21, R22: the conditions of the four requests in their order. START and RUN TO MARK are judged in
BURST and CONTINUOUS mode, STEP in SINGLE mode, each by R12 from IDLE and by R13 from PAUSED; RESUME in PAUSED and not
in SINGLE mode. A refused one changes nothing but the reply queue. With it (R12, condition 6, read under R116), which
heads are able to sew in the main pass. -/
def Obligations.StartConditionsInOrder : Prop :=
  ∀ (s : State) (tag : Byte) (label : Nat), s.hears = true →
    let all := fun (c : ResultCode) =>
      exec (.start (.addressed tag)) s = .next (s.replied tag c []) ∧
      exec (.runToMark (.addressed tag) label) s = .next (s.replied tag c [])
    let step := fun (c : ResultCode) => exec (.step (.addressed tag)) s = .next (s.replied tag c [])
    let resume := fun (c : ResultCode) => exec (.resume (.addressed tag)) s = .next (s.replied tag c [])
    let fromIdle := fun (answer : ResultCode → Prop) =>
      (s.store.design = .absent ∨ s.store.recordAt 0 = none → answer .noData) ∧
      (s.store.design ≠ .absent → s.store.recordAt 0 ≠ none →
        (s.frame.x.referenced = false ∨ s.frame.y.referenced = false ∨ s.shaft.referenced = false → answer .notReferenced) ∧
        (s.frame.x.referenced = true → s.frame.y.referenced = true → s.shaft.referenced = true →
          (s.heldFault = true → answer .faultPending) ∧
          (s.heldFault = false → s.anyAble = false → answer .notConfigured) ∧
          (s.heldFault = false → s.anyAble = true → s.outOfBounds s.cursor = true → answer .range)))
    let fromPaused := fun (answer : ResultCode → Prop) =>
      (s.heldFault = true → answer .faultPending) ∧
      (s.heldFault = false →
        (s.frame.x.referenced = false ∨ s.frame.y.referenced = false → answer .notReferenced) ∧
        (s.frame.x.referenced = true → s.frame.y.referenced = true →
          (s.dataAtCursor = false → answer .noData) ∧
          (s.dataAtCursor = true → s.anyAble = false → answer .notConfigured) ∧
          (s.dataAtCursor = true → s.anyAble = true → s.outOfBounds s.cursor = true → answer .range)))
    (s.run.state = .unconfigured → all .notConfigured ∧ step .notConfigured ∧ resume .notConfigured) ∧
    (s.run.state ≠ .unconfigured → s.run.state ≠ .idle → s.run.state ≠ .paused → all .busy ∧ step .busy) ∧
    (s.run.state ≠ .unconfigured → s.run.state ≠ .paused → resume .busy) ∧
    (s.run.state = .idle ∨ s.run.state = .paused →
      (s.run.mode = .single → all .busy ∧ resume .busy) ∧ (s.run.mode ≠ .single → step .busy)) ∧
    (s.run.state = .idle → (s.run.mode ≠ .single → fromIdle all) ∧ (s.run.mode = .single → fromIdle step)) ∧
    (s.run.state = .paused →
      (s.run.mode ≠ .single → fromPaused (fun c => all c ∧ resume c)) ∧ (s.run.mode = .single → fromPaused step)) ∧
    (∀ h : Nat, s.run.pass = .main →
      (s.able h = true ↔
        ((s.headAt h).state = .idle ∨ (s.headAt h).state = .sewing ∨ (s.headAt h).state = .resting) ∧
        (s.watchAt h).fault = none ∧
        (match s.change.waiting.find? (fun p => p.slot == (s.stampAt s.run.mainCursor).colour && p.head == h) with
          | some p => p.needle ≠ 0
          | none => s.change.mapAt (s.stampAt s.run.mainCursor).colour h ≠ 0)))

/-- R16, R3, R14, R15, R81, R93, R161: STOP by the run state, addressed and answered OK, or broadcast, with the same
effect and no reply; a broadcast one during the stop of a CONTROLLED RESET has no effect. It is stated of states where
no head waits to join and, where it pauses the run, where a patch pass has a selected gap left (R154). A RUNNING run
goes to STOPPING, with the shaft turning and with it at rest or HOLDING for a move in flight, and a STOPPING one
stays; the warning hold and step 2 of a start end where the start came from, a WAITING run PAUSED, with cause HOST and
STOPPED posted; a CHANGING run, and one in step 4, has the cause recorded and its work run on; a travel is asked to
end after its segment, with the cause unchanged when the host asked for it; a homing and a referencing end. That a
homing's axis keeps F is the model's choice (log 14), and so is that a start which waits in step 1 for the host's
referencing ends with it (log 29). -/
def Obligations.StopEndsWhatRuns : Prop :=
  (∀ s : State, s.link.resetBy ≠ none → exec (.stop .broadcast) s = .next s) ∧
  ∀ (s : State) (src : Sender),
    (match src with
      | .addressed _ => s.hears = true
      | .broadcast => s.link.resetBy = none) → s.joinsWaiting = false →
    let exec' := exec (.stop src) s
    let answered := fun (u : State) => match src with
      | .addressed tag => u.replied tag .ok []
      | .broadcast => u
    let index := if s.run.pass = .patch then s.run.patchCursor.getD s.run.mainCursor else s.run.mainCursor
    let cause := s.run.cause.getD .host
    let ended := fun (b : State) (state : RunState) (cause : StopCause) => ((b.setRun { s.run with
      state := state, cause := some cause, activity := .none, carry := false, stepping := false, stepDone := false
      keepTieIn := false, point := none, startReturn := none, travelReturn := none, warning := false }).setLink
      (s.link.post ⟨.stopped, 0, index, cause.code⟩)).pump
    let braked := s.setShaft { s.shaft with
      state := .unreferenced, referenced := false, speed := 0, hold := false, braked := false, stall := none
      hostReference := false, lockout := { s.shaft.lockout with referencing := false } }
    let resting := s.shaft.state ≠ .referencing ∧ s.frame.homing = none
    let still := s.frame.travel = none ∧ s.frame.homing = none
    (s.run.state = .running → s.run.activity = .none → s.shaft.state = .running ∨ s.shaft.state = .stopping ∨
      ((s.shaft.state = .atRest ∨ s.shaft.state = .holding) ∧ s.frame.stitch ≠ none) → still → exec' =
      .next (answered ((s.setRun { s.run with state := .stopping, cause := some cause }).pump))) ∧
    (s.run.state = .stopping → s.calm = true → s.shaft.state = .running ∨ s.shaft.state = .stopping →
      exec' = .next (answered s.pump)) ∧
    (s.run.state = .arming → s.run.activity = .hold → s.shaft.state ≠ .referencing → still →
      (s.run.startReturn = some .paused → s.passGoesOn = true →
        exec' = .next (answered (ended s .paused cause))) ∧
      (s.run.startReturn = some .idle →
        (∀ h, 1 ≤ h → h ≤ 8 → s.engagedHead h = false ∧ (s.headAt h).state ≠ .resting) →
        exec' = .next (answered (ended s .idle cause)))) ∧
    (s.run.state = .arming → s.run.activity = .referencing ∨ s.run.activity = .dueTravel → s.shaft.state = .referencing →
      still → s.run.startReturn = some .paused → s.passGoesOn = true →
        exec' = .next (answered (ended braked .paused cause))) ∧
    (s.run.state = .changing ∨ (s.run.state = .arming ∧ s.run.activity = .engaging) → s.run.activity ≠ .hostTravel →
      resting → exec' = .next (match src with
        | .addressed tag => State.deliver
            (((s.setLink (s.link.reserve tag)).setRun { s.run with cause := some cause }).finish, some ⟨.ok, []⟩)
        | .broadcast => (s.setRun { s.run with cause := some cause }).finish)) ∧
    (∀ (v : Travel) (k : Nat), s.run.state = .travelling → resting → s.frame.travel = some v → v.index = some k →
      let asked := s.setFrame { s.frame with travel := some { v with stopAsked := true } }
      (s.run.activity = .hostTravel → exec' = .next (answered asked.pump)) ∧
      (s.run.activity = .returnTravel ∨ s.run.activity = .patchTravel →
        exec' = .next (answered ((asked.setRun { s.run with cause := some cause }).pump)))) ∧
    (s.run.state = .waiting → s.quiet = true → resting → s.passGoesOn = true →
      exec' = .next (answered (ended s .paused .host))) ∧
    (s.run.state = .unconfigured ∨ s.run.state = .idle ∨ s.run.state = .paused ∨ s.run.state = .finished ∨
      s.run.state = .halted → s.quiet = true →
      (s.shaft.state = .referencing → s.frame.homing = none → exec' = .next (answered braked.pump)) ∧
      (resting → exec' = .next (answered s.pump)) ∧
      (∀ axis phase, s.shaft.state ≠ .referencing → s.frame.homing = some ⟨axis, phase⟩ →
        ∃ t, exec' = .next t ∧ t.frame.homing = none ∧ t.run = s.run ∧ t.shaft.lockout.homing = false ∧
          t.frame.x.referenced = s.frame.x.referenced ∧ t.frame.y.referenced = s.frame.y.referenced ∧
          t.frame.pos = s.frame.pos ∧
          t.link = (answered (s.setLink
            (s.link.post ⟨.homeFailed, 0, index, match axis with | .x => 3 | .y => 4⟩))).link))

/-- R19: SET MODE and the MODE group, taken and refused; the run state is checked before the value. -/
def Obligations.SetModeAndModeGroup : Prop :=
  ∀ (s : State) (tag : Byte) (mode : Nat), s.hears = true →
    let both := fun t => exec (.setMode (.addressed tag) mode) s = .next t ∧
      exec (.configureMode (.addressed tag) mode) s = .next t
    (s.run.state = .idle ∨ s.run.state = .paused →
      (mode = 0 → both ((s.setRun { s.run with mode := .single }).replied tag .ok [])) ∧
      (mode = 1 → both ((s.setRun { s.run with mode := .burst }).replied tag .ok [])) ∧
      (mode = 2 → both ((s.setRun { s.run with mode := .continuous }).replied tag .ok [])) ∧
      (2 < mode → both (s.replied tag .range []))) ∧
    (s.run.state ≠ .idle → s.run.state ≠ .paused → both (s.replied tag .busy []))

/-- R24, R100, R110, R132, R135, R148: HEAD ON and HEAD OFF. HEAD ON makes an OFF head within the head count IDLE, its
loss cleared and its break countdown loaded. HEAD OFF (stated of the main pass) makes a head OFF, its fault, its
waiting join and its loss cleared; an engaged one is given LIFT (`liftOnItsWay`), its armed flag and its excursion
counter are cleared, and a WARN state it held is cleared with TENSION CLEAR, which lowers the WARN count, and the
derate flag follows that (R136, R56). Its OPEN gap becomes CLOSED with its end at the main cursor, or is removed when
that end is not above its start, and GAP CLOSED is posted; no other gap changes. Neither does anything to a head that
is already so. That the probe request goes with the loss it belongs to is the model's choice (log 62). -/
def Obligations.HeadOnAndHeadOff : Prop :=
  ∀ (s : State) (tag : Byte) (h : Nat), s.hears = true →
    let c := s.run.mainCursor
    let warned := s.engagedHead h && (s.watchAt h).warn
    let calmed := if warned then s.link.post ⟨.tensionClear, h, c, 0⟩ else s.link
    let isOpen := fun (g : Gap) => g.head == h && g.state == .opened
    let closed := match s.gaps.find? isOpen with
      | none => s.gaps
      | some g => if g.start < c then s.gaps.map (fun x => if isOpen x then { x with stop := some c, state := .closed } else x)
        else s.gaps.filter (fun x => !isOpen x)
    let told := match s.gaps.find? isOpen with
      | none => calmed
      | some g => calmed.post ⟨.gapClosed, h, c, c - g.start⟩
    (
      let run := exec (.headOn (.addressed tag) h) s
      (s.run.state ≠ .idle → s.run.state ≠ .paused → run = .next (s.replied tag .busy [])) ∧
      (s.run.state = .idle ∨ s.run.state = .paused →
        (h = 0 ∨ 8 < h ∨ s.cfg.machine.headCount < h → run = .next (s.replied tag .range [])) ∧
        (s.quiet = true → 1 ≤ h → h ≤ 8 → h ≤ s.cfg.machine.headCount →
          ((s.headAt h).state ≠ .off → run = .next (s.pump.replied tag .ok [])) ∧
          ((s.headAt h).state = .off → run = .next (((((s.setRun { s.run with
              heads := s.run.heads.modify (h - 1) (fun e => { e with state := .idle }) }).setBus { s.bus with
              heads := s.bus.heads.modify (h - 1) (fun l =>
                { l with lost := false, timeouts := 0, probe := false, nextMark := .fresh }) }).setMonitor { s.monitor with
              heads := s.monitor.heads.modify (h - 1) (fun w => { w with countdown := s.cfg.thread.breakB }) }).pump).replied
              tag .ok []))))) ∧
    (
      let run := exec (.headOff (.addressed tag) h) s
      (s.run.state ≠ .idle → s.run.state ≠ .paused → run = .next (s.replied tag .busy [])) ∧
      (s.run.state = .idle ∨ s.run.state = .paused →
        (h = 0 ∨ 8 < h → run = .next (s.replied tag .range [])) ∧
        (s.quiet = true → 1 ≤ h → h ≤ 8 → s.run.heads.length = 8 → s.monitor.heads.length = 8 → s.bus.heads.length = 8 →
          ((s.headAt h).state = .off → run = .next (s.pump.replied tag .ok [])) ∧
          ((s.headAt h).state ≠ .off → s.run.pass = .main →
            ∃ t, run = .next t ∧ (t.headAt h).state = .off ∧
              t.watchAt h = (if s.engagedHead h then { s.watchAt h with
                  fault := none, joining := false, armed := false, excursion := 0, warn := false }
                else { s.watchAt h with fault := none, joining := false }) ∧
              t.monitor.warnCount = (if warned then s.monitor.warnCount - 1 else s.monitor.warnCount) ∧
              t.gov = (if warned then { s.gov with derate := decide (1 < s.monitor.warnCount) } else s.gov) ∧
              (t.linkAt h).lost = false ∧ t.gaps = closed ∧ t.link.events = told.events ∧
              t.link.overflow = told.overflow ∧
              (s.engagedHead h = true → t.liftOnItsWay h .off = true) ∧
              t.link.replies = s.link.replies ++ [⟨tag, some ⟨.ok, []⟩⟩] ∧ t.run.state = s.run.state ∧
              t.run.mainCursor = s.run.mainCursor ∧ t.frame = s.frame ∧ t.shaft = s.shaft ∧ t.cfg = s.cfg ∧
              (∀ j, j ≠ h → 1 ≤ j → j ≤ 8 → t.headAt j = s.headAt j ∧ t.watchAt j = s.watchAt j)))))

/-- R97, R105: CLEAR HALT. Outside HALTED it has no effect, and with the emergency-stop input asserted it is refused.
Taken, the Halt reason goes and the run returns as recorded, STOPPED being posted for PAUSED with cause ESTOP; a patch
pass that is PAUSED then with no selected gap left ends (R154, as O59 spells it), which is the model's reading
(log 65); and a free head bus begins its next transaction. It is stated of states where no acknowledged engagement
waits and no join, which would be resolved with a release evaluation (the model's choice, log 74). -/
def Obligations.ClearHaltReturns : Prop :=
  ∀ (s : State) (tag : Byte) (back : RunState), s.hears = true →
    let run := exec (.clearHalt (.addressed tag)) s
    let index := if s.run.pass = .patch then s.run.patchCursor.getD s.run.mainCursor else s.run.mainCursor
    (s.run.state ≠ .halted → run = .next (s.replied tag .ok [])) ∧
    (s.run.state = .halted → s.shaft.estop = true → run = .next (s.replied tag .busy [])) ∧
    (s.run.state = .halted → s.shaft.estop = false → s.run.haltReturn = some back → s.joinsWaiting = false →
      (∀ h, 1 ≤ h → h ≤ 8 → (s.headAt h).acked = none) → s.quiet = true → back ≠ .running → back ≠ .stopping →
      let t := (s.setShaft { s.shaft with lockout := { s.shaft.lockout with halt := false } }).setRun
        { s.run with state := back, haltReturn := none }
      let u := if back = .paused ∧ s.run.cause = some .estop then t.setLink (s.link.post ⟨.stopped, 0, index, 13⟩) else t
      (back ≠ .paused ∨ s.passGoesOn = true → run = .next (u.pump.replied tag .ok [])) ∧
      (back = .paused → s.passGoesOn = false → s.run.passReturn = some .paused ∨ s.run.passReturn = some .finished →
        run = .next (u.endPatch.pump.replied tag .ok [])))

/-! ## Frame and shaft requests (03, 04, 05) -/

/-- R57, R74, R8, R71, R72, R73: SPEED CEILING is taken in every run state, its value clamped into crawl..machine max;
SET ORIGIN takes the frame's position as the origin, in IDLE with both axes referenced. `maxSpeed` is not below crawl
(R172, the line after Table 11-2). A motion record is judged by its target, from the origin (before one is set, from
the position that a START would make it) and the design position at its index: a field-limit stop point outside the
limits, then, for a STITCH, a guard-zone stop point inside an active zone, which reaches 2^kx by 2^ky units upward
from its bases, and otherwise no stop point. -/
def Obligations.SpeedCeilingAndOrigin : Prop :=
  (∀ (s : State) (i : Nat) (dx dy : Int) (jump : Bool),
    let m := s.cfg.machine
    let o := s.frame.origin.getD ⟨s.frame.x.pos, s.frame.y.pos⟩
    let x := o.x + (s.stampAt i).pos.x + dx
    let y := o.y + (s.stampAt i).pos.y + dy
    let outside := x < m.xLow ∨ m.xHigh < x ∨ y < m.yLow ∨ m.yHigh < y
    let wide := fun (k : Nat) => (2 ^ k : Int)
    let guarded := ∃ z ∈ s.frame.zones, z.fields.active = true ∧
      z.fields.xBase ≤ x ∧ x < z.fields.xBase + wide z.fields.kx ∧
      z.fields.yBase ≤ y ∧ y < z.fields.yBase + wide z.fields.ky
    s.store.recordAt i = some (if jump then .jump dx dy else .stitch dx dy) →
    (∀ z ∈ s.frame.zones, z.fields.xBase % wide z.fields.kx = 0 ∧ z.fields.yBase % wide z.fields.ky = 0) →
    (s.run.pass = .main → s.run.point ≠ some i) → (s.run.pass = .patch → s.patchStop i = false) →
    (outside → s.stopKindAt i = some .fieldLimit) ∧
    (¬ outside → jump = false → guarded → s.stopKindAt i = some .zone) ∧
    (¬ outside → jump = true ∨ ¬ guarded → s.stopKindAt i = none)) ∧
  ∀ (s : State) (tag : Byte) (rpm : Nat), s.hears = true → s.cfg.speeds.crawl ≤ s.cfg.speeds.maxSpeed →
    let ceiling := exec (.speedCeiling (.addressed tag) rpm) s
    let origin := exec (.setOrigin (.addressed tag)) s
    let at_ := fun v => s.setGov { s.gov with ceiling := v }
    (s.cfg.speeds.crawl ≤ rpm → rpm ≤ s.cfg.speeds.maxSpeed → ceiling = .next ((at_ rpm).replied tag .ok [])) ∧
    (rpm < s.cfg.speeds.crawl → ceiling = .next ((at_ s.cfg.speeds.crawl).replied tag .clamped [])) ∧
    (s.cfg.speeds.maxSpeed < rpm → ceiling = .next ((at_ s.cfg.speeds.maxSpeed).replied tag .clamped [])) ∧
    (s.run.state ≠ .idle → origin = .next (s.replied tag .busy [])) ∧
    (s.run.state = .idle →
      (s.frame.x.referenced = false ∨ s.frame.y.referenced = false → origin = .next (s.replied tag .notReferenced [])) ∧
      (s.frame.x.referenced = true → s.frame.y.referenced = true → origin =
        .next ((s.setFrame { s.frame with origin := some ⟨s.frame.x.pos, s.frame.y.pos⟩ }).replied tag .ok [])))

/-- R80, R81, R92, R93, R94, R85, Table 5-2: HOME FRAME and REFERENCE SHAFT, in the run states that take them. A
homing begins with both axes unreferenced, their off-path flags clear, the Homing reason in the lockout set, and the X
axis driven up from an active sensor, down to an inactive one. A referencing (stated of a shaft that is not RUNNING or
STOPPING) turns the shaft at crawl, its referenced flag clear, the stall timer at full length and the Referencing
reason in the lockout set. It is the model's choice that an axis off its path keeps its step count when its flag is
cleared (log 86), and that HOME FRAME before the MACHINE group is answered NOT CONFIGURED during a referencing too
(log 88). -/
def Obligations.HomingAndReferencingBegin : Prop :=
  ∀ (s : State) (tag : Byte), s.hears = true →
    (
      let run := exec (.homeFrame (.addressed tag)) s
      let open_ := s.run.state = .idle ∨ s.run.state = .paused ∨ (s.run.state = .unconfigured ∧ s.cfg.machineSet = true)
      (s.run.state = .unconfigured → s.cfg.machineSet = false → run = .next (s.replied tag .notConfigured [])) ∧
      (s.run.state ≠ .unconfigured → s.run.state ≠ .idle → s.run.state ≠ .paused → run = .next (s.replied tag .busy [])) ∧
      (open_ → s.frame.homing ≠ none ∨ s.shaft.state = .referencing → run = .next (s.replied tag .busy [])) ∧
      (open_ → s.frame.homing = none → s.shaft.state ≠ .referencing → s.quiet = true → s.frame.stitch = none →
        run = .next (((((s.setFrame { s.frame with
          x := { s.frame.x with
            referenced := false, offPath := none, move := some ⟨.homing, 0, 0, 0⟩, dirUp := s.frame.x.homeActive }
          y := { s.frame.y with referenced := false, offPath := none }
          homing := some ⟨.x, if s.frame.x.homeActive then .away else .down⟩ }).setShaft { s.shaft with
            lockout := { s.shaft.lockout with homing := true } }).pump).replied tag .ok [])))) ∧
    (
      let run := exec (.referenceShaft (.addressed tag)) s
      let open_ := s.run.state = .idle ∨ s.run.state = .paused ∨ s.run.state = .finished ∨
        (s.run.state = .unconfigured ∧ s.cfg.speedsSet = true)
      let turning : Shaft := { s.shaft with
        state := .referencing, referenced := false, speed := s.cfg.speeds.crawl, hold := false, braked := false
        stall := some (120000 / s.cfg.speeds.crawl), lockout := { s.shaft.lockout with referencing := true }, wraps := 0
        openAngle := s.cfg.speeds.openAngle, closeAngle := s.cfg.speeds.closeAngle, hostReference := true }
      (s.run.state = .unconfigured → s.cfg.speedsSet = false → run = .next (s.replied tag .notConfigured [])) ∧
      (s.run.state ≠ .unconfigured → s.run.state ≠ .idle → s.run.state ≠ .paused → s.run.state ≠ .finished →
        run = .next (s.replied tag .busy [])) ∧
      (open_ → s.shaft.state = .referencing ∨ s.frame.travel ≠ none ∨ s.frame.homing ≠ none →
        run = .next (s.replied tag .busy [])) ∧
      (open_ → s.shaft.state = .unreferenced ∨ s.shaft.state = .atRest ∨ s.shaft.state = .holding → s.frame.travel = none →
        s.frame.homing = none →
        run = .next ((s.setShaft turning).replied tag .ok []) ∧ turning.enable = true ∧ turning.brake = false))

/-- R77, R76, R67, R71: MOVE FRAME. A displacement of (0, 0) completes at once with TRAVEL DONE; any other begins its
first segment, of the rounded-down part of it, with the run TRAVELLING and the Travel reason in the lockout set. It is
stated of a frame at rest and on the path, of states where no head waits to join and, for (0, 0), of states where a
paused patch pass has a selected gap left. That the direction output stays as it was at a step figure of 0 is the
model's choice (log 75). -/
def Obligations.MoveFrameBeginsItsTravel : Prop :=
  ∀ (s : State) (tag : Byte) (dx dy : Int), s.hears = true →
    let run := exec (.moveFrame (.addressed tag) dx dy) s
    let target : Point := ⟨s.frame.x.pos + dx, s.frame.y.pos + dy⟩
    let m := s.cfg.machine
    let inside := m.xLow ≤ target.x ∧ target.x ≤ m.xHigh ∧ m.yLow ≤ target.y ∧ target.y ≤ m.yHigh
    let index := if s.run.pass = .patch then s.run.patchCursor.getD s.run.mainCursor else s.run.mainCursor
    let n := (max dx.natAbs dy.natAbs + 126) / 127
    let begun := fun (a : Axis) (k : Nat) (d : Int) =>
      let steps := ((a.residue : Int) + d * k) / 256
      if d = 0 then a
      else { a with move := some ⟨.segment, d, steps, 0⟩, dirUp := if steps = 0 then a.dirUp else decide (0 < steps) }
    (s.run.state ≠ .idle → s.run.state ≠ .paused → run = .next (s.replied tag .busy [])) ∧
    (s.run.state = .idle ∨ s.run.state = .paused →
      (s.shaft.state = .referencing → run = .next (s.replied tag .busy [])) ∧
      (s.shaft.state ≠ .referencing →
        (s.frame.x.referenced = false ∨ s.frame.y.referenced = false → run = .next (s.replied tag .notReferenced [])) ∧
        (s.frame.x.referenced = true → s.frame.y.referenced = true →
          (¬ inside → run = .next (s.replied tag .range [])) ∧
          (inside → s.quiet = true → s.joinsWaiting = false → s.frame.stitch = none → s.frame.x.move = none →
            s.frame.y.move = none → s.frame.x.offPath = none → s.frame.y.offPath = none →
            (dx = 0 → dy = 0 → s.run.state = .idle ∨ s.passGoesOn = true →
              run = .next (((((s.setRun { s.run with travelReturn := none }).setShaft { s.shaft with
                lockout := { s.shaft.lockout with travel := false } }).setLink
                (s.link.post ⟨.travelDone, 0, index, 0⟩)).pump).replied tag .ok [])) ∧
            (dx ≠ 0 ∨ dy ≠ 0 → run = .next (((((s.setRun { s.run with
                state := .travelling, travelReturn := some s.run.state, activity := .hostTravel }).setShaft { s.shaft with
                lockout := { s.shaft.lockout with travel := true } }).setFrame { s.frame with
                  x := begun s.frame.x m.kX (dx / n), y := begun s.frame.y m.kY (dy / n)
                  travel := some ⟨[], ⟨s.frame.x.pos, s.frame.y.pos⟩, ⟨dx, dy⟩, n, 0,
                    some (max (dx / n).natAbs (dy / n).natAbs), false⟩ }).pump).replied tag .ok []))))))

/-! ## Requests about heads (07, 08) -/

/-- R115, R116, R133: MAP COLOUR writes the eight needles, or makes them pending for the heads engaged with the slot
in force at the cursor they sew for, the patch cursor for a PATCH head and the main cursor for any other. That a
head lowered in a colour change which was abandoned sews for the slot at its cursor (log 51), and that the needle
of a head whose LOWER is outstanding is written at once (log 52), is the model's choice; so is that a head still
SEWING in IDLE or FINISHED is engaged here (log 69), and that one still PATCH with no patch cursor sews for the
main one (log 70). BOBBIN SET sets the counter, clears both posted flags, and reports a count at or below the warn
level. -/
def Obligations.MapColourAndBobbinSet : Prop :=
  ∀ (s : State) (tag : Byte), s.hears = true → s.shapesRight = true →
    (∀ (slot : Nat) (needles : List Nat), needles.length = 8 →
      let run := exec (.mapColour (.addressed tag) slot needles) s
      (s.run.state = .changing → run = .next (s.replied tag .busy [])) ∧
      (s.run.state ≠ .changing → 63 < slot ∨ (∃ n ∈ needles, 12 < n) → run = .next (s.replied tag .range [])) ∧
      (s.run.state ≠ .changing → slot ≤ 63 → (∀ n ∈ needles, n ≤ 12) →
        ∃ c, run = .next ((s.setChange c).replied tag .ok []) ∧
          c.work = s.change.work ∧ c.newSlot = s.change.newSlot ∧ c.casing = s.change.casing ∧ c.heads = s.change.heads ∧
          (∀ h needle, 1 ≤ h → h ≤ 8 → needles[h - 1]? = some needle →
            (∀ other, other ≠ slot → c.mapAt other h = s.change.mapAt other h ∧
              c.waitingFor other h = s.change.waitingFor other h) ∧
            let at_ := if (s.headAt h).state = .patch then s.run.patchCursor.getD s.run.mainCursor else s.run.mainCursor
            (s.engagedHead h = true ∧ (s.stampAt at_).colour = slot →
              c.mapAt slot h = s.change.mapAt slot h ∧
              c.waitingFor slot h = if s.change.mapAt slot h = needle then none else some needle) ∧
            (¬ (s.engagedHead h = true ∧ (s.stampAt at_).colour = slot) →
              c.mapAt slot h = needle ∧ c.waitingFor slot h = s.change.waitingFor slot h)))) ∧
    (∀ head count : Nat,
      let run := exec (.bobbinSet (.addressed tag) head count) s
      let low := decide (0 < count ∧ count ≤ s.cfg.thread.warnLevel)
      let index := if s.run.pass = .patch then s.run.patchCursor.getD s.run.mainCursor else s.run.mainCursor
      (head = 0 ∨ 8 < head → run = .next (s.replied tag .range [])) ∧
      (1 ≤ head → head ≤ 8 → run = .next (((s.setMonitor { s.monitor with
          heads := s.monitor.heads.modify (head - 1) (fun w =>
            { w with bobbin := count, countLow := low, sensorLow := false }) }).setLink
          (if low then s.link.post ⟨.bobbinLow, head, index, 1⟩ else s.link)).replied tag .ok [])))

/-- R141, R142, R143, R111, R135, R136, R56: REPAIR DONE. Nothing for an OFF head; a probe for a head whose lost flag
is set; at once for any other: with no fault pending, or a HELD one of a head neither LOST nor DROPPED, the head keeps
its state. A DROPPED head of the main pass is brought back by the run state. In PAUSED, HALTED, FINISHED and IDLE it
becomes IDLE, its OPEN gap CLOSED with its end at the main cursor, or removed when that end is not above its start,
with GAP CLOSED posted and no other gap changed (R148).

In a run in progress it stays DROPPED with its gap OPEN and no fault pending. In RUNNING with the shaft turning a
target that is not 0 and equals the last known case position issues the LOWER of the direct join, behind what the
queue holds; any other target sets the join pending flag and has the join point placed. In STOPPING, CHANGING,
WAITING, a start sequence and RUNNING at rest the flag alone is set.

Last, where the join point is placed: at the first motion record that stands behind the window of the next
computation. A point already placed stays and serves both repairs.

The model's choice: an OPEN gap that is still there in FINISHED, in IDLE or in HALTED returning elsewhere than to
PAUSED is closed all the same (log 37), in a travel of MOVE FRAME, BACK or FORWARD made from PAUSED the head waits
(log 94), and the point is placed at the filled end where no filled motion record stands behind the window or a stop
point comes first (log 12). -/
def Obligations.RepairDoneRepairsAtOnce : Prop :=
  (
    ∀ (s : State) (tag : Byte) (h : Nat), s.hears = true → s.shapesRight = true → s.quiet = true →
      let run := exec (.repairDone (.addressed tag) h) s
      let w := s.watchAt h
      let index := if s.run.pass = .patch then s.run.patchCursor.getD s.run.mainCursor else s.run.mainCursor
      let warned := if w.warn then s.link.post ⟨.tensionClear, h, index, 0⟩ else s.link
      let c := s.run.mainCursor
      let isOpen := fun (g : Gap) => g.head == h && g.state == .opened
      let closed := match s.gaps.find? isOpen with
        | none => s.gaps
        | some g => if g.start < c then s.gaps.map (fun x => if isOpen x then { x with stop := some c, state := .closed } else x)
          else s.gaps.filter (fun x => !isOpen x)
      let told := fun (l : Link) => match s.gaps.find? isOpen with
        | none => l
        | some g => l.post ⟨.gapClosed, h, c, c - g.start⟩
      (h = 0 ∨ 8 < h → run = .next (s.replied tag .range [])) ∧
      (1 ≤ h → h ≤ 8 →
        ((s.headAt h).state = .off → run = .next (s.replied tag .ok [])) ∧
        ((s.headAt h).state ≠ .off → (s.linkAt h).lost = true →
          run = .next (((s.setBus { s.bus with heads := s.bus.heads.modify (h - 1) (fun l =>
            if l.probe then l else { l with probe := true, nextMark := .fresh }) }).pump).replied tag .ok [])) ∧
        ((s.headAt h).state ≠ .off → (s.linkAt h).lost = false → s.run.pass = .main →
          (w.fault = none ∨ (∃ kind, w.fault = some ⟨kind, .held⟩ ∧ (s.headAt h).state ≠ .lost ∧ (s.headAt h).state ≠ .dropped) →
            run = .next (((((s.setMonitor { s.monitor with
              heads := s.monitor.heads.modify (h - 1) (fun w =>
                { w with countdown := s.cfg.thread.breakB, excursion := 0, warn := false, fault := none })
              warnCount := if w.warn then s.monitor.warnCount - 1 else s.monitor.warnCount }).setGov (if w.warn then
                { s.gov with derate := s.monitor.warnCount - 1 != 0 } else s.gov)).setLink
              (warned.post ⟨.headRepaired, h, index, faultCode w.fault⟩)).pump).replied tag .ok [])) ∧
          (∀ kind, w.fault = some ⟨kind, .dropped⟩ → (s.headAt h).state = .dropped → s.run.state = .paused ∨
              s.run.state = .halted ∨ s.run.state = .finished ∨ s.run.state = .idle →
            ∃ t, run = .next t ∧ (t.headAt h).state = .idle ∧ (t.watchAt h).fault = none ∧ (t.watchAt h).joining = false ∧
              (t.watchAt h).countdown = s.cfg.thread.breakB ∧ t.gaps = closed ∧
              t.link.events = (told (warned.post ⟨.headRepaired, h, index, faultCode w.fault⟩)).events ∧
              t.link.overflow = (told (warned.post ⟨.headRepaired, h, index, faultCode w.fault⟩)).overflow ∧
              t.run.state = s.run.state ∧ t.run.mainCursor = s.run.mainCursor ∧ t.frame = s.frame ∧ t.shaft = s.shaft ∧
              t.cfg = s.cfg ∧ t.link.replies = s.link.replies ++ [⟨tag, some ⟨.ok, []⟩⟩] ∧
              (∀ j, j ≠ h → 1 ≤ j → j ≤ 8 → t.headAt j = s.headAt j ∧ t.watchAt j = s.watchAt j))))) ∧
  (
    ∀ (s : State) (tag : Byte) (h : Nat) (kind : FaultKind), s.hears = true → s.shapesRight = true → 1 ≤ h → h ≤ 8 →
      (s.linkAt h).lost = false → s.run.pass = .main → (s.watchAt h).fault = some ⟨kind, .dropped⟩ →
      (s.headAt h).state = .dropped →
      let run := exec (.repairDone (.addressed tag) h) s
      let w := s.watchAt h
      let q := s.change.needle (s.stampAt s.run.mainCursor).colour h
      let direct := q ≠ 0 ∧ (s.workAt h).lastKnown = some q
      let turning := s.shaft.state = .running ∨ s.shaft.state = .stopping ∨ s.shaft.state = .referencing
      let lower : BusCommand := ⟨h, .engage ⟨.lower, .sewing, true, false⟩⟩
      let warned := if w.warn then s.link.post ⟨.tensionClear, h, s.cursor, 0⟩ else s.link
      let repaired := fun (u : State) (joining : Bool) =>
        run = .next (State.deliver (u.finish, some ⟨.ok, []⟩)) ∧ (u.headAt h).state = .dropped ∧
        u.watchAt h = { w with
          countdown := s.cfg.thread.breakB, excursion := 0, warn := false, fault := none, joining := joining } ∧
        u.run = { s.run with heads := u.run.heads, point := u.run.point } ∧ u.gaps = s.gaps ∧ u.shaft = s.shaft ∧
        u.frame = s.frame ∧ u.store = s.store ∧ u.change = s.change ∧ u.cfg = s.cfg ∧
        u.link.events = (warned.post ⟨.headRepaired, h, s.cursor, faultCode w.fault⟩).events ∧
        u.link.replies = s.link.replies ++ [⟨tag, none⟩] ∧
        ∀ j, j ≠ h → 1 ≤ j → j ≤ 8 → u.headAt j = s.headAt j ∧ u.watchAt j = s.watchAt j
      (s.run.state = .running → turning →
        (direct → ∃ u : State, repaired u w.joining ∧ u.run.point = s.run.point ∧ (u.headAt h).queued = some .lower ∧
          ((∀ c ∈ s.bus.queue ++ s.bus.held, c.engages h = false) → s.bus.queue.length < 16 → s.bus.held = [] →
            u.bus = { s.bus with queue := s.bus.queue ++ [lower] }) ∧ lower ∈ u.bus.queue ++ u.bus.held) ∧
        (¬ direct → ∃ u : State, repaired u true ∧ u.bus = s.bus ∧ u.run.point = s.placePoint.run.point)) ∧
      (s.run.state = .stopping ∨ s.run.state = .changing ∨ s.run.state = .waiting ∨ s.run.state = .arming ∨
          (s.run.state = .running ∧ ¬ turning) ∨
          (s.run.state = .travelling ∧ (s.run.activity = .returnTravel ∨ s.run.travelReturn = some .paused)) →
        ∃ u : State, repaired u true ∧ u.bus = s.bus ∧ u.run.point = s.run.point)) ∧
  (
    ∀ s : State,
      let motion := fun (i : Nat) => ∃ r, s.store.recordAt i = some r ∧ (motionOf r).isSome = true
      let first := if s.run.carry then s.cursor + 1 else s.cursor
      let far := s.setRun { s.run with point := some s.store.filledEnd }
      (s.run.point ≠ none → s.placePoint = s) ∧
      (∀ i held e, s.run.point = none → far.outlook first = .motion i held → (far.windowAt i).getLast? = some e →
        ∃ j, s.placePoint = s.setRun { s.run with point := some j } ∧
          (j = s.store.filledEnd ∨ (e.index < j ∧ j < s.store.filledEnd ∧ motion j)) ∧
          ∀ i, e.index < i → i < j → ¬ motion i) ∧
      (s.run.point = none → far.outlook first = .stop → s.run.pass = .main → s.placePoint = far))

/-! ## Gap requests (09) -/

/-- R150, R116: SEW GAPS. The conditions in their order; taken, every selectable gap is SEWING, the pass is PATCH with
its cursor at the smallest start, the return state is recorded, and a RESUME is taken (R13, R14, R151). A pending needle
waits on only while its head is engaged for its slot: that a head still PATCH sews for the new patch cursor from here on
is the model's choice (log 70). -/
def Obligations.SewGapsBeginsThePass : Prop :=
  ∀ (s : State) (tag : Byte), s.hears = true →
    let run := exec (.sewGaps (.addressed tag)) s
    let may := (s.run.state = .paused ∧ s.run.pass = .main) ∨ s.run.state = .finished
    let selectable := fun (g : Gap) => g.state = .closed ∧ (s.headAt g.head).state ≠ .off ∧
      (s.headAt g.head).state ≠ .lost ∧ (s.watchAt g.head).fault = none
    (¬ may ∨ s.shaft.state = .referencing ∨ s.run.mode = .single → run = .next (s.replied tag .busy [])) ∧
    (may → s.shaft.state ≠ .referencing → s.run.mode ≠ .single →
      ((∀ g ∈ s.gaps, ¬ selectable g) → run = .next (s.replied tag .nothingToDo [])) ∧
      (∀ start, (∃ g ∈ s.gaps, selectable g ∧ g.start = start) → (∀ g ∈ s.gaps, selectable g → start ≤ g.start) →
        (s.frame.x.referenced = false ∨ s.frame.y.referenced = false → run = .next (s.replied tag .notReferenced [])) ∧
        (s.frame.x.referenced = true → s.frame.y.referenced = true →
          let sewable := ∃ g ∈ s.gaps, selectable g ∧ g.start = start ∧ s.change.needle g.colour g.head ≠ 0
          (s.heldFault = true → run = .next (s.replied tag .faultPending [])) ∧
          (s.heldFault = false → ¬ sewable → run = .next (s.replied tag .notConfigured [])) ∧
          (s.heldFault = false → sewable → s.outOfBounds start = true → run = .next (s.replied tag .range [])) ∧
          (s.heldFault = false → sewable → s.outOfBounds start = false →
            ∃ t : State, run = .next t ∧
              t.run = { s.run with
                state := .arming, pass := .patch, patchCursor := some start, passReturn := some s.run.state, cause := none
                startReturn := some .paused, warning := true, activity := .hold, startValue := 2, stepping := false
                stepDone := false, keepTieIn := false, patchDone := some start, patchSewn := 0, point := none } ∧
              t.gaps.length = s.gaps.length ∧
              (∀ (i : Nat) (g : Gap), s.gaps[i]? = some g → (selectable g → t.gaps[i]? = some { g with state := .sewing }) ∧
                (¬ selectable g → t.gaps[i]? = some g)) ∧
              t.change.waiting = s.change.waiting.filter (fun p => !(1 ≤ p.head && p.head ≤ 8) ||
                (s.engagedHead p.head && p.slot == (t.stampAt
                  (if (s.headAt p.head).state = .patch then start else s.run.mainCursor)).colour)) ∧
              (∀ slot h, s.shapesRight = true → slot < 64 → 1 ≤ h → h ≤ 8 →
                (t.change.waitingFor slot h = s.change.waitingFor slot h → t.change.mapAt slot h = s.change.mapAt slot h) ∧
                (∀ needle, s.change.waitingFor slot h = some needle → t.change.waitingFor slot h = none →
                  (∀ p ∈ s.change.waiting, p.slot = slot → p.head = h → p.needle = needle) →
                  t.change.mapAt slot h = needle)) ∧
              t.change = { s.change with map := t.change.map, waiting := t.change.waiting } ∧
              t.frame = s.frame ∧ t.shaft = s.shaft ∧ t.bus = s.bus ∧ t.monitor = s.monitor ∧
              t.gov = s.gov ∧ t.cfg = s.cfg ∧ t.link.events = s.link.events ∧
              t.link.replies = s.link.replies ++ [⟨tag, some ⟨.ok, []⟩⟩]))))

/-- R155, R149, R44, R45, R154: ABANDON GAP. Every CLOSED and SEWING gap of the heads named is removed, their OPEN
gaps begin no earlier than the main cursor, one whose start rises taking its entry position and colour slot there, and
no other gap changes. Where a head named has a gap, the release evaluation frees the RETAINED slots that nothing holds
any more, and pacing follows when one is freed; that the evaluation is made too when no start rises is the model's
choice (log 71). A paused patch pass that keeps a selected gap goes on; one left without any ends. `settled` says that
the stamps at the main cursor do not come from a slot that may be freed: it lies in a block in use, or at the filled
end. -/
def Obligations.AbandonGapGivesUpGaps : Prop :=
  ∀ (s : State) (tag : Byte) (head : Nat), s.hears = true →
    let run := exec (.abandonGap (.addressed tag) head) s
    let named := fun (g : Gap) => if head = 0 then 1 ≤ g.head && g.head ≤ 8 else g.head == head
    let c := s.run.mainCursor
    let at_ := s.stampAt c
    let holds := fun (sl : Slot) => sl.state ≠ .free ∧ sl.firstIndex ≤ c ∧ c < sl.firstIndex + sl.records.length
    let settled := ((∃ sl ∈ s.store.slots, holds sl) ∧ ∀ sl ∈ s.store.slots, holds sl → sl.state ≠ .retained) ∨
      ∀ sl ∈ s.store.slots, ¬ holds sl ∧
        (sl.state ≠ .free → sl.firstIndex + sl.records.length = c → sl.exit = s.tailStamp)
    let freed := fun (t : State) (sl : Slot) => (∃ g ∈ s.gaps, named g = true) ∧ sl.state = .retained ∧
      ∀ j, sl.firstIndex ≤ j → j < sl.firstIndex + sl.records.length →
        ¬ (c - s.cfg.pacing.retain ≤ j ∧ j < c) ∧ ∀ g ∈ t.gaps, ¬ (g.start ≤ j ∧ j < g.stop.getD c)
    let blocks := fun (t : State) => min (s.pacingTarget - s.store.granted) (t.store.freeCount - s.store.granted)
    (s.run.state ≠ .paused → s.run.state ≠ .finished → run = .next (s.replied tag .busy [])) ∧
    (s.run.state = .paused ∨ s.run.state = .finished → 8 < head → run = .next (s.replied tag .range [])) ∧
    (s.run.state = .paused ∨ s.run.state = .finished → head ≤ 8 → s.quiet = true →
      (s.run.pass = .main ∨ (∃ g ∈ s.gaps, g.state = .sewing ∧ named g = false) →
        ∃ t, run = .next t ∧
          (∀ g ∈ t.gaps, named g = true → g.state = .opened) ∧
          (t.gaps.filter named).map Gap.start =
            (s.gaps.filter (fun g => named g && g.state == .opened)).map (fun g => max g.start c) ∧
          (settled → t.gaps.filter named = (s.gaps.filter (fun g => named g && g.state == .opened)).map (fun g =>
            if g.start < c then { g with start := c, entry := at_.pos, colour := at_.colour } else g)) ∧
          t.gaps.filter (fun g => !named g) = s.gaps.filter (fun g => !named g) ∧
          (∀ (i : Nat) (sl : Slot), s.store.slots[i]? = some sl →
            (freed t sl → t.store.slots[i]? = some Slot.empty) ∧ (¬ freed t sl → t.store.slots[i]? = some sl)) ∧
          t.store = { s.store with slots := t.store.slots, granted := t.store.granted } ∧
          t.store.slots.length = s.store.slots.length ∧
          ((∀ sl ∈ s.store.slots, ¬ freed t sl) ∨ s.store.design ≠ .loading ∨ blocks t = 0 →
            t.store.granted = s.store.granted ∧ t.link.grant = s.link.grant) ∧
          ((∃ sl ∈ s.store.slots, freed t sl) → s.store.design = .loading → blocks t ≠ 0 →
            t.store.granted = s.store.granted + blocks t ∧ t.link.grant = some (match s.link.grant with
              | some g => ⟨g.seq, g.count + blocks t⟩
              | none => ⟨(s.store.nextSeq + s.store.granted) % 65536, blocks t⟩)) ∧
          t.run = s.run ∧ t.frame = s.frame ∧ t.shaft = s.shaft ∧ t.bus = s.pump.bus ∧ t.change = s.change ∧
          t.monitor = s.monitor ∧ t.gov = s.gov ∧ t.cfg = s.cfg ∧ t.link.events = s.link.events ∧
          t.link.replies = s.link.replies ++ [⟨tag, some ⟨.ok, []⟩⟩]) ∧
      (∀ back, s.run.state = .paused → s.run.pass = .patch → s.run.passReturn = some back →
        back = .paused ∨ back = .finished → (∀ g ∈ s.gaps, g.state = .sewing → named g = true) →
        ∃ t, run = .next t ∧ t.run.pass = .main ∧ t.run.patchCursor = none ∧ t.run.passReturn = none ∧
          t.run.state = back ∧ t.run.cause = none ∧ (∀ g ∈ t.gaps, g.state ≠ .sewing) ∧
          t.link.replies = s.link.replies ++ [⟨tag, some ⟨.ok, []⟩⟩]))

/-- R156, R157, R76, R2. First, which motion records BACK passes over: down to the limit, the greatest of the earliest
retained record, the record after the last COLOUR or TRIM before the main cursor, and the starts of the OPEN gaps; and
which FORWARD passes over: all from the cursor on, up to the count taken, the first stop point, or the filled end.
Then BACK and FORWARD: the checks in their order; a count taken of 0 changes nothing (for FORWARD before a stop point
that effect records stand before, the model's choice, log 92); otherwise the main cursor moves, the count taken is
answered, and the frame travels through the positions of the records passed. It is stated of a frame at rest and on
the path (log 32), and of a first leg that moves the frame. -/
def Obligations.BackAndForwardMoveTheCursor : Prop :=
  (
    ∀ (s : State) (n : Nat),
      let c := s.run.mainCursor
      let limit := s.backLimit
      let motion := fun (i : Nat) => ∃ r, s.store.recordAt i = some r ∧ (motionOf r).isSome = true
      let ends := fun (i : Nat) => ∃ r, s.store.recordAt i = some r ∧ (r = .trim ∨ ∃ slot, r = .colour slot)
      let passed := s.motionBack limit c n
      (s.earliestRetained ≤ limit ∧ (∀ i, i < c → ends i → i < limit) ∧
        (∀ g ∈ s.gaps, g.state = .opened → g.start ≤ limit) ∧
        (limit = s.earliestRetained ∨ (∃ i, i < c ∧ ends i ∧ limit = i + 1) ∨
          (∃ g ∈ s.gaps, g.state = .opened ∧ limit = g.start))) ∧
      (passed.length ≤ n ∧ passed.Pairwise (fun i j => j < i) ∧ (∀ i ∈ passed, limit ≤ i ∧ i < c ∧ motion i) ∧
        (∀ i, limit ≤ i → i < c → motion i → i ∉ passed → passed.length = n ∧ ∀ j ∈ passed, i < j))) ∧
  (
    ∀ (s : State) (n : Nat),
      let c := s.run.mainCursor
      let motion := fun (i : Nat) => ∃ r, s.store.recordAt i = some r ∧ (motionOf r).isSome = true
      let walk := s.walkForward (s.store.filledEnd + 1 - c) c n
      walk.2.length ≤ n ∧ walk.2.Pairwise (fun i j => i < j) ∧ c ≤ walk.1 ∧
      (∀ i, i ∈ walk.2 ↔ c ≤ i ∧ i < walk.1 ∧ motion i) ∧
      (∀ i, c ≤ i → i < walk.1 → s.stopKindAt i = none) ∧
      (walk.2.length < n → s.stopKindAt walk.1 ≠ none ∨ s.store.filledEnd < walk.1) ∧
      (walk.2.length = n → n ≠ 0 → walk.2.getLast? = some (walk.1 - 1))) ∧
  (
    ∀ (s : State) (tag : Byte) (n : Nat), s.hears = true →
      let back := exec (.back (.addressed tag) n) s
      let forward := exec (.forward (.addressed tag) n) s
      let both := fun (c : ResultCode) => back = .next (s.replied tag c []) ∧ forward = .next (s.replied tag c [])
      let travels := fun (t : State) (new k : Nat) (legs : List Point) =>
        t.run = { s.run with
          state := .travelling, travelReturn := some .paused, activity := .hostTravel, mainCursor := new } ∧
        t.link.replies = s.link.replies ++ [⟨tag, some ⟨.ok, be2 k⟩⟩] ∧ t.shaft.lockout.travel = true ∧
        (∀ first rest, legs = first :: rest → ∃ tr, t.frame.travel = some tr ∧ tr.legs = rest ∧ tr.origin = s.frame.pos ∧
          tr.shift = first.sub s.frame.pos ∧ tr.made = 0 ∧ tr.stopAsked = false) ∧
        t.frame.pos = s.frame.pos ∧ t.store.filledEnd = s.store.filledEnd ∧ t.monitor = s.monitor ∧ t.change = s.change ∧
        t.cfg = s.cfg
      (s.run.state ≠ .paused ∨ s.run.pass = .patch ∨ s.shaft.state = .referencing → both .busy) ∧
      (s.run.state = .paused → s.run.pass = .main → s.shaft.state ≠ .referencing →
        (n = 0 → both .range) ∧
        (n ≠ 0 →
          (s.frame.x.referenced = false ∨ s.frame.y.referenced = false → both .notReferenced) ∧
          (s.frame.x.referenced = true → s.frame.y.referenced = true →
            let passed := s.motionBack s.backLimit s.run.mainCursor n
            let walk := s.walkForward (s.store.filledEnd + 1 - s.run.mainCursor) s.run.mainCursor n
            let still := s.quiet = true ∧ s.frame.stitch = none ∧ s.frame.x.move = none ∧ s.frame.y.move = none ∧
              s.offPath = false
            (passed = [] → back = .next (s.replied tag .ok (be2 0))) ∧
            (walk.2 = [] → forward = .next (s.replied tag .ok (be2 0))) ∧
            ((∃ i ∈ passed, inField s.cfg.machine (s.framePosAt i) = false) → back = .next (s.replied tag .range [])) ∧
            (∀ first new, still → passed.head? = some first → passed.getLast? = some new →
              (∀ i ∈ passed, inField s.cfg.machine (s.framePosAt i) = true) → s.framePosAt first ≠ s.frame.pos →
              ∃ t, back = .next t ∧ travels t new passed.length (passed.map s.framePosAt) ∧
                t.gaps = (s.gaps.map (fun g => if g.state = .closed ∧ new < g.stop.getD 0 then
                  { g with stop := some (max g.start new) } else g)).filter
                    (fun g => !(g.state == .closed && g.stop == some g.start))) ∧
            (∀ first, still → walk.2.head? = some first → s.motionTarget first ≠ s.frame.pos →
              ∃ t, forward = .next t ∧ travels t walk.1 walk.2.length (walk.2.map s.motionTarget) ∧ t.gaps = s.gaps)))))

/-! ## Read-outs (10, 11) -/

/-- R165, R163, Table 10-8: STATUS answers the selected groups in their fixed order and, with FAULTS selected, clears
the event overflow flag. What the manual does not state is free (log 6, log 7): `vx` and `vy` are step counts read
during a move, `ob` the bytes of an origin that is not set, `hb` the handling of a head with no fault. -/
def Obligations.StatusAnswersTheSelectedGroups : Prop :=
  ∀ (s : State) (tag : Byte) (selection : Nat), s.hears = true → selection < 256 →
    let pick := fun (n : Nat) (group : List Byte) =>
      if (if selection = 0 then n = 0 else selection / 2 ^ n % 2 = 1) then group else []
    let flag := fun (b : Bool) => be1 (if b then 1 else 0)
    let run := be1 s.run.state.code ++ be1 s.run.pass.code ++ be1 (causeCode s.run.cause) ++ be3 s.run.mainCursor ++
      be3 (s.run.patchCursor.getD 0) ++ be1 s.run.mode.code ++ be1 s.shaft.state.code ++ flag s.shaft.referenced ++
      flag s.shaft.estop
    let speed := be2 (s.gov.last.getD 0) ++ be2 (s.gov.bound.getD 0) ++ be2 s.effectiveCeiling ++ flag s.gov.derate
    let store := (([.free, .filled, .active, .retained] : List SlotState).flatMap (fun k =>
        be1 (s.store.slots.countP (fun sl => sl.state == k)))) ++ be3 (s.store.filledEnd - s.run.mainCursor) ++
      be1 s.store.granted ++ be2 s.store.nextSeq ++ be1 s.store.design.code
    let heads := headNumbers.flatMap (fun h =>
      be1 (s.headAt h).state.code ++ be1 (s.headAt h).needle ++ flag (s.watchAt h).warn)
    let stepsRead := fun (a : Axis) (v : Int) => (a.move = none → v = a.steps) ∧
      ∀ m, a.move = some m → m.kind ≠ .homing → m.issued ≤ m.steps.natAbs →
        min a.steps (a.steps + m.steps) ≤ v ∧ v ≤ max a.steps (a.steps + m.steps)
    let cleared := if selection / 32 % 2 = 1 then s.setLink { s.link with overflow := false } else s
    ∃ (vx vy : Int) (ob : List Byte) (hb : Nat → Byte),
      stepsRead s.frame.x vx ∧ stepsRead s.frame.y vy ∧ ob.length = 4 ∧
      (∀ o, s.frame.origin = some o → ob = sbe2 o.x ++ sbe2 o.y) ∧
      (∀ h f, (s.watchAt h).fault = some f → hb h = (match f.handling with | .held => 0#8 | .dropped => 1#8)) ∧
      exec (.status (.addressed tag) selection) s = .next ((cleared.setFree (s.free + 16)).replied tag .ok
        (pick 0 run ++ pick 1 speed ++
          pick 2 (sbe2 s.frame.x.pos ++ sbe4 vx ++ flag s.frame.x.referenced ++ sbe2 s.frame.y.pos ++ sbe4 vy ++
            flag s.frame.y.referenced ++ flag s.frame.origin.isSome ++ ob) ++
          pick 3 store ++ pick 4 heads ++
          pick 5 (headNumbers.flatMap (fun h => be1 (faultCode (s.watchAt h).fault) ++ [hb h]) ++ flag s.link.overflow) ++
          pick 6 (be1 s.gaps.length) ++ pick 7 (be2 s.link.errors)))

/-- R166, R176, R171, Tables 10-9 and 11-1: READ HEAD, READ GAPS and the read-backs of the configuration groups. `hb` is
the handling byte, free with no fault pending (log 7). A read-back of another length is answered FORMAT: MOVE TABLE and
ZONE are read back with a number, the other groups without. That the pending fields of a ZONE open with the zone number
is the model's choice (log 45). -/
def Obligations.ReadoutsAnswerTheirData : Prop :=
  ∀ (s : State) (tag : Byte), s.hears = true →
    let flag := fun (b : Bool) => be1 (if b then 1 else 0)
    (∀ h : Nat,
      (h = 0 ∨ 8 < h → exec (.readHead (.addressed tag) h) s = .next (s.replied tag .range [])) ∧
      (1 ≤ h → h ≤ 8 →
        let e := s.headAt h
        let l := s.linkAt h
        let w := s.watchAt h
        ∃ hb : Byte, (∀ f, w.fault = some f → hb = (match f.handling with | .held => 0#8 | .dropped => 1#8)) ∧
          exec (.readHead (.addressed tag) h) s = .next ((s.setFree (s.free + 1)).replied tag .ok
            (be1 e.state.code ++ be1 e.needle ++
              be1 (match e.queued with | none => 0 | some .lower => 1 | some .lift => 2) ++
              flag l.lost ++ be1 l.timeouts ++ flag l.record.isSome ++
              (match l.record with
                | none => [0, 0, 0, 0, 0, 0, 0, 0, 0]
                | some r => be1 r.casePos ++ be1 (caseStateCode r.caseState) ++ be1 (trimStateCode r.trimState) ++
                    flag r.engaged ++ be1 r.penetrations ++ be2 r.feed ++ be1 r.tension ++ flag r.bobbinLow) ++
              be1 ((s.workAt h).lastKnown.getD 0) ++ be1 w.countdown ++ flag w.armed ++ be1 w.ownTieIn ++ be2 w.bobbin ++
              flag w.countLow ++ flag w.sensorLow ++ be1 w.excursion ++ flag w.warn ++ be1 (faultCode w.fault) ++ [hb] ++
              flag w.joining)))) ∧
    exec (.readGaps (.addressed tag)) s = .next (s.replied tag .ok (be1 s.gaps.length ++ s.gaps.flatMap (fun g =>
      be1 g.head ++ be3 g.start ++ flag g.stop.isSome ++ be3 (g.stop.getD 0) ++ sbe2 g.entry.x ++ sbe2 g.entry.y ++
        be1 g.colour ++ be1 g.state.code))) ∧
    (∀ (group : Nat) (number : Option Nat),
      let ok := fun (data : List Byte) =>
        exec (.configureReadBack (.addressed tag) group number) s = .next (s.replied tag .ok data)
      let range := exec (.configureReadBack (.addressed tag) group number) s = .next (s.replied tag .range [])
      let format := exec (.configureReadBack (.addressed tag) group number) s = .next (s.replied tag .format [])
      let m := s.cfg.machine
      let g := s.cfg.speeds
      let th := s.cfg.thread
      let zone := fun (n : Nat) (z : ZoneFields) =>
        be1 n ++ flag z.active ++ sbe2 z.xBase ++ be1 z.kx ++ sbe2 z.yBase ++ be1 z.ky
      (group = 1 → number = none → ok (be1 m.headCount ++ be2 m.kX ++ be2 m.kY ++ sbe2 m.xLow ++ sbe2 m.xHigh ++ sbe2 m.yLow ++
        sbe2 m.yHigh ++ sbe2 m.homeX ++ sbe2 m.homeY ++ flag s.cfg.machineSet)) ∧
      (group = 2 → number = none → ok (be2 g.crawl ++ be2 g.maxSpeed ++ be2 g.accel ++ be2 g.decel ++ be2 g.openAngle ++
        be2 g.closeAngle ++ be1 g.tieIn ++ flag s.cfg.speedsSet)) ∧
      (∀ p, group = 3 → number = some p → if p ≤ 3 then
        ok (be1 p ++ ((s.cfg.table.drop (32 * p)).take 32).flatMap be2 ++ flag s.cfg.tableLoaded ++
          flag (s.cfg.pieces.getD p false)) else range) ∧
      (group = 4 → number = none → ok (be1 th.breakB ++ be1 th.tensionLow ++ be1 th.tensionHigh ++ be1 th.upper ++ be1 th.lower ++
        be1 th.derate ++ be2 th.warnLevel ++ be1 th.overlap ++ [0])) ∧
      (group = 5 → number = none → ok (be2 s.cfg.pacing.low ++ be2 s.cfg.pacing.high ++ be2 s.cfg.pacing.retain ++ [0])) ∧
      (∀ n, group = 6 → number = some n →
        (n = 0 ∨ 4 < n → range) ∧
        (∀ z, 1 ≤ n → n ≤ 4 → s.frame.zones[n - 1]? = some z →
          ok (zone n z.fields ++ flag z.waiting.isSome ++ (match z.waiting with | none => [] | some f => zone n f)))) ∧
      (group = 7 → number = none → ok (s.link.phases.flatMap (fun p => be1 p.code) ++ [0])) ∧
      (group = 8 → number = none → ok (be2 s.cfg.pollAngle ++ be1 s.cfg.pollPeriod ++ [0])) ∧
      (group = 9 → number = none → ok (be2 s.cfg.progressPeriod ++ [0])) ∧
      (group = 10 → number = none → ok (be1 s.monitor.policy.code ++ [0])) ∧
      (group = 11 → number = none → ok (be1 s.run.mode.code ++ [0])) ∧
      (1 ≤ group → group ≤ 11 → (number = none ↔ group = 3 ∨ group = 6) →
        (Instr.configureReadBack (.addressed tag) group number).wf = true → format) ∧
      (group = 0 ∨ 11 < group → range))

/-! ## Configuration groups (11) -/

/-- R71, R173, R174, R175, R23, R67: the MACHINE group. Its run states and its ranges; taken, heads beyond the new
count are OFF, those newly within it IDLE, an axis whose K changed is unreferenced, and the run leaves
UNCONFIGURED with the last mark. That the step count and residue of an axis whose K changed are computed afresh
from its position under the new K is the model's choice (log 25). It is stated of the main pass and of axes on
their path (log 25 again). -/
def Obligations.MachineGroupTaken : Prop :=
  ∀ (s : State) (tag : Byte) (g : MachineGroup), s.hears = true → s.shapesRight = true →
    let run := exec (.configureMachine (.addressed tag) g) s
    let open_ := s.run.state = .unconfigured ∨ s.run.state = .idle ∨ s.run.state = .paused
    let position := fun (v : Int) => -32000 ≤ v ∧ v ≤ 32000
    let right := 1 ≤ g.headCount ∧ g.headCount ≤ 8 ∧ 64 ≤ g.kX ∧ g.kX ≤ 4096 ∧ 64 ≤ g.kY ∧ g.kY ≤ 4096 ∧
      position g.xLow ∧ position g.xHigh ∧ position g.yLow ∧ position g.yHigh ∧ g.xLow < g.xHigh ∧ g.yLow < g.yHigh ∧
      g.xLow ≤ g.homeX ∧ g.homeX ≤ g.xHigh ∧ g.yLow ≤ g.homeY ∧ g.homeY ≤ g.yHigh ∧
      (s.frame.x.referenced = true → g.xLow ≤ s.frame.x.pos ∧ s.frame.x.pos ≤ g.xHigh) ∧
      (s.frame.y.referenced = true → g.yLow ≤ s.frame.y.pos ∧ s.frame.y.pos ≤ g.yHigh)
    let old := s.cfg.machine
    let scaled := fun (a : Axis) (k k' : Nat) => if k = k' then a
      else { a with referenced := false, steps := a.pos * k' / 256, residue := (a.pos * k' % 256).toNat }
    (¬ open_ ∨ s.frame.busy = true → run = .next (s.replied tag .busy [])) ∧
    (open_ → s.frame.busy = false → ¬ right → run = .next (s.replied tag .range [])) ∧
    (open_ → s.frame.busy = false → right → s.quiet = true → s.run.pass = .main → s.frame.x.offPath = none →
      s.frame.y.offPath = none →
      ∃ t, run = .next t ∧ t.cfg = { s.cfg with machine := g, machineSet := true } ∧
        t.frame = { s.frame with x := scaled s.frame.x old.kX g.kX, y := scaled s.frame.y old.kY g.kY } ∧
        (∀ h, 1 ≤ h → h ≤ 8 →
          (g.headCount < h → (t.headAt h).state = .off) ∧
          (g.headCount < h → (s.headAt h).state ≠ .off → (t.watchAt h).fault = none ∧ (t.watchAt h).joining = false) ∧
          (old.headCount < h → h ≤ g.headCount → (s.headAt h).state = .off → (t.headAt h).state = .idle) ∧
          (h ≤ g.headCount → h ≤ old.headCount ∨ (s.headAt h).state ≠ .off → t.headAt h = s.headAt h)) ∧
        t.run.state = (if s.run.state = .unconfigured ∧ s.cfg.speedsSet = true ∧ s.cfg.tableLoaded = true then .idle
          else s.run.state) ∧
        t.run.mainCursor = s.run.mainCursor ∧ t.gov.ceiling = s.gov.ceiling ∧ t.shaft = s.shaft ∧
        t.link.replies = s.link.replies ++ [⟨tag, some ⟨.ok, []⟩⟩])

/-- R58, R85, R173, R175: the SPEED LIMITS group. Its run states and its ranges; taken, it is in force whole, the
operator ceiling is clamped into the new crawl..machine max, and nothing else changes but the mark it sets and the run
state that may follow. -/
def Obligations.SpeedLimitsTaken : Prop :=
  ∀ (s : State) (tag : Byte) (g : SpeedGroup), s.hears = true →
    let run := exec (.configureSpeedLimits (.addressed tag) g) s
    let open_ := s.run.state = .unconfigured ∨ s.run.state = .idle ∨ s.run.state = .paused
    let arc := ((g.closeAngle : Int) - g.openAngle) % 1024
    let right := 40 ≤ g.crawl ∧ g.crawl ≤ 200 ∧ 200 ≤ g.maxSpeed ∧ g.maxSpeed ≤ 1500 ∧ 5 ≤ g.accel ∧ g.accel ≤ 200 ∧
      20 ≤ g.decel ∧ g.decel ≤ 400 ∧ g.maxSpeed ≤ g.crawl + 16 * g.decel ∧ g.openAngle ≤ 1023 ∧ g.closeAngle ≤ 1023 ∧
      128 ≤ arc ∧ arc ≤ 768 ∧ g.tieIn ≤ 9
    let state := if s.run.state = .unconfigured ∧ s.cfg.machineSet = true ∧ s.cfg.tableLoaded = true then .idle
      else s.run.state
    let ceiling := if s.gov.ceiling < g.crawl then g.crawl else if g.maxSpeed < s.gov.ceiling then g.maxSpeed
      else s.gov.ceiling
    (¬ open_ ∨ s.shaft.state = .referencing → run = .next (s.replied tag .busy [])) ∧
    (open_ → s.shaft.state ≠ .referencing → ¬ right → run = .next (s.replied tag .range [])) ∧
    (open_ → s.shaft.state ≠ .referencing → right →
      run = .next ((((s.setCfg { s.cfg with speeds := g, speedsSet := true }).setGov { s.gov with
        ceiling := ceiling }).setRun { s.run with state := state }).replied tag .ok []))

/-- R50, R173, R175: the MOVE TABLE group. A piece that would complete the table, or that meets a loaded one, is
judged by the whole table; any other by its own entries and by those at the boundaries of the neighbouring pieces
accepted. R51 to R54: what the table is for. The time bound of a move of index k is floor(60,000,000 a / (1024 T[k])),
the arc a being the configured one for a STITCH and 1024 for a JUMP, and machine max for T[k] = 0; a STITCH whose time
bound is below crawl is held; and the window that a computation at record i reads (`windowAt`, which O49 names) holds
16 motion records at most, i first, each with its distance, the next one after effect records only: it ends at a stop
point, before which the last record is a crawl point, and at the last filled record of a complete design. A record's
bound is crawl before a stop point or a held STITCH, else the record bound S. -/
def Obligations.MoveTableTakesPieces : Prop :=
  (∀ (s : State) (i : Nat) (r : DesignRecord) (d : Int × Int), s.store.recordAt i = some r → motionOf r = some d →
    let g := s.cfg.speeds
    let timeBound := fun (stitch : Bool) (dx dy : Int) =>
      let t := s.cfg.table.getD (max dx.natAbs dy.natAbs) 0
      let arc := if stitch then (((g.closeAngle : Int) - g.openAngle) % 1024).toNat else 1024
      if t = 0 then g.maxSpeed else 60000000 * arc / (1024 * t)
    let held := fun (j : Nat) => ∃ dx dy, s.store.recordAt j = some (.stitch dx dy) ∧ timeBound true dx dy < g.crawl
    let bounded := fun (j v : Nat) => ∃ dx dy stitch,
      s.store.recordAt j = some (if stitch then .stitch dx dy else .jump dx dy) ∧
      v = max g.crawl (min (timeBound stitch dx dy) (min g.maxSpeed (s.stampAt j).limit))
    let next := fun (j k : Nat) => j < k ∧ k ≤ s.store.filledEnd ∧ ∀ m, j < m → m < k → s.stopKindAt m = none ∧
      ∃ e, s.store.recordAt m = some e ∧ motionOf e = none
    let stopAhead := fun (j : Nat) => ∃ k, next j k ∧ s.stopKindAt k ≠ none ∧
      (k < s.store.filledEnd ∨ s.store.design = .loading)
    let motionAhead := fun (j k : Nat) => next j k ∧ s.stopKindAt k = none ∧
      ∃ e, s.store.recordAt k = some e ∧ (motionOf e).isSome = true
    let w := s.windowAt i
    (∀ dx dy, s.cfg.heldIndex (max dx.natAbs dy.natAbs) = decide (timeBound true dx dy < g.crawl)) ∧
    w.length ≤ 16 ∧ (w[0]?).map WindowEntry.index = some i ∧
    (∀ (n : Nat) (e : WindowEntry), w[n]? = some e → e.distance = n ∧
      (stopAhead e.index → e.stopFollows = true ∧ e.bound = g.crawl ∧ w.length = n + 1) ∧
      (∀ k, motionAhead e.index k → e.stopFollows = false ∧ (held k → e.bound = g.crawl) ∧
        (¬ held k → bounded e.index e.bound) ∧ (n < 15 → (w[n + 1]?).map WindowEntry.index = some k)) ∧
      (¬ stopAhead e.index → (∀ k, ¬ motionAhead e.index k) →
        e.stopFollows = false ∧ bounded e.index e.bound ∧ w.length = n + 1))) ∧
  ∀ (s : State) (tag : Byte) (piece : Nat) (entries : List Nat), s.hears = true → s.shapesRight = true →
    entries.length = 32 →
    let run := exec (.configureMoveTable (.addressed tag) piece entries) s
    let open_ := (s.run.state = .unconfigured ∨ s.run.state = .idle ∨ s.run.state = .paused) ∧
      s.shaft.state ≠ .referencing
    let rising := fun (l : List Nat) => l.Pairwise (fun a b => a ≤ b)
    let table := s.cfg.table.take (32 * piece) ++ entries ++ s.cfg.table.drop (32 * piece + 32)
    let done := fun (p : Nat) => s.cfg.pieces[p]? = some true
    let completes := ∀ p, p < 4 → p ≠ piece → done p
    let judgedWhole := s.cfg.tableLoaded = true ∨ completes
    let right := (judgedWhole → rising table) ∧ (¬ judgedWhole → rising entries ∧
      (∀ p a b, p + 1 = piece → done p → s.cfg.table[32 * piece - 1]? = some a → entries[0]? = some b → a ≤ b) ∧
      (∀ a b, done (piece + 1) → entries[31]? = some a → s.cfg.table[32 * piece + 32]? = some b → a ≤ b))
    let loaded := s.cfg.tableLoaded || decide completes
    (¬ open_ → run = .next (s.replied tag .busy [])) ∧
    (open_ → 3 < piece → run = .next (s.replied tag .range [])) ∧
    (open_ → piece ≤ 3 → ¬ right → run = .next (s.replied tag .range [])) ∧
    (open_ → piece ≤ 3 → right → run = .next (((s.setCfg { s.cfg with
        table := table, pieces := s.cfg.pieces.set piece true, tableLoaded := loaded }).setRun { s.run with
        state := if s.run.state = .unconfigured ∧ s.cfg.machineSet = true ∧ s.cfg.speedsSet = true ∧ loaded = true then .idle
          else s.run.state }).replied tag .ok []))

/-- R130, R47, R138, R45, R73, R64, R164, R85, R108, R168, R172: the other groups, and SET POLICY. A change of R makes a
release evaluation at once; a zone waits while the shaft turns (that its active byte is 0 or 1, any other value answered
RANGE, is the model's choice, log 39); the phase pointer keeps its value; the progress period is clamped. -/
def Obligations.OtherGroupsTaken : Prop :=
  ∀ (s : State) (tag : Byte), s.hears = true →
    (∀ g : ThreadGroup,
      let run := exec (.configureThread (.addressed tag) g) s
      let right := 2 ≤ g.breakB ∧ g.breakB ≤ 31 ∧ g.tensionHigh ≤ 255 ∧ g.tensionLow < g.tensionHigh ∧ 1 ≤ g.upper ∧
        g.upper ≤ 31 ∧ g.lower ≤ 30 ∧ g.lower < g.upper ∧ 50 ≤ g.derate ∧ g.derate ≤ 100 ∧ g.warnLevel ≤ 65535 ∧
        g.overlap ≤ 15
      (¬ right → run = .next (s.replied tag .range [])) ∧
      (right → run = .next ((s.setCfg { s.cfg with thread := g }).replied tag .ok []))) ∧
    (∀ g : PacingGroup,
      let run := exec (.configurePacing (.addressed tag) g) s
      let open_ := s.run.state = .unconfigured ∨ s.run.state = .idle ∨ s.run.state = .paused
      let right := 96 ≤ g.low ∧ g.high ≤ 3072 ∧ g.low < g.high ∧ g.retain ≤ 2000
      let taken := s.setCfg { s.cfg with pacing := g }
      (¬ open_ → run = .next (s.replied tag .busy [])) ∧
      (open_ → ¬ right → run = .next (s.replied tag .range [])) ∧
      (open_ → right →
        (g.retain = s.cfg.pacing.retain → run = .next (taken.replied tag .ok [])) ∧
        (g.retain ≠ s.cfg.pacing.retain → run = .next (taken.release.replied tag .ok [])))) ∧
    (∀ policy : Nat,
      let both := fun t => exec (.setPolicy (.addressed tag) policy) s = .next t ∧
        exec (.configurePolicy (.addressed tag) policy) s = .next t
      (s.run.state ≠ .idle → s.run.state ≠ .paused → both (s.replied tag .busy [])) ∧
      (s.run.state = .idle ∨ s.run.state = .paused →
        (policy = 0 → both ((s.setMonitor { s.monitor with policy := .stopAll }).replied tag .ok [])) ∧
        (policy = 1 → both ((s.setMonitor { s.monitor with policy := .dropOut }).replied tag .ok [])) ∧
        (1 < policy → both (s.replied tag .range [])))) ∧
    (∀ (zone active : Nat) (xb : Int) (kx : Nat) (yb : Int) (ky : Nat),
      let run := exec (.configureZone (.addressed tag) zone active xb kx yb ky) s
      let right := 1 ≤ zone ∧ zone ≤ 4 ∧ active ≤ 1 ∧ 4 ≤ kx ∧ kx ≤ 14 ∧ 4 ≤ ky ∧ ky ≤ 14 ∧ -32000 ≤ xb ∧ xb ≤ 32000 ∧
        -32000 ≤ yb ∧ yb ≤ 32000 ∧ (2 ^ kx : Int) ∣ xb ∧ (2 ^ ky : Int) ∣ yb
      let fields : ZoneFields := ⟨active == 1, xb, kx, yb, ky⟩
      let turning := s.shaft.state = .referencing ∨ s.shaft.state = .running ∨ s.shaft.state = .stopping
      (¬ right → run = .next (s.replied tag .range [])) ∧
      (right → run = .next ((s.setFrame { s.frame with zones := s.frame.zones.modify (zone - 1) (fun z =>
        if turning then { z with waiting := some fields } else ⟨fields, none⟩) }).replied tag .ok []))) ∧
    (∀ phases : List Nat,
      let run := exec (.configureArbiter (.addressed tag) phases) s
      ((∃ n ∈ phases, 3 < n) ∨ 0 ∉ phases ∨ 1 ∉ phases ∨ 2 ∉ phases ∨ 3 ∉ phases → run = .next (s.replied tag .range [])) ∧
      (∀ table : List OutSource, table.map OutSource.code = phases → 0 ∈ phases → 1 ∈ phases → 2 ∈ phases → 3 ∈ phases →
        run = .next ((s.setLink { s.link with phases := table }).replied tag .ok []))) ∧
    (∀ angle period : Nat,
      let run := exec (.configurePoll (.addressed tag) angle period) s
      (1023 < angle ∨ period < 5 ∨ 200 < period → run = .next (s.replied tag .range [])) ∧
      (angle ≤ 1023 → 5 ≤ period → period ≤ 200 →
        run = .next ((s.setCfg { s.cfg with pollAngle := angle, pollPeriod := period }).replied tag .ok []))) ∧
    (∀ period : Nat,
      let run := exec (.configureProgress (.addressed tag) period) s
      let at_ := fun p => (s.setCfg { s.cfg with progressPeriod := p }).setLink { s.link with progressCount := 0 }
      (period ≤ 1000 → run = .next ((at_ period).replied tag .ok [])) ∧
      (1000 < period → run = .next ((at_ 1000).replied tag .clamped [])))

/-! ## RESET (10) -/

/-- R169, R1, R23, R26, R49, R66, R98, R112, R113, R130, R146: RESET. An invalid mode is answered RANGE. A CONTROLLED
one over a turning shaft is recorded, and a RUNNING run goes to STOPPING. In either mode it takes effect at once where
it need not wait: every block at its RESET values, the engaged heads given LIFT, the reply alone in the reply queue
ahead of the walk, and RESET DONE posted. A broadcast one does the same with no reply. With the shaft at rest a stitch
move in flight does not delay it, and runs on (the model's reading of R66 and R169, log 54). That the Rest reason stays
in the lockout set in either mode is the model's choice (log 43). -/
def Obligations.ResetTakesEffect : Prop :=
  ∀ (s : State) (src : Sender) (mode : Nat), s.shapesRight = true →
    (∃ tag, src = .addressed tag ∧ s.hears = true) ∨ (src = .broadcast ∧ s.link.resetBy = none) →
    let run := exec (.reset src mode) s
    let waits := s.shaft.state = .referencing ∨ s.shaft.state = .running ∨ s.shaft.state = .stopping ∨
      s.shaft.state = .holding ∨ s.frame.travel ≠ none
    let bare := fun (t : State) => { t with link := { t.link with replies := [] } }
    (1 < mode → match src with
      | .addressed tag => run = .next (s.replied tag .range [])
      | .broadcast => run = .next s) ∧
    (mode = 0 → s.calm = true → s.shaft.state = .running ∨ s.shaft.state = .stopping →
      ∃ t, run = .next t ∧ bare t = bare (((s.setRun (if s.run.state = .running then
          { s.run with state := .stopping, cause := some (s.run.cause.getD .host) } else s.run)).setLink { s.link with
          resetBy := some src }).pump) ∧
        t.link.replies = (match src with
          | .addressed tag => s.link.replies ++ [⟨tag, none⟩]
          | .broadcast => s.link.replies)) ∧
    (mode = 1 ∨ (mode = 0 ∧ ¬ waits) →
      ∃ t, run = .next t ∧
        t.link = { s.link with
          resetBy := none, grant := none, overflow := false, progress := none, progressCount := 0, pointer := 1
          replies := (match src with | .addressed tag => [⟨tag, some ⟨.ok, []⟩⟩] | .broadcast => [])
          replyFirst := (match src with | .addressed _ => true | .broadcast => false)
          events := [⟨.resetDone, 0, 0, mode⟩] } ∧
        t.store = ⟨.absent, List.replicate 32 Slot.empty, 0, 0, 0, none⟩ ∧ t.gaps = [] ∧
        t.gov = { s.gov with last := none, bound := none, derate := false, window := [] } ∧
        t.run = { s.run with
          state := (if s.run.state = .unconfigured then .unconfigured else if s.run.state = .halted then .halted else .idle)
          pass := .main, mainCursor := 0, patchCursor := none, cause := none, mark := none, segmentStart := 0, tieIn := 0
          startReturn := none, travelReturn := none, passReturn := none, point := none
          haltReturn := (if s.run.state = .halted then
            (if s.run.haltReturn = some .unconfigured then some .unconfigured else some .idle) else none)
          warning := false, heads := t.run.heads, activity := .none, keepTieIn := false, stepping := false
          stepDone := false, carry := false, patchDone := none, patchSewn := 0 } ∧
        (∀ h, 1 ≤ h → h ≤ 8 →
          (t.headAt h).state = (if (s.headAt h).state = .off then .off else .idle) ∧
          (t.headAt h).needle = (s.headAt h).needle ∧ (t.headAt h).acked = none ∧
          (t.headAt h).queued = (if s.engagedHead h then some .lift else none) ∧
          (s.engagedHead h = true → t.liftOnItsWay h .idle = true) ∧
          (t.linkAt h).lost = false ∧ (t.linkAt h).timeouts = 0 ∧ (t.linkAt h).probe = false ∧
          (t.linkAt h).record = (s.linkAt h).record) ∧
        t.bus.held = [] ∧ t.bus.round = none ∧
        t.change = { s.change with
          map := defaultMap, waiting := [], work := .none, casing := false
          heads := s.change.heads.map (fun w => ⟨false, .absent, 0, false, .absent, 0, 0, false, 0, none, w.lastKnown⟩) } ∧
        t.monitor = ⟨s.monitor.heads.map (fun _ => ⟨s.cfg.thread.breakB, false, 0, 0, false, false, 0, false, none, false⟩),
          0, s.monitor.policy⟩ ∧
        t.frame.pos = s.frame.pos ∧ t.frame.x.referenced = s.frame.x.referenced ∧
        t.frame.y.referenced = s.frame.y.referenced ∧ t.frame.origin = none ∧ t.frame.zones = s.frame.zones ∧
        t.frame.travel = none ∧ t.frame.homing = none ∧
        (mode = 0 → t.frame.stitch = s.frame.stitch ∧
          (∀ a, (∀ m, (s.frame.axis a).move = some m → m.kind ≠ .homing) → t.frame.axis a = s.frame.axis a) ∧
          t.shaft = { s.shaft with
            hold := false
            lockout := { s.shaft.lockout with jump := false, late := false, travel := false, homing := false } }) ∧
        (mode = 1 → t.frame.stitch = none ∧ t.frame.x.move = none ∧ t.frame.y.move = none ∧ t.shaft = { s.shaft with
          state := .unreferenced, referenced := false, speed := 0, hold := false, braked := false, stall := none
          hostReference := false
          lockout := { s.shaft.lockout with
            jump := false, late := false, travel := false, homing := false, referencing := false } }) ∧
        t.cfg = s.cfg)

/-! ## The main shaft (05) -/

/-- R84, R89, R107, R25, R106: ENCODER_COUNT. The angle follows the encoder; a count that crosses nothing, or nothing
not yet crossed since TDC, changes nothing else; at TDC a shaft that is to stop is braked, and the engagements
acknowledged while the shaft turned take effect; at the late angle after the braking TDC a STITCH move in flight is
judged late (R69) and the shaft has overrun, which is handled as a stall is (`n` stands for a running stall timer); at
the poll angle a round starts, unless one is in progress. It is the model's choice that rockings back over TDC are
counted in `wraps` and report no crossing (log 20), that a late angle of 0 is no overrun on the count of the braking
TDC (log 55), that a crossing of TDC which is not reported opens a new revolution all the same, in which each angle
can be reported again (log 60), that a poll angle changed in mid-revolution is not crossed again in it (log 61), and
that the late move is judged before the overrun (log 73). -/
def Obligations.EncoderFollowsTheShaft : Prop :=
  ∀ s : State,
    let u := s.shaft
    let a := (u.angle + 1) % 1024
    let run := exec (.encoderCount true) s
    let late := (u.closeAngle + 1008) % 1024
    let due := headNumbers.filter (fun h => (s.headAt h).state != .off && !(s.linkAt h).lost)
    let round := if s.bus.round = none then (if due = [] then none else some ⟨due, []⟩) else s.bus.round
    let judged := match s.frame.stitch with
      | none => s
      | some m => if m.jump then s
        else (s.setLink (if m.latePosted then s.link else s.link.post ⟨.lateMove, 0, s.cursor, m.index⟩)).setFrame
          { s.frame with stitch := some { m with latePosted := true } }
    let braked : Shaft := { u with
      angle := 0, seenOpen := false, seenLate := false, seenClose := false, seenPoll := false, speed := 0
      braked := true, stall := none, lockout := { u.lockout with rest := true } }
    let alone := s.cfg.pollAngle ≠ 0 ∧ late ≠ 0 ∧ u.closeAngle ≠ 0 ∧ u.openAngle ≠ 0
    let counted : Shaft := { u with angle := a, wraps := if a = 0 then u.wraps - 1 else u.wraps }
    let unreported : Shaft := if a = 0 ∧ u.wraps = 0 then { counted with
      seenOpen := false, seenLate := false, seenClose := false, seenPoll := false } else counted
    exec (.encoderCount false) s = .next (s.setShaft { u with
      angle := (u.angle + 1023) % 1024, wraps := if u.angle = 0 then u.wraps + 1 else u.wraps }) ∧
    (u.referenced = false ∨ u.state = .unreferenced ∨ u.state = .atRest ∨ u.state = .holding ∨ u.wraps ≠ 0 →
      run = .next (s.setShaft unreported)) ∧
    (u.referenced = true → u.state = .running ∨ u.state = .stopping → u.wraps = 0 → s.calm = true →
      (a ≠ 0 → (a = s.cfg.pollAngle → u.seenPoll = true) → (a = late → u.seenLate = true) →
        (a = u.closeAngle → u.seenClose = true) → (a = u.openAngle → u.seenOpen = true) →
        run = .next ((s.setShaft { u with angle := a }).pump)) ∧
      (a = 0 → u.state = .stopping → u.braked = false → s.ackedNone = true → alone →
        run = .next ((s.setShaft braked).pump)) ∧
      (a = 0 → s.shapesRight = true → alone →
        ∃ t, run = .next t ∧ t.frame = s.frame ∧ t.cfg = s.cfg ∧
          t.shaft = (if u.state = .stopping ∧ u.braked = false then braked else { u with
            angle := 0, seenOpen := false, seenLate := false, seenClose := false, seenPoll := false }) ∧
          (∀ h, 1 ≤ h → h ≤ 8 →
            ((s.headAt h).acked = none → (t.headAt h).state = (s.headAt h).state) ∧
            (∀ o, (s.headAt h).acked = some o → (t.headAt h).acked = none ∧
              (o.cmd = .lift → s.engagedHead h = true → (t.headAt h).state =
                if (s.watchAt h).fault.any (fun f => f.handling == .dropped) then .dropped else o.becomes) ∧
              (o.cmd = .lower → (s.headAt h).state = .idle ∨ (s.headAt h).state = .resting ∨
                  ((s.headAt h).state = .dropped ∧ (s.watchAt h).fault = none) →
                (t.headAt h).state = o.becomes ∧
                (o.join = true → (t.watchAt h).joining = false ∧ (t.watchAt h).armed = false ∧
                  (t.watchAt h).ownTieIn = s.cfg.speeds.tieIn))))) ∧
      (a ≠ 0 → a = s.cfg.pollAngle → u.seenPoll = false → a ≠ late → a ≠ u.closeAngle → a ≠ u.openAngle →
        run = .next (((s.setShaft { u with angle := a, seenPoll := true }).setBus { s.bus with round := round }).pump))) ∧
    (u.referenced = true → u.state = .stopping ∨ u.state = .referencing → u.braked = true → u.wraps = 0 → a ≠ 0 →
      a = late → u.seenLate = false → a ≠ u.openAngle → (a = s.cfg.pollAngle → u.seenPoll = true) →
      ∀ n, run = exec .stallTimerExpiry (judged.setShaft { u with angle := a, seenLate := true, stall := some n }))

/-- R5, R7, R18, R21, R53, R54, R59, R61, R63, R69, R70, R88, R89, R90, R91, R168: the three crossings of a revolution
that sews, in either pass. At Open the record at the cursor is given its commanded speed and its move begins, in a
RUNNING run and in a STOPPING one, whose speed falls to the crawl speed; a stop is ordered instead at a stop point,
after the motion record of a STEP (effect records at the cursor are not passed then: the model's choice, log 21), and
in a STOPPING run once the last commanded speed is the crawl speed. With a held STITCH the stop order goes out too,
with the hold mark, and its commanded speed is the crawl speed. An effect record there is passed: the crossing does
what it does with the cursor one record on, so every such record present is passed. A JUMP still in flight there is
reported once and its revolution locked out (the cursor passes no effect record then: the model's choice, log 38), and
a late STITCH begins nothing. At the late angle a STITCH move still in flight is reported and locked out. At Close a
completed STITCH is penetrated, and a JUMP executed whether or not its move has completed, and the cursor passes it;
the window moves on with it, and the P-th such record writes the progress report: its index, the commanded speed it
was sewn at, the position at which the next record begins, and the pass. A record that stays in the window keeps its
bound and its stop mark, unless a point placed behind it since lowers them (log 48). What enters the window is
`windowAt`, which O45 states from the MOVE TABLE. That the direction output of a move stays as it was at a step figure
of 0 is the model's choice (log 75). Each is stated of an angle that no other crossing shares. -/
def Obligations.CrossingsCarryTheStitch : Prop :=
  ∀ (s : State) (dx dy : Int) (jump : Bool),
    let u := s.shaft
    let a := (u.angle + 1) % 1024
    let late := (u.closeAngle + 1008) % 1024
    let run := exec (.encoderCount true) s
    let g := s.cfg.speeds
    let window := (s.windowAt s.cursor).map (fun e => match s.gov.window.find? (fun k => k.index == e.index) with
      | some k => { e with bound := min k.bound e.bound, stopFollows := k.stopFollows || e.stopFollows }
      | none => e)
    let bound := window.foldl (fun m e => min m (e.bound + e.distance * g.decel)) g.maxSpeed
    let plain := fun (p : Nat) => min bound (min (p + g.accel) (max s.effectiveCeiling (p - g.decel)))
    let speed := match s.gov.last with
      | none => g.crawl
      | some p => if 0 < s.run.tieIn then g.crawl
        else if s.run.state = .stopping then min (plain p) (max g.crawl (p - g.decel)) else plain p
    let goesOn := s.run.state = .running ∨ (s.run.state = .stopping ∧ s.gov.last ≠ some g.crawl)
    let begun := fun (x : Axis) (k : Nat) (d : Int) =>
      let steps := ((x.residue : Int) + d * k) / 256
      if d = 0 then x
      else { x with move := some ⟨.stitch, d, steps, 0⟩, dirUp := if steps = 0 then x.dirUp else decide (0 < steps) }
    let opened : Shaft := { u with angle := a, seenOpen := true, lockout := { u.lockout with jump := false, late := false } }
    u.referenced = true → u.state = .running → u.wraps = 0 → u.braked = false → s.calm = true → a ≠ 0 →
    a ≠ s.cfg.pollAngle → u.openAngle ≠ u.closeAngle → u.openAngle ≠ late →
    (a = u.openAngle → u.seenOpen = false → s.frame.stitch = none → s.run.carry = false →
      (goesOn → s.run.stepDone = false → s.stopKindAt s.cursor = none →
        s.store.recordAt s.cursor = some (if jump then .jump dx dy else .stitch dx dy) →
        let moving := ((s.setGov { s.gov with last := some speed, bound := some bound, window := window }).setFrame
          { s.frame with
            x := begun s.frame.x s.cfg.machine.kX dx, y := begun s.frame.y s.cfg.machine.kY dy
            stitch := some ⟨max dx.natAbs dy.natAbs, jump, s.cursor, false⟩ }).setRun { s.run with carry := true }
        (jump = true ∨ s.cfg.heldIndex (max dx.natAbs dy.natAbs) = false →
          run = .next ((moving.setShaft { opened with
            speed := speed, lockout := { opened.lockout with jump := jump } }).pump)) ∧
        (jump = false → s.cfg.heldIndex (max dx.natAbs dy.natAbs) = true →
          run = .next (((moving.setShaft { opened with speed := speed, state := .stopping, hold := true }).setBus
            { s.bus with restTimer := none }).pump) ∧
          (g.crawl ≤ g.maxSpeed → (∀ k ∈ s.gov.window, g.crawl ≤ k.bound) → (∀ p, s.gov.last = some p → g.crawl ≤ p) →
            speed = g.crawl))) ∧
      (s.run.state = .running ∨ s.run.state = .stopping →
        s.run.stepDone = true ∨ s.stopKindAt s.cursor ≠ none ∨
          (s.run.state = .stopping ∧ s.gov.last = some g.crawl ∧
            ∃ r, s.store.recordAt s.cursor = some r ∧ (motionOf r).isSome = true) →
        run = .next (((s.setShaft { opened with state := .stopping, hold := false }).setBus { s.bus with
          restTimer := none }).pump)) ∧
      (∀ r, s.run.state = .running ∨ s.run.state = .stopping → s.run.stepDone = false → s.stopKindAt s.cursor = none →
        s.store.recordAt s.cursor = some r → (∃ limit, r = .speed limit) ∨ (∃ label, r = .mark label) →
        s.cursor < s.store.filledEnd →
        ∃ v, run = exec (.encoderCount true) v ∧
          v.run = { s.run with
            mainCursor := if s.run.pass = .patch then s.run.mainCursor else s.run.mainCursor + 1
            patchCursor := if s.run.pass = .patch then some (s.cursor + 1) else s.run.patchCursor } ∧
          v.frame = s.frame ∧ v.shaft = u ∧ v.gov = s.gov ∧ v.bus = s.bus ∧ v.gaps = s.gaps ∧ v.monitor = s.monitor ∧
          v.change = s.change ∧ v.cfg = s.cfg ∧ v.link = { s.link with grant := v.link.grant } ∧
          v.store.filledEnd = s.store.filledEnd)) ∧
    (∀ m, a = late → u.seenLate = false → s.frame.stitch = some m → m.jump = false → m.latePosted = false →
      run = .next ((((s.setShaft { u with
        angle := a, seenLate := true, lockout := { u.lockout with late := true } }).setLink
        (s.link.post ⟨.lateMove, 0, s.cursor, m.index⟩)).setFrame { s.frame with
          stitch := some { m with latePosted := true } }).pump)) ∧
    (∀ m, a = u.openAngle → u.seenOpen = false → s.frame.stitch = some m →
      (m.jump = false → run = .next ((s.setShaft opened).pump)) ∧
      (m.jump = true → run = .next ((((s.setShaft { opened with lockout := { opened.lockout with late := true } }).setLink
        (if m.latePosted then s.link else s.link.post ⟨.lateMove, 0, m.record, m.index⟩)).setFrame { s.frame with
          stitch := some { m with latePosted := true } }).pump))) ∧
    (a = u.closeAngle → u.seenClose = false → s.run.carry = true →
      s.store.recordAt s.cursor = some (if jump then .jump dx dy else .stitch dx dy) →
      (jump = false → s.frame.stitch ≠ none ∨ u.lockout.late = true →
        run = .next ((s.setShaft { u with angle := a, seenClose := true }).pump)) ∧
      (jump = true ∨ (s.frame.stitch = none ∧ u.lockout.late = false) →
        ∃ t, run = .next t ∧ t.run = { s.run with
            mainCursor := if s.run.pass = .patch then s.run.mainCursor else s.run.mainCursor + 1
            patchCursor := if s.run.pass = .patch then some (s.cursor + 1) else s.run.patchCursor
            carry := false, stepDone := s.run.stepping, tieIn := if jump then s.run.tieIn else s.run.tieIn - 1 } ∧
          t.frame = s.frame ∧ t.shaft = { u with angle := a, seenClose := true } ∧
          t.gov = { s.gov with window := (t.setGov s.gov).windowNow } ∧ t.gaps = s.gaps ∧ t.monitor = s.monitor ∧ t.change = s.change ∧
          t.cfg = s.cfg ∧ t.store.filledEnd = s.store.filledEnd ∧
          t.link.progressCount = (if s.cfg.progressPeriod = 0 then s.link.progressCount
            else if s.link.progressCount + 1 < s.cfg.progressPeriod then s.link.progressCount + 1 else 0) ∧
          t.link.progress = (if s.cfg.progressPeriod = 0 ∨ s.link.progressCount + 1 < s.cfg.progressPeriod
            then s.link.progress
            else some ⟨s.cursor, s.gov.last.getD 0, (t.stampAt (s.cursor + 1)).pos, s.run.pass⟩)))

/-- R84, R93, R94, R89, R90, R9, R18, R20, R64, R108, R143, R144, R21, R117, R123, R148, R169: INDEX_PULSE and
SHAFT_REST_DECLARED. The index restarts a running stall timer; an unreferenced shaft's angle becomes 0, in a
referencing the shaft is referenced there and braked, and a referenced shaft up to 4 counts away is corrected; from
1020..1023 that is the count which brings the angle to 0 (O48), the crossing of TDC. At rest pending zones come into
force; the end of a referencing is reported; a held stitch whose move is in flight leaves the shaft HOLDING; a direct
join still outstanding takes effect; a CONTROLLED RESET that waited for the stop, or for a referencing, takes effect
(R169); a STOPPING run becomes PAUSED, and so does a RUNNING one whose STEP ends there, with cause STEP (R21); a head
that waits to join becomes IDLE where a stop ends in PAUSED or at END, its gap closed there (R144); and any other
RUNNING one (stated of the main pass) does what Table 1-4 gives for the record at the cursor; at END every OPEN gap is
closed there, in head order with GAP CLOSED, one that holds nothing is removed, DESIGN ENDED carries the number of
gaps held, and every engaged head is given LIFT (`liftOnItsWay`). `cause` keeps one recorded before. `joinOrder` is
the join LOWER of a head that is outstanding. A STOPPING run acts on the record at the cursor whether or not a join
point stands there (log 12). Where a run is paused in a patch pass, the pass has a selected gap left. The model's
choice: at END the gaps are closed before DESIGN ENDED is posted (log 5), rest with no brake on changes nothing (log
16), an index from 1020..1023 is the crossing of TDC (log 20), which opens a new revolution at rest too (log 60), MARK
REACHED and STOPPED carry the cursor after it has passed (log 30), and an unacknowledged join takes effect (log 53).
-/
def Obligations.IndexAndRest : Prop :=
  (
    ∀ s : State,
      let u := s.shaft
      let run := exec .indexPulse s
      let restarted := if u.stall = none then none else some (120000 / s.cfg.speeds.crawl)
      (u.referenced = false →
        (u.state ≠ .referencing → run = .next (s.setShaft { u with angle := 0, wraps := 0, stall := restarted })) ∧
        (u.state = .referencing → s.run.activity = .none ∨ s.run.activity = .referencing → s.frame.travel = none →
          s.frame.homing = none →
          run = .next ((s.setShaft { u with
            angle := 0, referenced := true, wraps := 0, seenOpen := false, seenLate := false, seenClose := false
            seenPoll := false, speed := 0, braked := true, stall := none, lockout := { u.lockout with rest := true } }).pump))) ∧
      (u.referenced = true →
        (u.angle ≤ 4 → run = .next (s.setShaft { u with angle := 0, stall := restarted })) ∧
        (1020 ≤ u.angle → u.state = .unreferenced ∨ u.state = .atRest ∨ u.state = .holding →
          let corrected : Shaft := { u with angle := 0, wraps := u.wraps - 1, stall := restarted }
          (u.wraps = 0 → run = .next (s.setShaft { corrected with
            seenOpen := false, seenLate := false, seenClose := false, seenPoll := false })) ∧
          (u.wraps ≠ 0 → run = .next (s.setShaft corrected))) ∧
        (1020 ≤ u.angle → run = exec (.encoderCount true) (s.setShaft { u with angle := 1023, stall := restarted })))) ∧
  (
    ∀ s : State,
      let u := s.shaft
      let run := exec .shaftRestDeclared s
      let zones := s.frame.zones.map (fun z => match z.waiting with | some f => ⟨f, none⟩ | none => z)
      let f := { s.frame with zones := zones }
      (u.braked = false ∨ (u.state ≠ .stopping ∧ u.state ≠ .referencing) → run = .next s) ∧
      (u.braked = true → u.state = .referencing → s.quiet = true → s.link.resetBy = none →
        run = .next ((((s.setShaft { u with
          state := .atRest, hostReference := false, lockout := { u.lockout with referencing := false } }).setFrame f).setLink
          (s.link.post ⟨.shaftReferenced, 0, s.cursor, u.angle⟩)).pump)) ∧
      (∀ src, u.braked = true → u.state = .referencing → s.frame.travel = none → s.link.resetBy = some src →
        src = .broadcast ∨ s.link.addressStraps ≠ 15 →
        run = exec (.reset src 0) (((s.setShaft { u with
          state := .atRest, hostReference := false, lockout := { u.lockout with referencing := false } }).setFrame f).setLink
          { s.link with resetBy := none, replies := [] })) ∧
      (u.braked = true → u.state = .stopping → s.calm = true →
        let noJoins := ∀ h, 1 ≤ h → h ≤ 8 →
          (∀ o, (s.headAt h).acked = some o → o.join = false) ∧ s.bus.joinOrder h = none
        let rested := (((s.setShaft { u with state := .atRest }).setFrame f).setGov { s.gov with
          last := none, bound := none }).setBus { s.bus with restTimer := some s.cfg.pollPeriod }
        let stopped : Run := { s.run with
          state := .paused, startReturn := none, travelReturn := none, warning := false, stepping := false
          stepDone := false, keepTieIn := false, point := none }
        let cause := fun (c : StopCause) => if s.run.state = .running then some (s.run.cause.getD c) else s.run.cause
        let paused := fun (c : Option StopCause) => run = .next (((rested.setRun { stopped with cause := c }).setLink
          (s.link.post ⟨.stopped, 0, s.cursor, causeCode c⟩)).pump)
        let judged := (s.setFrame f).stopKindAt s.cursor
        let at_ := s.store.recordAt s.cursor
        (u.hold = true → s.frame.stitch ≠ none → noJoins →
          run = .next ((((s.setShaft { u with state := .holding }).setFrame f).setBus { s.bus with
            restTimer := some s.cfg.pollPeriod }).pump)) ∧
        (∀ src, u.hold = false → s.ackedNone = true → noJoins → s.link.resetBy = some src →
          src = .broadcast ∨ s.link.addressStraps ≠ 15 →
          run = exec (.reset src 0) (rested.setLink { s.link with resetBy := none, replies := [] })) ∧
        (s.frame.stitch ≠ none → s.link.resetBy = none → s.shapesRight = true →
          ∃ t, run = .next t ∧ t.shaft.state = (if u.hold = true then .holding else .atRest) ∧
            ∀ h o, 1 ≤ h → h ≤ 8 → (s.headAt h).acked = none → s.bus.joinOrder h = some o → o.cmd = .lower →
              (s.headAt h).state = .dropped → (s.watchAt h).fault = none →
              (t.headAt h).state = o.becomes ∧ (t.watchAt h).joining = false ∧
              (t.watchAt h).ownTieIn = s.cfg.speeds.tieIn ∧ t.bus.joinOrder h = none) ∧
        (u.hold = false → s.frame.stitch = none → s.run.carry = false → s.run.pass = .main → s.link.resetBy = none →
          s.ackedNone = true → noJoins → s.shapesRight = true → s.gapsRight →
          (∀ h, 1 ≤ h → h ≤ 8 → (s.watchAt h).joining = true → (s.headAt h).state = .dropped) →
          let c := s.run.mainCursor
          let back := fun (g : Gap) => 1 ≤ g.head && g.head ≤ 8 && g.state == .opened && (s.watchAt g.head).joining
          let told := headNumbers.foldl (fun l h =>
            match s.gaps.find? (fun g => g.head == h && back g) with
            | some g => l.post ⟨.gapClosed, h, c, c - g.start⟩
            | none => l) s.link
          let freed := fun (t : State) (h : Nat) =>
            (t.headAt h).state = .idle ∧ t.watchAt h = { s.watchAt h with joining := false }
          (s.run.state = .stopping → (∀ r, at_ = some r →
              r ≠ .stop ∧ r ≠ .finish ∧ (∀ label, r = .mark label → s.run.mark ≠ some label)) →
            ∃ t, run = .next t ∧ t.run = { stopped with cause := s.run.cause, heads := t.run.heads } ∧
              t.gaps = (s.gaps.filter (fun g => !(back g && c ≤ g.start))).map (fun g =>
                if back g then { g with stop := some c, state := .closed } else g) ∧
              t.link.events = (told.post ⟨.stopped, 0, c, causeCode s.run.cause⟩).events ∧ t.shaft = rested.shaft ∧
              t.frame = f ∧ ∀ h, 1 ≤ h → h ≤ 8 → ((s.watchAt h).joining = true → freed t h) ∧
                ((s.watchAt h).joining = false → t.headAt h = s.headAt h ∧ t.watchAt h = s.watchAt h)) ∧
          (s.run.state = .stopping ∨ (s.run.state = .running ∧ s.run.point = none ∧ s.run.stepDone = false) →
            at_ = some .finish → ∃ t, run = .next t ∧ t.run.state = .finished ∧
              ∀ h, 1 ≤ h → h ≤ 8 → (s.watchAt h).joining = true → freed t h)) ∧
        (u.hold = false → s.frame.stitch = none → s.run.carry = false →
          s.run.state = .stopping ∨ s.run.point = none → s.link.resetBy = none →
          s.ackedNone = true → noJoins → s.joinsWaiting = false →
          (s.run.state = .stopping → s.passGoesOn = true → (∀ r, at_ = some r →
              r ≠ .stop ∧ r ≠ .finish ∧ (∀ label, r = .mark label → s.run.mark ≠ some label)) → paused s.run.cause) ∧
          (s.run.state = .running → s.run.stepDone = true → s.passGoesOn = true → paused (cause .step)) ∧
          (s.run.state = .running ∨ s.run.state = .stopping → s.run.pass = .main → s.run.stepDone = false →
            s.shapesRight = true →
            let passed := fun (t : State) (mark : Option Nat) (c : Option StopCause) (l : Link) =>
              t.run = { stopped with mainCursor := s.run.mainCursor + 1, mark := mark, cause := c } ∧
              t.shaft = rested.shaft ∧ t.frame = f ∧ t.gov = rested.gov ∧ t.gaps = s.gaps ∧ t.monitor = s.monitor ∧
              t.change = s.change ∧ t.cfg = s.cfg ∧ t.bus = rested.pump.bus ∧
              t.link.events = (l.post ⟨.stopped, 0, s.run.mainCursor + 1, causeCode c⟩).events
            let busy := fun (h : Nat) => 1 ≤ h ∧ h ≤ 8 ∧ s.engagedHead h = true ∧ (s.linkAt h).lost = false
            let c := s.run.mainCursor
            let isOpen := fun (g : Gap) => 1 ≤ g.head && g.head ≤ 8 && g.state == .opened
            let told := headNumbers.foldl (fun l h =>
              match s.gaps.find? (fun g => g.head == h && g.state == .opened) with
              | some g => l.post ⟨.gapClosed, h, c, c - g.start⟩
              | none => l) s.link
            (at_ = some .stop → ∃ t, run = .next t ∧ passed t s.run.mark (cause .programmed) s.link) ∧
            (∀ label, at_ = some (.mark label) → s.run.mark = some label →
              ∃ t, run = .next t ∧ passed t none (cause .mark)
                (s.link.post ⟨.markReached, 0, s.run.mainCursor + 1, label⟩)) ∧
            (at_ = some .finish → s.gapsRight →
              ∃ t, run = .next t ∧ t.run.state = .finished ∧ t.run.cause = s.run.cause ∧
                t.run.mainCursor = s.run.mainCursor ∧ t.shaft = rested.shaft ∧ t.frame = f ∧ t.gov = rested.gov ∧
                t.gaps = (s.gaps.filter (fun g => !(isOpen g && c ≤ g.start))).map (fun g =>
                  if isOpen g then { g with stop := some c, state := .closed } else g) ∧
                t.link = { told.post ⟨.designEnded, 0, c, t.gaps.length⟩ with grant := t.link.grant } ∧
                ((∀ g ∈ s.gaps, isOpen g = false) → t.link.grant = s.link.grant ∧ t.store = s.store) ∧
                (∀ h, busy h → (s.watchAt h).fault = none → t.liftOnItsWay h .idle = true) ∧
                (∀ h, 1 ≤ h → h ≤ 8 → (s.headAt h).state = .resting → (t.headAt h).state = .idle)) ∧
            (s.run.state = .running →
              (judged = some .fieldLimit → paused (cause .frameLimit)) ∧ (judged = some .zone → paused (cause .zone)) ∧
              (at_ = none →
                let why : StopCause := if s.store.freeCount = 0 ∧ s.store.granted = 0 then .pinned else .starved
                (s.run.mode ≠ .continuous → paused (cause why)) ∧
                (s.run.mode = .continuous → run = .next (((rested.setRun { s.run with
                  state := .waiting, cause := cause why }).setLink
                  (s.link.post ⟨.waiting, 0, s.cursor, causeCode (cause why)⟩)).pump))) ∧
              (at_ = some .trim → (∃ h, busy h) →
                ∃ t, run = .next t ∧ t.run = { s.run with state := .changing, activity := .changing } ∧
                  t.link = s.link ∧ t.shaft = rested.shaft ∧ t.frame = f ∧ t.change.work = .trim ∧
                  ∀ h, busy h → (t.workAt h).trim = .waiting ∧ (t.workAt h).trimAttempt = 1) ∧
              (∀ slot, at_ = some (.colour slot) →
                ((∀ h, 1 ≤ h → h ≤ 8 → s.changes h = true → s.change.needle slot h = 0) →
                  run = .next (((rested.setRun { stopped with cause := cause .noHead }).setLink
                    ((s.link.post ⟨.colourBegun, 0, s.cursor, slot⟩).post
                      ⟨.stopped, 0, s.cursor, causeCode (cause .noHead)⟩)).pump)) ∧
                ((∃ h, busy h ∧ s.changes h = true ∧ s.change.needle slot h ≠ 0) → s.trimmedBefore = false →
                  ∃ t, run = .next t ∧ t.run = { s.run with state := .changing, activity := .changing } ∧
                    t.link = s.link.post ⟨.colourBegun, 0, s.cursor, slot⟩ ∧ t.shaft = rested.shaft ∧ t.frame = f ∧
                    t.change.work = .colourChange ∧ t.change.newSlot = slot ∧ t.change.casing = false ∧
                    ∀ h, busy h → s.changes h = true → (t.workAt h).trim = .waiting ∧
                      (t.workAt h).target = s.change.needle slot h)))))))

/-- R94, R84, R3, R108: a stall. STALL_TIMER_EXPIRY and an index more than 4 counts away brake the shaft where it is
and leave it UNREFERENCED; a RUNNING or STOPPING run is PAUSED with cause STALL unless one is recorded (stated of a
patch pass with a selected gap left), and so is a start sequence whose referencing step stalls, whichever state it was
begun from, and a start that waits in step 1, off the path, for a referencing asked for by the host which stalls (that
such a stall ends the start in step 1 too is the model's choice, log 29); a referencing asked for by REFERENCE SHAFT
leaves the run state and posts STOPPED. That an expiry with the timer not running changes nothing is the model's
choice (log 16). -/
def Obligations.StallBrakesTheShaft : Prop :=
  ∀ s : State, s.link.resetBy = none → s.ackedNone = true → s.joinsWaiting = false → s.frame.travel = none →
    s.frame.homing = none →
    let braked := fun (u : Shaft) => { u with
      state := .unreferenced, referenced := false, speed := 0, hold := false, braked := false, stall := none
      hostReference := false
      lockout := { u.lockout with jump := false, late := false, rest := false, referencing := false } }
    let paused := fun (u : Shaft) => (((((s.setShaft (braked u)).setGov { s.gov with
      last := none, bound := none }).setBus { s.bus with restTimer := some s.cfg.pollPeriod }).setRun { s.run with
        state := .paused, cause := some (s.run.cause.getD .stall), carry := false, stepping := false, stepDone := false
        keepTieIn := false, point := none, startReturn := none, travelReturn := none, warning := false }).setLink
      (s.link.post ⟨.stopped, 0, s.cursor, (s.run.cause.getD .stall).code⟩)).pump
    let sewing := (s.run.state = .running ∨ s.run.state = .stopping) ∧
      (s.shaft.state = .running ∨ s.shaft.state = .stopping) ∧ s.passGoesOn = true ∧ s.run.activity = .none
    (s.shaft.stall = none → exec .stallTimerExpiry s = .next s) ∧
    (s.shaft.stall ≠ none → sewing → exec .stallTimerExpiry s = .next (paused s.shaft)) ∧
    (s.shaft.referenced = true → 4 < s.shaft.angle → s.shaft.angle < 1020 → sewing →
      exec .indexPulse s = .next (paused { s.shaft with angle := 0, wraps := 0 })) ∧
    (s.shaft.stall ≠ none → s.run.state = .arming → s.run.activity = .referencing ∨
        (s.run.activity = .dueTravel ∧ s.shaft.hostReference = true) → s.shaft.state = .referencing →
      s.passGoesOn = true →
      exec .stallTimerExpiry s = .next ((((((s.setShaft (braked s.shaft)).setGov { s.gov with
        last := none, bound := none })).setRun { s.run with
        state := .paused, cause := some (s.run.cause.getD .stall), activity := .none, carry := false, stepping := false
        stepDone := false, keepTieIn := false, point := none, startReturn := none, travelReturn := none
        warning := false }).setLink (s.link.post ⟨.stopped, 0, s.cursor, (s.run.cause.getD .stall).code⟩)).pump)) ∧
    (s.shaft.stall ≠ none → s.run.state = .idle ∨ s.run.state = .paused ∨ s.run.state = .finished → s.run.activity = .none →
      s.shaft.state = .referencing → s.shaft.hostReference = true →
      exec .stallTimerExpiry s = .next (((((s.setShaft (braked s.shaft)).setGov { s.gov with
        last := none, bound := none }).setRun { s.run with carry := false }).setLink
        (s.link.post ⟨.stopped, 0, s.run.mainCursor, 11⟩)).pump))

/-- R95, R96, R82, R81, R112, R108: ESTOP_ASSERT and ESTOP_NEGATE. The machine halts wherever it is: the shaft braked
and UNREFERENCED with Halt in the lockout set, the moves halted with their steps counted and the axes off path (an
axis whose homing ends there keeps position and residue: the model's choice, log 14), the return state of R96
recorded, HALTED posted; the store, gaps, heads, map, counters, cursors and origin keep their values, and the head bus
its queue, held-back list, round and transaction in flight, going on with its work as after every command. An input
already asserted, or a HALTED run, has only its level taken. `nx` and `ny` are the steps issued by then. -/
def Obligations.EmergencyStopHalts : Prop :=
  ∀ (s : State) (nx ny : Nat),
    let u := s.shaft
    let run := exec (.estopAssert nx ny) s
    let starting := s.run.activity.starting
    let halted := fun (a t : Axis) (n : Nat) =>
      t.pos = a.pos ∧ t.referenced = a.referenced ∧ t.residue = a.residue ∧ t.move = none ∧
      (a.move = none → t = a) ∧
      (∀ m, a.move = some m → m.kind ≠ .homing →
        (m.kind = .stitch ∨ m.kind = .segment → t.offPath ≠ none) ∧ (m.kind = .reseat → t.offPath = a.offPath) ∧
        (m.issued ≤ n → n ≤ m.steps.natAbs → t.steps = a.steps + (if 0 ≤ m.steps then (n : Int) else -n)))
    exec .estopNegate s = .next (s.setShaft { u with estop := false }) ∧
    (u.estop = true ∨ s.run.state = .halted → run = .next (s.setShaft { u with estop := true })) ∧
    (u.estop = false → s.run.state ≠ .halted → s.link.resetBy = none →
      ∃ t, run = .next t ∧
        t.shaft = { u with
          state := .unreferenced, referenced := false, speed := 0, hold := false, braked := false, stall := none
          hostReference := false, estop := true
          lockout := ⟨false, false, u.lockout.rest, false, false, false, true⟩ } ∧
        halted s.frame.x t.frame.x nx ∧ halted s.frame.y t.frame.y ny ∧ t.frame.stitch = none ∧ t.frame.travel = none ∧
        t.frame.homing = none ∧ t.frame.origin = s.frame.origin ∧ t.frame.zones = s.frame.zones ∧
        t.run.state = .halted ∧ t.run.warning = false ∧ t.run.activity = .none ∧ t.run.pass = s.run.pass ∧
        t.run.mainCursor = s.run.mainCursor ∧ t.run.patchCursor = s.run.patchCursor ∧ t.run.heads = s.run.heads ∧
        (s.run.state = .unconfigured ∨ s.run.state = .idle ∨ s.run.state = .finished ∨ s.run.state = .paused →
          t.run.haltReturn = some s.run.state ∧ t.run.cause = s.run.cause) ∧
        (s.run.state = .running ∨ s.run.state = .stopping ∨ s.run.state = .waiting →
          t.run.haltReturn = some .paused ∧ t.run.cause = some .estop) ∧
        (s.run.state = .arming ∨ (s.run.state = .changing ∧ starting = true) ∨
            (s.run.state = .travelling ∧ s.run.activity = .returnTravel) →
          (s.run.startReturn = some .idle → t.run.haltReturn = some .idle ∧ t.run.cause = none) ∧
          (s.run.startReturn ≠ some .idle → t.run.haltReturn = some .paused ∧ t.run.cause = some .estop)) ∧
        ((s.run.state = .changing ∧ starting = false) ∨ (s.run.state = .travelling ∧ s.run.activity = .patchTravel) →
          t.run.haltReturn = some .paused ∧ t.run.cause = some .estop) ∧
        (s.run.state = .travelling → s.run.activity = .hostTravel →
          (s.run.travelReturn = some .paused → t.run.haltReturn = some .paused ∧ t.run.cause = s.run.cause) ∧
          (s.run.travelReturn ≠ some .paused → t.run.haltReturn = some .idle ∧ t.run.cause = none)) ∧
        t.gov = { s.gov with last := none, bound := none } ∧ t.change.work = .none ∧ t.change.map = s.change.map ∧
        t.link = s.link.post ⟨.halted, 0, s.cursor,
          if t.run.haltReturn = some .paused ∧ t.run.cause = some .estop then 1 else 0⟩ ∧
        t.store = s.store ∧ t.gaps = s.gaps ∧ t.monitor = s.monitor ∧ t.cfg = s.cfg ∧
        t.bus = ((s.setBus { s.bus with
          restTimer := if u.state = .running ∨ u.state = .stopping then some s.cfg.pollPeriod else s.bus.restTimer }).pump).bus)

/-! ## The frame's events and the warning hold (01, 04) -/

/-- R68, R67, R6, R87, R90, R64: STITCH_MOVE_COMPLETE. F, step count and residue of each moving axis take their new
values; a shaft at rest that waits on the move from rest is started at crawl, which is the last commanded speed from
then on (R49; log 50 for the moment); and a HOLDING shaft is restarted at crawl. At either, the governor's window is
rebuilt whole before the shaft turns (R64; the model's choice of the moment, log 48). A CONTROLLED RESET does not wait
for the move (log 54). That the completion changes nothing with no stitch move in flight is the model's choice (log
16). -/
def Obligations.StitchMoveCompletes : Prop :=
  ∀ s : State,
    let run := exec .stitchMoveComplete s
    let made := fun (a : Axis) (k : Nat) => match a.move with
      | some m => if m.kind = .stitch then { a with
          pos := a.pos + m.delta, steps := a.steps + m.steps, move := none
          residue := (((a.residue : Int) + m.delta * k) % 256).toNat } else a
      | none => a
    let done := s.setFrame { s.frame with
      x := made s.frame.x s.cfg.machine.kX, y := made s.frame.y s.cfg.machine.kY, stitch := none }
    let started := (done.setShaft { s.shaft with
      state := .running, speed := s.cfg.speeds.crawl, braked := false, wraps := 0
      stall := some (120000 / s.cfg.speeds.crawl), openAngle := s.cfg.speeds.openAngle
      closeAngle := s.cfg.speeds.closeAngle, lockout := { s.shaft.lockout with rest := false } }).setBus { s.bus with
      restTimer := none }
    let restarted := started.setShaft { started.shaft with hold := false }
    (s.frame.stitch = none → run = .next s) ∧
    (s.frame.stitch ≠ none → s.calm = true →
      (s.shaft.state = .running ∨ s.shaft.state = .stopping → run = .next (done.pump)) ∧
      (s.shaft.state = .unreferenced → run = .next (done.pump)) ∧
      (s.shaft.state = .atRest → s.run.state = .running → s.run.carry = true → s.bus.startOutstanding = false →
        run = .next ((started.setGov { s.gov with
          last := some s.cfg.speeds.crawl, window := done.windowNow }).pump)) ∧
      (s.shaft.state = .holding → s.run.state = .running ∨ s.run.state = .stopping →
        run = .next ((restarted.setGov { s.gov with window := done.windowNow }).pump)))

/-- R76, R78, R82: TRAVEL_SEGMENT_COMPLETE and RESEAT_COMPLETE. Nothing when none is in flight. The next segment of a
travel begins when one completes; the last one of a MOVE FRAME ends the travel with TRAVEL DONE, value 0, or 1 when a
STOP was asked for; a re-seat brings the step count back to the one of F and clears the off-path flag. The end of a
host travel is stated of states where no head waits to join and, back in PAUSED, of a patch pass with a selected gap
left. It is the model's choice that a completion with nothing in flight changes nothing (log 16), and that a STOP
during the last segment gives TRAVEL DONE 1 (log 44), that the direction output of a segment stays as it was at a step
figure of 0 (log 75), that a travel asked to stop while it is re-seated ends after the re-seat with no segment made
(log 58), and that a return travel which ends a start in IDLE lifts the heads (log 66).

Then the step that follows in any travel, with no move in flight (`State.advance`; O57 for `State.finish`): its next
segment; the next leg of a BACK or FORWARD chain, from the frame's position (R156, R157; one travel, log 57); its end.
A CONTROLLED RESET that waited takes effect at the end (R169). A return travel goes on to step 2 of the start, or ends
the start with the recorded cause (R14, R17); a patch travel goes on to the join stops at the patch cursor, or ends in
PAUSED with the recorded cause (R151). Either ends a pass that has lost its last selected gap (the model's choice, log
65). -/
def Obligations.TravelRunsByItsSegments : Prop :=
  ∀ s : State,
    let run := exec .travelSegmentComplete s
    let seat := fun a => exec (.reseatComplete a) s
    let m := s.cfg.machine
    let made := fun (a : Axis) (k : Nat) => match a.move with
      | some v => if v.kind = .segment then { a with
          pos := a.pos + v.delta, steps := a.steps + v.steps, move := none
          residue := (((a.residue : Int) + v.delta * k) % 256).toNat } else a
      | none => a
    let x := made s.frame.x m.kX
    let y := made s.frame.y m.kY
    let begun := fun (a : Axis) (k : Nat) (d : Int) =>
      let steps := ((a.residue : Int) + d * k) / 256
      if d = 0 then a
      else { a with move := some ⟨.segment, d, steps, 0⟩, dirUp := if steps = 0 then a.dirUp else decide (0 < steps) }
    let reseated := fun (a : Axis) (v : AxisMove) => { a with steps := a.steps + v.steps, move := none, offPath := none }
    let onPath := s.frame.x.offPath = none ∧ s.frame.y.offPath = none
    let ended := (s.setFrame { s.frame with travel := none }).setShaft { s.shaft with
      lockout := { s.shaft.lockout with travel := false } }
    let brokenOff := fun (state : RunState) => ended.setRun { s.run with
      state := state, activity := .none, carry := false, stepping := false, stepDone := false, keepTieIn := false
      point := none, startReturn := none, travelReturn := none, warning := false }
    let stopped := fun (k : StopCause) => s.link.post ⟨.stopped, 0, s.cursor, k.code⟩
    ((∀ t, s.frame.travel = some t → t.index = none) → run = .next s) ∧
    (∀ (t : Travel) (k : Nat), s.frame.travel = some t → t.index = some k → s.frame.stitch = none → x.move = none →
      y.move = none → x.offPath = none → y.offPath = none →
      (t.stopAsked = false → t.made + 1 < t.count →
        let n : Int := t.made + 2
        let dx := t.origin.x + t.shift.x * n / t.count - x.pos
        let dy := t.origin.y + t.shift.y * n / t.count - y.pos
        run = .next ((s.setFrame { s.frame with
          x := begun x m.kX dx, y := begun y m.kY dy
          travel := some { t with made := t.made + 1, index := some (max dx.natAbs dy.natAbs) } }).pump)) ∧
      (∀ back, t.stopAsked = true ∨ (t.count ≤ t.made + 1 ∧ t.legs = []) → s.run.activity = .hostTravel →
        s.run.travelReturn = some back → back = .idle ∨ back = .paused → s.frame.homing = none → s.link.resetBy = none →
        s.joinsWaiting = false → back = .idle ∨ s.passGoesOn = true →
        run = .next (((((s.setFrame { s.frame with x := x, y := y, travel := none }).setShaft { s.shaft with
          lockout := { s.shaft.lockout with travel := false } }).setRun { s.run with
            state := back, travelReturn := none, activity := .none }).setLink
          (s.link.post ⟨.travelDone, 0, s.cursor, if t.stopAsked then 1 else 0⟩)).pump))) ∧
    (∀ a, (∀ v, (s.frame.axis a).move = some v → v.kind ≠ .reseat) → seat a = .next s) ∧
    (∀ (t : Travel) (v w : AxisMove), s.frame.travel = some t →
      (s.frame.x.move = some v → v.kind = .reseat → s.frame.y.move = some w →
        seat .x = .next ((s.setFrame { s.frame with x := reseated s.frame.x v }).pump)) ∧
      (s.frame.y.move = some v → v.kind = .reseat → s.frame.x.move = some w →
        seat .y = .next ((s.setFrame { s.frame with y := reseated s.frame.y v }).pump))) ∧
    (∀ (a : AxisName) (t : Travel) (v : AxisMove) (p : Point) (rest : List Point),
      s.frame.travel = some t → t.index = none → t.stopAsked = false → t.count ≤ t.made → t.legs = p :: rest →
      p ≠ s.frame.pos → s.frame.stitch = none → (s.frame.axis a).move = some v → v.kind = .reseat →
      (∀ b, b ≠ a → (s.frame.axis b).move = none ∧ (s.frame.axis b).offPath = none) →
      ∃ u tr, seat a = .next u ∧ (u.frame.axis a).offPath = none ∧ u.frame.pos = s.frame.pos ∧
        (u.frame.axis a).steps = (s.frame.axis a).steps + v.steps ∧ u.frame.travel = some tr ∧ tr.legs = rest ∧
        tr.origin = s.frame.pos ∧ tr.shift = p.sub s.frame.pos ∧ tr.made = 0 ∧ tr.index ≠ none ∧ u.run = s.run ∧
        u.shaft = s.shaft) ∧
    (∀ (t : Travel) (k : Nat), s.frame.travel = some t → t.index = some k →
      run = .next ((s.setFrame { s.frame with
        x := x, y := y, travel := some { t with index := none, made := t.made + 1 } }).finish)) ∧
    (∀ t : Travel, s.frame.travel = some t → t.index = none → s.frame.stitch = none → s.frame.x.move = none →
      s.frame.y.move = none →
      (t.stopAsked = false → onPath → t.made < t.count →
        let n : Int := t.made + 1
        let dx := t.origin.x + t.shift.x * n / t.count - s.frame.x.pos
        let dy := t.origin.y + t.shift.y * n / t.count - s.frame.y.pos
        s.advance = some (s.setFrame { s.frame with
          x := begun s.frame.x m.kX dx, y := begun s.frame.y m.kY dy
          travel := some { t with index := some (max dx.natAbs dy.natAbs) } })) ∧
      (∀ p rest, t.stopAsked = false → onPath → t.count ≤ t.made → t.legs = p :: rest →
        let d := p.sub s.frame.pos
        s.advance = some (s.setFrame { s.frame with travel := some { t with
          legs := rest, origin := s.frame.pos, shift := d, count := (max d.x.natAbs d.y.natAbs + 126) / 127, made := 0 } })) ∧
      (t.stopAsked = true ∨ (onPath ∧ t.count ≤ t.made ∧ t.legs = []) →
        (∀ src, s.link.resetBy = some src → src = .broadcast ∨ s.link.addressStraps ≠ 15 →
          s.shaft.state = .atRest ∨ s.shaft.state = .unreferenced → ∃ u, s.advance = some u ∧
            exec (.reset src 0) (ended.setLink { s.link with resetBy := none, replies := [] }) = .next u.pump) ∧
        (s.link.resetBy = none → s.run.activity = .returnTravel →
          (t.stopAsked = false → s.advance = some (ended.setRun { s.run with
            state := .arming, travelReturn := none, activity := .dueReference })) ∧
          (∀ k, t.stopAsked = true → s.run.cause = some k → s.joinsWaiting = false →
            (s.run.startReturn = some .idle → s.advance = some (((brokenOff .idle).liftAll).setLink (stopped k))) ∧
            (s.run.startReturn = some .paused → s.passGoesOn = true →
              s.advance = some ((brokenOff .paused).setLink (stopped k)))) ∧
          (t.stopAsked = true → s.run.cause = none → s.passGoesOn = false → s.advance = some (brokenOff .arming).endPatch)) ∧
        (s.link.resetBy = none → s.run.activity = .patchTravel →
          (t.stopAsked = false → s.advance = some (ended.setRun { s.run with
            state := .changing, travelReturn := none
            activity := .joining (headNumbers.filter (fun h => s.gaps.any (fun g =>
              g.state == .sewing && g.head == h && g.start == s.cursor))) .pick .patch })) ∧
          (∀ k, t.stopAsked = true → s.run.cause = some k → s.joinsWaiting = false → s.passGoesOn = true →
            s.advance = some ((brokenOff .paused).setLink (stopped k))) ∧
          (t.stopAsked = true → s.run.cause = none → s.passGoesOn = false →
            s.advance = some (brokenOff .travelling).endPatch))))

/-- R81, R80: HOME_SENSOR_CHANGE, HOME_BACKOFF_DONE, HOMING_TIMEOUT. A sensor's level is taken, and read only in the
homing of its axis: driven up off an active sensor, 20 units on, then down; at the sensor the axis is referenced at the
home coordinate with FRAME HOMED, and Y follows X. At 30 s the homing ends with HOME FAILED, the axis unreferenced. It
is the model's choice that a back-off or a time-out with none under way changes nothing (log 16), that F is kept by a
homing that times out (log 14), and that a sensor change during the 20 units is not waited for (log 59). -/
def Obligations.HomingFollowsTheSensor : Prop :=
  ∀ (s : State) (a : AxisName) (active : Bool), s.quiet = true →
    let sensor := exec (.homeSensorChange a active) s
    let m := s.cfg.machine
    let set := fun (level up : Bool) => match a with
      | .x => { s.frame with x := { s.frame.x with homeActive := level, dirUp := up } }
      | .y => { s.frame with y := { s.frame.y with homeActive := level, dirUp := up } }
    let stopped := fun (b : Axis) => match b.move with
      | some v => if v.kind = .homing then { b with move := none } else b
      | none => b
    let released := { s.shaft with lockout := { s.shaft.lockout with homing := false } }
    let number := fun (b : AxisName) => match b with | .x => 1 | .y => 2
    let home := fun (b : Axis) (k : Nat) (at_ : Int) => { b with
      pos := at_, steps := at_ * k / 256, residue := (at_ * k % 256).toNat, move := none, referenced := true
      homeActive := active }
    ((∀ hm, s.frame.homing = some hm → hm.axis ≠ a ∨ hm.phase = .waiting ∨ hm.phase = .backoff ∨
        (hm.phase = .away ∧ active = true) ∨ (hm.phase = .down ∧ active = false)) →
      sensor = .next (s.setFrame (set active (s.frame.axis a).dirUp))) ∧
    (s.frame.homing = some ⟨a, .away⟩ → active = false →
      sensor = .next (s.setFrame { set false true with homing := some ⟨a, .backoff⟩ })) ∧
    (a = .x → s.frame.homing = some ⟨.x, .down⟩ → active = true →
      sensor = .next (((s.setFrame { s.frame with
        x := home s.frame.x m.kX m.homeX
        y := { s.frame.y with move := some ⟨.homing, 0, 0, 0⟩, dirUp := s.frame.y.homeActive }
        homing := some ⟨.y, if s.frame.y.homeActive then .away else .down⟩ }).setLink
        (s.link.post ⟨.frameHomed, 0, s.cursor, 1⟩)).pump)) ∧
    (a = .y → s.frame.homing = some ⟨.y, .down⟩ → active = true →
      sensor = .next ((((s.setFrame { s.frame with
        x := stopped s.frame.x, y := home s.frame.y m.kY m.homeY, homing := none }).setShaft released).setLink
        (s.link.post ⟨.frameHomed, 0, s.cursor, 2⟩)).pump)) ∧
    ((∀ hm, s.frame.homing = some hm → hm.phase ≠ .backoff) → exec .homeBackoffDone s = .next s) ∧
    (s.frame.homing = some ⟨a, .backoff⟩ →
      exec .homeBackoffDone s =
        .next (s.setFrame { set (s.frame.axis a).homeActive false with homing := some ⟨a, .down⟩ })) ∧
    ((∀ hm, s.frame.homing = some hm → hm.phase = .waiting) → exec .homingTimeout s = .next s) ∧
    (∀ hm, s.frame.homing = some hm → hm.phase ≠ .waiting →
      exec .homingTimeout s = .next ((((s.setFrame { s.frame with
        x := stopped s.frame.x, y := stopped s.frame.y, homing := none }).setShaft released).setLink
        (s.link.post ⟨.homeFailed, 0, s.cursor, number hm.axis⟩)).pump))

/-- R14, R17, R25, R76, R79, R93, R128, R150: the start sequence. WARNING_HOLD_EXPIRY: at the end of the hold it
begins its steps. With the frame on its path, an unreferenced shaft is referenced, and a referencing asked for by
REFERENCE SHAFT and still in progress is waited for; off its path the frame travels back to the cursor's position, or,
when that lies outside the field, the start ends with cause FRAME LIMIT, in PAUSED or, with its heads lifted (the
model's choice for a start that ends in step 1, log 66), in IDLE. It is stated of a frame at rest. That an expiry
outside the hold changes nothing is the model's choice (log 16), and so is the wait for a host referencing off the
path, before the return travel (log 29).

Then steps 2 to 4 as they fall due (`State.advance`; O57 for `State.finish` and for the end of step 4), in either
pass. A `member` is a head that the start looks at: in a patch pass one whose selected gap covers the cursor. With the
shaft referenced step 3 follows. An alignment is needed when no member is able to sew, or an able one stands at
another needle; it ends the start with NO HEAD when no member has a needle; otherwise each member that stands at
another needle is lifted, if engaged, and its case moved, and step 4 follows when every move is over. In step 4 every
member able to sew is given LOWER, one without a needle rests, and in a patch pass every other engaged head is lifted.
A recorded cause ends the start, and a patch pass that has lost its last selected gap ends (the model's choice, log
65). It is the model's choice too that step 4 runs in ARMING (log 18), that a patch resume with no member needs no
alignment (log 26), that a PATCH head counts among the heads able to sew (log 11), that a start which returns to IDLE
lifts the heads (log 66), and that step 4 passes over a patch member with a fault pending, whose gap stays selected
(log 95). It is stated of states where no head waits to join. -/
def Obligations.HoldExpiryBeginsTheStart : Prop :=
  (∀ s : State,
    let run := exec .warningHoldExpiry s
    let still := s.frame.stitch = none ∧ s.frame.x.move = none ∧ s.frame.y.move = none ∧ s.frame.x.offPath = none ∧
      s.frame.y.offPath = none ∧ s.frame.travel = none ∧ s.frame.homing = none ∧ s.link.resetBy = none ∧
      s.passGoesOn = true
    let target := s.framePosAt s.cursor
    let failed := fun (back : RunState) => s.setRun { s.run with
      state := back, cause := some .frameLimit, activity := .none, carry := false, stepping := false, stepDone := false
      keepTieIn := false, point := none, startReturn := none, travelReturn := none, warning := false }
    let stopped := s.link.post ⟨.stopped, 0, s.cursor, 7⟩
    (s.run.activity ≠ .hold → run = .next s) ∧
    (s.run.activity = .hold → s.run.state = .arming → s.run.cause = none → still → s.joinsWaiting = false →
      (s.offPath = false → s.shaft.referenced = false → s.shaft.state = .unreferenced →
        run = .next (((s.setRun { s.run with activity := .referencing }).setShaft { s.shaft with
          state := .referencing, referenced := false, speed := s.cfg.speeds.crawl, hold := false, braked := false
          stall := some (120000 / s.cfg.speeds.crawl), lockout := { s.shaft.lockout with referencing := true }, wraps := 0
          openAngle := s.cfg.speeds.openAngle, closeAngle := s.cfg.speeds.closeAngle, hostReference := false }).pump)) ∧
      (s.offPath = false → s.shaft.state = .referencing →
        run = .next ((s.setRun { s.run with activity := .referencing }).pump)) ∧
      (s.offPath = true → s.shaft.state = .referencing →
        run = .next ((s.setRun { s.run with activity := .dueTravel }).pump)) ∧
      (s.offPath = true → s.shaft.state ≠ .referencing → inField s.cfg.machine target = true →
        ∃ t, run = .next t ∧ t.run = { s.run with
            state := .travelling, travelReturn := some .arming, activity := .returnTravel } ∧
          t.shaft = { s.shaft with lockout := { s.shaft.lockout with travel := true } } ∧ t.frame.pos = s.frame.pos ∧
          ∃ tr, t.frame.travel = some tr ∧ tr.legs = [] ∧ tr.origin = s.frame.pos ∧ tr.shift = target.sub s.frame.pos ∧
            tr.made = 0 ∧ tr.index ≠ none) ∧
      (s.offPath = true → s.shaft.state ≠ .referencing → inField s.cfg.machine target = false →
        (s.run.startReturn = some .paused → s.passGoesOn = true → run = .next (((failed .paused).setLink stopped).pump)) ∧
        (s.run.startReturn = some .idle → run = .next ((((failed .idle).liftAll).setLink stopped).pump))))) ∧
  (∀ s : State, s.frame.travel = none → s.frame.homing = none → s.shapesRight = true → s.joinsWaiting = false →
    let c := s.cursor
    let q := fun (h : Nat) => s.change.needle (s.stampAt c).colour h
    let member := fun (h : Nat) => s.run.pass = .main ∨
      ∃ g ∈ s.gaps, g.state = .sewing ∧ g.head = h ∧ g.start ≤ c ∧ c < g.stop.getD s.run.mainCursor
    let up := fun (h : Nat) => (s.watchAt h).fault = none ∧ ((s.headAt h).state = .idle ∨ (s.headAt h).state = .sewing ∨
      (s.headAt h).state = .resting ∨ (s.headAt h).state = .patch)
    let there := fun (h : Nat) => (s.workAt h).lastKnown = some (q h)
    let needed := (∃ h ∈ headNumbers, member h) ∧
      ((∀ h ∈ headNumbers, member h → s.able h = false) ∨ ∃ h ∈ headNumbers, member h ∧ s.able h = true ∧ ¬ there h)
    let moves := fun (h : Nat) => member h ∧ up h ∧ q h ≠ 0 ∧ ¬ there h
    let aligned := s.run.activity = .aligning ∧ ∀ h ∈ headNumbers, (s.workAt h).part = true →
      (s.workAt h).case = .arrived ∨ (s.workAt h).case = .resting ∨ (s.workAt h).case = .handedOver
    let base := if s.run.activity = .aligning then s.setChange { s.change with
        work := .none, casing := false
        heads := s.change.heads.map (fun v => ⟨false, .absent, 0, false, .absent, 0, 0, false, 0, none, v.lastKnown⟩) }
      else s
    let at_ := fun (state : RunState) (a : Activity) => base.setRun { s.run with state := state, activity := a }
    let broken := fun (state : RunState) (k : StopCause) => base.setRun { s.run with
      state := state, cause := some k, activity := .none, carry := false, stepping := false, stepDone := false
      keepTieIn := false, point := none, startReturn := none, travelReturn := none, warning := false }
    let stopped := fun (k : StopCause) => s.link.post ⟨.stopped, 0, c, k.code⟩
    let ends := fun (k : StopCause) =>
      (s.run.startReturn = some .paused → s.passGoesOn = true →
        s.advance = some ((broken .paused k).setLink (stopped k))) ∧
      (s.run.startReturn = some .idle → s.advance = some (((broken .idle k).liftAll).setLink (stopped k)))
    let sent := fun (u : State) (h : Nat) (w : BusWork) => (⟨h, w⟩ : BusCommand) ∈ u.bus.queue ++ u.bus.held
    let kept := fun (u : State) => u.frame = s.frame ∧ u.shaft = s.shaft ∧ u.link = s.link ∧ u.monitor = s.monitor ∧
      u.gaps = s.gaps ∧ u.store = s.store ∧ u.gov = s.gov ∧ u.cfg = s.cfg
    let due := (s.run.activity = .dueReference ∧ s.link.resetBy = none) ∨
      (s.run.activity = .referencing ∧ s.shaft.state = .atRest) ∨ s.run.activity = .dueAlign ∨ aligned ∨
      s.run.activity = .dueEngage ∨ (s.run.activity = .engaging ∧ s.bus.startOutstanding = false)
    (∀ k, due → s.run.cause = some k → ends k) ∧
    (due → s.run.cause = none → s.passGoesOn = false → s.advance = some base.endPatch) ∧
    (s.run.cause = none → s.passGoesOn = true →
      (s.run.activity = .dueReference → s.link.resetBy = none → s.shaft.state ≠ .referencing → s.shaft.referenced = true →
        s.advance = some (at_ s.run.state .dueAlign)) ∧
      (s.run.activity = .referencing →
        s.advance = if s.shaft.state = .atRest then some (at_ s.run.state .dueAlign) else none) ∧
      (s.run.activity = .dueAlign →
        (¬ needed → s.advance = some (at_ .arming .dueEngage)) ∧
        (needed → (∀ h ∈ headNumbers, member h → up h → q h = 0) → ends .noHead) ∧
        (needed → (∃ h ∈ headNumbers, member h ∧ up h ∧ q h ≠ 0) →
          ∃ u, s.advance = some u ∧ kept u ∧ u.change.work = .alignAll ∧
            u.run = { s.run with state := .changing, activity := .aligning, heads := u.run.heads } ∧
            ∀ h, 1 ≤ h → h ≤ 8 →
              (u.headAt h).state = (s.headAt h).state ∧ (¬ moves h → u.workAt h = s.workAt h) ∧
              (moves h → (s.linkAt h).lost = false →
                (u.workAt h).part = true ∧ (u.workAt h).target = q h ∧ (u.workAt h).caseAttempt = 1 ∧
                (s.engagedHead h = true → (u.workAt h).case = .lifting ∧ sent u h (.engage ⟨.lift, .idle, false, false⟩)) ∧
                (∀ p, s.engagedHead h = false → (s.workAt h).lastKnown = some p → p ≤ 12 → q h ≤ 12 →
                  (u.workAt h).case = .moving ∧ ∃ ahead n, sent u h (.caseMove ahead n) ∧
                    (q h : Int) % 12 = ((p : Int) + (if ahead then (n : Int) else -n)) % 12)))) ∧
      (s.run.activity = .aligning →
        (¬ aligned → s.advance = none) ∧ (aligned → s.advance = some (at_ .arming .dueEngage))) ∧
      (s.run.activity = .dueEngage →
        let sews : HeadState := if s.run.pass = .patch then .patch else .sewing
        let rests := fun (h : Nat) => member h ∧ up h ∧ q h = 0 ∧ (s.run.pass = .patch ∨ (s.headAt h).state ≠ .patch)
        ∃ u, s.advance = some u ∧ kept u ∧ u.run = { s.run with state := .arming, activity := .engaging, heads := u.run.heads } ∧
          ∀ h, 1 ≤ h → h ≤ 8 → (u.headAt h).needle = (s.headAt h).needle ∧
            (member h → s.able h = true → (u.headAt h).state = (s.headAt h).state ∧
              ((s.linkAt h).lost = false → sent u h (.engage ⟨.lower, sews, false, true⟩))) ∧
            (rests h → s.engagedHead h = true → (u.headAt h).state = (s.headAt h).state ∧
              ((s.linkAt h).lost = false → sent u h (.engage ⟨.lift, .resting, false, true⟩))) ∧
            (rests h → s.engagedHead h = false → (u.headAt h).state = .resting) ∧
            (¬ member h → s.engagedHead h = true → (u.headAt h).state = (s.headAt h).state ∧
              ((s.linkAt h).lost = false → sent u h (.engage ⟨.lift, .idle, false, true⟩))) ∧
            (¬ member h → s.engagedHead h = false →
              (u.headAt h).state = (if (s.headAt h).state = .resting then .idle else (s.headAt h).state)) ∧
            (member h → s.able h = false → ¬ rests h → u.headAt h = s.headAt h))))

/-! ## The head bus and the thread change (06, 07)

`State.finish` is what is due by itself after an event, then `State.pump`. -/

/-- R103, R106, R25, R117, R23, R109, R131, R132, R134, R135, R136, R137: HEAD_ANSWER. A wrong check word or another
head's answer changes nothing. An acknowledged LOWER or LIFT takes effect at once with the shaft still, and at TDC
while it turns for a stitch; an acknowledged TRIM starts the trim timer; a round's record replaces the last one, and
that of an engaged head moves its own tie-in count, armed flag, countdown, bobbin counter and tension excursion with
their events, and raises UPPER BREAK or BOBBIN OUT (stated of a RUNNING main pass under STOP-ALL). A record whose
engaged flag disagrees with the head table issues LOWER or LIFT, unless an engagement change is under way (stated with
no penetrations). The last LOWER of a start's step 4 makes the run RUNNING with tie-in count and RUN STARTED, and the
STITCH at the cursor begins its move with the shaft at rest (R14, R11, R25, R6, R49, R59). A join LOWER of a patch
pass makes its head PATCH with its own tie-in count (R152).

Then `State.finish`, which ends an event: it makes the steps due by themselves until none is, and the head bus goes
on. The step due at the end of a start's step 4 (R14, R11), of a trim (R117, R10) and of a colour change (R126, R10,
R116): the cursor passes the record, in the main pass the segment start follows, the tie-in count is loaded, COLOUR
DONE is posted, and the run becomes RUNNING, lets waiting heads join first (R144), or is PAUSED with a recorded cause
or NO HEAD (of a patch pass: with a selected gap left). O60 has the Thread Change Unit's part.

The model's choice: an answer with nothing in flight changes nothing (log 16), the order in which blocks read a record
(log 5), the record index of RUN STARTED and COLOUR DONE (log 30), the number of steps looked at (log 33), that a
start from rest computes window and bound as its move begins (log 50), the direction at a step figure of 0 (log 75),
that the later of two orders acknowledged before one TDC is kept (log 77), and that a LOWER takes effect at a head
HANDED OVER by a held fault (log 82). -/
def Obligations.HeadAnswerEndsItsTransaction : Prop :=
  (
    ∀ (s : State) (h : Nat) (ok : Bool) (r : StatusRecord), s.shapesRight = true →
      let run := exec (.headAnswer h ok r) s
      let ended := s.setBus { s.bus with
        inFlight := none, round := s.bus.round.filter (fun r => !r.todo.isEmpty)
        heads := s.bus.heads.modify (h - 1) (fun l => { l with timeouts := 0 }) }
      let turning := s.shaft.state = .running ∨ s.shaft.state = .stopping
      let w := s.watchAt h
      let g := s.cfg.thread
      let p := r.penetrations
      let own := w.ownTieIn - p
      let armed := s.run.tieIn == 0 && own == 0 && w.fault.isNone
      let count := if p = 0 then w.countdown else if w.countdown = 0 ∧ w.fault ≠ none then 0
        else if r.feed = 0 then w.countdown - p else g.breakB
      let low := decide (0 < w.bobbin ∧ 0 < p ∧ w.bobbin - p ≤ g.warnLevel) && !w.countLow
      let sense := r.bobbinLow && !w.sensorLow
      let n := if p = 0 then w.excursion
        else if r.tension < g.tensionLow ∨ g.tensionHigh < r.tension then min 31 (w.excursion + 1) else w.excursion - 1
      let warns := decide (0 < p ∧ g.upper ≤ n) && !w.warn
      let calms := decide (0 < p ∧ n ≤ g.lower) && w.warn
      let breaks := 0 < p ∧ count = 0 ∧ armed = true
      let empties := 0 < w.bobbin ∧ 0 < p ∧ w.bobbin ≤ p
      let posted := fun (b : Bool) (k : EventKind) (v : Nat) (l : Link) => if b then l.post ⟨k, h, s.cursor, v⟩ else l
      let read := { w with
        ownTieIn := own, armed := armed, countdown := count, bobbin := w.bobbin - p, countLow := w.countLow || low
        sensorLow := w.sensorLow || r.bobbinLow, excursion := n, warn := (w.warn || warns) && !calms }
      let faulted := fun (u : State) (kind : FaultKind) (before : Link) =>
        u.watchAt h = { read with armed := false, joining := false, fault := some ⟨kind, .held⟩ } ∧
        u.run.state = .stopping ∧ u.run.cause = some (s.run.cause.getD .fault) ∧ (u.headAt h).state = (s.headAt h).state ∧
        u.link = before.post ⟨.headFault, h, s.cursor, kind.code⟩ ∧ u.shaft = s.shaft ∧ u.frame = s.frame ∧ u.gaps = s.gaps
      (s.bus.inFlight = none → run = .next s) ∧
      (∀ t, s.bus.inFlight = some t → ok = false ∨ h ≠ t.head → run = .next s) ∧
      (∀ t, s.bus.inFlight = some t → ok = true → h = t.head → t.reported = true → 1 ≤ h → h ≤ 8 →
        (∀ o, t.kind = .command (.engage o) → turning →
          run = .next ((ended.setRun { s.run with
            heads := s.run.heads.modify (h - 1) (fun e => { e with acked := some o }) }).finish)) ∧
        (∀ o, t.kind = .command (.engage o) → ¬ turning → o.cmd = .lift → o.becomes = .idle ∨ o.becomes = .resting →
          s.engagedHead h = true → (s.watchAt h).fault = none → (s.workAt h).case ≠ .lifting →
          ∃ u : State, run = .next u.finish ∧ (u.headAt h).state = o.becomes ∧ (u.headAt h).needle = (s.headAt h).needle ∧
            (u.watchAt h).armed = false ∧ u.bus = ended.bus ∧ u.frame = s.frame ∧ u.shaft = s.shaft ∧ u.link = s.link ∧
            u.store = s.store ∧ u.gaps = s.gaps ∧ u.gov = s.gov ∧
            (∀ j, j ≠ h → 1 ≤ j → j ≤ 8 → u.headAt j = s.headAt j ∧ u.watchAt j = s.watchAt j)) ∧
        (∀ o, t.kind = .command (.engage o) → ¬ turning → o.cmd = .lower → o.join = false →
          (s.headAt h).state = .idle ∨ (s.headAt h).state = .resting → o.becomes = .sewing ∨ o.becomes = .patch →
          (s.workAt h).case ≠ .lowering →
          run = .next ((ended.setRun { s.run with heads := s.run.heads.modify (h - 1) (fun e => { e with
            state := o.becomes, acked := none
            queued := if (s.bus.queue ++ s.bus.held).any (fun c => c.engages h) then e.queued else none }) }).finish)) ∧
        (∀ o dx dy, t.kind = .command (.engage o) → o = ⟨.lower, .sewing, false, true⟩ → ¬ turning →
          (s.headAt h).state = .idle ∨ (s.headAt h).state = .resting → (s.workAt h).case ≠ .lowering →
          s.run.state = .arming → s.run.activity = .engaging → s.run.cause = none → s.run.pass = .main →
          s.run.carry = false → s.run.stepDone = false → s.shaft.state = .atRest → s.frame.stitch = none →
          s.frame.travel = none → s.frame.homing = none →
          (∀ c ∈ s.bus.queue ++ s.bus.held, ∀ e, c.work = .engage e → e.forStart = false) →
          s.stopKindAt s.cursor = none → s.store.recordAt s.cursor = some (.stitch dx dy) →
          let window := s.windowAt s.cursor
          let bound := window.foldl (fun m e => min m (e.bound + e.distance * s.cfg.speeds.decel)) s.cfg.speeds.maxSpeed
          let begun := fun (x : Axis) (k : Nat) (d : Int) =>
            let steps := ((x.residue : Int) + d * k) / 256
            if d = 0 then x
            else { x with move := some ⟨.stitch, d, steps, 0⟩, dirUp := if steps = 0 then x.dirUp else decide (0 < steps) }
          ∃ u : State, run = .next u ∧
            u.run = { s.run with
              state := .running, activity := .none, startReturn := none, keepTieIn := false, carry := true
              tieIn := if s.run.keepTieIn then s.run.tieIn else s.cfg.speeds.tieIn
              heads := s.run.heads.modify (h - 1) (fun e => { e with
                state := .sewing, acked := none
                queued := if (s.bus.queue ++ s.bus.held).any (fun c => c.engages h) then e.queued else none }) } ∧
            u.link = s.link.post ⟨.runStarted, 0, s.cursor, s.run.startValue⟩ ∧
            u.monitor = (if s.run.keepTieIn then s.monitor
              else { s.monitor with heads := s.monitor.heads.map (fun w => { w with armed := false }) }) ∧
            u.gov = { s.gov with last := none, bound := some bound, window := window } ∧
            u.frame = { s.frame with
              x := begun s.frame.x s.cfg.machine.kX dx, y := begun s.frame.y s.cfg.machine.kY dy
              stitch := some ⟨max dx.natAbs dy.natAbs, false, s.cursor, false⟩ } ∧
            u.shaft = s.shaft ∧ u.bus = ended.pump.bus ∧ u.store = s.store ∧ u.gaps = s.gaps ∧ u.change = s.change ∧
            u.cfg = s.cfg) ∧
        (∀ o, t.kind = .command (.engage o) → ¬ turning → o.cmd = .lower → o.join = true → s.run.pass = .patch →
          (s.headAt h).state = .idle ∨ (s.headAt h).state = .resting → (s.workAt h).case ≠ .lowering →
          ∃ u : State, run = .next u.finish ∧ (u.headAt h).state = o.becomes ∧
            (u.watchAt h).ownTieIn = s.cfg.speeds.tieIn ∧ (u.watchAt h).armed = false ∧ (u.watchAt h).joining = false ∧
            u.gaps = s.gaps ∧ u.link = s.link ∧ u.run.activity = s.run.activity ∧ u.run.state = s.run.state ∧
            u.shaft = s.shaft ∧ u.frame = s.frame ∧ u.bus = ended.bus ∧
            (∀ j, j ≠ h → 1 ≤ j → j ≤ 8 → u.headAt j = s.headAt j ∧ u.watchAt j = s.watchAt j)) ∧
        (t.kind = .command .trim → (s.workAt h).trim = .waiting →
          (∀ c ∈ s.bus.queue ++ s.bus.held, c.head = h → c.work ≠ .trim) →
          run = .next ((ended.setChange { s.change with
            heads := s.change.heads.modify (h - 1) (fun w => { w with trimTimer := true }) }).finish)) ∧
        (t.kind = .roundPoll → s.engagedHead h = false → r.engaged = false → r.bobbinLow = false →
          (s.watchAt h).bobbin = 0 → (s.workAt h).trim ≠ .waiting → (s.workAt h).case ≠ .clearing →
          (s.workAt h).case ≠ .moving →
          run = .next ((((ended.setBus { ended.bus with
              heads := s.bus.heads.modify (h - 1) (fun l => { l with timeouts := 0, record := some r }) }).setRun { s.run with
              heads := s.run.heads.modify (h - 1) (fun e =>
                if r.caseState = .atRest then { e with needle := r.casePos } else e) }).setChange { s.change with
              heads := s.change.heads.modify (h - 1) (fun w =>
                if r.casePos = 0 then w else { w with lastKnown := some r.casePos }) }).finish)) ∧
        (t.kind = .roundPoll ∨ t.kind = .command .poll → r.engaged ≠ s.engagedHead h → p = 0 → r.bobbinLow = false →
          (s.workAt h).trim ≠ .waiting → (s.workAt h).case ≠ .clearing → (s.workAt h).case ≠ .moving →
          let under := (∃ c ∈ s.bus.queue ++ s.bus.held, c.engages h = true) ∨ (s.headAt h).acked ≠ none
          let cmd := if s.engagedHead h then Engage.lower else .lift
          let order : BusCommand := ⟨h, .engage ⟨cmd, (s.headAt h).state, false, false⟩⟩
          ∃ u : State, run = .next u.finish ∧ (u.linkAt h).record = some r ∧ (u.headAt h).state = (s.headAt h).state ∧
            u.run.state = s.run.state ∧ u.link = s.link ∧ u.shaft = s.shaft ∧ u.frame = s.frame ∧ u.gaps = s.gaps ∧
            (under → u.bus.queue = s.bus.queue ∧ u.bus.held = s.bus.held) ∧
            (¬ under → (s.linkAt h).lost = false → (u.headAt h).queued = some cmd ∧
              (s.bus.queue.length < 16 → s.bus.held = [] → u.bus.queue = s.bus.queue ++ [order] ∧ u.bus.held = []) ∧
              (¬ (s.bus.queue.length < 16 ∧ s.bus.held = []) →
                u.bus.queue = s.bus.queue ∧ u.bus.held = s.bus.held ++ [order]))) ∧
        (t.kind = .roundPoll → s.engagedHead h = true → r.engaged = true → (s.workAt h).trim ≠ .waiting →
          (s.workAt h).case ≠ .clearing → (s.workAt h).case ≠ .moving →
          (¬ breaks → ¬ empties →
            ∃ u : State, run = .next u.finish ∧ u.watchAt h = read ∧ (u.linkAt h).record = some r ∧
              u.monitor.warnCount = (if warns then s.monitor.warnCount + 1
                else if calms then s.monitor.warnCount - 1 else s.monitor.warnCount) ∧
              u.gov = { s.gov with derate := if warns || calms then u.monitor.warnCount != 0 else s.gov.derate } ∧
              u.link = posted warns .tensionWarn n (posted calms .tensionClear n
                (posted sense .bobbinLow 2 (posted low .bobbinLow 1 s.link))) ∧
              (u.headAt h).state = (s.headAt h).state ∧ u.run.state = s.run.state ∧ u.run.cause = s.run.cause ∧
              u.shaft = s.shaft ∧ u.frame = s.frame ∧ u.gaps = s.gaps ∧ u.store = s.store) ∧
          (s.monitor.policy = .stopAll → s.run.pass = .main → s.run.state = .running → warns = false → calms = false →
            sense = false →
            (breaks → w.bobbin = 0 → ∃ u : State, run = .next u.finish ∧ faulted u .upperBreak s.link) ∧
            (¬ breaks → empties → w.fault = none →
              ∃ u : State, run = .next u.finish ∧ faulted u .bobbinOut (posted low .bobbinLow 1 s.link)))))) ∧
  (
    ∀ s : State,
      s.finish = (State.settle 262144 s).pump ∧
      (s.advance = none → ∀ n, State.settle n s = s) ∧
      (∀ n t, s.advance = some t → State.settle (n + 1) s = State.settle n t)) ∧
  (
    ∀ s : State, s.frame.travel = none → s.frame.homing = none →
      let c := s.cursor
      let unarmed := { s.monitor with heads := s.monitor.heads.map (fun w => { w with armed := false }) }
      let passed := fun (r : Run) => { r with
        mainCursor := if s.run.pass = .patch then s.run.mainCursor else s.run.mainCursor + 1
        patchCursor := if s.run.pass = .patch then some (c + 1) else s.run.patchCursor
        segmentStart := if s.run.pass = .patch then s.run.segmentStart else s.run.mainCursor + 1
        tieIn := s.cfg.speeds.tieIn }
      let paused := fun (r : Run) (k : StopCause) => { r with
        state := .paused, cause := some k, activity := .none, carry := false, stepping := false, stepDone := false
        keepTieIn := false, point := none, startReturn := none, travelReturn := none, warning := false }
      let stopped := fun (l : Link) (k : StopCause) => (l.post ⟨.stopped, 0, c + 1, k.code⟩).events
      let idle := fun (w : ThreadChange) => { w with
        work := .none, casing := false
        heads := w.heads.map (fun v => ⟨false, .absent, 0, false, .absent, 0, 0, false, 0, none, v.lastKnown⟩) }
      let kept := fun (u : State) => u.frame = s.frame ∧ u.shaft = s.shaft ∧ u.bus = s.bus ∧ u.gaps = s.gaps ∧
        u.gov = s.gov ∧ u.monitor = unarmed ∧ u.cfg = s.cfg ∧ u.store.filledEnd = s.store.filledEnd
      let goesOn := fun (u : State) (r : Run) (l : Link) =>
        (s.run.cause = none → s.run.pass = .patch ∨ s.joinsWaiting = false →
          u.run = { r with state := .running, activity := .none } ∧ u.link.events = l.events) ∧
        (s.run.cause = none → s.run.pass = .main → s.joinsWaiting = true →
          u.run = { r with
            state := .changing
            activity := .joining (headNumbers.filter (fun j => (s.watchAt j).joining)) .pick .running } ∧
          u.link.events = l.events) ∧
        (∀ k, s.run.cause = some k → u.run = paused r k ∧ u.link.events = stopped l k)
      (s.run.activity = .engaging →
        (s.bus.startOutstanding = true → s.advance = none) ∧
        (s.bus.startOutstanding = false → s.run.cause = none → s.passGoesOn = true →
          s.advance = some (((s.setRun { s.run with
            state := .running, activity := .none, startReturn := none, keepTieIn := false
            tieIn := if s.run.keepTieIn then s.run.tieIn else s.cfg.speeds.tieIn }).setMonitor
              (if s.run.keepTieIn then s.monitor else unarmed)).setLink
            (s.link.post ⟨.runStarted, 0, c, s.run.startValue⟩)))) ∧
      (s.run.activity = .changing → s.change.work = .trim →
        ((∃ h ∈ headNumbers, (s.workAt h).trim = .waiting) → s.advance = none) ∧
        ((∀ h ∈ headNumbers, (s.workAt h).trim ≠ .waiting) → s.passGoesOn = true →
          s.run.cause = none ∨ s.joinsWaiting = false →
          ∃ u, s.advance = some u ∧ kept u ∧ u.change = idle s.change ∧
            goesOn u (passed s.run) s.link)) ∧
      (s.run.activity = .changing → s.change.work = .colourChange → s.change.casing = true →
        let finished := ∀ h ∈ headNumbers, (s.workAt h).part = true →
          (s.workAt h).case = .arrived ∨ (s.workAt h).case = .resting ∨ (s.workAt h).case = .handedOver
        let slot := s.change.newSlot
        let told := s.link.post ⟨.colourDone, 0, c, slot⟩
        (¬ finished → s.advance = none) ∧
        (finished → s.passGoesOn = true → (s.run.cause = none ∧ s.anyEngaged = true) ∨ s.joinsWaiting = false →
          ∃ u, s.advance = some u ∧ kept u ∧ u.change = idle (s.change.apply (fun p => p.slot != slot)) ∧
            (s.run.cause ≠ none ∨ s.anyEngaged = true → goesOn u (passed s.run) told) ∧
            (s.run.cause = none → s.anyEngaged = false →
              u.run = paused (passed s.run) .noHead ∧ u.link.events = stopped told .noHead))))

/-- R103, R100, R110, R107, R108: HEAD_ATTEMPT_TIMEOUT and REST_TIMER_EXPIRY. The first and second timeouts repeat the
transaction with the mark of R100; the third ends it with the head lost: its queued commands removed, its lost flag
set, HEAD FAULT posted, and the head LOST (stated of an IDLE run). At the rest timer's expiry a round of the heads
then neither OFF nor lost starts, unless one is in progress or no head is due. That a time-out with nothing in flight,
and an expiry of a rest timer that does not run, change nothing is the model's choice (log 16). So is that the retries
go by the head's run count: one set to 0 in mid-transaction allows three more attempts (log 63), and that a head lost
with a direct join's LOWER has LOST as its pending fault (log 90). -/
def Obligations.TimeoutsRetryThenLose : Prop :=
  ∀ s : State, s.shapesRight = true →
    let run := exec .headAttemptTimeout s
    let rest := exec .restTimerExpiry s
    let due := headNumbers.filter (fun h => (s.headAt h).state != .off && !(s.linkAt h).lost)
    (s.bus.inFlight = none → run = .next s) ∧
    (∀ t, s.bus.inFlight = some t → t.reported = true → 1 ≤ t.head → t.head ≤ 8 →
      ((s.linkAt t.head).timeouts < 2 → run = .next ((s.setBus { s.bus with
        heads := s.bus.heads.modify (t.head - 1) (fun l => { l with timeouts := l.timeouts + 1 })
        inFlight := some { t with attempt := t.attempt + 1, mark := if t.mark = .two then .two else .one } }).finish)) ∧
      (2 ≤ (s.linkAt t.head).timeouts → (s.headAt t.head).state ≠ .off → (s.watchAt t.head).fault = none →
        s.run.state = .idle → s.run.pass = .main → s.quiet = true →
        ∃ u, run = .next u ∧ (u.linkAt t.head).lost = true ∧ (u.linkAt t.head).probe = false ∧
          (u.linkAt t.head).timeouts = (s.linkAt t.head).timeouts + 1 ∧ (u.headAt t.head).state = .lost ∧
          (u.watchAt t.head).fault = some ⟨.lost, .held⟩ ∧ (∀ c ∈ u.bus.queue ++ u.bus.held, c.head ≠ t.head) ∧
          u.run.state = .idle ∧ u.frame = s.frame ∧ u.shaft = s.shaft ∧
          (s.link.events.length < 32 →
            s.link.events ++ [⟨.headFault, t.head, s.cursor, 5⟩] <+: u.link.events))) ∧
    (s.bus.restTimer = none → rest = .next s) ∧
    (s.bus.restTimer ≠ none → rest = .next ((s.setBus { s.bus with
      restTimer := some s.cfg.pollPeriod
      round := if s.bus.round = none then (if due = [] then none else some ⟨due, []⟩) else s.bus.round }).finish))

/-- R117, R118, R120, R121, R137, R138, R139, R147, R142, R144, R151, R152, R154: TRIM_TIMER_EXPIRY and
CASE_TIMER_EXPIRY. The first trim failure issues CLEAR and TRIM again; a case failure before the third issues CLEAR
and a queued POLL (stated of a head not lost and a queue with two free places). The last failure of either hands the
head over and raises its fault (stated of a change in the main pass). Under STOP-ALL it is HELD; under DROP-OUT it is
HELD with FAULT when no other head remains to sew, HELD with GAPS FULL when the Gap Table has no room, and otherwise
DROPPED: the gap opened, the head lifted, the run's cause left alone. A timer that does not run fails nothing: the
model's choice (log 16).

Then the joins of a main pass, begun at rest at a join point, the run CHANGING (R143), in head order (R144): a head
with needle 0 rests, one whose case is at its needle is given LOWER, and any other is aligned first, or passed over
when that fails; the join closes its gap at the main cursor and loads its own tie-in count (R142). When no head waits,
the run goes on to RUNNING, with RUN STARTED at the cursor after WAITING (the index: the model's choice, log 30), to
step 4 of its start, or is PAUSED with a recorded cause, from a start out of IDLE too (the model's choice, log 81).

Then the steps due (O57) at a patch stop point (R151, R152). A RUNNING pass at rest there becomes CHANGING. End stops
come first, a head at a time in head order: trim, LIFT, the gap removed. With no gap to end, the join stops at a place
that a selected gap covers; else the jump, a patch travel to the next start's entry position, or PAUSED with FRAME
LIMIT when that lies outside the field (stated of states where no head waits to join); else the pass ends. Heads join
as above, as PATCH; when all have joined the run is RUNNING again, or PAUSED with a recorded cause. Last, the end of
the pass (R154): PATCH DONE with the patch cursor and the gaps sewn, the pass return state with no cause, every
engaged head given LIFT (`liftOnItsWay`) and every RESTING one IDLE. -/
def Obligations.ThreadTimersFailTheirAttempts : Prop :=
  (
    ∀ (s : State) (h : Nat), s.shapesRight = true → 1 ≤ h → h ≤ 8 →
      let w := s.workAt h
      let trim := exec (.trimTimerExpiry h) s
      let case_ := exec (.caseTimerExpiry h) s
      let with_ := fun (w' : HeadWork) => s.setChange { s.change with heads := s.change.heads.set (h - 1) w' }
      let queued := fun (u : State) (a b : BusWork) => u.setBus { s.bus with queue := s.bus.queue ++ [⟨h, a⟩, ⟨h, b⟩] }
      let room := (s.linkAt h).lost = false ∧ s.bus.queue.length < 15 ∧ s.bus.held = []
      let strikes := s.run.state = .changing ∧ s.run.pass = .main ∧ (s.headAt h).state ≠ .off ∧ (s.watchAt h).fault = none
      let mark := fun (kind : FaultKind) (how : Handling) => { s.monitor with
        heads := s.monitor.heads.modify (h - 1) (fun v =>
          { v with armed := false, joining := false, fault := some ⟨kind, how⟩ }) }
      let told := fun (kind : FaultKind) => s.link.post ⟨.headFault, h, s.cursor, kind.code⟩
      let held := fun (u : State) (kind : FaultKind) (cause : StopCause) =>
        u.run = { s.run with cause := some (s.run.cause.getD cause) } ∧ u.link = told kind ∧
        u.monitor = mark kind .held ∧ u.bus = s.bus ∧ u.frame = s.frame ∧ u.shaft = s.shaft ∧ u.gaps = s.gaps ∧
        u.gov = s.gov
      let colour := s.change.work = .colourChange
      let remains := ∃ j ∈ headNumbers, j ≠ h ∧ (s.watchAt j).fault = none ∧
        (if colour then (s.workAt j).part = true ∧ (s.workAt j).trim ≠ .handedOver ∧ (s.workAt j).case ≠ .handedOver ∧
            (s.workAt j).target ≠ 0
          else (s.headAt j).state = .sewing ∨ s.able j = true)
      let gapRoom := (s.gaps.filter (fun g => g.head == h)).length < 4 ∧ s.gaps.length < 16
      let start := if colour then s.run.mainCursor + 1
        else max (max (s.run.mainCursor - s.cfg.thread.overlap) s.run.segmentStart)
          (max s.earliestRetained (s.lastClosedEnd h))
      let stamp := s.stampAt start
      let lift : BusCommand := ⟨h, .engage ⟨.lift, .dropped, false, false⟩⟩
      let dropped := fun (u : State) (kind : FaultKind) =>
        u.gaps = insertGap ⟨h, start, none, stamp.pos, stamp.colour, .opened⟩ s.gaps ∧
        u.link = (told kind).post ⟨.gapOpened, h, start, s.gaps.length + 1⟩ ∧
        (u.watchAt h).fault = some ⟨kind, .dropped⟩ ∧ (u.watchAt h).armed = false ∧
        u.run.state = s.run.state ∧ u.run.cause = s.run.cause ∧ u.frame = s.frame ∧ u.shaft = s.shaft ∧
        (s.engagedHead h = true → (u.headAt h).state = (s.headAt h).state ∧
          ((s.linkAt h).lost = false → lift ∈ u.bus.queue ++ u.bus.held)) ∧
        (s.engagedHead h = false → (u.headAt h).state = .dropped ∧ u.bus = s.bus)
      let faulted := fun (u : State) (kind : FaultKind) =>
        (s.monitor.policy = .stopAll → held u kind .fault) ∧
        (s.monitor.policy = .dropOut → s.openGap h = none →
          (¬ remains → held u kind .fault) ∧
          (remains → ¬ gapRoom → held u kind .gapsFull) ∧
          (remains → gapRoom → dropped u kind))
      (w.trim ≠ .waiting ∨ w.trimTimer = false → trim = .next s.finish) ∧
      (w.trim = .waiting → w.trimTimer = true →
        (w.trimAttempt < 2 → room →
          trim = .next ((queued (with_ { w with trimAttempt := 2, trimTimer := false }) .clear .trim).finish)) ∧
        (2 ≤ w.trimAttempt → strikes →
          ∃ u : State, trim = .next u.finish ∧ (u.workAt h).trim = .handedOver ∧ faulted u .trimFail)) ∧
      (w.case ≠ .moving ∨ w.caseTimer = none → case_ = .next s.finish) ∧
      (w.case = .moving → w.caseTimer ≠ none →
        (w.caseAttempt < 3 → room →
          case_ = .next ((queued (with_ { w with case := .clearing, caseTimer := none }) .clear .poll).finish)) ∧
        (3 ≤ w.caseAttempt → strikes →
          ∃ u : State, case_ = .next u.finish ∧ (u.workAt h).case = .handedOver ∧ faulted u .caseJam))) ∧
  (
    ∀ (s : State) (h : Nat), s.frame.travel = none → s.frame.homing = none → s.run.pass = .patch → s.shapesRight = true →
      1 ≤ h → h ≤ 8 →
      let c := s.cursor
      let covers := fun (g : Gap) => g.state = .sewing ∧ g.start ≤ c ∧ c < g.stop.getD s.run.mainCursor
      let ends := fun (j : Nat) => ∃ g ∈ s.gaps, g.state = .sewing ∧ g.head = j ∧ g.stop = some c
      let at_ := fun (a : Activity) => { s.run with activity := a }
      let sewn := s.gaps.filter (fun g => !(g.state == .sewing && g.head == h && g.stop == some c))
      let after := { s.run with activity := .endStops .pick, patchSewn := s.run.patchSewn + 1 }
      let reachable := (s.linkAt h).lost = false
      let room := s.bus.queue.length < 16 ∧ s.bus.held = []
      let kept := fun (u : State) => u.frame = s.frame ∧ u.shaft = s.shaft ∧ u.link = s.link ∧ u.monitor = s.monitor
      let sent := fun (u : State) (w : BusWork) => (⟨h, w⟩ : BusCommand) ∈ u.bus.queue ++ u.bus.held
      let lift : BusWork := .engage ⟨.lift, .idle, false, false⟩
      let lower : BusWork := .engage ⟨.lower, .patch, true, false⟩
      let paused := fun (r : Run) (k : StopCause) => { r with
        state := .paused, cause := some k, activity := .none, carry := false, stepping := false, stepDone := false
        keepTieIn := false, point := none, startReturn := none, travelReturn := none, warning := false }
      (s.run.state = .running → s.run.activity = .none → s.shaft.state = .atRest → s.frame.stitch = none →
        s.run.carry = false → s.run.stepDone = false → s.patchStop c = true →
        s.advance = some (s.setRun { s.run with state := .changing, activity := .endStops .pick, point := none })) ∧
      (s.run.activity = .endStops .pick → ends h → (∀ j, 1 ≤ j → j < h → ¬ ends j) →
        (s.engagedHead h = true → reachable → room →
          ∃ u, s.advance = some u ∧ u.run = at_ (.endStops (.trimming h)) ∧ u.change.work = .trim ∧
            (u.workAt h).trim = .waiting ∧ (u.workAt h).trimAttempt = 1 ∧ u.gaps = s.gaps ∧ kept u ∧
            u.bus = { s.bus with queue := s.bus.queue ++ [⟨h, .trim⟩] }) ∧
        ((s.headAt h).state = .resting →
          ∃ u, s.advance = some u ∧ (u.headAt h).state = .idle ∧ u.gaps = sewn ∧ u.bus = s.bus ∧
            u.run = { after with heads := u.run.heads })) ∧
      (s.run.activity = .endStops (.trimming h) →
        ((∃ j ∈ headNumbers, (s.workAt j).trim = .waiting) → s.advance = none) ∧
        ((∀ j ∈ headNumbers, (s.workAt j).trim ≠ .waiting) → s.engagedHead h = true → (s.watchAt h).fault = none →
          reachable →
          ∃ u, s.advance = some u ∧ u.run = { at_ (.endStops (.lifting h)) with heads := u.run.heads } ∧ sent u lift ∧
            u.change.work = .none ∧ u.gaps = s.gaps ∧ kept u)) ∧
      (s.run.activity = .endStops (.lifting h) →
        (s.bus.engageOutstanding h = true ∨ (s.headAt h).acked ≠ none → s.advance = none) ∧
        (s.bus.engageOutstanding h = false → (s.headAt h).acked = none →
          ∃ u, s.advance = some u ∧ u.gaps = sewn ∧ u.run = after ∧ u.bus = s.bus ∧ u.frame = s.frame ∧
            u.shaft = s.shaft ∧ u.link.events = s.link.events)) ∧
      (s.run.activity = .endStops .pick → (∀ j ∈ headNumbers, ¬ ends j) →
        ((∃ g ∈ s.gaps, covers g) →
          s.advance = some (s.setRun (at_ (.joining (if s.run.patchDone = some c then [] else
            headNumbers.filter (fun j => s.gaps.any (fun g => g.state == .sewing && g.head == j && g.start == c)))
            .pick .patch)))) ∧
        (∀ (i : Nat) (g : Gap), (∀ x ∈ s.gaps, ¬ covers x) →
          s.gaps.find? (fun x => x.state == .sewing && x.start == i) = some g → c ≤ i →
          (∀ x ∈ s.gaps, x.state = .sewing → c ≤ x.start → i ≤ x.start) →
          let target := s.originPos.add g.entry
          let moved := { s.run with patchCursor := some i, patchDone := none }
          ∃ u, s.advance = some u ∧
            (inField s.cfg.machine target = true → u.gaps = s.gaps ∧ u.bus = s.bus ∧
              u.run = { moved with state := .travelling, travelReturn := some .changing, activity := .patchTravel } ∧
              u.shaft = { s.shaft with lockout := { s.shaft.lockout with travel := true } } ∧
              u.frame = { s.frame with travel := some ⟨[target], s.frame.pos, ⟨0, 0⟩, 0, 0, none, false⟩ }) ∧
            (inField s.cfg.machine target = false → s.joinsWaiting = false → u.gaps = s.gaps ∧ u.bus = s.bus ∧
              u.run = paused moved (s.run.cause.getD .frameLimit) ∧ u.shaft = s.shaft ∧ u.frame = s.frame)) ∧
        ((∀ g ∈ s.gaps, g.state ≠ .sewing) → s.advance = some s.endPatch)) ∧
      (∀ rest, s.run.activity = .joining (h :: rest) .pick .patch → (∃ g ∈ s.gaps, covers g ∧ g.head = h) →
        (s.watchAt h).fault = none → (s.headAt h).state = .idle ∨ (s.headAt h).state = .resting →
        let q := s.change.needle (s.stampAt c).colour h
        (q = 0 → ∃ u, s.advance = some u ∧ (u.headAt h).state = .resting ∧ u.gaps = s.gaps ∧ kept u ∧ u.bus = s.bus ∧
          u.run.activity = .joining rest .pick .patch) ∧
        (q ≠ 0 → (s.workAt h).lastKnown = some q → reachable →
          ∃ u, s.advance = some u ∧ sent u lower ∧ u.gaps = s.gaps ∧ kept u ∧
            u.run.activity = .joining rest (.lowering h) .patch) ∧
        (∀ p, q ≠ 0 → q ≤ 12 → p ≤ 12 → (s.workAt h).lastKnown = some p → p ≠ q → reachable → room →
          ∃ u, s.advance = some u ∧ u.gaps = s.gaps ∧ kept u ∧ u.change.work = .alignOne ∧
            u.run = at_ (.joining rest (.aligning h) .patch) ∧
            ∃ ahead n, u.bus = { s.bus with queue := s.bus.queue ++ [⟨h, .caseMove ahead n⟩] } ∧
              (q : Int) % 12 = ((p : Int) + (if ahead then (n : Int) else -n)) % 12)) ∧
      (∀ rest, s.run.activity = .joining rest (.aligning h) .patch →
        (∀ j ∈ headNumbers, (s.workAt j).part = true → (s.workAt j).case = .arrived) → (s.workAt h).case = .arrived →
        reachable →
        ∃ u, s.advance = some u ∧ sent u lower ∧ u.change.work = .none ∧ u.gaps = s.gaps ∧ kept u ∧
          u.run.activity = .joining rest (.lowering h) .patch) ∧
      (∀ rest, s.run.activity = .joining rest (.lowering h) .patch →
        (s.bus.engageOutstanding h = true ∨ (s.headAt h).acked ≠ none → s.advance = none) ∧
        (s.bus.engageOutstanding h = false → (s.headAt h).acked = none →
          s.advance = some (s.setRun (at_ (.joining rest .pick .patch))))) ∧
      (s.run.activity = .joining [] .pick .patch →
        (s.run.cause = none →
          s.advance = some (s.setRun { s.run with state := .running, activity := .none, patchDone := some c })) ∧
        (∀ k, s.run.cause = some k → s.joinsWaiting = false → s.patchLeft = true →
          s.advance = some ((s.setRun (paused { s.run with patchDone := some c } k)).setLink
            (s.link.post ⟨.stopped, 0, c, k.code⟩))))) ∧
  (
    ∀ (s : State) (h : Nat), s.run.pass = .main → s.shapesRight = true → 1 ≤ h → h ≤ 8 →
      let c := s.run.mainCursor
      let waits := fun (j : Nat) => (s.watchAt j).joining = true ∧ (s.watchAt j).fault = none ∧ (s.linkAt j).lost = false
      let isOpen := fun (g : Gap) => g.head == h && g.state == .opened
      let closed := match s.gaps.find? isOpen with
        | none => s.gaps
        | some g => if g.start < c then s.gaps.map (fun x => if isOpen x then { x with stop := some c, state := .closed } else x)
          else s.gaps.filter (fun x => !isOpen x)
      let told := match s.gaps.find? isOpen with
        | none => s.link
        | some g => s.link.post ⟨.gapClosed, h, c, c - g.start⟩
      let reachable := (s.linkAt h).lost = false
      let room := s.bus.queue.length < 16 ∧ s.bus.held = []
      let at_ := fun (a : Activity) => { s.run with activity := a }
      let kept := fun (u : State) => u.frame = s.frame ∧ u.shaft = s.shaft ∧ u.gov = s.gov ∧ u.cfg = s.cfg
      let same := fun (u : State) => u.gaps = s.gaps ∧ u.monitor = s.monitor ∧ u.link = s.link ∧ u.store = s.store ∧ kept u
      let sent := fun (u : State) (w : BusWork) => (⟨h, w⟩ : BusCommand) ∈ u.bus.queue ++ u.bus.held
      let lower : BusWork := .engage ⟨.lower, .sewing, true, false⟩
      let joined := fun (u : State) (state : HeadState) =>
        (u.headAt h).state = state ∧ u.gaps = closed ∧ u.link.events = told.events ∧
        u.watchAt h = { s.watchAt h with ownTieIn := s.cfg.speeds.tieIn, armed := false, joining := false } ∧ kept u ∧
        ∀ j, j ≠ h → 1 ≤ j → j ≤ 8 → u.headAt j = s.headAt j ∧ u.watchAt j = s.watchAt j
      let paused := fun (k : StopCause) => { s.run with
        state := .paused, cause := some k, activity := .none, carry := false, stepping := false, stepDone := false
        keepTieIn := false, point := none, startReturn := none, travelReturn := none, warning := false }
      (s.frame.travel = none → s.frame.homing = none → s.run.state = .running → s.run.activity = .none →
        s.shaft.state = .atRest → s.frame.stitch = none → s.run.carry = false → s.run.stepDone = false →
        s.run.point = some c → s.joinsWaiting = true →
        ∃ todo, s.advance = some (s.setRun { s.run with
          state := .changing, activity := .joining todo .pick .running, point := none })) ∧
      (∀ (todo : List Nat) (after : AfterJoin), after ≠ .patch → s.frame.travel = none → s.frame.homing = none →
        (s.run.activity = .joining todo .pick after → waits h → (∀ j, 1 ≤ j → j < h → ¬ waits j) →
          let q := s.change.needle (s.stampAt c).colour h
          (q = 0 → ∃ u rest, s.advance = some u ∧ joined u .resting ∧ u.bus = s.bus ∧
            u.run = { at_ (.joining rest .pick after) with heads := u.run.heads }) ∧
          (q ≠ 0 → (s.workAt h).lastKnown = some q → ∃ u rest, s.advance = some u ∧ sent u lower ∧ same u ∧
            (u.headAt h).state = (s.headAt h).state ∧
            u.run = { at_ (.joining rest (.lowering h) after) with heads := u.run.heads }) ∧
          (q ≠ 0 → (s.workAt h).lastKnown = none → s.bus.queue.length < 15 → s.bus.held = [] →
            ∃ u rest, s.advance = some u ∧ same u ∧ u.change.work = .alignOne ∧
              u.run = at_ (.joining rest (.aligning h) after) ∧
              u.bus = { s.bus with queue := s.bus.queue ++ [⟨h, .clear⟩, ⟨h, .poll⟩] }) ∧
          (∀ p, q ≠ 0 → q ≤ 12 → p ≤ 12 → (s.workAt h).lastKnown = some p → p ≠ q → room →
            ∃ u rest, s.advance = some u ∧ same u ∧ u.change.work = .alignOne ∧
              u.run = at_ (.joining rest (.aligning h) after) ∧
              ∃ ahead n, u.bus = { s.bus with queue := s.bus.queue ++ [⟨h, .caseMove ahead n⟩] } ∧
                (q : Int) % 12 = ((p : Int) + (if ahead then (n : Int) else -n)) % 12)) ∧
        (s.run.activity = .joining todo (.aligning h) after →
          let settled := ∀ j ∈ headNumbers, (s.workAt j).part = true →
            (s.workAt j).case = .arrived ∨ (s.workAt j).case = .resting ∨ (s.workAt j).case = .handedOver
          (¬ settled → s.advance = none) ∧
          (settled → (s.workAt h).case = .arrived → reachable → ∃ u, s.advance = some u ∧ sent u lower ∧
            u.change.work = .none ∧ same u ∧
            u.run = { at_ (.joining todo (.lowering h) after) with heads := u.run.heads }) ∧
          (settled → (s.workAt h).case ≠ .arrived → ∃ u, s.advance = some u ∧ u.change.work = .none ∧ same u ∧
            u.bus = s.bus ∧ u.run = at_ (.joining todo .pick after))) ∧
        (s.run.activity = .joining todo (.lowering h) after →
          (s.bus.engageOutstanding h = true ∨ (s.headAt h).acked ≠ none → s.advance = none) ∧
          (s.bus.engageOutstanding h = false → (s.headAt h).acked = none →
            s.advance = some (s.setRun (at_ (.joining todo .pick after))))) ∧
        (s.run.activity = .joining todo .pick after → (∀ j ∈ headNumbers, ¬ waits j) →
          (s.run.cause = none →
            (after = .running → s.advance = some (s.setRun { s.run with state := .running, activity := .none })) ∧
            (after = .stepEngage → s.advance = some (s.setRun { s.run with state := .arming, activity := .dueEngage })) ∧
            (after = .fromWaiting → s.advance = some (((s.setRun { s.run with
              state := .running, activity := .none, tieIn := s.cfg.speeds.tieIn }).setMonitor { s.monitor with
                heads := s.monitor.heads.map (fun w => { w with armed := false }) }).setLink
              (s.link.post ⟨.runStarted, 0, c, 4⟩)))) ∧
          (∀ k, s.run.cause = some k → s.joinsWaiting = false →
            s.advance = some ((s.setRun (paused k)).setLink (s.link.post ⟨.stopped, 0, c, k.code⟩))))) ∧
      (∀ (r : StatusRecord) (t : Transaction) (o : EngageOrder), s.bus.inFlight = some t → t.reported = true → t.head = h →
        t.kind = .command (.engage o) → o.cmd = .lower → o.join = true → o.becomes = .sewing →
        s.shaft.state ≠ .running → s.shaft.state ≠ .stopping → (s.headAt h).state = .dropped → (s.watchAt h).fault = none →
        (s.workAt h).case ≠ .lowering →
        ∃ u : State, exec (.headAnswer h true r) s = .next u.finish ∧ joined u .sewing ∧ (u.headAt h).acked = none)) ∧
  (
    ∀ (s : State) (back : RunState), s.run.pass = .patch → s.run.passReturn = some back → s.joinsWaiting = false →
      let t := s.endPatch
      t.run = { s.run with
        state := back, pass := .main, patchCursor := none, cause := none, passReturn := none, patchDone := none
        patchSewn := 0, activity := .none, carry := false, stepping := false, stepDone := false, keepTieIn := false
        point := none, startReturn := none, travelReturn := none, warning := false, heads := t.run.heads } ∧
      t.link.events = (s.link.post ⟨.patchDone, 0, s.cursor, s.run.patchSewn⟩).events ∧
      t.gaps = s.gaps ∧ t.frame = s.frame ∧ t.shaft = s.shaft ∧ t.cfg = s.cfg ∧
      ∀ h, 1 ≤ h → h ≤ 8 → (t.headAt h).needle = (s.headAt h).needle ∧
        (t.headAt h).state = (if (s.headAt h).state = .resting then .idle else (s.headAt h).state) ∧
        (s.engagedHead h = true → (s.watchAt h).fault = none → (s.linkAt h).lost = false →
          t.liftOnItsWay h .idle = true))

/-- R119, R120, R125: the case move of a head from its last known position `p` to its target `q`. It is forward by `f`
when `f` is not above `b`, and backward by `b` otherwise, 1..6 positions, and the CASE MOVE queued carries that
direction and distance (stated of a head not lost and of a queue with a free place, R104). With `p` the target there
is no move.

Then what the Thread Change Unit does with the answers (R117, R118, R120, R121, R125, R128), which HEAD_ANSWER hands
to it; O57 says what `State.finish` does next. In a colour change the acknowledgement of LOWER is the head's arrival,
and that of LIFT brings RESTING or the CASE MOVE that follows (issued there: the model's choice, log 64). The
acknowledgement of CASE MOVE starts the case timer. A record of a POLL, of a round or queued, moves the last known
position. With the trim timer running DONE ends the head's trim, FAILED issues CLEAR and TRIM once more and is TRIM
FAIL the second time. With the case timer running AT REST at the target is the arrival, after which a colour change
lowers the head and an alignment leaves it lifted, and AT REST elsewhere and JAMMED fail the attempt: CLEAR and a
queued POLL, and CASE JAM at the third. The record of that POLL is an arrival, begins the next attempt, or fails it
without a move. The faults are stated of the main pass under STOP-ALL, and all of it of a record with no penetrations
that agrees with the head table.

Last, an answered probe (R111, R110, R141): the loss is cleared, the record stored, and a LOST head without an OPEN
gap is repaired and IDLE, with HEAD REPAIRED.

And the step from the completed trim of a colour change to its case step: every participant takes its row of R125's
table (stated of attempts below the third).

It is the model's reading that an answer of CASE MOVE or of a queued POLL is that of the latest one only when no other
of its kind for the head stands in the queue or the held-back list; with another there, that of a POLL moves the last
known position only (log 34). -/
def Obligations.CaseMovesAndTrimsFollowTheAnswers : Prop :=
  (∀ (s : State) (h p q : Nat), 1 ≤ p → p ≤ 12 → 1 ≤ q → q ≤ 12 →
    (s.workAt h).lastKnown = some p → (s.workAt h).target = q →
    let f := ((q : Int) - p) % 12
    let b := ((p : Int) - q) % 12
    let t := s.caseMove h
    (p ≠ q →
      f + b = 12 ∧ 1 ≤ min f b ∧ min f b ≤ 6 ∧
      ((s.linkAt h).lost = false → s.bus.queue.length < 16 → s.bus.held = [] →
        t.bus = { s.bus with queue := s.bus.queue ++ [⟨h, .caseMove (decide (f ≤ b)) (min f b).toNat⟩] })) ∧
    (p = q → ∀ c ∈ t.bus.queue ++ t.bus.held, c ∈ s.bus.queue ++ s.bus.held ∨ ∃ o, c = ⟨h, .engage o⟩)) ∧
  (∀ (s : State) (h : Nat) (r : StatusRecord) (t : Transaction), s.shapesRight = true → 1 ≤ h → h ≤ 8 →
    s.bus.inFlight = some t → t.head = h → t.reported = true →
    let run := exec (.headAnswer h true r) s
    let w := s.workAt h
    let last := if r.casePos = 0 then w.lastKnown else some r.casePos
    let seen := { w with lastKnown := last }
    let ended := s.setBus { s.bus with
      inFlight := none, round := s.bus.round.filter (fun r => !r.todo.isEmpty)
      heads := s.bus.heads.modify (h - 1) (fun l => { l with timeouts := 0 }) }
    let later := fun (p : BusWork → Prop) => ∃ c ∈ s.bus.queue ++ s.bus.held, c.head = h ∧ p c.work
    let room := (s.linkAt h).lost = false ∧ s.bus.queue.length < 15 ∧ s.bus.held = []
    let kept := fun (u : State) => (u.linkAt h).record = some r ∧ u.run.state = s.run.state ∧ u.frame = s.frame ∧
      u.shaft = s.shaft ∧ u.gaps = s.gaps ∧ u.store = s.store ∧ u.gov = s.gov ∧
      ∀ j, j ≠ h → 1 ≤ j → j ≤ 8 → u.workAt j = s.workAt j ∧ u.headAt j = s.headAt j ∧ u.watchAt j = s.watchAt j
    let gives := fun (v : HeadWork) (more : List BusWork) => ∃ u : State, run = .next u.finish ∧ kept u ∧ u.workAt h = v ∧
      u.bus.queue = s.bus.queue ++ more.map (fun k => ⟨h, k⟩) ∧ u.link = s.link ∧ u.run.cause = s.run.cause ∧
      (u.headAt h).state = (if s.change.work = .alignAll ∧ w.case ≠ .arrived ∧ v.case = .arrived ∧
        (s.headAt h).state = .resting then .idle else (s.headAt h).state)
    let faults := fun (kind : FaultKind) (p : HeadWork → Prop) =>
      s.run.state = .changing → s.run.pass = .main → s.monitor.policy = .stopAll → (s.headAt h).state ≠ .off →
      (s.watchAt h).fault = none →
      ∃ u : State, run = .next u.finish ∧ kept u ∧ p (u.workAt h) ∧ u.bus.queue = s.bus.queue ∧
        (u.watchAt h).fault = some ⟨kind, .held⟩ ∧ (u.headAt h).state = (s.headAt h).state ∧
        u.run.cause = some (s.run.cause.getD .fault) ∧ u.link = s.link.post ⟨.headFault, h, s.cursor, kind.code⟩
    let fails := fun (attempt : Nat) =>
      (attempt < 3 → room →
        gives { seen with case := .clearing, caseTimer := none, caseAttempt := attempt } [.clear, .poll]) ∧
      (3 ≤ attempt → faults .caseJam (fun v => v.case = .handedOver))
    let arrives :=
      (s.change.work ≠ .colourChange → gives { seen with case := .arrived, caseTimer := none } []) ∧
      (s.change.work = .colourChange → room → s.bus.engageOutstanding h = false →
        gives { seen with case := .lowering, caseTimer := none }
          [.engage ⟨.lower, if s.run.pass = .patch then .patch else .sewing, false, false⟩])
    (∀ ahead n, t.kind = .command (.caseMove ahead n) → w.case = .moving →
      ¬ later (fun k => ∃ b m, k = .caseMove b m) →
      run = .next ((ended.setChange { s.change with heads := s.change.heads.modify (h - 1) (fun v =>
        { v with caseTimer := some (300 + 120 * v.distance) }) }).finish)) ∧
    (∀ o, t.kind = .command (.engage o) → s.shaft.state ≠ .running → s.shaft.state ≠ .stopping →
      (s.watchAt h).fault = none →
      (o.cmd = .lower → o.join = false → (s.headAt h).state = .idle ∨ (s.headAt h).state = .resting →
        o.becomes = .sewing ∨ o.becomes = .patch → w.case = .lowering →
        run = .next (((ended.setRun { s.run with heads := s.run.heads.modify (h - 1) (fun e => { e with
          state := o.becomes, acked := none
          queued := if (s.bus.queue ++ s.bus.held).any (fun c => c.engages h) then e.queued else none }) }).setChange
            { s.change with heads := s.change.heads.modify (h - 1) (fun v => { v with case := .arrived }) }).finish)) ∧
      (o.cmd = .lift → o.becomes = .idle ∨ o.becomes = .resting → s.engagedHead h = true → w.case = .lifting →
        (∀ c ∈ s.bus.queue ++ s.bus.held, c.engages h = false) →
        let lifted := fun (state : HeadState) (v : HeadWork) (more : List BusWork) =>
          ∃ u : State, run = .next u.finish ∧ (u.headAt h).state = state ∧ (u.watchAt h).armed = false ∧ u.workAt h = v ∧
            u.bus.queue = s.bus.queue ++ more.map (fun k => ⟨h, k⟩) ∧ u.link = s.link ∧ u.run.state = s.run.state ∧
            u.run.cause = s.run.cause ∧ u.frame = s.frame ∧ u.shaft = s.shaft ∧ u.gaps = s.gaps ∧ u.store = s.store ∧
            ∀ j, j ≠ h → 1 ≤ j → j ≤ 8 → u.workAt j = s.workAt j ∧ u.headAt j = s.headAt j ∧ u.watchAt j = s.watchAt j
        (w.target = 0 → lifted o.becomes { w with case := .resting } []) ∧
        (∀ p, w.target ≠ 0 → w.target ≤ 12 → p ≤ 12 → w.lastKnown = some p → p ≠ w.target → room →
          ∃ ahead n, (w.target : Int) % 12 = ((p : Int) + (if ahead then (n : Int) else -n)) % 12 ∧
            lifted o.becomes { w with case := .moving, ahead := ahead, distance := n, caseTimer := none }
              [.caseMove ahead n]) ∧
        (w.target ≠ 0 → w.lastKnown = none → w.caseAttempt < 3 → room →
          lifted o.becomes { w with case := .clearing, caseTimer := none } [.clear, .poll]) ∧
        (w.target ≠ 0 → w.lastKnown = some w.target → s.change.work = .colourChange → room →
          lifted o.becomes { w with case := .lowering, caseTimer := none }
            [.engage ⟨.lower, if s.run.pass = .patch then .patch else .sewing, false, false⟩]))) ∧
    (t.kind = .roundPoll ∨ t.kind = .command .poll → r.penetrations = 0 → r.bobbinLow = false →
      r.engaged = s.engagedHead h →
      (w.case ≠ .moving → w.case ≠ .clearing →
        (w.trim ≠ .waiting ∨ w.trimTimer = false → gives seen []) ∧
        (w.trim = .waiting → w.trimTimer = true →
          (r.trimState = .done → gives { seen with trim := .done, trimTimer := false } []) ∧
          (r.trimState = .failed → w.trimAttempt < 2 → room →
            gives { seen with trimAttempt := 2, trimTimer := false } [.clear, .trim]) ∧
          (r.trimState = .failed → 2 ≤ w.trimAttempt → faults .trimFail (fun v => v.trim = .handedOver)) ∧
          (r.trimState = .busy ∨ r.trimState = .idle → gives seen []))) ∧
      (w.trim ≠ .waiting → w.case = .moving →
        (w.caseTimer = none → gives seen []) ∧
        (w.caseTimer ≠ none →
          (r.caseState = .moving → gives seen []) ∧
          (r.caseState = .atRest → r.casePos = w.target → arrives) ∧
          (r.caseState = .jammed ∨ (r.caseState = .atRest ∧ r.casePos ≠ w.target) → fails w.caseAttempt))) ∧
      (w.trim ≠ .waiting → w.case = .clearing →
        (t.kind = .roundPoll ∨ later (fun k => k = .poll) → gives seen []) ∧
        (t.kind = .command .poll → ¬ later (fun k => k = .poll) →
          (r.caseState = .atRest → last = some w.target → arrives) ∧
          (∀ p, r.caseState = .atRest → last = some p → p ≠ w.target → p ≤ 12 → w.target ≤ 12 → room →
            ∃ ahead n, (w.target : Int) % 12 = ((p : Int) + (if ahead then (n : Int) else -n)) % 12 ∧
              gives { seen with case := .moving, ahead := ahead, distance := n, caseTimer := none
                                caseAttempt := w.caseAttempt + 1 } [.caseMove ahead n]) ∧
          (r.caseState ≠ .atRest ∨ last = none → fails (w.caseAttempt + 1))))) ∧
    (t.kind = .probe → r.penetrations = 0 → r.bobbinLow = false → r.engaged = false → w.trim ≠ .waiting →
      w.case ≠ .moving → w.case ≠ .clearing → s.run.pass = .main → (s.headAt h).state = .lost →
      (s.watchAt h).fault = some ⟨.lost, .held⟩ → (s.watchAt h).warn = false →
      (∀ g ∈ s.gaps, g.head ≠ h ∨ g.state ≠ .opened) →
      ∃ u : State, run = .next u.finish ∧ kept u ∧ u.workAt h = seen ∧ (u.headAt h).state = .idle ∧
        (u.linkAt h).lost = false ∧ (u.linkAt h).probe = false ∧ (u.linkAt h).timeouts = 0 ∧
        u.watchAt h = { s.watchAt h with countdown := s.cfg.thread.breakB, excursion := 0, fault := none } ∧
        u.bus.queue = s.bus.queue ∧ u.link = s.link.post ⟨.headRepaired, h, s.cursor, 5⟩)) ∧
  (∀ s : State, s.frame.travel = none → s.frame.homing = none → s.shapesRight = true → s.run.activity = .changing →
    s.change.work = .colourChange → s.change.casing = false →
    let trimming := ∃ h ∈ headNumbers, (s.workAt h).trim = .waiting
    let sews : HeadState := if s.run.pass = .patch then .patch else .sewing
    (trimming → s.advance = none) ∧
    (¬ trimming → (∀ h ∈ headNumbers, (s.workAt h).part = true → (s.workAt h).caseAttempt < 3) →
      ∃ u, s.advance = some u ∧ u.change.casing = true ∧ u.change.work = .colourChange ∧
        u.run = { s.run with heads := u.run.heads } ∧ u.link = s.link ∧ u.frame = s.frame ∧ u.shaft = s.shaft ∧
        u.gaps = s.gaps ∧ u.store = s.store ∧ u.gov = s.gov ∧ u.monitor = s.monitor ∧ u.cfg = s.cfg ∧
        ∀ h, 1 ≤ h → h ≤ 8 →
          let w := s.workAt h
          let v := u.workAt h
          let out := w.trim = .handedOver ∨ w.case = .handedOver
          let sent := fun (k : BusWork) => (⟨h, k⟩ : BusCommand) ∈ u.bus.queue ++ u.bus.held
          let stays := (u.headAt h).state = (s.headAt h).state
          (w.part = false → v = w ∧ u.headAt h = s.headAt h) ∧
          (w.part = true → out → v = { w with case := .handedOver } ∧ u.headAt h = s.headAt h) ∧
          (w.part = true → ¬ out → (s.linkAt h).lost = false →
            (w.target = 0 → s.engagedHead h = true → stays ∧ v = { w with case := .lifting } ∧
              sent (.engage ⟨.lift, .resting, false, false⟩)) ∧
            (w.target = 0 → s.engagedHead h = false →
              (u.headAt h).state = .resting ∧ v = { w with case := .resting }) ∧
            (w.target ≠ 0 → w.lastKnown = some w.target → s.engagedHead h = true →
              u.headAt h = s.headAt h ∧ v = { w with case := .arrived }) ∧
            (w.target ≠ 0 → w.lastKnown = some w.target → s.engagedHead h = false → stays ∧
              v = { w with case := .lowering } ∧ sent (.engage ⟨.lower, sews, false, false⟩)) ∧
            (w.target ≠ 0 → w.lastKnown ≠ some w.target → s.engagedHead h = true → stays ∧
              v = { w with case := .lifting } ∧ sent (.engage ⟨.lift, .idle, false, false⟩)) ∧
            (∀ p, w.target ≠ 0 → w.target ≤ 12 → p ≤ 12 → w.lastKnown = some p → p ≠ w.target →
              s.engagedHead h = false → stays ∧ ∃ ahead n,
                v = { w with case := .moving, ahead := ahead, distance := n, caseTimer := none } ∧
                sent (.caseMove ahead n) ∧
                (w.target : Int) % 12 = ((p : Int) + (if ahead then (n : Int) else -n)) % 12) ∧
            (w.target ≠ 0 → w.lastKnown = none → s.engagedHead h = false → stays ∧
              v = { w with case := .clearing, caseTimer := none } ∧ sent .clear ∧ sent .poll))))
end

