-- ==== Sys2Proof/Laws/State.lean ====
section
/-!
SUPPORT. One lemma for each field of `State` under each update by block: the field that the update replaces has
the new value, every other field has the old one. All by `rfl`.
-/

namespace Sys2Proof.Machine

/-! ## `State.setRun` -/

@[simp] theorem State.setRun_run (s : State) (x : Run) : (s.setRun x).run = x := rfl
@[simp] theorem State.setRun_store (s : State) (x : Run) : (s.setRun x).store = s.store := rfl
@[simp] theorem State.setRun_gov (s : State) (x : Run) : (s.setRun x).gov = s.gov := rfl
@[simp] theorem State.setRun_frame (s : State) (x : Run) : (s.setRun x).frame = s.frame := rfl
@[simp] theorem State.setRun_shaft (s : State) (x : Run) : (s.setRun x).shaft = s.shaft := rfl
@[simp] theorem State.setRun_bus (s : State) (x : Run) : (s.setRun x).bus = s.bus := rfl
@[simp] theorem State.setRun_change (s : State) (x : Run) : (s.setRun x).change = s.change := rfl
@[simp] theorem State.setRun_monitor (s : State) (x : Run) : (s.setRun x).monitor = s.monitor := rfl
@[simp] theorem State.setRun_gaps (s : State) (x : Run) : (s.setRun x).gaps = s.gaps := rfl
@[simp] theorem State.setRun_link (s : State) (x : Run) : (s.setRun x).link = s.link := rfl
@[simp] theorem State.setRun_cfg (s : State) (x : Run) : (s.setRun x).cfg = s.cfg := rfl
@[simp] theorem State.setRun_free (s : State) (x : Run) : (s.setRun x).free = s.free := rfl
@[simp] theorem State.setRun_pending (s : State) (x : Run) : (s.setRun x).pending = s.pending := rfl

/-- Replacing a block twice keeps the second. -/
@[simp] theorem State.setRun_twice (s : State) (x y : Run) : (s.setRun x).setRun y = s.setRun y := rfl

/-- Replacing a block by itself changes nothing. -/
@[simp] theorem State.setRun_self (s : State) : s.setRun s.run = s := rfl

/-! ## `State.setStore` -/

@[simp] theorem State.setStore_run (s : State) (x : Store) : (s.setStore x).run = s.run := rfl
@[simp] theorem State.setStore_store (s : State) (x : Store) : (s.setStore x).store = x := rfl
@[simp] theorem State.setStore_gov (s : State) (x : Store) : (s.setStore x).gov = s.gov := rfl
@[simp] theorem State.setStore_frame (s : State) (x : Store) : (s.setStore x).frame = s.frame := rfl
@[simp] theorem State.setStore_shaft (s : State) (x : Store) : (s.setStore x).shaft = s.shaft := rfl
@[simp] theorem State.setStore_bus (s : State) (x : Store) : (s.setStore x).bus = s.bus := rfl
@[simp] theorem State.setStore_change (s : State) (x : Store) : (s.setStore x).change = s.change := rfl
@[simp] theorem State.setStore_monitor (s : State) (x : Store) : (s.setStore x).monitor = s.monitor := rfl
@[simp] theorem State.setStore_gaps (s : State) (x : Store) : (s.setStore x).gaps = s.gaps := rfl
@[simp] theorem State.setStore_link (s : State) (x : Store) : (s.setStore x).link = s.link := rfl
@[simp] theorem State.setStore_cfg (s : State) (x : Store) : (s.setStore x).cfg = s.cfg := rfl
@[simp] theorem State.setStore_free (s : State) (x : Store) : (s.setStore x).free = s.free := rfl
@[simp] theorem State.setStore_pending (s : State) (x : Store) : (s.setStore x).pending = s.pending := rfl

/-- Replacing a block twice keeps the second. -/
@[simp] theorem State.setStore_twice (s : State) (x y : Store) : (s.setStore x).setStore y = s.setStore y := rfl

/-- Replacing a block by itself changes nothing. -/
@[simp] theorem State.setStore_self (s : State) : s.setStore s.store = s := rfl

/-! ## `State.setGov` -/

@[simp] theorem State.setGov_run (s : State) (x : Governor) : (s.setGov x).run = s.run := rfl
@[simp] theorem State.setGov_store (s : State) (x : Governor) : (s.setGov x).store = s.store := rfl
@[simp] theorem State.setGov_gov (s : State) (x : Governor) : (s.setGov x).gov = x := rfl
@[simp] theorem State.setGov_frame (s : State) (x : Governor) : (s.setGov x).frame = s.frame := rfl
@[simp] theorem State.setGov_shaft (s : State) (x : Governor) : (s.setGov x).shaft = s.shaft := rfl
@[simp] theorem State.setGov_bus (s : State) (x : Governor) : (s.setGov x).bus = s.bus := rfl
@[simp] theorem State.setGov_change (s : State) (x : Governor) : (s.setGov x).change = s.change := rfl
@[simp] theorem State.setGov_monitor (s : State) (x : Governor) : (s.setGov x).monitor = s.monitor := rfl
@[simp] theorem State.setGov_gaps (s : State) (x : Governor) : (s.setGov x).gaps = s.gaps := rfl
@[simp] theorem State.setGov_link (s : State) (x : Governor) : (s.setGov x).link = s.link := rfl
@[simp] theorem State.setGov_cfg (s : State) (x : Governor) : (s.setGov x).cfg = s.cfg := rfl
@[simp] theorem State.setGov_free (s : State) (x : Governor) : (s.setGov x).free = s.free := rfl
@[simp] theorem State.setGov_pending (s : State) (x : Governor) : (s.setGov x).pending = s.pending := rfl

/-- Replacing a block twice keeps the second. -/
@[simp] theorem State.setGov_twice (s : State) (x y : Governor) : (s.setGov x).setGov y = s.setGov y := rfl

/-- Replacing a block by itself changes nothing. -/
@[simp] theorem State.setGov_self (s : State) : s.setGov s.gov = s := rfl

/-! ## `State.setFrame` -/

@[simp] theorem State.setFrame_run (s : State) (x : FrameDrive) : (s.setFrame x).run = s.run := rfl
@[simp] theorem State.setFrame_store (s : State) (x : FrameDrive) : (s.setFrame x).store = s.store := rfl
@[simp] theorem State.setFrame_gov (s : State) (x : FrameDrive) : (s.setFrame x).gov = s.gov := rfl
@[simp] theorem State.setFrame_frame (s : State) (x : FrameDrive) : (s.setFrame x).frame = x := rfl
@[simp] theorem State.setFrame_shaft (s : State) (x : FrameDrive) : (s.setFrame x).shaft = s.shaft := rfl
@[simp] theorem State.setFrame_bus (s : State) (x : FrameDrive) : (s.setFrame x).bus = s.bus := rfl
@[simp] theorem State.setFrame_change (s : State) (x : FrameDrive) : (s.setFrame x).change = s.change := rfl
@[simp] theorem State.setFrame_monitor (s : State) (x : FrameDrive) : (s.setFrame x).monitor = s.monitor := rfl
@[simp] theorem State.setFrame_gaps (s : State) (x : FrameDrive) : (s.setFrame x).gaps = s.gaps := rfl
@[simp] theorem State.setFrame_link (s : State) (x : FrameDrive) : (s.setFrame x).link = s.link := rfl
@[simp] theorem State.setFrame_cfg (s : State) (x : FrameDrive) : (s.setFrame x).cfg = s.cfg := rfl
@[simp] theorem State.setFrame_free (s : State) (x : FrameDrive) : (s.setFrame x).free = s.free := rfl
@[simp] theorem State.setFrame_pending (s : State) (x : FrameDrive) : (s.setFrame x).pending = s.pending := rfl

/-- Replacing a block twice keeps the second. -/
@[simp] theorem State.setFrame_twice (s : State) (x y : FrameDrive) : (s.setFrame x).setFrame y = s.setFrame y := rfl

/-- Replacing a block by itself changes nothing. -/
@[simp] theorem State.setFrame_self (s : State) : s.setFrame s.frame = s := rfl

/-! ## `State.setShaft` -/

@[simp] theorem State.setShaft_run (s : State) (x : Shaft) : (s.setShaft x).run = s.run := rfl
@[simp] theorem State.setShaft_store (s : State) (x : Shaft) : (s.setShaft x).store = s.store := rfl
@[simp] theorem State.setShaft_gov (s : State) (x : Shaft) : (s.setShaft x).gov = s.gov := rfl
@[simp] theorem State.setShaft_frame (s : State) (x : Shaft) : (s.setShaft x).frame = s.frame := rfl
@[simp] theorem State.setShaft_shaft (s : State) (x : Shaft) : (s.setShaft x).shaft = x := rfl
@[simp] theorem State.setShaft_bus (s : State) (x : Shaft) : (s.setShaft x).bus = s.bus := rfl
@[simp] theorem State.setShaft_change (s : State) (x : Shaft) : (s.setShaft x).change = s.change := rfl
@[simp] theorem State.setShaft_monitor (s : State) (x : Shaft) : (s.setShaft x).monitor = s.monitor := rfl
@[simp] theorem State.setShaft_gaps (s : State) (x : Shaft) : (s.setShaft x).gaps = s.gaps := rfl
@[simp] theorem State.setShaft_link (s : State) (x : Shaft) : (s.setShaft x).link = s.link := rfl
@[simp] theorem State.setShaft_cfg (s : State) (x : Shaft) : (s.setShaft x).cfg = s.cfg := rfl
@[simp] theorem State.setShaft_free (s : State) (x : Shaft) : (s.setShaft x).free = s.free := rfl
@[simp] theorem State.setShaft_pending (s : State) (x : Shaft) : (s.setShaft x).pending = s.pending := rfl

/-- Replacing a block twice keeps the second. -/
@[simp] theorem State.setShaft_twice (s : State) (x y : Shaft) : (s.setShaft x).setShaft y = s.setShaft y := rfl

/-- Replacing a block by itself changes nothing. -/
@[simp] theorem State.setShaft_self (s : State) : s.setShaft s.shaft = s := rfl

/-! ## `State.setBus` -/

@[simp] theorem State.setBus_run (s : State) (x : Bus) : (s.setBus x).run = s.run := rfl
@[simp] theorem State.setBus_store (s : State) (x : Bus) : (s.setBus x).store = s.store := rfl
@[simp] theorem State.setBus_gov (s : State) (x : Bus) : (s.setBus x).gov = s.gov := rfl
@[simp] theorem State.setBus_frame (s : State) (x : Bus) : (s.setBus x).frame = s.frame := rfl
@[simp] theorem State.setBus_shaft (s : State) (x : Bus) : (s.setBus x).shaft = s.shaft := rfl
@[simp] theorem State.setBus_bus (s : State) (x : Bus) : (s.setBus x).bus = x := rfl
@[simp] theorem State.setBus_change (s : State) (x : Bus) : (s.setBus x).change = s.change := rfl
@[simp] theorem State.setBus_monitor (s : State) (x : Bus) : (s.setBus x).monitor = s.monitor := rfl
@[simp] theorem State.setBus_gaps (s : State) (x : Bus) : (s.setBus x).gaps = s.gaps := rfl
@[simp] theorem State.setBus_link (s : State) (x : Bus) : (s.setBus x).link = s.link := rfl
@[simp] theorem State.setBus_cfg (s : State) (x : Bus) : (s.setBus x).cfg = s.cfg := rfl
@[simp] theorem State.setBus_free (s : State) (x : Bus) : (s.setBus x).free = s.free := rfl
@[simp] theorem State.setBus_pending (s : State) (x : Bus) : (s.setBus x).pending = s.pending := rfl

/-- Replacing a block twice keeps the second. -/
@[simp] theorem State.setBus_twice (s : State) (x y : Bus) : (s.setBus x).setBus y = s.setBus y := rfl

/-- Replacing a block by itself changes nothing. -/
@[simp] theorem State.setBus_self (s : State) : s.setBus s.bus = s := rfl

/-! ## `State.setChange` -/

@[simp] theorem State.setChange_run (s : State) (x : ThreadChange) : (s.setChange x).run = s.run := rfl
@[simp] theorem State.setChange_store (s : State) (x : ThreadChange) : (s.setChange x).store = s.store := rfl
@[simp] theorem State.setChange_gov (s : State) (x : ThreadChange) : (s.setChange x).gov = s.gov := rfl
@[simp] theorem State.setChange_frame (s : State) (x : ThreadChange) : (s.setChange x).frame = s.frame := rfl
@[simp] theorem State.setChange_shaft (s : State) (x : ThreadChange) : (s.setChange x).shaft = s.shaft := rfl
@[simp] theorem State.setChange_bus (s : State) (x : ThreadChange) : (s.setChange x).bus = s.bus := rfl
@[simp] theorem State.setChange_change (s : State) (x : ThreadChange) : (s.setChange x).change = x := rfl
@[simp] theorem State.setChange_monitor (s : State) (x : ThreadChange) : (s.setChange x).monitor = s.monitor := rfl
@[simp] theorem State.setChange_gaps (s : State) (x : ThreadChange) : (s.setChange x).gaps = s.gaps := rfl
@[simp] theorem State.setChange_link (s : State) (x : ThreadChange) : (s.setChange x).link = s.link := rfl
@[simp] theorem State.setChange_cfg (s : State) (x : ThreadChange) : (s.setChange x).cfg = s.cfg := rfl
@[simp] theorem State.setChange_free (s : State) (x : ThreadChange) : (s.setChange x).free = s.free := rfl
@[simp] theorem State.setChange_pending (s : State) (x : ThreadChange) : (s.setChange x).pending = s.pending := rfl

/-- Replacing a block twice keeps the second. -/
@[simp] theorem State.setChange_twice (s : State) (x y : ThreadChange) : (s.setChange x).setChange y = s.setChange y := rfl

/-- Replacing a block by itself changes nothing. -/
@[simp] theorem State.setChange_self (s : State) : s.setChange s.change = s := rfl

/-! ## `State.setMonitor` -/

@[simp] theorem State.setMonitor_run (s : State) (x : Monitor) : (s.setMonitor x).run = s.run := rfl
@[simp] theorem State.setMonitor_store (s : State) (x : Monitor) : (s.setMonitor x).store = s.store := rfl
@[simp] theorem State.setMonitor_gov (s : State) (x : Monitor) : (s.setMonitor x).gov = s.gov := rfl
@[simp] theorem State.setMonitor_frame (s : State) (x : Monitor) : (s.setMonitor x).frame = s.frame := rfl
@[simp] theorem State.setMonitor_shaft (s : State) (x : Monitor) : (s.setMonitor x).shaft = s.shaft := rfl
@[simp] theorem State.setMonitor_bus (s : State) (x : Monitor) : (s.setMonitor x).bus = s.bus := rfl
@[simp] theorem State.setMonitor_change (s : State) (x : Monitor) : (s.setMonitor x).change = s.change := rfl
@[simp] theorem State.setMonitor_monitor (s : State) (x : Monitor) : (s.setMonitor x).monitor = x := rfl
@[simp] theorem State.setMonitor_gaps (s : State) (x : Monitor) : (s.setMonitor x).gaps = s.gaps := rfl
@[simp] theorem State.setMonitor_link (s : State) (x : Monitor) : (s.setMonitor x).link = s.link := rfl
@[simp] theorem State.setMonitor_cfg (s : State) (x : Monitor) : (s.setMonitor x).cfg = s.cfg := rfl
@[simp] theorem State.setMonitor_free (s : State) (x : Monitor) : (s.setMonitor x).free = s.free := rfl
@[simp] theorem State.setMonitor_pending (s : State) (x : Monitor) : (s.setMonitor x).pending = s.pending := rfl

/-- Replacing a block twice keeps the second. -/
@[simp] theorem State.setMonitor_twice (s : State) (x y : Monitor) : (s.setMonitor x).setMonitor y = s.setMonitor y := rfl

/-- Replacing a block by itself changes nothing. -/
@[simp] theorem State.setMonitor_self (s : State) : s.setMonitor s.monitor = s := rfl

/-! ## `State.setGaps` -/

@[simp] theorem State.setGaps_run (s : State) (x : List Gap) : (s.setGaps x).run = s.run := rfl
@[simp] theorem State.setGaps_store (s : State) (x : List Gap) : (s.setGaps x).store = s.store := rfl
@[simp] theorem State.setGaps_gov (s : State) (x : List Gap) : (s.setGaps x).gov = s.gov := rfl
@[simp] theorem State.setGaps_frame (s : State) (x : List Gap) : (s.setGaps x).frame = s.frame := rfl
@[simp] theorem State.setGaps_shaft (s : State) (x : List Gap) : (s.setGaps x).shaft = s.shaft := rfl
@[simp] theorem State.setGaps_bus (s : State) (x : List Gap) : (s.setGaps x).bus = s.bus := rfl
@[simp] theorem State.setGaps_change (s : State) (x : List Gap) : (s.setGaps x).change = s.change := rfl
@[simp] theorem State.setGaps_monitor (s : State) (x : List Gap) : (s.setGaps x).monitor = s.monitor := rfl
@[simp] theorem State.setGaps_gaps (s : State) (x : List Gap) : (s.setGaps x).gaps = x := rfl
@[simp] theorem State.setGaps_link (s : State) (x : List Gap) : (s.setGaps x).link = s.link := rfl
@[simp] theorem State.setGaps_cfg (s : State) (x : List Gap) : (s.setGaps x).cfg = s.cfg := rfl
@[simp] theorem State.setGaps_free (s : State) (x : List Gap) : (s.setGaps x).free = s.free := rfl
@[simp] theorem State.setGaps_pending (s : State) (x : List Gap) : (s.setGaps x).pending = s.pending := rfl

/-- Replacing a block twice keeps the second. -/
@[simp] theorem State.setGaps_twice (s : State) (x y : List Gap) : (s.setGaps x).setGaps y = s.setGaps y := rfl

/-- Replacing a block by itself changes nothing. -/
@[simp] theorem State.setGaps_self (s : State) : s.setGaps s.gaps = s := rfl

/-! ## `State.setLink` -/

@[simp] theorem State.setLink_run (s : State) (x : Link) : (s.setLink x).run = s.run := rfl
@[simp] theorem State.setLink_store (s : State) (x : Link) : (s.setLink x).store = s.store := rfl
@[simp] theorem State.setLink_gov (s : State) (x : Link) : (s.setLink x).gov = s.gov := rfl
@[simp] theorem State.setLink_frame (s : State) (x : Link) : (s.setLink x).frame = s.frame := rfl
@[simp] theorem State.setLink_shaft (s : State) (x : Link) : (s.setLink x).shaft = s.shaft := rfl
@[simp] theorem State.setLink_bus (s : State) (x : Link) : (s.setLink x).bus = s.bus := rfl
@[simp] theorem State.setLink_change (s : State) (x : Link) : (s.setLink x).change = s.change := rfl
@[simp] theorem State.setLink_monitor (s : State) (x : Link) : (s.setLink x).monitor = s.monitor := rfl
@[simp] theorem State.setLink_gaps (s : State) (x : Link) : (s.setLink x).gaps = s.gaps := rfl
@[simp] theorem State.setLink_link (s : State) (x : Link) : (s.setLink x).link = x := rfl
@[simp] theorem State.setLink_cfg (s : State) (x : Link) : (s.setLink x).cfg = s.cfg := rfl
@[simp] theorem State.setLink_free (s : State) (x : Link) : (s.setLink x).free = s.free := rfl
@[simp] theorem State.setLink_pending (s : State) (x : Link) : (s.setLink x).pending = s.pending := rfl

/-- Replacing a block twice keeps the second. -/
@[simp] theorem State.setLink_twice (s : State) (x y : Link) : (s.setLink x).setLink y = s.setLink y := rfl

/-- Replacing a block by itself changes nothing. -/
@[simp] theorem State.setLink_self (s : State) : s.setLink s.link = s := rfl

/-! ## `State.setCfg` -/

@[simp] theorem State.setCfg_run (s : State) (x : Settings) : (s.setCfg x).run = s.run := rfl
@[simp] theorem State.setCfg_store (s : State) (x : Settings) : (s.setCfg x).store = s.store := rfl
@[simp] theorem State.setCfg_gov (s : State) (x : Settings) : (s.setCfg x).gov = s.gov := rfl
@[simp] theorem State.setCfg_frame (s : State) (x : Settings) : (s.setCfg x).frame = s.frame := rfl
@[simp] theorem State.setCfg_shaft (s : State) (x : Settings) : (s.setCfg x).shaft = s.shaft := rfl
@[simp] theorem State.setCfg_bus (s : State) (x : Settings) : (s.setCfg x).bus = s.bus := rfl
@[simp] theorem State.setCfg_change (s : State) (x : Settings) : (s.setCfg x).change = s.change := rfl
@[simp] theorem State.setCfg_monitor (s : State) (x : Settings) : (s.setCfg x).monitor = s.monitor := rfl
@[simp] theorem State.setCfg_gaps (s : State) (x : Settings) : (s.setCfg x).gaps = s.gaps := rfl
@[simp] theorem State.setCfg_link (s : State) (x : Settings) : (s.setCfg x).link = s.link := rfl
@[simp] theorem State.setCfg_cfg (s : State) (x : Settings) : (s.setCfg x).cfg = x := rfl
@[simp] theorem State.setCfg_free (s : State) (x : Settings) : (s.setCfg x).free = s.free := rfl
@[simp] theorem State.setCfg_pending (s : State) (x : Settings) : (s.setCfg x).pending = s.pending := rfl

/-- Replacing a block twice keeps the second. -/
@[simp] theorem State.setCfg_twice (s : State) (x y : Settings) : (s.setCfg x).setCfg y = s.setCfg y := rfl

/-- Replacing a block by itself changes nothing. -/
@[simp] theorem State.setCfg_self (s : State) : s.setCfg s.cfg = s := rfl

/-! ## `State.setFree` -/

@[simp] theorem State.setFree_run (s : State) (x : Nat) : (s.setFree x).run = s.run := rfl
@[simp] theorem State.setFree_store (s : State) (x : Nat) : (s.setFree x).store = s.store := rfl
@[simp] theorem State.setFree_gov (s : State) (x : Nat) : (s.setFree x).gov = s.gov := rfl
@[simp] theorem State.setFree_frame (s : State) (x : Nat) : (s.setFree x).frame = s.frame := rfl
@[simp] theorem State.setFree_shaft (s : State) (x : Nat) : (s.setFree x).shaft = s.shaft := rfl
@[simp] theorem State.setFree_bus (s : State) (x : Nat) : (s.setFree x).bus = s.bus := rfl
@[simp] theorem State.setFree_change (s : State) (x : Nat) : (s.setFree x).change = s.change := rfl
@[simp] theorem State.setFree_monitor (s : State) (x : Nat) : (s.setFree x).monitor = s.monitor := rfl
@[simp] theorem State.setFree_gaps (s : State) (x : Nat) : (s.setFree x).gaps = s.gaps := rfl
@[simp] theorem State.setFree_link (s : State) (x : Nat) : (s.setFree x).link = s.link := rfl
@[simp] theorem State.setFree_cfg (s : State) (x : Nat) : (s.setFree x).cfg = s.cfg := rfl
@[simp] theorem State.setFree_free (s : State) (x : Nat) : (s.setFree x).free = x := rfl
@[simp] theorem State.setFree_pending (s : State) (x : Nat) : (s.setFree x).pending = s.pending := rfl

/-- Replacing a block twice keeps the second. -/
@[simp] theorem State.setFree_twice (s : State) (x y : Nat) : (s.setFree x).setFree y = s.setFree y := rfl

/-- Replacing a block by itself changes nothing. -/
@[simp] theorem State.setFree_self (s : State) : s.setFree s.free = s := rfl

/-! ## `State.setPending` -/

@[simp] theorem State.setPending_run (s : State) (x : List Instr) : (s.setPending x).run = s.run := rfl
@[simp] theorem State.setPending_store (s : State) (x : List Instr) : (s.setPending x).store = s.store := rfl
@[simp] theorem State.setPending_gov (s : State) (x : List Instr) : (s.setPending x).gov = s.gov := rfl
@[simp] theorem State.setPending_frame (s : State) (x : List Instr) : (s.setPending x).frame = s.frame := rfl
@[simp] theorem State.setPending_shaft (s : State) (x : List Instr) : (s.setPending x).shaft = s.shaft := rfl
@[simp] theorem State.setPending_bus (s : State) (x : List Instr) : (s.setPending x).bus = s.bus := rfl
@[simp] theorem State.setPending_change (s : State) (x : List Instr) : (s.setPending x).change = s.change := rfl
@[simp] theorem State.setPending_monitor (s : State) (x : List Instr) : (s.setPending x).monitor = s.monitor := rfl
@[simp] theorem State.setPending_gaps (s : State) (x : List Instr) : (s.setPending x).gaps = s.gaps := rfl
@[simp] theorem State.setPending_link (s : State) (x : List Instr) : (s.setPending x).link = s.link := rfl
@[simp] theorem State.setPending_cfg (s : State) (x : List Instr) : (s.setPending x).cfg = s.cfg := rfl
@[simp] theorem State.setPending_free (s : State) (x : List Instr) : (s.setPending x).free = s.free := rfl
@[simp] theorem State.setPending_pending (s : State) (x : List Instr) : (s.setPending x).pending = x := rfl

/-- Replacing a block twice keeps the second. -/
@[simp] theorem State.setPending_twice (s : State) (x y : List Instr) : (s.setPending x).setPending y = s.setPending y := rfl

/-- Replacing a block by itself changes nothing. -/
@[simp] theorem State.setPending_self (s : State) : s.setPending s.pending = s := rfl

end Sys2Proof.Machine
end

