-- ==== Sys2Proof/Laws/KeepsOps.lean ====
section
/-!
SUPPORT. What the shared operations leave as it was: events, lists, store, governor, heads, head bus, gaps.
-/

namespace Sys2Proof.Machine

/-! ## Folds over heads and lists -/

/-- What every step of a fold keeps, the fold keeps. -/
theorem foldl_keeps {α β : Type} (g : State → α) (f : State → β → State) (h : ∀ s b, g (f s b) = g s)
    (l : List β) (s : State) : g (l.foldl f s) = g s := by
  induction l generalizing s with
  | nil => rfl
  | cons b l ih => rw [List.foldl_cons, ih, h]

@[simp] theorem foldl_run {β : Type} (f : State → β → State) (h : ∀ s b, (f s b).run = s.run) (l : List β)
    (s : State) : (l.foldl f s).run = s.run := foldl_keeps State.run f h l s

@[simp] theorem foldl_store {β : Type} (f : State → β → State) (h : ∀ s b, (f s b).store = s.store) (l : List β)
    (s : State) : (l.foldl f s).store = s.store := foldl_keeps State.store f h l s

@[simp] theorem foldl_gov {β : Type} (f : State → β → State) (h : ∀ s b, (f s b).gov = s.gov) (l : List β)
    (s : State) : (l.foldl f s).gov = s.gov := foldl_keeps State.gov f h l s

@[simp] theorem foldl_frame {β : Type} (f : State → β → State) (h : ∀ s b, (f s b).frame = s.frame) (l : List β)
    (s : State) : (l.foldl f s).frame = s.frame := foldl_keeps State.frame f h l s

@[simp] theorem foldl_shaft {β : Type} (f : State → β → State) (h : ∀ s b, (f s b).shaft = s.shaft) (l : List β)
    (s : State) : (l.foldl f s).shaft = s.shaft := foldl_keeps State.shaft f h l s

@[simp] theorem foldl_bus {β : Type} (f : State → β → State) (h : ∀ s b, (f s b).bus = s.bus) (l : List β)
    (s : State) : (l.foldl f s).bus = s.bus := foldl_keeps State.bus f h l s

@[simp] theorem foldl_change {β : Type} (f : State → β → State) (h : ∀ s b, (f s b).change = s.change) (l : List β)
    (s : State) : (l.foldl f s).change = s.change := foldl_keeps State.change f h l s

@[simp] theorem foldl_monitor {β : Type} (f : State → β → State) (h : ∀ s b, (f s b).monitor = s.monitor) (l : List β)
    (s : State) : (l.foldl f s).monitor = s.monitor := foldl_keeps State.monitor f h l s

@[simp] theorem foldl_gaps {β : Type} (f : State → β → State) (h : ∀ s b, (f s b).gaps = s.gaps) (l : List β)
    (s : State) : (l.foldl f s).gaps = s.gaps := foldl_keeps State.gaps f h l s

@[simp] theorem foldl_link {β : Type} (f : State → β → State) (h : ∀ s b, (f s b).link = s.link) (l : List β)
    (s : State) : (l.foldl f s).link = s.link := foldl_keeps State.link f h l s

@[simp] theorem foldl_cfg {β : Type} (f : State → β → State) (h : ∀ s b, (f s b).cfg = s.cfg) (l : List β)
    (s : State) : (l.foldl f s).cfg = s.cfg := foldl_keeps State.cfg f h l s

@[simp] theorem foldl_free {β : Type} (f : State → β → State) (h : ∀ s b, (f s b).free = s.free) (l : List β)
    (s : State) : (l.foldl f s).free = s.free := foldl_keeps State.free f h l s

@[simp] theorem foldl_pending {β : Type} (f : State → β → State) (h : ∀ s b, (f s b).pending = s.pending) (l : List β)
    (s : State) : (l.foldl f s).pending = s.pending := foldl_keeps State.pending f h l s

@[simp] theorem foldl_bare {β : Type} (f : State → β → State) (h : ∀ s b, (f s b).link.bare = s.link.bare)
    (l : List β) (s : State) : (l.foldl f s).link.bare = s.link.bare := foldl_keeps (fun s => s.link.bare) f h l s

@[simp] theorem foldl_replies {β : Type} (f : State → β → State) (h : ∀ s b, (f s b).link.replies = s.link.replies)
    (l : List β) (s : State) : (l.foldl f s).link.replies = s.link.replies := foldl_keeps (fun s => s.link.replies) f h l s

@[simp] theorem foldl_resetBy {β : Type} (f : State → β → State) (h : ∀ s b, (f s b).link.resetBy = s.link.resetBy)
    (l : List β) (s : State) : (l.foldl f s).link.resetBy = s.link.resetBy := foldl_keeps (fun s => s.link.resetBy) f h l s

/-! ## The bare part of the Link Interface -/

@[simp] theorem Link.bare_events (l : Link) (x : List Event) : ({ l with events := x } : Link).bare = l.bare := rfl

@[simp] theorem Link.bare_overflow (l : Link) (x : Bool) : ({ l with overflow := x } : Link).bare = l.bare := rfl

@[simp] theorem Link.bare_grant (l : Link) (x : Option Grant) : ({ l with grant := x } : Link).bare = l.bare := rfl

@[simp] theorem Link.bare_progressCount (l : Link) (x : Nat) : ({ l with progressCount := x } : Link).bare = l.bare := rfl

@[simp] theorem Link.bare_report (l : Link) (x : Nat) (y : Option Progress) : ({ l with progressCount := x, progress := y } : Link).bare = l.bare := rfl

@[simp] theorem Link.bare_replies (l : Link) (x : List ReplyPlace) : ({ l with replies := x } : Link).bare = l.bare := rfl

@[simp] theorem Link.bare_resetBy (l : Link) (x : Option Sender) : ({ l with resetBy := x } : Link).bare = l.bare := rfl

/-- Posting changes the event queue and the overflow flag, nothing else of the Link Interface. -/
@[simp] theorem Link.post_keeps (l : Link) (e : Event) :
    (l.post e).bare = l.bare ∧ (l.post e).replies = l.replies ∧ (l.post e).resetBy = l.resetBy := by
  unfold Link.post
  split <;> simp

/-- A RESET takes from the Link Interface its queues and slots, never its bare part. -/
@[simp] theorem Link.atReset_bare (l : Link) (mode : Nat) (src : Sender) : (l.atReset mode src).bare = l.bare := rfl

/-! ## Ops -/

@[simp] theorem State.postAt_keeps (s : State) (kind : EventKind) (head index value : Nat) : (s.postAt kind
    head index value).run = s.run ∧ (s.postAt kind head index value).store = s.store ∧ (s.postAt kind head index
    value).gov = s.gov ∧ (s.postAt kind head index value).frame = s.frame ∧ (s.postAt kind head index
    value).shaft = s.shaft ∧ (s.postAt kind head index value).bus = s.bus ∧ (s.postAt kind head index
    value).change = s.change ∧ (s.postAt kind head index value).monitor = s.monitor ∧ (s.postAt kind head index
    value).gaps = s.gaps ∧ (s.postAt kind head index value).cfg = s.cfg ∧ (s.postAt kind head index value).free
    = s.free ∧ (s.postAt kind head index value).pending = s.pending ∧ (s.postAt kind head index value).link.bare
    = s.link.bare ∧ (s.postAt kind head index value).link.replies = s.link.replies ∧ (s.postAt kind head index
    value).link.resetBy = s.link.resetBy := by
  simp [State.postAt]

@[simp] theorem State.post_keeps (s : State) (kind : EventKind) (head value : Nat) : (s.post kind head
    value).run = s.run ∧ (s.post kind head value).store = s.store ∧ (s.post kind head value).gov = s.gov ∧
    (s.post kind head value).frame = s.frame ∧ (s.post kind head value).shaft = s.shaft ∧ (s.post kind head
    value).bus = s.bus ∧ (s.post kind head value).change = s.change ∧ (s.post kind head value).monitor =
    s.monitor ∧ (s.post kind head value).gaps = s.gaps ∧ (s.post kind head value).cfg = s.cfg ∧ (s.post kind
    head value).free = s.free ∧ (s.post kind head value).pending = s.pending ∧ (s.post kind head
    value).link.bare = s.link.bare ∧ (s.post kind head value).link.replies = s.link.replies ∧ (s.post kind head
    value).link.resetBy = s.link.resetBy := by
  simp [State.post]

@[simp] theorem State.modHead_keeps (s : State) (h : Nat) (f : HeadEntry → HeadEntry) : (s.modHead h
    f).store = s.store ∧ (s.modHead h f).gov = s.gov ∧ (s.modHead h f).frame = s.frame ∧ (s.modHead h f).shaft =
    s.shaft ∧ (s.modHead h f).bus = s.bus ∧ (s.modHead h f).change = s.change ∧ (s.modHead h f).monitor =
    s.monitor ∧ (s.modHead h f).gaps = s.gaps ∧ (s.modHead h f).link = s.link ∧ (s.modHead h f).cfg = s.cfg ∧
    (s.modHead h f).free = s.free ∧ (s.modHead h f).pending = s.pending := by
  simp [State.modHead]

@[simp] theorem State.modWatch_keeps (s : State) (h : Nat) (f : HeadWatch → HeadWatch) : (s.modWatch h
    f).run = s.run ∧ (s.modWatch h f).store = s.store ∧ (s.modWatch h f).gov = s.gov ∧ (s.modWatch h f).frame =
    s.frame ∧ (s.modWatch h f).shaft = s.shaft ∧ (s.modWatch h f).bus = s.bus ∧ (s.modWatch h f).change =
    s.change ∧ (s.modWatch h f).gaps = s.gaps ∧ (s.modWatch h f).link = s.link ∧ (s.modWatch h f).cfg = s.cfg ∧
    (s.modWatch h f).free = s.free ∧ (s.modWatch h f).pending = s.pending := by
  simp [State.modWatch]

@[simp] theorem State.modWork_keeps (s : State) (h : Nat) (f : HeadWork → HeadWork) : (s.modWork h f).run =
    s.run ∧ (s.modWork h f).store = s.store ∧ (s.modWork h f).gov = s.gov ∧ (s.modWork h f).frame = s.frame ∧
    (s.modWork h f).shaft = s.shaft ∧ (s.modWork h f).bus = s.bus ∧ (s.modWork h f).monitor = s.monitor ∧
    (s.modWork h f).gaps = s.gaps ∧ (s.modWork h f).link = s.link ∧ (s.modWork h f).cfg = s.cfg ∧ (s.modWork h
    f).free = s.free ∧ (s.modWork h f).pending = s.pending := by
  simp [State.modWork]

@[simp] theorem State.modLink_keeps (s : State) (h : Nat) (f : HeadLink → HeadLink) : (s.modLink h f).run =
    s.run ∧ (s.modLink h f).store = s.store ∧ (s.modLink h f).gov = s.gov ∧ (s.modLink h f).frame = s.frame ∧
    (s.modLink h f).shaft = s.shaft ∧ (s.modLink h f).change = s.change ∧ (s.modLink h f).monitor = s.monitor ∧
    (s.modLink h f).gaps = s.gaps ∧ (s.modLink h f).link = s.link ∧ (s.modLink h f).cfg = s.cfg ∧ (s.modLink h
    f).free = s.free ∧ (s.modLink h f).pending = s.pending := by
  simp [State.modLink]

@[simp] theorem State.modLockout_keeps (s : State) (f : Lockout → Lockout) : (s.modLockout f).run = s.run ∧
    (s.modLockout f).store = s.store ∧ (s.modLockout f).gov = s.gov ∧ (s.modLockout f).frame = s.frame ∧
    (s.modLockout f).bus = s.bus ∧ (s.modLockout f).change = s.change ∧ (s.modLockout f).monitor = s.monitor ∧
    (s.modLockout f).gaps = s.gaps ∧ (s.modLockout f).link = s.link ∧ (s.modLockout f).cfg = s.cfg ∧
    (s.modLockout f).free = s.free ∧ (s.modLockout f).pending = s.pending := by
  simp [State.modLockout]

@[simp] theorem State.tick_keeps (s : State) : (s.tick).run = s.run ∧ (s.tick).store = s.store ∧
    (s.tick).gov = s.gov ∧ (s.tick).frame = s.frame ∧ (s.tick).shaft = s.shaft ∧ (s.tick).bus = s.bus ∧
    (s.tick).change = s.change ∧ (s.tick).monitor = s.monitor ∧ (s.tick).gaps = s.gaps ∧ (s.tick).link = s.link
    ∧ (s.tick).cfg = s.cfg ∧ (s.tick).pending = s.pending := by
  simp [State.tick]

@[simp] theorem State.recordCause_keeps (s : State) (c : StopCause) : (s.recordCause c).store = s.store ∧
    (s.recordCause c).gov = s.gov ∧ (s.recordCause c).frame = s.frame ∧ (s.recordCause c).shaft = s.shaft ∧
    (s.recordCause c).bus = s.bus ∧ (s.recordCause c).change = s.change ∧ (s.recordCause c).monitor = s.monitor
    ∧ (s.recordCause c).gaps = s.gaps ∧ (s.recordCause c).link = s.link ∧ (s.recordCause c).cfg = s.cfg ∧
    (s.recordCause c).free = s.free ∧ (s.recordCause c).pending = s.pending := by
  unfold State.recordCause
  split <;> simp

@[simp] theorem State.enter_keeps (s : State) (r : RunState) : (s.enter r).store = s.store ∧ (s.enter r).gov
    = s.gov ∧ (s.enter r).frame = s.frame ∧ (s.enter r).shaft = s.shaft ∧ (s.enter r).bus = s.bus ∧ (s.enter
    r).change = s.change ∧ (s.enter r).monitor = s.monitor ∧ (s.enter r).gaps = s.gaps ∧ (s.enter r).link =
    s.link ∧ (s.enter r).cfg = s.cfg ∧ (s.enter r).free = s.free ∧ (s.enter r).pending = s.pending := by
  simp [State.enter]

@[simp] theorem State.doing_keeps (s : State) (a : Activity) : (s.doing a).store = s.store ∧ (s.doing a).gov
    = s.gov ∧ (s.doing a).frame = s.frame ∧ (s.doing a).shaft = s.shaft ∧ (s.doing a).bus = s.bus ∧ (s.doing
    a).change = s.change ∧ (s.doing a).monitor = s.monitor ∧ (s.doing a).gaps = s.gaps ∧ (s.doing a).link =
    s.link ∧ (s.doing a).cfg = s.cfg ∧ (s.doing a).free = s.free ∧ (s.doing a).pending = s.pending := by
  simp [State.doing]

/-! ## Store -/

@[simp] theorem State.refreshSlots_keeps (s : State) : (s.refreshSlots).run = s.run ∧ (s.refreshSlots).gov =
    s.gov ∧ (s.refreshSlots).frame = s.frame ∧ (s.refreshSlots).shaft = s.shaft ∧ (s.refreshSlots).bus = s.bus ∧
    (s.refreshSlots).change = s.change ∧ (s.refreshSlots).monitor = s.monitor ∧ (s.refreshSlots).gaps = s.gaps ∧
    (s.refreshSlots).link = s.link ∧ (s.refreshSlots).cfg = s.cfg ∧ (s.refreshSlots).free = s.free ∧
    (s.refreshSlots).pending = s.pending := by
  simp [State.refreshSlots]

@[simp] theorem State.releaseSlots_keeps (s : State) : (s.releaseSlots).run = s.run ∧ (s.releaseSlots).gov =
    s.gov ∧ (s.releaseSlots).frame = s.frame ∧ (s.releaseSlots).shaft = s.shaft ∧ (s.releaseSlots).bus = s.bus ∧
    (s.releaseSlots).change = s.change ∧ (s.releaseSlots).monitor = s.monitor ∧ (s.releaseSlots).gaps = s.gaps ∧
    (s.releaseSlots).link = s.link ∧ (s.releaseSlots).cfg = s.cfg ∧ (s.releaseSlots).free = s.free ∧
    (s.releaseSlots).pending = s.pending := by
  simp [State.releaseSlots]

@[simp] theorem State.grantBlocks_keeps (s : State) (n : Nat) : (s.grantBlocks n).run = s.run ∧
    (s.grantBlocks n).gov = s.gov ∧ (s.grantBlocks n).frame = s.frame ∧ (s.grantBlocks n).shaft = s.shaft ∧
    (s.grantBlocks n).bus = s.bus ∧ (s.grantBlocks n).change = s.change ∧ (s.grantBlocks n).monitor = s.monitor
    ∧ (s.grantBlocks n).gaps = s.gaps ∧ (s.grantBlocks n).cfg = s.cfg ∧ (s.grantBlocks n).free = s.free ∧
    (s.grantBlocks n).pending = s.pending ∧ (s.grantBlocks n).link.bare = s.link.bare ∧ (s.grantBlocks
    n).link.replies = s.link.replies ∧ (s.grantBlocks n).link.resetBy = s.link.resetBy := by
  simp [State.grantBlocks]

@[simp] theorem State.pace_keeps (s : State) : (s.pace).run = s.run ∧ (s.pace).gov = s.gov ∧ (s.pace).frame
    = s.frame ∧ (s.pace).shaft = s.shaft ∧ (s.pace).bus = s.bus ∧ (s.pace).change = s.change ∧ (s.pace).monitor
    = s.monitor ∧ (s.pace).gaps = s.gaps ∧ (s.pace).cfg = s.cfg ∧ (s.pace).free = s.free ∧ (s.pace).pending =
    s.pending ∧ (s.pace).link.bare = s.link.bare ∧ (s.pace).link.replies = s.link.replies ∧
    (s.pace).link.resetBy = s.link.resetBy := by
  unfold State.pace
  split <;> simp <;> split <;> simp

@[simp] theorem State.release_keeps (s : State) : (s.release).run = s.run ∧ (s.release).gov = s.gov ∧
    (s.release).frame = s.frame ∧ (s.release).shaft = s.shaft ∧ (s.release).bus = s.bus ∧ (s.release).change =
    s.change ∧ (s.release).monitor = s.monitor ∧ (s.release).gaps = s.gaps ∧ (s.release).cfg = s.cfg ∧
    (s.release).free = s.free ∧ (s.release).pending = s.pending ∧ (s.release).link.bare = s.link.bare ∧
    (s.release).link.replies = s.link.replies ∧ (s.release).link.resetBy = s.link.resetBy := by
  unfold State.release
  split <;> simp

@[simp] theorem State.moveMain_keeps (s : State) (i : Nat) : (s.moveMain i).gov = s.gov ∧ (s.moveMain
    i).frame = s.frame ∧ (s.moveMain i).shaft = s.shaft ∧ (s.moveMain i).bus = s.bus ∧ (s.moveMain i).change =
    s.change ∧ (s.moveMain i).monitor = s.monitor ∧ (s.moveMain i).gaps = s.gaps ∧ (s.moveMain i).cfg = s.cfg ∧
    (s.moveMain i).free = s.free ∧ (s.moveMain i).pending = s.pending ∧ (s.moveMain i).link.bare = s.link.bare ∧
    (s.moveMain i).link.replies = s.link.replies ∧ (s.moveMain i).link.resetBy = s.link.resetBy := by
  simp only [State.moveMain]
  (repeat' split) <;> simp

@[simp] theorem State.movePatch_keeps (s : State) (i : Nat) : (s.movePatch i).gov = s.gov ∧ (s.movePatch
    i).frame = s.frame ∧ (s.movePatch i).shaft = s.shaft ∧ (s.movePatch i).bus = s.bus ∧ (s.movePatch i).change
    = s.change ∧ (s.movePatch i).monitor = s.monitor ∧ (s.movePatch i).gaps = s.gaps ∧ (s.movePatch i).cfg =
    s.cfg ∧ (s.movePatch i).free = s.free ∧ (s.movePatch i).pending = s.pending ∧ (s.movePatch i).link.bare =
    s.link.bare ∧ (s.movePatch i).link.replies = s.link.replies ∧ (s.movePatch i).link.resetBy = s.link.resetBy
    := by
  simp only [State.movePatch]
  (repeat' split) <;> simp

@[simp] theorem State.advanceCursor_keeps (s : State) : (s.advanceCursor).gov = s.gov ∧
    (s.advanceCursor).frame = s.frame ∧ (s.advanceCursor).shaft = s.shaft ∧ (s.advanceCursor).bus = s.bus ∧
    (s.advanceCursor).change = s.change ∧ (s.advanceCursor).monitor = s.monitor ∧ (s.advanceCursor).gaps =
    s.gaps ∧ (s.advanceCursor).cfg = s.cfg ∧ (s.advanceCursor).free = s.free ∧ (s.advanceCursor).pending =
    s.pending ∧ (s.advanceCursor).link.bare = s.link.bare ∧ (s.advanceCursor).link.replies = s.link.replies ∧
    (s.advanceCursor).link.resetBy = s.link.resetBy := by
  unfold State.advanceCursor
  split <;> simp

@[simp] theorem State.acceptBlock_keeps (s : State) (seq : Nat) (last : Bool) (rs : List DesignRecord) :
    (s.acceptBlock seq last rs).run = s.run ∧ (s.acceptBlock seq last rs).gov = s.gov ∧ (s.acceptBlock seq last
    rs).frame = s.frame ∧ (s.acceptBlock seq last rs).shaft = s.shaft ∧ (s.acceptBlock seq last rs).bus = s.bus
    ∧ (s.acceptBlock seq last rs).change = s.change ∧ (s.acceptBlock seq last rs).monitor = s.monitor ∧
    (s.acceptBlock seq last rs).gaps = s.gaps ∧ (s.acceptBlock seq last rs).cfg = s.cfg ∧ (s.acceptBlock seq
    last rs).free = s.free ∧ (s.acceptBlock seq last rs).pending = s.pending ∧ (s.acceptBlock seq last
    rs).link.bare = s.link.bare ∧ (s.acceptBlock seq last rs).link.replies = s.link.replies ∧ (s.acceptBlock seq
    last rs).link.resetBy = s.link.resetBy := by
  unfold State.acceptBlock
  split <;> simp

@[simp] theorem State.clearStore_keeps (s : State) (d : DesignState) : (s.clearStore d).run = s.run ∧
    (s.clearStore d).gov = s.gov ∧ (s.clearStore d).frame = s.frame ∧ (s.clearStore d).shaft = s.shaft ∧
    (s.clearStore d).bus = s.bus ∧ (s.clearStore d).change = s.change ∧ (s.clearStore d).monitor = s.monitor ∧
    (s.clearStore d).gaps = s.gaps ∧ (s.clearStore d).cfg = s.cfg ∧ (s.clearStore d).free = s.free ∧
    (s.clearStore d).pending = s.pending ∧ (s.clearStore d).link.bare = s.link.bare ∧ (s.clearStore
    d).link.replies = s.link.replies ∧ (s.clearStore d).link.resetBy = s.link.resetBy := by
  simp [State.clearStore]

/-! ## Governor -/

@[simp] theorem State.refreshWindow_keeps (s : State) : (s.refreshWindow).run = s.run ∧
    (s.refreshWindow).store = s.store ∧ (s.refreshWindow).frame = s.frame ∧ (s.refreshWindow).shaft = s.shaft ∧
    (s.refreshWindow).bus = s.bus ∧ (s.refreshWindow).change = s.change ∧ (s.refreshWindow).monitor = s.monitor
    ∧ (s.refreshWindow).gaps = s.gaps ∧ (s.refreshWindow).link = s.link ∧ (s.refreshWindow).cfg = s.cfg ∧
    (s.refreshWindow).free = s.free ∧ (s.refreshWindow).pending = s.pending := by
  simp [State.refreshWindow]

@[simp] theorem State.openWindowEnd_keeps (s : State) : (s.openWindowEnd).run = s.run ∧
    (s.openWindowEnd).store = s.store ∧ (s.openWindowEnd).frame = s.frame ∧ (s.openWindowEnd).shaft = s.shaft ∧
    (s.openWindowEnd).bus = s.bus ∧ (s.openWindowEnd).change = s.change ∧ (s.openWindowEnd).monitor = s.monitor
    ∧ (s.openWindowEnd).gaps = s.gaps ∧ (s.openWindowEnd).link = s.link ∧ (s.openWindowEnd).cfg = s.cfg ∧
    (s.openWindowEnd).free = s.free ∧ (s.openWindowEnd).pending = s.pending := by
  simp [State.openWindowEnd]

/-- What a record has kept from its entry lowers its bound and can only set its stop mark; its place is its own. -/
theorem WindowEntry.keeping_spec (e : WindowEntry) (old : List WindowEntry) :
    (e.keeping old).index = e.index ∧ (e.keeping old).distance = e.distance ∧ (e.keeping old).bound ≤ e.bound ∧
      (e.stopFollows = true → (e.keeping old).stopFollows = true) := by
  unfold WindowEntry.keeping
  split <;> simp
  exact Or.inr

/-- A shaft that is not RUNNING or STOPPING has the window rebuilt (R64). -/
theorem State.windowKept_rebuilt (s : State) (i : Nat) (h : s.shaft.state.pollsByAngle = false) :
    s.windowKept i = s.windowAt i := by
  simp [State.windowKept, h]

/-- The window that keeps what its records entered with has the records and distances of the one built anew. -/
theorem State.windowKept_places (s : State) (i : Nat) :
    (s.windowKept i).map (fun e => (e.index, e.distance)) = (s.windowAt i).map (fun e => (e.index, e.distance)) := by
  unfold State.windowKept
  split
  · simp only [List.map_map]
    exact List.map_congr_left fun e _ => by simp [WindowEntry.keeping_spec e s.gov.window]
  · rfl

@[simp] theorem State.computeSpeed_keeps (s : State) (i : Nat) : (s.computeSpeed i).run = s.run ∧
    (s.computeSpeed i).store = s.store ∧ (s.computeSpeed i).frame = s.frame ∧ (s.computeSpeed i).shaft = s.shaft
    ∧ (s.computeSpeed i).bus = s.bus ∧ (s.computeSpeed i).change = s.change ∧ (s.computeSpeed i).monitor =
    s.monitor ∧ (s.computeSpeed i).gaps = s.gaps ∧ (s.computeSpeed i).link = s.link ∧ (s.computeSpeed i).cfg =
    s.cfg ∧ (s.computeSpeed i).free = s.free ∧ (s.computeSpeed i).pending = s.pending := by
  simp [State.computeSpeed]

@[simp] theorem State.govAtRest_keeps (s : State) : (s.govAtRest).run = s.run ∧ (s.govAtRest).store =
    s.store ∧ (s.govAtRest).frame = s.frame ∧ (s.govAtRest).shaft = s.shaft ∧ (s.govAtRest).bus = s.bus ∧
    (s.govAtRest).change = s.change ∧ (s.govAtRest).monitor = s.monitor ∧ (s.govAtRest).gaps = s.gaps ∧
    (s.govAtRest).link = s.link ∧ (s.govAtRest).cfg = s.cfg ∧ (s.govAtRest).free = s.free ∧
    (s.govAtRest).pending = s.pending := by
  simp [State.govAtRest]

@[simp] theorem State.placePoint_keeps (s : State) : (s.placePoint).store = s.store ∧ (s.placePoint).gov =
    s.gov ∧ (s.placePoint).frame = s.frame ∧ (s.placePoint).shaft = s.shaft ∧ (s.placePoint).bus = s.bus ∧
    (s.placePoint).change = s.change ∧ (s.placePoint).monitor = s.monitor ∧ (s.placePoint).gaps = s.gaps ∧
    (s.placePoint).link = s.link ∧ (s.placePoint).cfg = s.cfg ∧ (s.placePoint).free = s.free ∧
    (s.placePoint).pending = s.pending := by
  simp only [State.placePoint]
  (repeat' split) <;> simp

/-! ## Heads -/

@[simp] theorem State.setWarnCount_keeps (s : State) (n : Nat) : (s.setWarnCount n).run = s.run ∧
    (s.setWarnCount n).store = s.store ∧ (s.setWarnCount n).frame = s.frame ∧ (s.setWarnCount n).shaft = s.shaft
    ∧ (s.setWarnCount n).bus = s.bus ∧ (s.setWarnCount n).change = s.change ∧ (s.setWarnCount n).gaps = s.gaps ∧
    (s.setWarnCount n).link = s.link ∧ (s.setWarnCount n).cfg = s.cfg ∧ (s.setWarnCount n).free = s.free ∧
    (s.setWarnCount n).pending = s.pending := by
  simp [State.setWarnCount]

@[simp] theorem State.clearTension_keeps (s : State) (h : Nat) : (s.clearTension h).run = s.run ∧
    (s.clearTension h).store = s.store ∧ (s.clearTension h).frame = s.frame ∧ (s.clearTension h).shaft = s.shaft
    ∧ (s.clearTension h).bus = s.bus ∧ (s.clearTension h).change = s.change ∧ (s.clearTension h).gaps = s.gaps ∧
    (s.clearTension h).cfg = s.cfg ∧ (s.clearTension h).free = s.free ∧ (s.clearTension h).pending = s.pending ∧
    (s.clearTension h).link.bare = s.link.bare ∧ (s.clearTension h).link.replies = s.link.replies ∧
    (s.clearTension h).link.resetBy = s.link.resetBy := by
  simp only [State.clearTension]
  (repeat' split) <;> simp

@[simp] theorem State.writePending_keeps (s : State) (h : Nat) : (s.writePending h).run = s.run ∧ (s.writePending
    h).store = s.store ∧ (s.writePending h).gov = s.gov ∧ (s.writePending h).frame = s.frame ∧ (s.writePending
    h).shaft = s.shaft ∧ (s.writePending h).bus = s.bus ∧ (s.writePending h).monitor = s.monitor ∧ (s.writePending
    h).gaps = s.gaps ∧ (s.writePending h).link = s.link ∧ (s.writePending h).cfg = s.cfg ∧ (s.writePending h).free =
    s.free ∧ (s.writePending h).pending = s.pending := by
  simp [State.writePending]

@[simp] theorem State.writePendings_keeps (s : State) : (s.writePendings).run = s.run ∧ (s.writePendings).store = s.store ∧
    (s.writePendings).gov = s.gov ∧ (s.writePendings).frame = s.frame ∧ (s.writePendings).shaft = s.shaft ∧
    (s.writePendings).bus = s.bus ∧ (s.writePendings).monitor = s.monitor ∧ (s.writePendings).gaps = s.gaps ∧
    (s.writePendings).link = s.link ∧ (s.writePendings).cfg = s.cfg ∧ (s.writePendings).free = s.free ∧
    (s.writePendings).pending = s.pending := by
  simp [State.writePendings]

@[simp] theorem State.setHeadState_keeps (s : State) (h : Nat) (new : HeadState) : (s.setHeadState h
    new).store = s.store ∧ (s.setHeadState h new).frame = s.frame ∧ (s.setHeadState h new).shaft = s.shaft ∧
    (s.setHeadState h new).bus = s.bus ∧ (s.setHeadState h new).gaps = s.gaps ∧ (s.setHeadState h new).cfg =
    s.cfg ∧ (s.setHeadState h new).free = s.free ∧ (s.setHeadState h new).pending = s.pending ∧ (s.setHeadState
    h new).link.bare = s.link.bare ∧ (s.setHeadState h new).link.replies = s.link.replies ∧ (s.setHeadState h
    new).link.resetBy = s.link.resetBy := by
  simp only [State.setHeadState]
  (repeat' split) <;> simp

@[simp] theorem State.loadTieIn_keeps (s : State) : (s.loadTieIn).store = s.store ∧ (s.loadTieIn).gov =
    s.gov ∧ (s.loadTieIn).frame = s.frame ∧ (s.loadTieIn).shaft = s.shaft ∧ (s.loadTieIn).bus = s.bus ∧
    (s.loadTieIn).change = s.change ∧ (s.loadTieIn).gaps = s.gaps ∧ (s.loadTieIn).link = s.link ∧
    (s.loadTieIn).cfg = s.cfg ∧ (s.loadTieIn).free = s.free ∧ (s.loadTieIn).pending = s.pending := by
  simp [State.loadTieIn]

/-! ## HeadBus -/

@[simp] theorem State.handOver_keeps (s : State) (h : Nat) : (s.handOver h).run = s.run ∧ (s.handOver
    h).store = s.store ∧ (s.handOver h).gov = s.gov ∧ (s.handOver h).frame = s.frame ∧ (s.handOver h).shaft =
    s.shaft ∧ (s.handOver h).bus = s.bus ∧ (s.handOver h).monitor = s.monitor ∧ (s.handOver h).gaps = s.gaps ∧
    (s.handOver h).link = s.link ∧ (s.handOver h).cfg = s.cfg ∧ (s.handOver h).free = s.free ∧ (s.handOver
    h).pending = s.pending := by
  unfold State.handOver
  split <;> simp

@[simp] theorem State.notDelivered_keeps (s : State) (c : BusCommand) : (s.notDelivered c).store = s.store ∧
    (s.notDelivered c).gov = s.gov ∧ (s.notDelivered c).frame = s.frame ∧ (s.notDelivered c).shaft = s.shaft ∧
    (s.notDelivered c).bus = s.bus ∧ (s.notDelivered c).monitor = s.monitor ∧ (s.notDelivered c).gaps = s.gaps ∧
    (s.notDelivered c).link = s.link ∧ (s.notDelivered c).cfg = s.cfg ∧ (s.notDelivered c).free = s.free ∧
    (s.notDelivered c).pending = s.pending := by
  unfold State.notDelivered
  split <;> simp

@[simp] theorem State.issue_keeps (s : State) (c : BusCommand) : (s.issue c).store = s.store ∧ (s.issue
    c).gov = s.gov ∧ (s.issue c).frame = s.frame ∧ (s.issue c).shaft = s.shaft ∧ (s.issue c).monitor = s.monitor
    ∧ (s.issue c).gaps = s.gaps ∧ (s.issue c).link = s.link ∧ (s.issue c).cfg = s.cfg ∧ (s.issue c).free =
    s.free ∧ (s.issue c).pending = s.pending := by
  simp only [State.issue]
  (repeat' split) <;> simp

@[simp] theorem State.issueLift_keeps (s : State) (h : Nat) (becomes : HeadState) (forStart : Bool) :
    (s.issueLift h becomes forStart).store = s.store ∧ (s.issueLift h becomes forStart).gov = s.gov ∧
    (s.issueLift h becomes forStart).frame = s.frame ∧ (s.issueLift h becomes forStart).shaft = s.shaft ∧
    (s.issueLift h becomes forStart).monitor = s.monitor ∧ (s.issueLift h becomes forStart).gaps = s.gaps ∧
    (s.issueLift h becomes forStart).link = s.link ∧ (s.issueLift h becomes forStart).cfg = s.cfg ∧ (s.issueLift
    h becomes forStart).free = s.free ∧ (s.issueLift h becomes forStart).pending = s.pending := by
  simp [State.issueLift]

@[simp] theorem State.issueLower_keeps (s : State) (h : Nat) (becomes : HeadState) (join forStart : Bool) :
    (s.issueLower h becomes join forStart).store = s.store ∧ (s.issueLower h becomes join forStart).gov = s.gov
    ∧ (s.issueLower h becomes join forStart).frame = s.frame ∧ (s.issueLower h becomes join forStart).shaft =
    s.shaft ∧ (s.issueLower h becomes join forStart).monitor = s.monitor ∧ (s.issueLower h becomes join
    forStart).gaps = s.gaps ∧ (s.issueLower h becomes join forStart).link = s.link ∧ (s.issueLower h becomes
    join forStart).cfg = s.cfg ∧ (s.issueLower h becomes join forStart).free = s.free ∧ (s.issueLower h becomes
    join forStart).pending = s.pending := by
  simp [State.issueLower]

@[simp] theorem State.beginTransaction_keeps (s : State) (kind : TransactionKind) (h : Nat) :
    (s.beginTransaction kind h).run = s.run ∧ (s.beginTransaction kind h).store = s.store ∧ (s.beginTransaction
    kind h).gov = s.gov ∧ (s.beginTransaction kind h).frame = s.frame ∧ (s.beginTransaction kind h).shaft =
    s.shaft ∧ (s.beginTransaction kind h).change = s.change ∧ (s.beginTransaction kind h).monitor = s.monitor ∧
    (s.beginTransaction kind h).gaps = s.gaps ∧ (s.beginTransaction kind h).link = s.link ∧ (s.beginTransaction
    kind h).cfg = s.cfg ∧ (s.beginTransaction kind h).free = s.free ∧ (s.beginTransaction kind h).pending =
    s.pending := by
  simp [State.beginTransaction]

@[simp] theorem State.pump_keeps (s : State) : (s.pump).run = s.run ∧ (s.pump).store = s.store ∧
    (s.pump).gov = s.gov ∧ (s.pump).frame = s.frame ∧ (s.pump).shaft = s.shaft ∧ (s.pump).change = s.change ∧
    (s.pump).monitor = s.monitor ∧ (s.pump).gaps = s.gaps ∧ (s.pump).link = s.link ∧ (s.pump).cfg = s.cfg ∧
    (s.pump).free = s.free ∧ (s.pump).pending = s.pending := by
  unfold State.pump
  (repeat' split) <;> simp

@[simp] theorem State.roundDue_keeps (s : State) : (s.roundDue).run = s.run ∧ (s.roundDue).store = s.store ∧
    (s.roundDue).gov = s.gov ∧ (s.roundDue).frame = s.frame ∧ (s.roundDue).shaft = s.shaft ∧ (s.roundDue).change
    = s.change ∧ (s.roundDue).monitor = s.monitor ∧ (s.roundDue).gaps = s.gaps ∧ (s.roundDue).link = s.link ∧
    (s.roundDue).cfg = s.cfg ∧ (s.roundDue).free = s.free ∧ (s.roundDue).pending = s.pending := by
  unfold State.roundDue
  split <;> simp

@[simp] theorem State.endTransaction_keeps (s : State) : (s.endTransaction).run = s.run ∧
    (s.endTransaction).store = s.store ∧ (s.endTransaction).gov = s.gov ∧ (s.endTransaction).frame = s.frame ∧
    (s.endTransaction).shaft = s.shaft ∧ (s.endTransaction).change = s.change ∧ (s.endTransaction).monitor =
    s.monitor ∧ (s.endTransaction).gaps = s.gaps ∧ (s.endTransaction).link = s.link ∧ (s.endTransaction).cfg =
    s.cfg ∧ (s.endTransaction).free = s.free ∧ (s.endTransaction).pending = s.pending := by
  simp [State.endTransaction]

@[simp] theorem State.clearLoss_keeps (s : State) (h : Nat) : (s.clearLoss h).run = s.run ∧ (s.clearLoss
    h).store = s.store ∧ (s.clearLoss h).gov = s.gov ∧ (s.clearLoss h).frame = s.frame ∧ (s.clearLoss h).shaft =
    s.shaft ∧ (s.clearLoss h).change = s.change ∧ (s.clearLoss h).monitor = s.monitor ∧ (s.clearLoss h).gaps =
    s.gaps ∧ (s.clearLoss h).link = s.link ∧ (s.clearLoss h).cfg = s.cfg ∧ (s.clearLoss h).free = s.free ∧
    (s.clearLoss h).pending = s.pending := by
  simp [State.clearLoss]

@[simp] theorem State.purge_keeps (s : State) (h : Nat) : (s.purge h).store = s.store ∧ (s.purge h).gov =
    s.gov ∧ (s.purge h).frame = s.frame ∧ (s.purge h).shaft = s.shaft ∧ (s.purge h).monitor = s.monitor ∧
    (s.purge h).gaps = s.gaps ∧ (s.purge h).link = s.link ∧ (s.purge h).cfg = s.cfg ∧ (s.purge h).free = s.free
    ∧ (s.purge h).pending = s.pending := by
  simp [State.purge]

/-! ## GapTable -/

@[simp] theorem State.openGapFor_keeps (s : State) (h : Nat) : (s.openGapFor h).run = s.run ∧ (s.openGapFor
    h).store = s.store ∧ (s.openGapFor h).gov = s.gov ∧ (s.openGapFor h).frame = s.frame ∧ (s.openGapFor
    h).shaft = s.shaft ∧ (s.openGapFor h).bus = s.bus ∧ (s.openGapFor h).change = s.change ∧ (s.openGapFor
    h).monitor = s.monitor ∧ (s.openGapFor h).cfg = s.cfg ∧ (s.openGapFor h).free = s.free ∧ (s.openGapFor
    h).pending = s.pending ∧ (s.openGapFor h).link.bare = s.link.bare ∧ (s.openGapFor h).link.replies =
    s.link.replies ∧ (s.openGapFor h).link.resetBy = s.link.resetBy := by
  simp [State.openGapFor]

@[simp] theorem State.closeGap_keeps (s : State) (h : Nat) : (s.closeGap h).run = s.run ∧ (s.closeGap h).gov
    = s.gov ∧ (s.closeGap h).frame = s.frame ∧ (s.closeGap h).shaft = s.shaft ∧ (s.closeGap h).bus = s.bus ∧
    (s.closeGap h).change = s.change ∧ (s.closeGap h).monitor = s.monitor ∧ (s.closeGap h).cfg = s.cfg ∧
    (s.closeGap h).free = s.free ∧ (s.closeGap h).pending = s.pending ∧ (s.closeGap h).link.bare = s.link.bare ∧
    (s.closeGap h).link.replies = s.link.replies ∧ (s.closeGap h).link.resetBy = s.link.resetBy := by
  unfold State.closeGap
  split <;> simp

@[simp] theorem State.closeAllGaps_keeps (s : State) : (s.closeAllGaps).run = s.run ∧ (s.closeAllGaps).gov =
    s.gov ∧ (s.closeAllGaps).frame = s.frame ∧ (s.closeAllGaps).shaft = s.shaft ∧ (s.closeAllGaps).bus = s.bus ∧
    (s.closeAllGaps).change = s.change ∧ (s.closeAllGaps).monitor = s.monitor ∧ (s.closeAllGaps).cfg = s.cfg ∧
    (s.closeAllGaps).free = s.free ∧ (s.closeAllGaps).pending = s.pending ∧ (s.closeAllGaps).link.bare =
    s.link.bare ∧ (s.closeAllGaps).link.replies = s.link.replies ∧ (s.closeAllGaps).link.resetBy =
    s.link.resetBy := by
  simp [State.closeAllGaps]

@[simp] theorem State.removeGaps_keeps (s : State) (p : Gap → Bool) : (s.removeGaps p).run = s.run ∧
    (s.removeGaps p).gov = s.gov ∧ (s.removeGaps p).frame = s.frame ∧ (s.removeGaps p).shaft = s.shaft ∧
    (s.removeGaps p).bus = s.bus ∧ (s.removeGaps p).change = s.change ∧ (s.removeGaps p).monitor = s.monitor ∧
    (s.removeGaps p).cfg = s.cfg ∧ (s.removeGaps p).free = s.free ∧ (s.removeGaps p).pending = s.pending ∧
    (s.removeGaps p).link.bare = s.link.bare ∧ (s.removeGaps p).link.replies = s.link.replies ∧ (s.removeGaps
    p).link.resetBy = s.link.resetBy := by
  unfold State.removeGaps
  split <;> simp

@[simp] theorem State.deselect_keeps (s : State) (p : Gap → Bool) (i : Nat) : (s.deselect p i).run = s.run ∧
    (s.deselect p i).gov = s.gov ∧ (s.deselect p i).frame = s.frame ∧ (s.deselect p i).shaft = s.shaft ∧
    (s.deselect p i).bus = s.bus ∧ (s.deselect p i).change = s.change ∧ (s.deselect p i).monitor = s.monitor ∧
    (s.deselect p i).cfg = s.cfg ∧ (s.deselect p i).free = s.free ∧ (s.deselect p i).pending = s.pending ∧
    (s.deselect p i).link.bare = s.link.bare ∧ (s.deselect p i).link.replies = s.link.replies ∧ (s.deselect p
    i).link.resetBy = s.link.resetBy := by
  simp only [State.deselect]
  (repeat' split) <;> simp

end Sys2Proof.Machine
end

