-- ==== Sys2Proof/Laws/KeepsBlocks.lean ====
section
/-!
SUPPORT. What the operations of frame, shaft, run, reset and supervision leave as it was.
-/

namespace Sys2Proof.Machine

/-! ## Frame -/

@[simp] theorem State.modAxis_keeps (s : State) (a : AxisName) (g : Axis → Axis) : (s.modAxis a g).run =
    s.run ∧ (s.modAxis a g).store = s.store ∧ (s.modAxis a g).gov = s.gov ∧ (s.modAxis a g).shaft = s.shaft ∧
    (s.modAxis a g).bus = s.bus ∧ (s.modAxis a g).change = s.change ∧ (s.modAxis a g).monitor = s.monitor ∧
    (s.modAxis a g).gaps = s.gaps ∧ (s.modAxis a g).link = s.link ∧ (s.modAxis a g).cfg = s.cfg ∧ (s.modAxis a
    g).free = s.free ∧ (s.modAxis a g).pending = s.pending := by
  simp [State.modAxis]

@[simp] theorem State.beginMove_keeps (s : State) (i : Nat) (dx dy : Int) (jump : Bool) : (s.beginMove i dx
    dy jump).run = s.run ∧ (s.beginMove i dx dy jump).store = s.store ∧ (s.beginMove i dx dy jump).gov = s.gov ∧
    (s.beginMove i dx dy jump).shaft = s.shaft ∧ (s.beginMove i dx dy jump).bus = s.bus ∧ (s.beginMove i dx dy
    jump).change = s.change ∧ (s.beginMove i dx dy jump).monitor = s.monitor ∧ (s.beginMove i dx dy jump).gaps =
    s.gaps ∧ (s.beginMove i dx dy jump).link = s.link ∧ (s.beginMove i dx dy jump).cfg = s.cfg ∧ (s.beginMove i
    dx dy jump).free = s.free ∧ (s.beginMove i dx dy jump).pending = s.pending := by
  simp [State.beginMove]

@[simp] theorem State.completeMove_keeps (s : State) : (s.completeMove).run = s.run ∧ (s.completeMove).store
    = s.store ∧ (s.completeMove).gov = s.gov ∧ (s.completeMove).shaft = s.shaft ∧ (s.completeMove).bus = s.bus ∧
    (s.completeMove).change = s.change ∧ (s.completeMove).monitor = s.monitor ∧ (s.completeMove).gaps = s.gaps ∧
    (s.completeMove).link = s.link ∧ (s.completeMove).cfg = s.cfg ∧ (s.completeMove).free = s.free ∧
    (s.completeMove).pending = s.pending := by
  simp [State.completeMove]

@[simp] theorem State.beginTravel_keeps (s : State) (legs : List Point) : (s.beginTravel legs).run = s.run ∧
    (s.beginTravel legs).store = s.store ∧ (s.beginTravel legs).gov = s.gov ∧ (s.beginTravel legs).bus = s.bus ∧
    (s.beginTravel legs).change = s.change ∧ (s.beginTravel legs).monitor = s.monitor ∧ (s.beginTravel
    legs).gaps = s.gaps ∧ (s.beginTravel legs).link = s.link ∧ (s.beginTravel legs).cfg = s.cfg ∧ (s.beginTravel
    legs).free = s.free ∧ (s.beginTravel legs).pending = s.pending := by
  simp [State.beginTravel]

@[simp] theorem State.beginLeg_keeps (s : State) (t : Travel) (target : Point) (rest : List Point) :
    (s.beginLeg t target rest).run = s.run ∧ (s.beginLeg t target rest).store = s.store ∧ (s.beginLeg t target
    rest).gov = s.gov ∧ (s.beginLeg t target rest).shaft = s.shaft ∧ (s.beginLeg t target rest).bus = s.bus ∧
    (s.beginLeg t target rest).change = s.change ∧ (s.beginLeg t target rest).monitor = s.monitor ∧ (s.beginLeg
    t target rest).gaps = s.gaps ∧ (s.beginLeg t target rest).link = s.link ∧ (s.beginLeg t target rest).cfg =
    s.cfg ∧ (s.beginLeg t target rest).free = s.free ∧ (s.beginLeg t target rest).pending = s.pending := by
  simp [State.beginLeg]

@[simp] theorem State.beginSegment_keeps (s : State) (t : Travel) : (s.beginSegment t).run = s.run ∧
    (s.beginSegment t).store = s.store ∧ (s.beginSegment t).gov = s.gov ∧ (s.beginSegment t).shaft = s.shaft ∧
    (s.beginSegment t).bus = s.bus ∧ (s.beginSegment t).change = s.change ∧ (s.beginSegment t).monitor =
    s.monitor ∧ (s.beginSegment t).gaps = s.gaps ∧ (s.beginSegment t).link = s.link ∧ (s.beginSegment t).cfg =
    s.cfg ∧ (s.beginSegment t).free = s.free ∧ (s.beginSegment t).pending = s.pending := by
  simp [State.beginSegment]

@[simp] theorem State.completeSegment_keeps (s : State) (t : Travel) : (s.completeSegment t).run = s.run ∧
    (s.completeSegment t).store = s.store ∧ (s.completeSegment t).gov = s.gov ∧ (s.completeSegment t).shaft =
    s.shaft ∧ (s.completeSegment t).bus = s.bus ∧ (s.completeSegment t).change = s.change ∧ (s.completeSegment
    t).monitor = s.monitor ∧ (s.completeSegment t).gaps = s.gaps ∧ (s.completeSegment t).link = s.link ∧
    (s.completeSegment t).cfg = s.cfg ∧ (s.completeSegment t).free = s.free ∧ (s.completeSegment t).pending =
    s.pending := by
  simp [State.completeSegment]

@[simp] theorem State.beginReseats_keeps (s : State) : (s.beginReseats).run = s.run ∧ (s.beginReseats).store
    = s.store ∧ (s.beginReseats).gov = s.gov ∧ (s.beginReseats).shaft = s.shaft ∧ (s.beginReseats).bus = s.bus ∧
    (s.beginReseats).change = s.change ∧ (s.beginReseats).monitor = s.monitor ∧ (s.beginReseats).gaps = s.gaps ∧
    (s.beginReseats).link = s.link ∧ (s.beginReseats).cfg = s.cfg ∧ (s.beginReseats).free = s.free ∧
    (s.beginReseats).pending = s.pending := by
  simp [State.beginReseats]

@[simp] theorem State.askTravelStop_keeps (s : State) : (s.askTravelStop).run = s.run ∧
    (s.askTravelStop).store = s.store ∧ (s.askTravelStop).gov = s.gov ∧ (s.askTravelStop).shaft = s.shaft ∧
    (s.askTravelStop).bus = s.bus ∧ (s.askTravelStop).change = s.change ∧ (s.askTravelStop).monitor = s.monitor
    ∧ (s.askTravelStop).gaps = s.gaps ∧ (s.askTravelStop).link = s.link ∧ (s.askTravelStop).cfg = s.cfg ∧
    (s.askTravelStop).free = s.free ∧ (s.askTravelStop).pending = s.pending := by
  simp [State.askTravelStop]

@[simp] theorem State.beginHoming_keeps (s : State) (a : AxisName) : (s.beginHoming a).run = s.run ∧
    (s.beginHoming a).store = s.store ∧ (s.beginHoming a).gov = s.gov ∧ (s.beginHoming a).shaft = s.shaft ∧
    (s.beginHoming a).bus = s.bus ∧ (s.beginHoming a).change = s.change ∧ (s.beginHoming a).monitor = s.monitor
    ∧ (s.beginHoming a).gaps = s.gaps ∧ (s.beginHoming a).link = s.link ∧ (s.beginHoming a).cfg = s.cfg ∧
    (s.beginHoming a).free = s.free ∧ (s.beginHoming a).pending = s.pending := by
  simp [State.beginHoming]

@[simp] theorem State.endHoming_keeps (s : State) : (s.endHoming).run = s.run ∧ (s.endHoming).store =
    s.store ∧ (s.endHoming).gov = s.gov ∧ (s.endHoming).bus = s.bus ∧ (s.endHoming).change = s.change ∧
    (s.endHoming).monitor = s.monitor ∧ (s.endHoming).gaps = s.gaps ∧ (s.endHoming).link = s.link ∧
    (s.endHoming).cfg = s.cfg ∧ (s.endHoming).free = s.free ∧ (s.endHoming).pending = s.pending := by
  simp [State.endHoming]

@[simp] theorem State.axisHomed_keeps (s : State) (a : AxisName) : (s.axisHomed a).run = s.run ∧
    (s.axisHomed a).store = s.store ∧ (s.axisHomed a).gov = s.gov ∧ (s.axisHomed a).bus = s.bus ∧ (s.axisHomed
    a).change = s.change ∧ (s.axisHomed a).monitor = s.monitor ∧ (s.axisHomed a).gaps = s.gaps ∧ (s.axisHomed
    a).cfg = s.cfg ∧ (s.axisHomed a).free = s.free ∧ (s.axisHomed a).pending = s.pending ∧ (s.axisHomed
    a).link.bare = s.link.bare ∧ (s.axisHomed a).link.replies = s.link.replies ∧ (s.axisHomed a).link.resetBy =
    s.link.resetBy := by
  unfold State.axisHomed
  split <;> simp

/-! ## Shaft -/

@[simp] theorem State.shaftTo_keeps (s : State) (t : ShaftState) : (s.shaftTo t).run = s.run ∧ (s.shaftTo
    t).store = s.store ∧ (s.shaftTo t).gov = s.gov ∧ (s.shaftTo t).frame = s.frame ∧ (s.shaftTo t).change =
    s.change ∧ (s.shaftTo t).monitor = s.monitor ∧ (s.shaftTo t).gaps = s.gaps ∧ (s.shaftTo t).link = s.link ∧
    (s.shaftTo t).cfg = s.cfg ∧ (s.shaftTo t).free = s.free ∧ (s.shaftTo t).pending = s.pending := by
  unfold State.shaftTo
  split <;> simp <;> split <;> simp

@[simp] theorem State.driveAtCrawl_keeps (s : State) (t : ShaftState) : (s.driveAtCrawl t).run = s.run ∧
    (s.driveAtCrawl t).store = s.store ∧ (s.driveAtCrawl t).gov = s.gov ∧ (s.driveAtCrawl t).frame = s.frame ∧
    (s.driveAtCrawl t).change = s.change ∧ (s.driveAtCrawl t).monitor = s.monitor ∧ (s.driveAtCrawl t).gaps =
    s.gaps ∧ (s.driveAtCrawl t).link = s.link ∧ (s.driveAtCrawl t).cfg = s.cfg ∧ (s.driveAtCrawl t).free =
    s.free ∧ (s.driveAtCrawl t).pending = s.pending := by
  simp [State.driveAtCrawl]

@[simp] theorem State.startShaft_keeps (s : State) : (s.startShaft).run = s.run ∧ (s.startShaft).store =
    s.store ∧ (s.startShaft).frame = s.frame ∧ (s.startShaft).change = s.change ∧
    (s.startShaft).monitor = s.monitor ∧ (s.startShaft).gaps = s.gaps ∧ (s.startShaft).link = s.link ∧
    (s.startShaft).cfg = s.cfg ∧ (s.startShaft).free = s.free ∧ (s.startShaft).pending = s.pending := by
  simp [State.startShaft]

@[simp] theorem State.restartHold_keeps (s : State) : (s.restartHold).run = s.run ∧ (s.restartHold).store =
    s.store ∧ (s.restartHold).frame = s.frame ∧ (s.restartHold).change = s.change ∧ (s.restartHold).monitor =
    s.monitor ∧ (s.restartHold).gaps = s.gaps ∧ (s.restartHold).link = s.link ∧ (s.restartHold).cfg = s.cfg ∧
    (s.restartHold).free = s.free ∧ (s.restartHold).pending = s.pending := by
  simp [State.restartHold]

/-- What the governor holds as the shaft is started from rest: the window rebuilt, and crawl (R64, R49). -/
theorem State.startShaft_gov (s : State) :
    s.startShaft.gov = { s.gov with last := some s.cfg.speeds.crawl, window := s.windowNow } := rfl

/-- What the governor holds as a HOLDING shaft is restarted: the window rebuilt (R64). -/
theorem State.restartHold_gov (s : State) : s.restartHold.gov = { s.gov with window := s.windowNow } := by
  simp [State.restartHold, State.refreshWindow]

@[simp] theorem State.orderStop_keeps (s : State) (hold : Bool) : (s.orderStop hold).run = s.run ∧
    (s.orderStop hold).store = s.store ∧ (s.orderStop hold).gov = s.gov ∧ (s.orderStop hold).frame = s.frame ∧
    (s.orderStop hold).change = s.change ∧ (s.orderStop hold).monitor = s.monitor ∧ (s.orderStop hold).gaps =
    s.gaps ∧ (s.orderStop hold).link = s.link ∧ (s.orderStop hold).cfg = s.cfg ∧ (s.orderStop hold).free =
    s.free ∧ (s.orderStop hold).pending = s.pending := by
  unfold State.orderStop
  split <;> simp

@[simp] theorem State.brakeAtTop_keeps (s : State) : (s.brakeAtTop).run = s.run ∧ (s.brakeAtTop).store =
    s.store ∧ (s.brakeAtTop).gov = s.gov ∧ (s.brakeAtTop).frame = s.frame ∧ (s.brakeAtTop).bus = s.bus ∧
    (s.brakeAtTop).change = s.change ∧ (s.brakeAtTop).monitor = s.monitor ∧ (s.brakeAtTop).gaps = s.gaps ∧
    (s.brakeAtTop).link = s.link ∧ (s.brakeAtTop).cfg = s.cfg ∧ (s.brakeAtTop).free = s.free ∧
    (s.brakeAtTop).pending = s.pending := by
  simp [State.brakeAtTop]

@[simp] theorem State.brakeAtOnce_keeps (s : State) : (s.brakeAtOnce).run = s.run ∧ (s.brakeAtOnce).store =
    s.store ∧ (s.brakeAtOnce).gov = s.gov ∧ (s.brakeAtOnce).frame = s.frame ∧ (s.brakeAtOnce).change = s.change
    ∧ (s.brakeAtOnce).monitor = s.monitor ∧ (s.brakeAtOnce).gaps = s.gaps ∧ (s.brakeAtOnce).link = s.link ∧
    (s.brakeAtOnce).cfg = s.cfg ∧ (s.brakeAtOnce).free = s.free ∧ (s.brakeAtOnce).pending = s.pending := by
  simp [State.brakeAtOnce]

@[simp] theorem State.beginReferencing_keeps (s : State) (byHost : Bool) : (s.beginReferencing byHost).run =
    s.run ∧ (s.beginReferencing byHost).store = s.store ∧ (s.beginReferencing byHost).gov = s.gov ∧
    (s.beginReferencing byHost).frame = s.frame ∧ (s.beginReferencing byHost).change = s.change ∧
    (s.beginReferencing byHost).monitor = s.monitor ∧ (s.beginReferencing byHost).gaps = s.gaps ∧
    (s.beginReferencing byHost).link = s.link ∧ (s.beginReferencing byHost).cfg = s.cfg ∧ (s.beginReferencing
    byHost).free = s.free ∧ (s.beginReferencing byHost).pending = s.pending := by
  simp [State.beginReferencing]

@[simp] theorem State.stopReferencing_keeps (s : State) : (s.stopReferencing).run = s.run ∧
    (s.stopReferencing).store = s.store ∧ (s.stopReferencing).gov = s.gov ∧ (s.stopReferencing).frame = s.frame
    ∧ (s.stopReferencing).change = s.change ∧ (s.stopReferencing).monitor = s.monitor ∧ (s.stopReferencing).gaps
    = s.gaps ∧ (s.stopReferencing).link = s.link ∧ (s.stopReferencing).cfg = s.cfg ∧ (s.stopReferencing).free =
    s.free ∧ (s.stopReferencing).pending = s.pending := by
  simp [State.stopReferencing]

@[simp] theorem State.cutReferencing_keeps (s : State) : (s.cutReferencing).run = s.run ∧
    (s.cutReferencing).store = s.store ∧ (s.cutReferencing).gov = s.gov ∧ (s.cutReferencing).frame = s.frame
    ∧ (s.cutReferencing).change = s.change ∧ (s.cutReferencing).monitor = s.monitor ∧ (s.cutReferencing).gaps
    = s.gaps ∧ (s.cutReferencing).link = s.link ∧ (s.cutReferencing).cfg = s.cfg ∧ (s.cutReferencing).free =
    s.free ∧ (s.cutReferencing).pending = s.pending := by
  unfold State.cutReferencing
  split <;> simp

/-- A referencing that a CONTROLLED RESET waits for is let run to the index (R93, R169). -/
theorem State.cutReferencing_for_reset (s : State) (h : s.link.resetBy.isSome = true) : s.cutReferencing = s := by
  simp [State.cutReferencing, Option.isSome_iff_ne_none.mp h]

@[simp] theorem State.applyZones_keeps (s : State) : (s.applyZones).run = s.run ∧ (s.applyZones).store =
    s.store ∧ (s.applyZones).gov = s.gov ∧ (s.applyZones).shaft = s.shaft ∧ (s.applyZones).bus = s.bus ∧
    (s.applyZones).change = s.change ∧ (s.applyZones).monitor = s.monitor ∧ (s.applyZones).gaps = s.gaps ∧
    (s.applyZones).link = s.link ∧ (s.applyZones).cfg = s.cfg ∧ (s.applyZones).free = s.free ∧
    (s.applyZones).pending = s.pending := by
  simp [State.applyZones]

/-! ## RunControl -/

@[simp] theorem State.bringBack_keeps (s : State) (h : Nat) : (s.bringBack h).frame = s.frame ∧ (s.bringBack
    h).shaft = s.shaft ∧ (s.bringBack h).bus = s.bus ∧ (s.bringBack h).cfg = s.cfg ∧ (s.bringBack h).free =
    s.free ∧ (s.bringBack h).pending = s.pending ∧ (s.bringBack h).link.bare = s.link.bare ∧ (s.bringBack
    h).link.replies = s.link.replies ∧ (s.bringBack h).link.resetBy = s.link.resetBy := by
  simp [State.bringBack]

@[simp] theorem State.resolveJoins_keeps (s : State) : (s.resolveJoins).frame = s.frame ∧
    (s.resolveJoins).shaft = s.shaft ∧ (s.resolveJoins).bus = s.bus ∧ (s.resolveJoins).cfg = s.cfg ∧
    (s.resolveJoins).free = s.free ∧ (s.resolveJoins).pending = s.pending ∧ (s.resolveJoins).link.bare =
    s.link.bare ∧ (s.resolveJoins).link.replies = s.link.replies ∧ (s.resolveJoins).link.resetBy =
    s.link.resetBy := by
  unfold State.resolveJoins
  generalize headNumbers = l
  refine ⟨foldl_keeps State.frame _ ?_ _ _, foldl_keeps State.shaft _ ?_ _ _, foldl_keeps State.bus _ ?_ _ _,
    foldl_keeps State.cfg _ ?_ _ _, foldl_keeps State.free _ ?_ _ _, foldl_keeps State.pending _ ?_ _ _,
    foldl_keeps (fun s => s.link.bare) _ ?_ _ _, foldl_keeps (fun s => s.link.replies) _ ?_ _ _,
    foldl_keeps (fun s => s.link.resetBy) _ ?_ _ _⟩
  all_goals
    intro s h
    split <;> simp

@[simp] theorem State.liftHead_keeps (s : State) (h : Nat) : (s.liftHead h).store = s.store ∧ (s.liftHead
    h).frame = s.frame ∧ (s.liftHead h).shaft = s.shaft ∧ (s.liftHead h).gaps = s.gaps ∧ (s.liftHead h).cfg =
    s.cfg ∧ (s.liftHead h).free = s.free ∧ (s.liftHead h).pending = s.pending ∧ (s.liftHead h).link.bare =
    s.link.bare ∧ (s.liftHead h).link.replies = s.link.replies ∧ (s.liftHead h).link.resetBy = s.link.resetBy :=
    by
  unfold State.liftHead
  (repeat' split) <;> simp

@[simp] theorem State.liftAll_keeps (s : State) : (s.liftAll).store = s.store ∧ (s.liftAll).frame = s.frame
    ∧ (s.liftAll).shaft = s.shaft ∧ (s.liftAll).gaps = s.gaps ∧ (s.liftAll).cfg = s.cfg ∧ (s.liftAll).free =
    s.free ∧ (s.liftAll).pending = s.pending ∧ (s.liftAll).link.bare = s.link.bare ∧ (s.liftAll).link.replies =
    s.link.replies ∧ (s.liftAll).link.resetBy = s.link.resetBy := by
  simp [State.liftAll]

@[simp] theorem State.idleHead_keeps (s : State) (h : Nat) : (s.idleHead h).store = s.store ∧ (s.idleHead
    h).frame = s.frame ∧ (s.idleHead h).shaft = s.shaft ∧ (s.idleHead h).gaps = s.gaps ∧ (s.idleHead h).cfg =
    s.cfg ∧ (s.idleHead h).free = s.free ∧ (s.idleHead h).pending = s.pending ∧ (s.idleHead h).link.bare =
    s.link.bare ∧ (s.idleHead h).link.replies = s.link.replies ∧ (s.idleHead h).link.resetBy = s.link.resetBy :=
    by
  unfold State.idleHead
  (repeat' split) <;> simp

@[simp] theorem State.idleAll_keeps (s : State) : (s.idleAll).store = s.store ∧ (s.idleAll).frame = s.frame
    ∧ (s.idleAll).shaft = s.shaft ∧ (s.idleAll).gaps = s.gaps ∧ (s.idleAll).cfg = s.cfg ∧ (s.idleAll).free =
    s.free ∧ (s.idleAll).pending = s.pending ∧ (s.idleAll).link.bare = s.link.bare ∧ (s.idleAll).link.replies =
    s.link.replies ∧ (s.idleAll).link.resetBy = s.link.resetBy := by
  simp [State.idleAll]

@[simp] theorem State.endPatch_keeps (s : State) : (s.endPatch).frame = s.frame ∧ (s.endPatch).shaft =
    s.shaft ∧ (s.endPatch).cfg = s.cfg ∧ (s.endPatch).free = s.free ∧ (s.endPatch).pending = s.pending ∧
    (s.endPatch).link.bare = s.link.bare ∧ (s.endPatch).link.replies = s.link.replies ∧
    (s.endPatch).link.resetBy = s.link.resetBy := by
  simp [State.endPatch]

@[simp] theorem State.endPatchIfOver_keeps (s : State) : (s.endPatchIfOver).frame = s.frame ∧
    (s.endPatchIfOver).shaft = s.shaft ∧ (s.endPatchIfOver).cfg = s.cfg ∧ (s.endPatchIfOver).free = s.free ∧
    (s.endPatchIfOver).pending = s.pending ∧ (s.endPatchIfOver).link.bare = s.link.bare ∧
    (s.endPatchIfOver).link.replies = s.link.replies ∧ (s.endPatchIfOver).link.resetBy = s.link.resetBy := by
  unfold State.endPatchIfOver
  split <;> simp

@[simp] theorem State.endPatchIfEmpty_keeps (s : State) : (s.endPatchIfEmpty).cfg = s.cfg ∧ (s.endPatchIfEmpty).free = s.free ∧
    (s.endPatchIfEmpty).pending = s.pending ∧ (s.endPatchIfEmpty).link.bare = s.link.bare ∧
    (s.endPatchIfEmpty).link.replies = s.link.replies ∧ (s.endPatchIfEmpty).link.resetBy = s.link.resetBy := by
  unfold State.endPatchIfEmpty
  (repeat' split) <;> simp

/-- With a selected gap left, or in the main pass, no pass ends. -/
theorem State.endPatchIfEmpty_stays (s : State) (h : s.run.pass = .main ∨ s.patchLeft = true) : s.endPatchIfEmpty = s := by
  unfold State.endPatchIfEmpty State.patchOver
  rcases h with h | h <;> simp [h]

/-- A paused patch pass without a selected gap ends. -/
theorem State.endPatchIfEmpty_ends (s : State) (hp : s.run.pass = .patch) (hr : s.run.state = .paused)
    (hl : s.patchLeft = false) : s.endPatchIfEmpty = s.endPatch := by
  simp [State.endPatchIfEmpty, State.patchOver, hp, hr, hl]

@[simp] theorem State.toPaused_keeps (s : State) : (s.toPaused).frame = s.frame ∧ (s.toPaused).shaft =
    s.shaft ∧ (s.toPaused).cfg = s.cfg ∧ (s.toPaused).free = s.free ∧
    (s.toPaused).pending = s.pending ∧ (s.toPaused).link.bare = s.link.bare ∧ (s.toPaused).link.replies =
    s.link.replies ∧ (s.toPaused).link.resetBy = s.link.resetBy := by
  simp [State.toPaused]

@[simp] theorem State.pauseFor_keeps (s : State) (c : StopCause) : (s.pauseFor c).frame = s.frame ∧
    (s.pauseFor c).shaft = s.shaft ∧ (s.pauseFor c).cfg = s.cfg ∧ (s.pauseFor
    c).free = s.free ∧ (s.pauseFor c).pending = s.pending ∧ (s.pauseFor c).link.bare = s.link.bare ∧ (s.pauseFor
    c).link.replies = s.link.replies ∧ (s.pauseFor c).link.resetBy = s.link.resetBy := by
  simp [State.pauseFor]

@[simp] theorem State.toFinished_keeps (s : State) : (s.toFinished).frame = s.frame ∧ (s.toFinished).shaft =
    s.shaft ∧ (s.toFinished).cfg = s.cfg ∧ (s.toFinished).free = s.free ∧ (s.toFinished).pending = s.pending ∧
    (s.toFinished).link.bare = s.link.bare ∧ (s.toFinished).link.replies = s.link.replies ∧
    (s.toFinished).link.resetBy = s.link.resetBy := by
  simp [State.toFinished]

@[simp] theorem State.toWaiting_keeps (s : State) (c : StopCause) : (s.toWaiting c).store = s.store ∧
    (s.toWaiting c).gov = s.gov ∧ (s.toWaiting c).frame = s.frame ∧ (s.toWaiting c).shaft = s.shaft ∧
    (s.toWaiting c).bus = s.bus ∧ (s.toWaiting c).change = s.change ∧ (s.toWaiting c).monitor = s.monitor ∧
    (s.toWaiting c).gaps = s.gaps ∧ (s.toWaiting c).cfg = s.cfg ∧ (s.toWaiting c).free = s.free ∧ (s.toWaiting
    c).pending = s.pending ∧ (s.toWaiting c).link.bare = s.link.bare ∧ (s.toWaiting c).link.replies =
    s.link.replies ∧ (s.toWaiting c).link.resetBy = s.link.resetBy := by
  simp [State.toWaiting]

@[simp] theorem State.endStart_keeps (s : State) : (s.endStart).frame = s.frame ∧ (s.endStart).shaft =
    s.shaft ∧ (s.endStart).cfg = s.cfg ∧ (s.endStart).free = s.free ∧ (s.endStart).pending = s.pending ∧
    (s.endStart).link.bare = s.link.bare ∧ (s.endStart).link.replies = s.link.replies ∧
    (s.endStart).link.resetBy = s.link.resetBy := by
  unfold State.endStart
  split <;> simp

@[simp] theorem State.unlessOver_keeps (s next : State) (h : next.cfg = s.cfg ∧ next.free = s.free ∧
    next.pending = s.pending ∧ next.link.bare = s.link.bare ∧ next.link.replies = s.link.replies ∧
    next.link.resetBy = s.link.resetBy) : (s.unlessOver next).cfg = s.cfg ∧ (s.unlessOver next).free = s.free ∧
    (s.unlessOver next).pending = s.pending ∧ (s.unlessOver next).link.bare = s.link.bare ∧
    (s.unlessOver next).link.replies = s.link.replies ∧ (s.unlessOver next).link.resetBy = s.link.resetBy := by
  unfold State.unlessOver
  (repeat' split) <;> simp [h]

@[simp] theorem State.stopOrder_keeps (s : State) (c : StopCause) : (s.stopOrder c).cfg = s.cfg ∧
    (s.stopOrder c).free = s.free ∧ (s.stopOrder c).pending = s.pending ∧ (s.stopOrder c).link.bare =
    s.link.bare ∧ (s.stopOrder c).link.replies = s.link.replies ∧ (s.stopOrder c).link.resetBy = s.link.resetBy
    := by
  simp only [State.stopOrder]
  (repeat' split) <;> simp

@[simp] theorem State.joinEffect_keeps (s : State) (h : Nat) : (s.joinEffect h).run = s.run ∧ (s.joinEffect
    h).gov = s.gov ∧ (s.joinEffect h).frame = s.frame ∧ (s.joinEffect h).shaft = s.shaft ∧ (s.joinEffect h).bus
    = s.bus ∧ (s.joinEffect h).change = s.change ∧ (s.joinEffect h).cfg = s.cfg ∧ (s.joinEffect h).free = s.free
    ∧ (s.joinEffect h).pending = s.pending ∧ (s.joinEffect h).link.bare = s.link.bare ∧ (s.joinEffect
    h).link.replies = s.link.replies ∧ (s.joinEffect h).link.resetBy = s.link.resetBy := by
  simp only [State.joinEffect]
  (repeat' split) <;> simp

@[simp] theorem State.engagedBy_keeps (s : State) (h : Nat) (o : EngageOrder) : (s.engagedBy h o).frame =
    s.frame ∧ (s.engagedBy h o).shaft = s.shaft ∧ (s.engagedBy h o).bus = s.bus ∧ (s.engagedBy h o).cfg = s.cfg
    ∧ (s.engagedBy h o).free = s.free ∧ (s.engagedBy h o).pending = s.pending ∧ (s.engagedBy h o).link.bare =
    s.link.bare ∧ (s.engagedBy h o).link.replies = s.link.replies ∧ (s.engagedBy h o).link.resetBy =
    s.link.resetBy := by
  unfold State.engagedBy
  (repeat' split) <;> simp

@[simp] theorem State.takeOrder_keeps (s : State) (h : Nat) (o : EngageOrder) : (s.takeOrder h o).frame =
    s.frame ∧ (s.takeOrder h o).shaft = s.shaft ∧ (s.takeOrder h o).bus = s.bus ∧ (s.takeOrder h o).cfg = s.cfg
    ∧ (s.takeOrder h o).free = s.free ∧ (s.takeOrder h o).pending = s.pending ∧ (s.takeOrder h o).link.bare =
    s.link.bare ∧ (s.takeOrder h o).link.replies = s.link.replies ∧ (s.takeOrder h o).link.resetBy =
    s.link.resetBy := by
  simp [State.takeOrder]

@[simp] theorem State.applyAcked_keeps (s : State) : (s.applyAcked).frame = s.frame ∧ (s.applyAcked).shaft =
    s.shaft ∧ (s.applyAcked).bus = s.bus ∧ (s.applyAcked).cfg = s.cfg ∧ (s.applyAcked).free = s.free ∧
    (s.applyAcked).pending = s.pending ∧ (s.applyAcked).link.bare = s.link.bare ∧ (s.applyAcked).link.replies =
    s.link.replies ∧ (s.applyAcked).link.resetBy = s.link.resetBy := by
  unfold State.applyAcked
  generalize headNumbers = l
  refine ⟨foldl_keeps State.frame _ ?_ _ _, foldl_keeps State.shaft _ ?_ _ _, foldl_keeps State.bus _ ?_ _ _,
    foldl_keeps State.cfg _ ?_ _ _, foldl_keeps State.free _ ?_ _ _, foldl_keeps State.pending _ ?_ _ _,
    foldl_keeps (fun s => s.link.bare) _ ?_ _ _, foldl_keeps (fun s => s.link.replies) _ ?_ _ _,
    foldl_keeps (fun s => s.link.resetBy) _ ?_ _ _⟩
  all_goals
    intro s h
    split <;> simp

@[simp] theorem State.joinAtRest_keeps (s : State) (h : Nat) : (s.joinAtRest h).frame = s.frame ∧
    (s.joinAtRest h).shaft = s.shaft ∧ (s.joinAtRest h).cfg = s.cfg ∧ (s.joinAtRest h).free = s.free ∧
    (s.joinAtRest h).pending = s.pending ∧ (s.joinAtRest h).link.bare = s.link.bare ∧ (s.joinAtRest
    h).link.replies = s.link.replies ∧ (s.joinAtRest h).link.resetBy = s.link.resetBy := by
  unfold State.joinAtRest
  (repeat' split) <;> simp

@[simp] theorem State.joinsAtRest_keeps (s : State) : (s.joinsAtRest).frame = s.frame ∧
    (s.joinsAtRest).shaft = s.shaft ∧ (s.joinsAtRest).cfg = s.cfg ∧ (s.joinsAtRest).free = s.free ∧
    (s.joinsAtRest).pending = s.pending ∧ (s.joinsAtRest).link.bare = s.link.bare ∧ (s.joinsAtRest).link.replies
    = s.link.replies ∧ (s.joinsAtRest).link.resetBy = s.link.resetBy := by
  simp [State.joinsAtRest]

@[simp] theorem State.beginStart_keeps (s : State) (value : Nat) (step keepTieIn : Bool) : (s.beginStart
    value step keepTieIn).store = s.store ∧ (s.beginStart value step keepTieIn).gov = s.gov ∧ (s.beginStart
    value step keepTieIn).shaft = s.shaft ∧ (s.beginStart value step keepTieIn).bus = s.bus ∧ (s.beginStart
    value step keepTieIn).change = s.change ∧ (s.beginStart value step keepTieIn).monitor = s.monitor ∧
    (s.beginStart value step keepTieIn).gaps = s.gaps ∧ (s.beginStart value step keepTieIn).link = s.link ∧
    (s.beginStart value step keepTieIn).cfg = s.cfg ∧ (s.beginStart value step keepTieIn).free = s.free ∧
    (s.beginStart value step keepTieIn).pending = s.pending := by
  unfold State.beginStart
  split <;> simp

/-! ## Reset -/

@[simp] theorem State.frameHalted_keeps (s : State) : (s.frameHalted).run = s.run ∧ (s.frameHalted).store =
    s.store ∧ (s.frameHalted).gov = s.gov ∧ (s.frameHalted).shaft = s.shaft ∧ (s.frameHalted).bus = s.bus ∧
    (s.frameHalted).change = s.change ∧ (s.frameHalted).monitor = s.monitor ∧ (s.frameHalted).gaps = s.gaps ∧
    (s.frameHalted).link = s.link ∧ (s.frameHalted).cfg = s.cfg ∧ (s.frameHalted).pending = s.pending := by
  unfold State.frameHalted
  split <;> simp

@[simp] theorem State.shaftImmediate_keeps (s : State) : (s.shaftImmediate).run = s.run ∧
    (s.shaftImmediate).store = s.store ∧ (s.shaftImmediate).gov = s.gov ∧ (s.shaftImmediate).frame = s.frame ∧
    (s.shaftImmediate).change = s.change ∧ (s.shaftImmediate).monitor = s.monitor ∧ (s.shaftImmediate).gaps =
    s.gaps ∧ (s.shaftImmediate).link = s.link ∧ (s.shaftImmediate).cfg = s.cfg ∧ (s.shaftImmediate).free =
    s.free ∧ (s.shaftImmediate).pending = s.pending := by
  simp [State.shaftImmediate]

@[simp] theorem State.shaftControlled_keeps (s : State) : (s.shaftControlled).run = s.run ∧
    (s.shaftControlled).store = s.store ∧ (s.shaftControlled).gov = s.gov ∧ (s.shaftControlled).frame = s.frame
    ∧ (s.shaftControlled).bus = s.bus ∧ (s.shaftControlled).change = s.change ∧ (s.shaftControlled).monitor =
    s.monitor ∧ (s.shaftControlled).gaps = s.gaps ∧ (s.shaftControlled).link = s.link ∧ (s.shaftControlled).cfg
    = s.cfg ∧ (s.shaftControlled).free = s.free ∧ (s.shaftControlled).pending = s.pending := by
  simp [State.shaftControlled]

@[simp] theorem State.resetEffect_keeps (s : State) (mode : Nat) (src : Sender) : (s.resetEffect mode
    src).cfg = s.cfg ∧ (s.resetEffect mode src).pending = s.pending ∧ (s.resetEffect mode src).link.bare =
    s.link.bare := by
  unfold State.resetEffect
  split <;> simp

@[simp] theorem State.pendingReset_keeps (s : State) : (s.pendingReset).cfg = s.cfg ∧
    (s.pendingReset).pending = s.pending ∧ (s.pendingReset).link.bare = s.link.bare := by
  unfold State.pendingReset
  split <;> simp

@[simp] theorem State.stallReport_keeps (s : State) (host : Bool) : (s.stallReport host).frame = s.frame ∧
    (s.stallReport host).shaft = s.shaft ∧ (s.stallReport host).cfg = s.cfg ∧
    (s.stallReport host).free = s.free ∧ (s.stallReport host).pending = s.pending ∧ (s.stallReport
    host).link.bare = s.link.bare ∧ (s.stallReport host).link.replies = s.link.replies ∧ (s.stallReport
    host).link.resetBy = s.link.resetBy := by
  unfold State.stallReport
  (repeat' split) <;> simp

@[simp] theorem State.resetIfDue_keeps (s : State) : (s.resetIfDue).cfg = s.cfg ∧
    (s.resetIfDue).pending = s.pending ∧ (s.resetIfDue).link.bare = s.link.bare := by
  unfold State.resetIfDue
  split <;> simp

@[simp] theorem State.stall_keeps (s : State) : (s.stall).cfg = s.cfg ∧ (s.stall).pending = s.pending ∧
    (s.stall).link.bare = s.link.bare := by
  simp [State.stall]

/-! ## Monitor -/

@[simp] theorem State.setFault_keeps (s : State) (h : Nat) (f : Option PendingFault) : (s.setFault h f).run
    = s.run ∧ (s.setFault h f).store = s.store ∧ (s.setFault h f).gov = s.gov ∧ (s.setFault h f).frame = s.frame
    ∧ (s.setFault h f).shaft = s.shaft ∧ (s.setFault h f).bus = s.bus ∧ (s.setFault h f).change = s.change ∧
    (s.setFault h f).gaps = s.gaps ∧ (s.setFault h f).link = s.link ∧ (s.setFault h f).cfg = s.cfg ∧ (s.setFault
    h f).free = s.free ∧ (s.setFault h f).pending = s.pending := by
  simp [State.setFault]

@[simp] theorem State.setHandling_keeps (s : State) (h : Nat) (g : Handling) : (s.setHandling h g).run =
    s.run ∧ (s.setHandling h g).store = s.store ∧ (s.setHandling h g).gov = s.gov ∧ (s.setHandling h g).frame =
    s.frame ∧ (s.setHandling h g).shaft = s.shaft ∧ (s.setHandling h g).bus = s.bus ∧ (s.setHandling h g).change
    = s.change ∧ (s.setHandling h g).gaps = s.gaps ∧ (s.setHandling h g).link = s.link ∧ (s.setHandling h g).cfg
    = s.cfg ∧ (s.setHandling h g).free = s.free ∧ (s.setHandling h g).pending = s.pending := by
  simp [State.setHandling]

@[simp] theorem State.hold_keeps (s : State) (h : Nat) (kind : FaultKind) (c : StopCause) : (s.hold h kind
    c).cfg = s.cfg ∧ (s.hold h kind c).free = s.free ∧ (s.hold h kind c).pending = s.pending ∧ (s.hold h kind
    c).link.bare = s.link.bare ∧ (s.hold h kind c).link.replies = s.link.replies ∧ (s.hold h kind
    c).link.resetBy = s.link.resetBy := by
  unfold State.hold
  split <;> simp

@[simp] theorem State.drop_keeps (s : State) (h : Nat) (kind : FaultKind) : (s.drop h kind).store = s.store
    ∧ (s.drop h kind).frame = s.frame ∧ (s.drop h kind).shaft = s.shaft ∧ (s.drop h kind).gaps = s.gaps ∧
    (s.drop h kind).cfg = s.cfg ∧ (s.drop h kind).free = s.free ∧ (s.drop h kind).pending = s.pending ∧ (s.drop
    h kind).link.bare = s.link.bare ∧ (s.drop h kind).link.replies = s.link.replies ∧ (s.drop h
    kind).link.resetBy = s.link.resetBy := by
  unfold State.drop
  split <;> simp <;> split <;> simp

@[simp] theorem State.dropOut_keeps (s : State) (h : Nat) (kind : FaultKind) : (s.dropOut h kind).cfg =
    s.cfg ∧ (s.dropOut h kind).free = s.free ∧ (s.dropOut h kind).pending = s.pending ∧ (s.dropOut h
    kind).link.bare = s.link.bare ∧ (s.dropOut h kind).link.replies = s.link.replies ∧ (s.dropOut h
    kind).link.resetBy = s.link.resetBy := by
  unfold State.dropOut
  (repeat' split) <;> simp

@[simp] theorem State.patchFault_keeps (s : State) (h : Nat) : (s.patchFault h).gov = s.gov ∧ (s.patchFault
    h).frame = s.frame ∧ (s.patchFault h).shaft = s.shaft ∧ (s.patchFault h).bus = s.bus ∧ (s.patchFault
    h).change = s.change ∧ (s.patchFault h).monitor = s.monitor ∧ (s.patchFault h).cfg = s.cfg ∧ (s.patchFault
    h).free = s.free ∧ (s.patchFault h).pending = s.pending ∧ (s.patchFault h).link.bare = s.link.bare ∧
    (s.patchFault h).link.replies = s.link.replies ∧ (s.patchFault h).link.resetBy = s.link.resetBy := by
  unfold State.patchFault
  split <;> simp <;> split <;> simp

@[simp] theorem State.handleFault_keeps (s : State) (h : Nat) (kind : FaultKind) : (s.handleFault h
    kind).cfg = s.cfg ∧ (s.handleFault h kind).free = s.free ∧ (s.handleFault h kind).pending = s.pending ∧
    (s.handleFault h kind).link.bare = s.link.bare ∧ (s.handleFault h kind).link.replies = s.link.replies ∧
    (s.handleFault h kind).link.resetBy = s.link.resetBy := by
  simp only [State.handleFault]
  (repeat' split) <;> simp

@[simp] theorem State.raiseFault_keeps (s : State) (h : Nat) (kind : FaultKind) : (s.raiseFault h kind).cfg
    = s.cfg ∧ (s.raiseFault h kind).free = s.free ∧ (s.raiseFault h kind).pending = s.pending ∧ (s.raiseFault h
    kind).link.bare = s.link.bare ∧ (s.raiseFault h kind).link.replies = s.link.replies ∧ (s.raiseFault h
    kind).link.resetBy = s.link.resetBy := by
  simp [State.raiseFault]

@[simp] theorem State.joinTurning_keeps (s : State) (h : Nat) : (s.joinTurning h).store = s.store ∧
    (s.joinTurning h).gov = s.gov ∧ (s.joinTurning h).frame = s.frame ∧ (s.joinTurning h).shaft = s.shaft ∧
    (s.joinTurning h).gaps = s.gaps ∧ (s.joinTurning h).link = s.link ∧ (s.joinTurning h).cfg = s.cfg ∧
    (s.joinTurning h).free = s.free ∧ (s.joinTurning h).pending = s.pending := by
  simp only [State.joinTurning]
  (repeat' split) <;> simp

@[simp] theorem State.waitToJoin_keeps (s : State) (h : Nat) : (s.waitToJoin h).run = s.run ∧ (s.waitToJoin
    h).store = s.store ∧ (s.waitToJoin h).gov = s.gov ∧ (s.waitToJoin h).frame = s.frame ∧ (s.waitToJoin
    h).shaft = s.shaft ∧ (s.waitToJoin h).bus = s.bus ∧ (s.waitToJoin h).change = s.change ∧ (s.waitToJoin
    h).gaps = s.gaps ∧ (s.waitToJoin h).link = s.link ∧ (s.waitToJoin h).cfg = s.cfg ∧ (s.waitToJoin h).free =
    s.free ∧ (s.waitToJoin h).pending = s.pending := by
  simp [State.waitToJoin]

@[simp] theorem State.rejoin_keeps (s : State) (h : Nat) : (s.rejoin h).frame = s.frame ∧ (s.rejoin h).shaft
    = s.shaft ∧ (s.rejoin h).cfg = s.cfg ∧ (s.rejoin h).free = s.free ∧ (s.rejoin h).pending = s.pending ∧
    (s.rejoin h).link.bare = s.link.bare ∧ (s.rejoin h).link.replies = s.link.replies ∧ (s.rejoin
    h).link.resetBy = s.link.resetBy := by
  unfold State.rejoin
  (repeat' split) <;> simp

@[simp] theorem State.afterRepair_keeps (s : State) (h : Nat) (cleared : Option PendingFault) :
    (s.afterRepair h cleared).frame = s.frame ∧ (s.afterRepair h cleared).shaft = s.shaft ∧ (s.afterRepair h
    cleared).cfg = s.cfg ∧ (s.afterRepair h cleared).free = s.free ∧ (s.afterRepair h cleared).pending =
    s.pending ∧ (s.afterRepair h cleared).link.bare = s.link.bare ∧ (s.afterRepair h cleared).link.replies =
    s.link.replies ∧ (s.afterRepair h cleared).link.resetBy = s.link.resetBy := by
  unfold State.afterRepair
  (repeat' split) <;> simp

@[simp] theorem State.repair_keeps (s : State) (h : Nat) : (s.repair h).cfg = s.cfg ∧ (s.repair h).free = s.free ∧ (s.repair h).pending = s.pending ∧
    (s.repair h).link.bare = s.link.bare ∧ (s.repair h).link.replies = s.link.replies ∧ (s.repair
    h).link.resetBy = s.link.resetBy := by
  simp [State.repair]

@[simp] theorem State.updateArmed_keeps (s : State) (h : Nat) (r : StatusRecord) : (s.updateArmed h r).run =
    s.run ∧ (s.updateArmed h r).store = s.store ∧ (s.updateArmed h r).gov = s.gov ∧ (s.updateArmed h r).frame =
    s.frame ∧ (s.updateArmed h r).shaft = s.shaft ∧ (s.updateArmed h r).bus = s.bus ∧ (s.updateArmed h r).change
    = s.change ∧ (s.updateArmed h r).gaps = s.gaps ∧ (s.updateArmed h r).link = s.link ∧ (s.updateArmed h r).cfg
    = s.cfg ∧ (s.updateArmed h r).free = s.free ∧ (s.updateArmed h r).pending = s.pending := by
  simp [State.updateArmed]

@[simp] theorem State.updateCountdown_keeps (s : State) (h : Nat) (r : StatusRecord) : (s.updateCountdown h
    r).cfg = s.cfg ∧ (s.updateCountdown h r).free = s.free ∧ (s.updateCountdown h r).pending = s.pending ∧
    (s.updateCountdown h r).link.bare = s.link.bare ∧ (s.updateCountdown h r).link.replies = s.link.replies ∧
    (s.updateCountdown h r).link.resetBy = s.link.resetBy := by
  simp only [State.updateCountdown]
  (repeat' split) <;> simp

@[simp] theorem State.judgeBobbin_keeps (s : State) (h : Nat) : (s.judgeBobbin h).run = s.run ∧
    (s.judgeBobbin h).store = s.store ∧ (s.judgeBobbin h).gov = s.gov ∧ (s.judgeBobbin h).frame = s.frame ∧
    (s.judgeBobbin h).shaft = s.shaft ∧ (s.judgeBobbin h).bus = s.bus ∧ (s.judgeBobbin h).change = s.change ∧
    (s.judgeBobbin h).gaps = s.gaps ∧ (s.judgeBobbin h).cfg = s.cfg ∧ (s.judgeBobbin h).free = s.free ∧
    (s.judgeBobbin h).pending = s.pending ∧ (s.judgeBobbin h).link.bare = s.link.bare ∧ (s.judgeBobbin
    h).link.replies = s.link.replies ∧ (s.judgeBobbin h).link.resetBy = s.link.resetBy := by
  simp only [State.judgeBobbin]
  (repeat' split) <;> simp

@[simp] theorem State.countBobbin_keeps (s : State) (h : Nat) (r : StatusRecord) : (s.countBobbin h r).cfg =
    s.cfg ∧ (s.countBobbin h r).free = s.free ∧ (s.countBobbin h r).pending = s.pending ∧ (s.countBobbin h
    r).link.bare = s.link.bare ∧ (s.countBobbin h r).link.replies = s.link.replies ∧ (s.countBobbin h
    r).link.resetBy = s.link.resetBy := by
  unfold State.countBobbin
  split <;> simp <;> split <;> simp

@[simp] theorem State.senseBobbin_keeps (s : State) (h : Nat) (r : StatusRecord) : (s.senseBobbin h r).run =
    s.run ∧ (s.senseBobbin h r).store = s.store ∧ (s.senseBobbin h r).gov = s.gov ∧ (s.senseBobbin h r).frame =
    s.frame ∧ (s.senseBobbin h r).shaft = s.shaft ∧ (s.senseBobbin h r).bus = s.bus ∧ (s.senseBobbin h r).change
    = s.change ∧ (s.senseBobbin h r).gaps = s.gaps ∧ (s.senseBobbin h r).cfg = s.cfg ∧ (s.senseBobbin h r).free
    = s.free ∧ (s.senseBobbin h r).pending = s.pending ∧ (s.senseBobbin h r).link.bare = s.link.bare ∧
    (s.senseBobbin h r).link.replies = s.link.replies ∧ (s.senseBobbin h r).link.resetBy = s.link.resetBy := by
  unfold State.senseBobbin
  split <;> simp

@[simp] theorem State.judgeTension_keeps (s : State) (h : Nat) (r : StatusRecord) : (s.judgeTension h r).run
    = s.run ∧ (s.judgeTension h r).store = s.store ∧ (s.judgeTension h r).frame = s.frame ∧ (s.judgeTension h
    r).shaft = s.shaft ∧ (s.judgeTension h r).bus = s.bus ∧ (s.judgeTension h r).change = s.change ∧
    (s.judgeTension h r).gaps = s.gaps ∧ (s.judgeTension h r).cfg = s.cfg ∧ (s.judgeTension h r).free = s.free ∧
    (s.judgeTension h r).pending = s.pending ∧ (s.judgeTension h r).link.bare = s.link.bare ∧ (s.judgeTension h
    r).link.replies = s.link.replies ∧ (s.judgeTension h r).link.resetBy = s.link.resetBy := by
  simp only [State.judgeTension]
  (repeat' split) <;> simp

@[simp] theorem State.watchRecord_keeps (s : State) (h : Nat) (r : StatusRecord) : (s.watchRecord h r).cfg =
    s.cfg ∧ (s.watchRecord h r).free = s.free ∧ (s.watchRecord h r).pending = s.pending ∧ (s.watchRecord h
    r).link.bare = s.link.bare ∧ (s.watchRecord h r).link.replies = s.link.replies ∧ (s.watchRecord h
    r).link.resetBy = s.link.resetBy := by
  unfold State.watchRecord
  split <;> simp

end Sys2Proof.Machine
end

