-- ==== Sys2Proof/Laws/KeepsWorks.lean ====
section
/-!
SUPPORT. What the operations of the thread change and of the sequences leave as it was.
-/

namespace Sys2Proof.Machine

/-! ## Change -/

@[simp] theorem State.clearWork_keeps (s : State) : (s.clearWork).run = s.run ∧ (s.clearWork).store =
    s.store ∧ (s.clearWork).gov = s.gov ∧ (s.clearWork).frame = s.frame ∧ (s.clearWork).shaft = s.shaft ∧
    (s.clearWork).bus = s.bus ∧ (s.clearWork).monitor = s.monitor ∧ (s.clearWork).gaps = s.gaps ∧
    (s.clearWork).link = s.link ∧ (s.clearWork).cfg = s.cfg ∧ (s.clearWork).free = s.free ∧
    (s.clearWork).pending = s.pending := by
  simp [State.clearWork]

@[simp] theorem State.beginTrim_keeps (s : State) (h : Nat) : (s.beginTrim h).store = s.store ∧ (s.beginTrim
    h).gov = s.gov ∧ (s.beginTrim h).frame = s.frame ∧ (s.beginTrim h).shaft = s.shaft ∧ (s.beginTrim h).monitor
    = s.monitor ∧ (s.beginTrim h).gaps = s.gaps ∧ (s.beginTrim h).link = s.link ∧ (s.beginTrim h).cfg = s.cfg ∧
    (s.beginTrim h).free = s.free ∧ (s.beginTrim h).pending = s.pending := by
  simp [State.beginTrim]

@[simp] theorem State.trimHeads_keeps (s : State) (heads : List Nat) : (s.trimHeads heads).store = s.store ∧
    (s.trimHeads heads).gov = s.gov ∧ (s.trimHeads heads).frame = s.frame ∧ (s.trimHeads heads).shaft = s.shaft
    ∧ (s.trimHeads heads).monitor = s.monitor ∧ (s.trimHeads heads).gaps = s.gaps ∧ (s.trimHeads heads).link =
    s.link ∧ (s.trimHeads heads).cfg = s.cfg ∧ (s.trimHeads heads).free = s.free ∧ (s.trimHeads heads).pending =
    s.pending := by
  simp [State.trimHeads]

@[simp] theorem State.trimFailed_keeps (s : State) (h : Nat) : (s.trimFailed h).cfg = s.cfg ∧ (s.trimFailed
    h).free = s.free ∧ (s.trimFailed h).pending = s.pending ∧ (s.trimFailed h).link.bare = s.link.bare ∧
    (s.trimFailed h).link.replies = s.link.replies ∧ (s.trimFailed h).link.resetBy = s.link.resetBy := by
  unfold State.trimFailed
  split <;> simp

@[simp] theorem State.trimRecord_keeps (s : State) (h : Nat) (r : StatusRecord) : (s.trimRecord h r).cfg =
    s.cfg ∧ (s.trimRecord h r).free = s.free ∧ (s.trimRecord h r).pending = s.pending ∧ (s.trimRecord h
    r).link.bare = s.link.bare ∧ (s.trimRecord h r).link.replies = s.link.replies ∧ (s.trimRecord h
    r).link.resetBy = s.link.resetBy := by
  unfold State.trimRecord
  (repeat' split) <;> simp

@[simp] theorem State.caseFailed_keeps (s : State) (h : Nat) : (s.caseFailed h).cfg = s.cfg ∧ (s.caseFailed
    h).free = s.free ∧ (s.caseFailed h).pending = s.pending ∧ (s.caseFailed h).link.bare = s.link.bare ∧
    (s.caseFailed h).link.replies = s.link.replies ∧ (s.caseFailed h).link.resetBy = s.link.resetBy := by
  unfold State.caseFailed
  split <;> simp

@[simp] theorem State.caseMoveFrom_keeps (s : State) (h p : Nat) : (s.caseMoveFrom h p).store = s.store ∧
    (s.caseMoveFrom h p).gov = s.gov ∧ (s.caseMoveFrom h p).frame = s.frame ∧ (s.caseMoveFrom h p).shaft =
    s.shaft ∧ (s.caseMoveFrom h p).monitor = s.monitor ∧ (s.caseMoveFrom h p).gaps = s.gaps ∧ (s.caseMoveFrom h
    p).link = s.link ∧ (s.caseMoveFrom h p).cfg = s.cfg ∧ (s.caseMoveFrom h p).free = s.free ∧ (s.caseMoveFrom h
    p).pending = s.pending := by
  simp [State.caseMoveFrom]

@[simp] theorem State.leftIdle_keeps (s : State) (h : Nat) : (s.leftIdle h).store = s.store ∧ (s.leftIdle h).gov =
    s.gov ∧ (s.leftIdle h).frame = s.frame ∧ (s.leftIdle h).shaft = s.shaft ∧ (s.leftIdle h).bus = s.bus ∧ (s.leftIdle
    h).change = s.change ∧ (s.leftIdle h).monitor = s.monitor ∧ (s.leftIdle h).gaps = s.gaps ∧ (s.leftIdle h).link =
    s.link ∧ (s.leftIdle h).cfg = s.cfg ∧ (s.leftIdle h).free = s.free ∧ (s.leftIdle h).pending = s.pending := by
  unfold State.leftIdle
  split
  · rename_i hc
    simp [State.setHeadState, State.engagedHead, hc.2, HeadState.engaged]
  · simp

@[simp] theorem State.arrived_keeps (s : State) (h : Nat) : (s.arrived h).store = s.store ∧ (s.arrived
    h).gov = s.gov ∧ (s.arrived h).frame = s.frame ∧ (s.arrived h).shaft = s.shaft ∧ (s.arrived h).monitor =
    s.monitor ∧ (s.arrived h).gaps = s.gaps ∧ (s.arrived h).link = s.link ∧ (s.arrived h).cfg = s.cfg ∧
    (s.arrived h).free = s.free ∧ (s.arrived h).pending = s.pending := by
  unfold State.arrived
  split <;> simp

@[simp] theorem State.caseMove_keeps (s : State) (h : Nat) : (s.caseMove h).cfg = s.cfg ∧ (s.caseMove
    h).free = s.free ∧ (s.caseMove h).pending = s.pending ∧ (s.caseMove h).link.bare = s.link.bare ∧ (s.caseMove
    h).link.replies = s.link.replies ∧ (s.caseMove h).link.resetBy = s.link.resetBy := by
  unfold State.caseMove
  (repeat' split) <;> simp

@[simp] theorem State.caseRecord_keeps (s : State) (h : Nat) (r : StatusRecord) : (s.caseRecord h r).cfg =
    s.cfg ∧ (s.caseRecord h r).free = s.free ∧ (s.caseRecord h r).pending = s.pending ∧ (s.caseRecord h
    r).link.bare = s.link.bare ∧ (s.caseRecord h r).link.replies = s.link.replies ∧ (s.caseRecord h
    r).link.resetBy = s.link.resetBy := by
  unfold State.caseRecord
  (repeat' split) <;> simp

@[simp] theorem State.clearedRecord_keeps (s : State) (h : Nat) (r : StatusRecord) : (s.clearedRecord h
    r).cfg = s.cfg ∧ (s.clearedRecord h r).free = s.free ∧ (s.clearedRecord h r).pending = s.pending ∧
    (s.clearedRecord h r).link.bare = s.link.bare ∧ (s.clearedRecord h r).link.replies = s.link.replies ∧
    (s.clearedRecord h r).link.resetBy = s.link.resetBy := by
  simp only [State.clearedRecord]
  (repeat' split) <;> simp

@[simp] theorem State.changeRecord_keeps (s : State) (h : Nat) (r : StatusRecord) (queued : Bool) :
    (s.changeRecord h r queued).cfg = s.cfg ∧ (s.changeRecord h r queued).free = s.free ∧ (s.changeRecord h r
    queued).pending = s.pending ∧ (s.changeRecord h r queued).link.bare = s.link.bare ∧ (s.changeRecord h r
    queued).link.replies = s.link.replies ∧ (s.changeRecord h r queued).link.resetBy = s.link.resetBy := by
  simp only [State.changeRecord]
  (repeat' split) <;> simp

@[simp] theorem State.workAfterOrder_keeps (s : State) (h : Nat) (o : EngageOrder) : (s.workAfterOrder h
    o).cfg = s.cfg ∧ (s.workAfterOrder h o).free = s.free ∧ (s.workAfterOrder h o).pending = s.pending ∧
    (s.workAfterOrder h o).link.bare = s.link.bare ∧ (s.workAfterOrder h o).link.replies = s.link.replies ∧
    (s.workAfterOrder h o).link.resetBy = s.link.resetBy := by
  unfold State.workAfterOrder
  (repeat' split) <;> simp

@[simp] theorem State.takeEffect_keeps (s : State) (h : Nat) (o : EngageOrder) : (s.takeEffect h o).cfg =
    s.cfg ∧ (s.takeEffect h o).free = s.free ∧ (s.takeEffect h o).pending = s.pending ∧ (s.takeEffect h
    o).link.bare = s.link.bare ∧ (s.takeEffect h o).link.replies = s.link.replies ∧ (s.takeEffect h
    o).link.resetBy = s.link.resetBy := by
  simp [State.takeEffect]

@[simp] theorem State.acknowledged_keeps (s : State) (h : Nat) (w : BusWork) : (s.acknowledged h w).cfg =
    s.cfg ∧ (s.acknowledged h w).free = s.free ∧ (s.acknowledged h w).pending = s.pending ∧ (s.acknowledged h
    w).link.bare = s.link.bare ∧ (s.acknowledged h w).link.replies = s.link.replies ∧ (s.acknowledged h
    w).link.resetBy = s.link.resetBy := by
  unfold State.acknowledged
  (repeat' split) <;> simp

@[simp] theorem State.fixParticipants_keeps (s : State) (heads : List Nat) (slot : Nat) : (s.fixParticipants
    heads slot).run = s.run ∧ (s.fixParticipants heads slot).store = s.store ∧ (s.fixParticipants heads
    slot).gov = s.gov ∧ (s.fixParticipants heads slot).frame = s.frame ∧ (s.fixParticipants heads slot).shaft =
    s.shaft ∧ (s.fixParticipants heads slot).bus = s.bus ∧ (s.fixParticipants heads slot).monitor = s.monitor ∧
    (s.fixParticipants heads slot).gaps = s.gaps ∧ (s.fixParticipants heads slot).link = s.link ∧
    (s.fixParticipants heads slot).cfg = s.cfg ∧ (s.fixParticipants heads slot).free = s.free ∧
    (s.fixParticipants heads slot).pending = s.pending := by
  simp [State.fixParticipants]

@[simp] theorem State.liftThenMove_keeps (s : State) (h : Nat) : (s.liftThenMove h).cfg = s.cfg ∧
    (s.liftThenMove h).free = s.free ∧ (s.liftThenMove h).pending = s.pending ∧ (s.liftThenMove h).link.bare =
    s.link.bare ∧ (s.liftThenMove h).link.replies = s.link.replies ∧ (s.liftThenMove h).link.resetBy =
    s.link.resetBy := by
  unfold State.liftThenMove
  split <;> simp

@[simp] theorem State.caseStepHead_keeps (s : State) (h : Nat) : (s.caseStepHead h).cfg = s.cfg ∧
    (s.caseStepHead h).free = s.free ∧ (s.caseStepHead h).pending = s.pending ∧ (s.caseStepHead h).link.bare =
    s.link.bare ∧ (s.caseStepHead h).link.replies = s.link.replies ∧ (s.caseStepHead h).link.resetBy =
    s.link.resetBy := by
  simp only [State.caseStepHead]
  (repeat' split) <;> simp

@[simp] theorem State.beginCaseStep_keeps (s : State) : (s.beginCaseStep).cfg = s.cfg ∧
    (s.beginCaseStep).free = s.free ∧ (s.beginCaseStep).pending = s.pending ∧ (s.beginCaseStep).link.bare =
    s.link.bare ∧ (s.beginCaseStep).link.replies = s.link.replies ∧ (s.beginCaseStep).link.resetBy =
    s.link.resetBy := by
  simp [State.beginCaseStep]

@[simp] theorem State.beginColour_keeps (s : State) (slot : Nat) : (s.beginColour slot).cfg = s.cfg ∧
    (s.beginColour slot).free = s.free ∧ (s.beginColour slot).pending = s.pending ∧ (s.beginColour
    slot).link.bare = s.link.bare ∧ (s.beginColour slot).link.replies = s.link.replies ∧ (s.beginColour
    slot).link.resetBy = s.link.resetBy := by
  simp only [State.beginColour]
  (repeat' split) <;> simp

@[simp] theorem State.passChange_keeps (s : State) : (s.passChange).gov = s.gov ∧ (s.passChange).frame =
    s.frame ∧ (s.passChange).shaft = s.shaft ∧ (s.passChange).bus = s.bus ∧ (s.passChange).change = s.change ∧
    (s.passChange).gaps = s.gaps ∧ (s.passChange).cfg = s.cfg ∧ (s.passChange).free = s.free ∧
    (s.passChange).pending = s.pending ∧ (s.passChange).link.bare = s.link.bare ∧ (s.passChange).link.replies =
    s.link.replies ∧ (s.passChange).link.resetBy = s.link.resetBy := by
  simp only [State.passChange]
  (repeat' split) <;> simp

@[simp] theorem State.colourDone_keeps (s : State) : (s.colourDone).gov = s.gov ∧ (s.colourDone).frame =
    s.frame ∧ (s.colourDone).shaft = s.shaft ∧ (s.colourDone).bus = s.bus ∧ (s.colourDone).gaps = s.gaps ∧
    (s.colourDone).cfg = s.cfg ∧ (s.colourDone).free = s.free ∧ (s.colourDone).pending = s.pending ∧
    (s.colourDone).link.bare = s.link.bare ∧ (s.colourDone).link.replies = s.link.replies ∧
    (s.colourDone).link.resetBy = s.link.resetBy := by
  simp [State.colourDone]

@[simp] theorem State.takeTrim_keeps (s : State) : (s.takeTrim).store = s.store ∧ (s.takeTrim).gov = s.gov ∧
    (s.takeTrim).frame = s.frame ∧ (s.takeTrim).shaft = s.shaft ∧ (s.takeTrim).monitor = s.monitor ∧
    (s.takeTrim).gaps = s.gaps ∧ (s.takeTrim).link = s.link ∧ (s.takeTrim).cfg = s.cfg ∧ (s.takeTrim).free =
    s.free ∧ (s.takeTrim).pending = s.pending := by
  simp [State.takeTrim]

@[simp] theorem State.trimDone_keeps (s : State) : (s.trimDone).gov = s.gov ∧ (s.trimDone).frame = s.frame ∧
    (s.trimDone).shaft = s.shaft ∧ (s.trimDone).bus = s.bus ∧ (s.trimDone).gaps = s.gaps ∧ (s.trimDone).cfg =
    s.cfg ∧ (s.trimDone).free = s.free ∧ (s.trimDone).pending = s.pending ∧ (s.trimDone).link.bare = s.link.bare
    ∧ (s.trimDone).link.replies = s.link.replies ∧ (s.trimDone).link.resetBy = s.link.resetBy := by
  simp [State.trimDone]

@[simp] theorem State.beginAlign_keeps (s : State) : (s.beginAlign).cfg = s.cfg ∧ (s.beginAlign).free =
    s.free ∧ (s.beginAlign).pending = s.pending ∧ (s.beginAlign).link.bare = s.link.bare ∧
    (s.beginAlign).link.replies = s.link.replies ∧ (s.beginAlign).link.resetBy = s.link.resetBy := by
  simp only [State.beginAlign]
  (repeat' split) <;> simp

@[simp] theorem State.beginAlignOne_keeps (s : State) (h slot : Nat) : (s.beginAlignOne h slot).cfg = s.cfg
    ∧ (s.beginAlignOne h slot).free = s.free ∧ (s.beginAlignOne h slot).pending = s.pending ∧ (s.beginAlignOne h
    slot).link.bare = s.link.bare ∧ (s.beginAlignOne h slot).link.replies = s.link.replies ∧ (s.beginAlignOne h
    slot).link.resetBy = s.link.resetBy := by
  simp [State.beginAlignOne]

@[simp] theorem State.trimExpired_keeps (s : State) (h : Nat) : (s.trimExpired h).cfg = s.cfg ∧
    (s.trimExpired h).free = s.free ∧ (s.trimExpired h).pending = s.pending ∧ (s.trimExpired h).link.bare =
    s.link.bare ∧ (s.trimExpired h).link.replies = s.link.replies ∧ (s.trimExpired h).link.resetBy =
    s.link.resetBy := by
  unfold State.trimExpired
  split <;> simp

@[simp] theorem State.caseExpired_keeps (s : State) (h : Nat) : (s.caseExpired h).cfg = s.cfg ∧
    (s.caseExpired h).free = s.free ∧ (s.caseExpired h).pending = s.pending ∧ (s.caseExpired h).link.bare =
    s.link.bare ∧ (s.caseExpired h).link.replies = s.link.replies ∧ (s.caseExpired h).link.resetBy =
    s.link.resetBy := by
  unfold State.caseExpired
  split <;> simp

/-! ## Sequence -/

@[simp] theorem State.passUpTo_keeps (s : State) (n : Nat) : (s.passUpTo n).gov = s.gov ∧ (s.passUpTo
    n).frame = s.frame ∧ (s.passUpTo n).shaft = s.shaft ∧ (s.passUpTo n).bus = s.bus ∧ (s.passUpTo n).change =
    s.change ∧ (s.passUpTo n).monitor = s.monitor ∧ (s.passUpTo n).gaps = s.gaps ∧ (s.passUpTo n).cfg = s.cfg ∧
    (s.passUpTo n).free = s.free ∧ (s.passUpTo n).pending = s.pending ∧ (s.passUpTo n).link.bare = s.link.bare ∧
    (s.passUpTo n).link.replies = s.link.replies ∧ (s.passUpTo n).link.resetBy = s.link.resetBy := by
  induction n generalizing s with
  | zero => simp [State.passUpTo]
  | succ n ih =>
    unfold State.passUpTo
    split
    · simp
    · split
      · split
        · simp [ih s.advanceCursor]
        · simp
      · simp

@[simp] theorem State.passEffects_keeps (s : State) : (s.passEffects).gov = s.gov ∧ (s.passEffects).frame =
    s.frame ∧ (s.passEffects).shaft = s.shaft ∧ (s.passEffects).bus = s.bus ∧ (s.passEffects).change = s.change
    ∧ (s.passEffects).monitor = s.monitor ∧ (s.passEffects).gaps = s.gaps ∧ (s.passEffects).cfg = s.cfg ∧
    (s.passEffects).free = s.free ∧ (s.passEffects).pending = s.pending ∧ (s.passEffects).link.bare =
    s.link.bare ∧ (s.passEffects).link.replies = s.link.replies ∧ (s.passEffects).link.resetBy = s.link.resetBy
    := by
  simp [State.passEffects]

@[simp] theorem State.beginRecord_keeps (s : State) (r : DesignRecord) : (s.beginRecord r).store = s.store ∧
    (s.beginRecord r).bus = s.bus ∧ (s.beginRecord r).change = s.change ∧ (s.beginRecord r).monitor = s.monitor
    ∧ (s.beginRecord r).gaps = s.gaps ∧ (s.beginRecord r).link = s.link ∧ (s.beginRecord r).cfg = s.cfg ∧
    (s.beginRecord r).free = s.free ∧ (s.beginRecord r).pending = s.pending := by
  unfold State.beginRecord
  split <;> simp <;> split <;> simp

@[simp] theorem State.beginFromRest_keeps (s : State) (r : DesignRecord) : (s.beginFromRest r).store = s.store ∧
    (s.beginFromRest r).bus = s.bus ∧ (s.beginFromRest r).change = s.change ∧ (s.beginFromRest r).monitor = s.monitor
    ∧ (s.beginFromRest r).gaps = s.gaps ∧ (s.beginFromRest r).link = s.link ∧ (s.beginFromRest r).cfg = s.cfg ∧
    (s.beginFromRest r).free = s.free ∧ (s.beginFromRest r).pending = s.pending := by
  simp [State.beginFromRest]

@[simp] theorem State.passStop_keeps (s : State) : (s.passStop).gov = s.gov ∧ (s.passStop).frame = s.frame ∧
    (s.passStop).shaft = s.shaft ∧ (s.passStop).bus = s.bus ∧ (s.passStop).change = s.change ∧
    (s.passStop).monitor = s.monitor ∧ (s.passStop).gaps = s.gaps ∧ (s.passStop).cfg = s.cfg ∧ (s.passStop).free
    = s.free ∧ (s.passStop).pending = s.pending ∧ (s.passStop).link.bare = s.link.bare ∧
    (s.passStop).link.replies = s.link.replies ∧ (s.passStop).link.resetBy = s.link.resetBy := by
  simp [State.passStop]

@[simp] theorem State.passMark_keeps (s : State) (label : Nat) : (s.passMark label).gov = s.gov ∧
    (s.passMark label).frame = s.frame ∧ (s.passMark label).shaft = s.shaft ∧ (s.passMark label).bus = s.bus ∧
    (s.passMark label).change = s.change ∧ (s.passMark label).monitor = s.monitor ∧ (s.passMark label).gaps =
    s.gaps ∧ (s.passMark label).cfg = s.cfg ∧ (s.passMark label).free = s.free ∧ (s.passMark label).pending =
    s.pending ∧ (s.passMark label).link.bare = s.link.bare ∧ (s.passMark label).link.replies = s.link.replies ∧
    (s.passMark label).link.resetBy = s.link.resetBy := by
  simp [State.passMark]

@[simp] theorem State.starve_keeps (s : State) : (s.starve).frame = s.frame ∧ (s.starve).shaft = s.shaft ∧
    (s.starve).cfg = s.cfg ∧ (s.starve).free = s.free ∧ (s.starve).pending = s.pending
    ∧ (s.starve).link.bare = s.link.bare ∧ (s.starve).link.replies = s.link.replies ∧ (s.starve).link.resetBy =
    s.link.resetBy := by
  unfold State.starve
  split <;> simp

@[simp] theorem State.goOn_keeps (s : State) : (s.goOn).frame = s.frame ∧ (s.goOn).shaft = s.shaft ∧
    (s.goOn).cfg = s.cfg ∧ (s.goOn).free = s.free ∧ (s.goOn).pending = s.pending ∧
    (s.goOn).link.bare = s.link.bare ∧ (s.goOn).link.replies = s.link.replies ∧ (s.goOn).link.resetBy =
    s.link.resetBy := by
  unfold State.goOn
  split <;> simp

@[simp] theorem State.afterJoins_keeps (s : State) (after : AfterJoin) : (s.afterJoins after).frame =
    s.frame ∧ (s.afterJoins after).shaft = s.shaft ∧ (s.afterJoins after).cfg
    = s.cfg ∧ (s.afterJoins after).free = s.free ∧ (s.afterJoins after).pending = s.pending ∧ (s.afterJoins
    after).link.bare = s.link.bare ∧ (s.afterJoins after).link.replies = s.link.replies ∧ (s.afterJoins
    after).link.resetBy = s.link.resetBy := by
  unfold State.afterJoins
  (repeat' split) <;> simp

@[simp] theorem State.aboutToRun_keeps (s : State) (after : AfterJoin) : (s.aboutToRun after).frame =
    s.frame ∧ (s.aboutToRun after).shaft = s.shaft ∧ (s.aboutToRun after).cfg
    = s.cfg ∧ (s.aboutToRun after).free = s.free ∧ (s.aboutToRun after).pending = s.pending ∧ (s.aboutToRun
    after).link.bare = s.link.bare ∧ (s.aboutToRun after).link.replies = s.link.replies ∧ (s.aboutToRun
    after).link.resetBy = s.link.resetBy := by
  unfold State.aboutToRun
  split <;> simp

@[simp] theorem State.afterChange_keeps (s : State) (colour : Bool) : (s.afterChange colour).frame = s.frame
    ∧ (s.afterChange colour).shaft = s.shaft ∧ (s.afterChange colour).cfg =
    s.cfg ∧ (s.afterChange colour).free = s.free ∧ (s.afterChange colour).pending = s.pending ∧ (s.afterChange
    colour).link.bare = s.link.bare ∧ (s.afterChange colour).link.replies = s.link.replies ∧ (s.afterChange
    colour).link.resetBy = s.link.resetBy := by
  unfold State.afterChange
  (repeat' split) <;> simp

@[simp] theorem State.actOn_keeps (s : State) : (s.actOn).cfg = s.cfg ∧ (s.actOn).free = s.free ∧
    (s.actOn).pending = s.pending ∧ (s.actOn).link.bare = s.link.bare ∧ (s.actOn).link.replies = s.link.replies
    ∧ (s.actOn).link.resetBy = s.link.resetBy := by
  unfold State.actOn
  (repeat' split) <;> simp

@[simp] theorem State.actAtRest_keeps (s : State) : (s.actAtRest).cfg = s.cfg ∧ (s.actAtRest).free = s.free
    ∧ (s.actAtRest).pending = s.pending ∧ (s.actAtRest).link.bare = s.link.bare ∧ (s.actAtRest).link.replies =
    s.link.replies ∧ (s.actAtRest).link.resetBy = s.link.resetBy := by
  unfold State.actAtRest
  split <;> simp

@[simp] theorem State.stoppingEnd_keeps (s : State) : (s.stoppingEnd).frame = s.frame ∧
    (s.stoppingEnd).shaft = s.shaft ∧ (s.stoppingEnd).cfg = s.cfg ∧ (s.stoppingEnd).free = s.free ∧
    (s.stoppingEnd).pending = s.pending ∧ (s.stoppingEnd).link.bare = s.link.bare ∧ (s.stoppingEnd).link.replies
    = s.link.replies ∧ (s.stoppingEnd).link.resetBy = s.link.resetBy := by
  unfold State.stoppingEnd
  (repeat' split) <;> simp

theorem State.advanceRun_keeps (s : State) (u : State) (h : s.advanceRun = some u) : u.cfg = s.cfg ∧ u.free
    = s.free ∧ u.pending = s.pending ∧ u.link.bare = s.link.bare ∧ u.link.replies = s.link.replies ∧
    u.link.resetBy = s.link.resetBy := by
  unfold State.advanceRun at h
  (repeat' split at h) <;> simp at h <;> (try subst h) <;> simp

@[simp] theorem State.stepTravel_keeps (s : State) : (s.stepTravel).cfg = s.cfg ∧ (s.stepTravel).free =
    s.free ∧ (s.stepTravel).pending = s.pending ∧ (s.stepTravel).link.bare = s.link.bare ∧
    (s.stepTravel).link.replies = s.link.replies ∧ (s.stepTravel).link.resetBy = s.link.resetBy := by
  unfold State.stepTravel
  split <;> simp <;> split <;> simp

@[simp] theorem State.stepReference_keeps (s : State) : (s.stepReference).store = s.store ∧
    (s.stepReference).gov = s.gov ∧ (s.stepReference).frame = s.frame ∧ (s.stepReference).change = s.change ∧
    (s.stepReference).monitor = s.monitor ∧ (s.stepReference).gaps = s.gaps ∧ (s.stepReference).link = s.link ∧
    (s.stepReference).cfg = s.cfg ∧ (s.stepReference).free = s.free ∧ (s.stepReference).pending = s.pending :=
    by
  unfold State.stepReference
  (repeat' split) <;> simp

@[simp] theorem State.stepAlign_keeps (s : State) : (s.stepAlign).cfg = s.cfg ∧ (s.stepAlign).free = s.free
    ∧ (s.stepAlign).pending = s.pending ∧ (s.stepAlign).link.bare = s.link.bare ∧ (s.stepAlign).link.replies =
    s.link.replies ∧ (s.stepAlign).link.resetBy = s.link.resetBy := by
  unfold State.stepAlign
  split <;> simp

@[simp] theorem State.engageMain_keeps (s : State) (h : Nat) : (s.engageMain h).store = s.store ∧
    (s.engageMain h).frame = s.frame ∧ (s.engageMain h).shaft = s.shaft ∧ (s.engageMain h).gaps = s.gaps ∧
    (s.engageMain h).cfg = s.cfg ∧ (s.engageMain h).free = s.free ∧ (s.engageMain h).pending = s.pending ∧
    (s.engageMain h).link.bare = s.link.bare ∧ (s.engageMain h).link.replies = s.link.replies ∧ (s.engageMain
    h).link.resetBy = s.link.resetBy := by
  simp only [State.engageMain]
  (repeat' split) <;> simp

@[simp] theorem State.engagePatch_keeps (s : State) (h : Nat) : (s.engagePatch h).store = s.store ∧
    (s.engagePatch h).frame = s.frame ∧ (s.engagePatch h).shaft = s.shaft ∧ (s.engagePatch h).gaps = s.gaps ∧
    (s.engagePatch h).cfg = s.cfg ∧ (s.engagePatch h).free = s.free ∧ (s.engagePatch h).pending = s.pending ∧
    (s.engagePatch h).link.bare = s.link.bare ∧ (s.engagePatch h).link.replies = s.link.replies ∧ (s.engagePatch
    h).link.resetBy = s.link.resetBy := by
  simp only [State.engagePatch]
  (repeat' split) <;> simp

@[simp] theorem State.stepEngage_keeps (s : State) : (s.stepEngage).store = s.store ∧ (s.stepEngage).frame =
    s.frame ∧ (s.stepEngage).shaft = s.shaft ∧ (s.stepEngage).gaps = s.gaps ∧ (s.stepEngage).cfg = s.cfg ∧
    (s.stepEngage).free = s.free ∧ (s.stepEngage).pending = s.pending ∧ (s.stepEngage).link.bare = s.link.bare ∧
    (s.stepEngage).link.replies = s.link.replies ∧ (s.stepEngage).link.resetBy = s.link.resetBy := by
  simp only [State.stepEngage]
  (repeat' split) <;> simp

@[simp] theorem State.stepRun_keeps (s : State) : (s.stepRun).store = s.store ∧ (s.stepRun).gov = s.gov ∧
    (s.stepRun).frame = s.frame ∧ (s.stepRun).shaft = s.shaft ∧ (s.stepRun).bus = s.bus ∧ (s.stepRun).change =
    s.change ∧ (s.stepRun).gaps = s.gaps ∧ (s.stepRun).cfg = s.cfg ∧ (s.stepRun).free = s.free ∧
    (s.stepRun).pending = s.pending ∧ (s.stepRun).link.bare = s.link.bare ∧ (s.stepRun).link.replies =
    s.link.replies ∧ (s.stepRun).link.resetBy = s.link.resetBy := by
  simp only [State.stepRun]
  (repeat' split) <;> simp

@[simp] theorem State.pickJoin_keeps (s : State) (h : Nat) (rest : List Nat) (after : AfterJoin) :
    (s.pickJoin h rest after).cfg = s.cfg ∧ (s.pickJoin h rest after).free = s.free ∧ (s.pickJoin h rest
    after).pending = s.pending ∧ (s.pickJoin h rest after).link.bare = s.link.bare ∧ (s.pickJoin h rest
    after).link.replies = s.link.replies ∧ (s.pickJoin h rest after).link.resetBy = s.link.resetBy := by
  simp only [State.pickJoin]
  (repeat' split) <;> simp

theorem State.advanceJoins_keeps (s : State) (todo : List Nat) (phase : JoinPhase) (after : AfterJoin) (u :
    State) (h : s.advanceJoins todo phase after = some u) : u.cfg = s.cfg ∧ u.free = s.free ∧ u.pending =
    s.pending ∧ u.link.bare = s.link.bare ∧ u.link.replies = s.link.replies ∧ u.link.resetBy = s.link.resetBy :=
    by
  simp only [State.advanceJoins] at h
  (repeat' split at h) <;> simp at h <;> (try subst h) <;> simp

@[simp] theorem State.gapSewn_keeps (s : State) (h : Nat) : (s.gapSewn h).gov = s.gov ∧ (s.gapSewn h).frame
    = s.frame ∧ (s.gapSewn h).shaft = s.shaft ∧ (s.gapSewn h).bus = s.bus ∧ (s.gapSewn h).change = s.change ∧
    (s.gapSewn h).monitor = s.monitor ∧ (s.gapSewn h).cfg = s.cfg ∧ (s.gapSewn h).free = s.free ∧ (s.gapSewn
    h).pending = s.pending ∧ (s.gapSewn h).link.bare = s.link.bare ∧ (s.gapSewn h).link.replies = s.link.replies
    ∧ (s.gapSewn h).link.resetBy = s.link.resetBy := by
  simp [State.gapSewn]

@[simp] theorem State.jumpTo_keeps (s : State) (start : Nat) : (s.jumpTo
    start).cfg = s.cfg ∧ (s.jumpTo start).free = s.free ∧ (s.jumpTo start).pending = s.pending ∧ (s.jumpTo
    start).link.bare = s.link.bare ∧ (s.jumpTo start).link.replies = s.link.replies ∧ (s.jumpTo
    start).link.resetBy = s.link.resetBy := by
  simp only [State.jumpTo]
  (repeat' split) <;> simp

@[simp] theorem State.afterEndStops_keeps (s : State) : (s.afterEndStops).cfg = s.cfg ∧
    (s.afterEndStops).free = s.free ∧ (s.afterEndStops).pending = s.pending ∧ (s.afterEndStops).link.bare =
    s.link.bare ∧ (s.afterEndStops).link.replies = s.link.replies ∧ (s.afterEndStops).link.resetBy =
    s.link.resetBy := by
  unfold State.afterEndStops
  (repeat' split) <;> simp

@[simp] theorem State.beginEndStop_keeps (s : State) (h : Nat) : (s.beginEndStop h).frame = s.frame ∧
    (s.beginEndStop h).shaft = s.shaft ∧ (s.beginEndStop h).cfg = s.cfg ∧ (s.beginEndStop h).free = s.free ∧
    (s.beginEndStop h).pending = s.pending ∧ (s.beginEndStop h).link.bare = s.link.bare ∧ (s.beginEndStop
    h).link.replies = s.link.replies ∧ (s.beginEndStop h).link.resetBy = s.link.resetBy := by
  unfold State.beginEndStop
  (repeat' split) <;> simp

@[simp] theorem State.endStopTrimmed_keeps (s : State) (h : Nat) : (s.endStopTrimmed h).gov = s.gov ∧
    (s.endStopTrimmed h).frame = s.frame ∧ (s.endStopTrimmed h).shaft = s.shaft ∧ (s.endStopTrimmed h).monitor =
    s.monitor ∧ (s.endStopTrimmed h).cfg = s.cfg ∧ (s.endStopTrimmed h).free = s.free ∧ (s.endStopTrimmed
    h).pending = s.pending ∧ (s.endStopTrimmed h).link.bare = s.link.bare ∧ (s.endStopTrimmed h).link.replies =
    s.link.replies ∧ (s.endStopTrimmed h).link.resetBy = s.link.resetBy := by
  simp only [State.endStopTrimmed]
  (repeat' split) <;> simp

theorem State.advanceEndStops_keeps (s : State) (phase : EndPhase) (u : State) (h : s.advanceEndStops phase
    = some u) : u.cfg = s.cfg ∧ u.free = s.free ∧ u.pending = s.pending ∧ u.link.bare = s.link.bare ∧
    u.link.replies = s.link.replies ∧ u.link.resetBy = s.link.resetBy := by
  unfold State.advanceEndStops at h
  (repeat' split at h) <;> simp at h <;> (try subst h) <;> simp

@[simp] theorem State.endTravel_keeps (s : State) (stopped : Bool) : (s.endTravel stopped).cfg = s.cfg ∧
    (s.endTravel stopped).pending = s.pending ∧ (s.endTravel stopped).link.bare = s.link.bare := by
  simp only [State.endTravel]
  (repeat' split) <;> simp

theorem State.advanceTravel_keeps (s : State) (t : Travel) (u : State) (h : s.advanceTravel t = some u) :
    u.cfg = s.cfg ∧ u.pending = s.pending ∧ u.link.bare = s.link.bare := by
  simp only [State.advanceTravel] at h
  (repeat' split at h) <;> simp at h <;> (try subst h) <;> simp

theorem State.advanceActivity_keeps (s : State) (u : State) (h : s.advanceActivity = some u) : u.cfg = s.cfg
    ∧ u.free = s.free ∧ u.pending = s.pending ∧ u.link.bare = s.link.bare ∧ u.link.replies = s.link.replies ∧
    u.link.resetBy = s.link.resetBy := by
  simp only [State.advanceActivity] at h
  (repeat' split at h) <;>
    first
    | (cases h; done)
    | exact State.advanceRun_keeps _ _ h
    | exact State.advanceJoins_keeps _ _ _ _ _ h
    | exact State.advanceEndStops_keeps _ _ _ h
    | (cases h; simp)

theorem State.advance_keeps (s : State) (u : State) (h : s.advance = some u) : u.cfg = s.cfg ∧ u.pending =
    s.pending ∧ u.link.bare = s.link.bare := by
  unfold State.advance at h
  (repeat' split at h) <;>
    first
    | (cases h; done)
    | exact State.advanceTravel_keeps _ _ _ h
    | exact ⟨(State.advanceActivity_keeps _ _ h).1, (State.advanceActivity_keeps _ _ h).2.2.1, (State.advanceActivity_keeps _ _ h).2.2.2.1⟩
    | (cases h; simp)

@[simp] theorem State.settle_keeps (n : Nat) (s : State) : (s.settle n).cfg = s.cfg ∧ (s.settle n).pending =
    s.pending ∧ (s.settle n).link.bare = s.link.bare := by
  induction n generalizing s with
  | zero => simp [State.settle]
  | succ n ih =>
    unfold State.settle
    split
    · rename_i t h
      simp [ih t, State.advance_keeps s t h]
    · simp

@[simp] theorem State.finish_keeps (s : State) : (s.finish).cfg = s.cfg ∧ (s.finish).pending = s.pending ∧
    (s.finish).link.bare = s.link.bare := by
  simp [State.finish]

end Sys2Proof.Machine
end

