-- ==== Sys2Proof/Laws/KeepsCommands.lean ====
section
/-!
SUPPORT. What the operations behind the commands leave as it was.
-/

namespace Sys2Proof.Machine

/-! ## Rotation -/

@[simp] theorem State.openInFlight_keeps (s : State) (m : StitchMove) : (s.openInFlight m).run = s.run ∧
    (s.openInFlight m).store = s.store ∧ (s.openInFlight m).gov = s.gov ∧ (s.openInFlight m).bus = s.bus ∧
    (s.openInFlight m).change = s.change ∧ (s.openInFlight m).monitor = s.monitor ∧ (s.openInFlight m).gaps =
    s.gaps ∧ (s.openInFlight m).cfg = s.cfg ∧ (s.openInFlight m).free = s.free ∧ (s.openInFlight m).pending =
    s.pending ∧ (s.openInFlight m).link.bare = s.link.bare ∧ (s.openInFlight m).link.replies = s.link.replies ∧
    (s.openInFlight m).link.resetBy = s.link.resetBy := by
  unfold State.openInFlight
  split <;> simp <;> split <;> simp

@[simp] theorem State.takeSpeed_keeps (s : State) : (s.takeSpeed).run = s.run ∧ (s.takeSpeed).store =
    s.store ∧ (s.takeSpeed).gov = s.gov ∧ (s.takeSpeed).frame = s.frame ∧ (s.takeSpeed).bus = s.bus ∧
    (s.takeSpeed).change = s.change ∧ (s.takeSpeed).monitor = s.monitor ∧ (s.takeSpeed).gaps = s.gaps ∧
    (s.takeSpeed).link = s.link ∧ (s.takeSpeed).cfg = s.cfg ∧ (s.takeSpeed).free = s.free ∧
    (s.takeSpeed).pending = s.pending := by
  simp [State.takeSpeed]

@[simp] theorem State.openDecide_keeps (s : State) : (s.openDecide).change = s.change ∧
    (s.openDecide).monitor = s.monitor ∧ (s.openDecide).gaps = s.gaps ∧ (s.openDecide).cfg = s.cfg ∧
    (s.openDecide).free = s.free ∧ (s.openDecide).pending = s.pending ∧ (s.openDecide).link.bare = s.link.bare ∧
    (s.openDecide).link.replies = s.link.replies ∧ (s.openDecide).link.resetBy = s.link.resetBy := by
  simp only [State.openDecide]
  (repeat' split) <;> simp

@[simp] theorem State.openAction_keeps (s : State) : (s.openAction).change = s.change ∧
    (s.openAction).monitor = s.monitor ∧ (s.openAction).gaps = s.gaps ∧ (s.openAction).cfg = s.cfg ∧
    (s.openAction).free = s.free ∧ (s.openAction).pending = s.pending ∧ (s.openAction).link.bare = s.link.bare ∧
    (s.openAction).link.replies = s.link.replies ∧ (s.openAction).link.resetBy = s.link.resetBy := by
  simp only [State.openAction]
  (repeat' split) <;> simp

@[simp] theorem State.countProgress_keeps (s : State) (index : Nat) : (s.countProgress index).run = s.run ∧
    (s.countProgress index).store = s.store ∧ (s.countProgress index).gov = s.gov ∧ (s.countProgress
    index).frame = s.frame ∧ (s.countProgress index).shaft = s.shaft ∧ (s.countProgress index).bus = s.bus ∧
    (s.countProgress index).change = s.change ∧ (s.countProgress index).monitor = s.monitor ∧ (s.countProgress
    index).gaps = s.gaps ∧ (s.countProgress index).cfg = s.cfg ∧ (s.countProgress index).free = s.free ∧
    (s.countProgress index).pending = s.pending ∧ (s.countProgress index).link.bare = s.link.bare ∧
    (s.countProgress index).link.replies = s.link.replies ∧ (s.countProgress index).link.resetBy =
    s.link.resetBy := by
  unfold State.countProgress
  split <;> simp <;> split <;> simp

@[simp] theorem State.penetrate_keeps (s : State) (r : DesignRecord) : (s.penetrate r).frame = s.frame ∧
    (s.penetrate r).shaft = s.shaft ∧ (s.penetrate r).bus = s.bus ∧ (s.penetrate r).change = s.change ∧
    (s.penetrate r).monitor = s.monitor ∧ (s.penetrate r).gaps = s.gaps ∧ (s.penetrate r).cfg = s.cfg ∧
    (s.penetrate r).free = s.free ∧ (s.penetrate r).pending = s.pending ∧ (s.penetrate r).link.bare =
    s.link.bare ∧ (s.penetrate r).link.replies = s.link.replies ∧ (s.penetrate r).link.resetBy = s.link.resetBy
    := by
  simp [State.penetrate]

@[simp] theorem State.closeAction_keeps (s : State) : (s.closeAction).frame = s.frame ∧
    (s.closeAction).shaft = s.shaft ∧ (s.closeAction).bus = s.bus ∧ (s.closeAction).change = s.change ∧
    (s.closeAction).monitor = s.monitor ∧ (s.closeAction).gaps = s.gaps ∧ (s.closeAction).cfg = s.cfg ∧
    (s.closeAction).free = s.free ∧ (s.closeAction).pending = s.pending ∧ (s.closeAction).link.bare =
    s.link.bare ∧ (s.closeAction).link.replies = s.link.replies ∧ (s.closeAction).link.resetBy = s.link.resetBy
    := by
  unfold State.closeAction
  (repeat' split) <;> simp

@[simp] theorem State.judgeLate_keeps (s : State) : (s.judgeLate).run = s.run ∧ (s.judgeLate).store = s.store ∧
    (s.judgeLate).gov = s.gov ∧ (s.judgeLate).bus = s.bus ∧ (s.judgeLate).change = s.change ∧ (s.judgeLate).monitor =
    s.monitor ∧ (s.judgeLate).gaps = s.gaps ∧ (s.judgeLate).cfg = s.cfg ∧ (s.judgeLate).free = s.free ∧
    (s.judgeLate).pending = s.pending ∧ (s.judgeLate).link.bare = s.link.bare ∧ (s.judgeLate).link.replies =
    s.link.replies ∧ (s.judgeLate).link.resetBy = s.link.resetBy := by
  unfold State.judgeLate
  (repeat' split) <;> simp

@[simp] theorem State.lateAction_keeps (s : State) (coasted : Bool) : (s.lateAction coasted).cfg = s.cfg ∧
    (s.lateAction coasted).pending = s.pending ∧ (s.lateAction coasted).link.bare = s.link.bare := by
  simp only [State.lateAction]
  split <;> simp

@[simp] theorem State.newRevolution_keeps (s : State) : (s.newRevolution).run = s.run ∧ (s.newRevolution).store =
    s.store ∧ (s.newRevolution).gov = s.gov ∧ (s.newRevolution).frame = s.frame ∧ (s.newRevolution).bus = s.bus ∧
    (s.newRevolution).change = s.change ∧ (s.newRevolution).monitor = s.monitor ∧ (s.newRevolution).gaps = s.gaps ∧
    (s.newRevolution).link = s.link ∧ (s.newRevolution).cfg = s.cfg ∧ (s.newRevolution).free = s.free ∧
    (s.newRevolution).pending = s.pending := by
  simp [State.newRevolution]

@[simp] theorem State.tdcAction_keeps (s : State) : (s.tdcAction).frame = s.frame ∧ (s.tdcAction).bus =
    s.bus ∧ (s.tdcAction).cfg = s.cfg ∧ (s.tdcAction).free = s.free ∧ (s.tdcAction).pending = s.pending ∧
    (s.tdcAction).link.bare = s.link.bare ∧ (s.tdcAction).link.replies = s.link.replies ∧
    (s.tdcAction).link.resetBy = s.link.resetBy := by
  simp only [State.tdcAction]
  (repeat' split) <;> simp

@[simp] theorem State.pollAction_keeps (s : State) : (s.pollAction).run = s.run ∧ (s.pollAction).store =
    s.store ∧ (s.pollAction).gov = s.gov ∧ (s.pollAction).frame = s.frame ∧ (s.pollAction).shaft = s.shaft ∧
    (s.pollAction).change = s.change ∧ (s.pollAction).monitor = s.monitor ∧ (s.pollAction).gaps = s.gaps ∧
    (s.pollAction).link = s.link ∧ (s.pollAction).cfg = s.cfg ∧ (s.pollAction).free = s.free ∧
    (s.pollAction).pending = s.pending := by
  unfold State.pollAction
  split <;> simp

@[simp] theorem State.crossings_keeps (s : State) (a : Nat) : (s.crossings a).cfg = s.cfg ∧ (s.crossings
    a).pending = s.pending ∧ (s.crossings a).link.bare = s.link.bare := by
  simp only [State.crossings]
  (repeat' split) <;> simp

@[simp] theorem State.countForward_keeps (s : State) : (s.countForward).cfg = s.cfg ∧
    (s.countForward).pending = s.pending ∧ (s.countForward).link.bare = s.link.bare := by
  simp only [State.countForward]
  (repeat' split) <;> simp

@[simp] theorem State.countReverse_keeps (s : State) : (s.countReverse).run = s.run ∧ (s.countReverse).store
    = s.store ∧ (s.countReverse).gov = s.gov ∧ (s.countReverse).frame = s.frame ∧ (s.countReverse).bus = s.bus ∧
    (s.countReverse).change = s.change ∧ (s.countReverse).monitor = s.monitor ∧ (s.countReverse).gaps = s.gaps ∧
    (s.countReverse).link = s.link ∧ (s.countReverse).cfg = s.cfg ∧ (s.countReverse).free = s.free ∧
    (s.countReverse).pending = s.pending := by
  simp [State.countReverse]

@[simp] theorem State.restartStall_keeps (s : State) : (s.restartStall).run = s.run ∧ (s.restartStall).store
    = s.store ∧ (s.restartStall).gov = s.gov ∧ (s.restartStall).frame = s.frame ∧ (s.restartStall).bus = s.bus ∧
    (s.restartStall).change = s.change ∧ (s.restartStall).monitor = s.monitor ∧ (s.restartStall).gaps = s.gaps ∧
    (s.restartStall).link = s.link ∧ (s.restartStall).cfg = s.cfg ∧ (s.restartStall).free = s.free ∧
    (s.restartStall).pending = s.pending := by
  simp [State.restartStall]

@[simp] theorem State.indexFound_keeps (s : State) : (s.indexFound).run = s.run ∧ (s.indexFound).store =
    s.store ∧ (s.indexFound).gov = s.gov ∧ (s.indexFound).frame = s.frame ∧ (s.indexFound).bus = s.bus ∧
    (s.indexFound).change = s.change ∧ (s.indexFound).monitor = s.monitor ∧ (s.indexFound).gaps = s.gaps ∧
    (s.indexFound).link = s.link ∧ (s.indexFound).cfg = s.cfg ∧ (s.indexFound).free = s.free ∧
    (s.indexFound).pending = s.pending := by
  simp [State.indexFound]

@[simp] theorem State.indexCorrects_keeps (s : State) : (s.indexCorrects).cfg = s.cfg ∧
    (s.indexCorrects).pending = s.pending ∧ (s.indexCorrects).link.bare = s.link.bare := by
  simp only [State.indexCorrects]
  (repeat' split) <;> simp

@[simp] theorem State.clearPoint_keeps (s : State) : (s.clearPoint).store = s.store ∧ (s.clearPoint).gov =
    s.gov ∧ (s.clearPoint).frame = s.frame ∧ (s.clearPoint).shaft = s.shaft ∧ (s.clearPoint).bus = s.bus ∧
    (s.clearPoint).change = s.change ∧ (s.clearPoint).monitor = s.monitor ∧ (s.clearPoint).gaps = s.gaps ∧
    (s.clearPoint).link = s.link ∧ (s.clearPoint).cfg = s.cfg ∧ (s.clearPoint).free = s.free ∧
    (s.clearPoint).pending = s.pending := by
  simp only [State.clearPoint]
  (repeat' split) <;> simp

@[simp] theorem State.stopRests_keeps (s : State) : (s.stopRests).cfg = s.cfg ∧ (s.stopRests).pending =
    s.pending ∧ (s.stopRests).link.bare = s.link.bare := by
  unfold State.stopRests
  split <;> simp

@[simp] theorem State.referencingRests_keeps (s : State) : (s.referencingRests).cfg = s.cfg ∧
    (s.referencingRests).pending = s.pending ∧ (s.referencingRests).link.bare = s.link.bare := by
  simp [State.referencingRests]

/-! ## HeadEvents -/

@[simp] theorem State.storeRecord_keeps (s : State) (h : Nat) (r : StatusRecord) : (s.storeRecord h r).run =
    s.run ∧ (s.storeRecord h r).store = s.store ∧ (s.storeRecord h r).gov = s.gov ∧ (s.storeRecord h r).frame =
    s.frame ∧ (s.storeRecord h r).shaft = s.shaft ∧ (s.storeRecord h r).change = s.change ∧ (s.storeRecord h
    r).monitor = s.monitor ∧ (s.storeRecord h r).gaps = s.gaps ∧ (s.storeRecord h r).link = s.link ∧
    (s.storeRecord h r).cfg = s.cfg ∧ (s.storeRecord h r).free = s.free ∧ (s.storeRecord h r).pending =
    s.pending := by
  simp [State.storeRecord]

@[simp] theorem State.takeNeedle_keeps (s : State) (h : Nat) (r : StatusRecord) : (s.takeNeedle h r).store =
    s.store ∧ (s.takeNeedle h r).gov = s.gov ∧ (s.takeNeedle h r).frame = s.frame ∧ (s.takeNeedle h r).shaft =
    s.shaft ∧ (s.takeNeedle h r).bus = s.bus ∧ (s.takeNeedle h r).change = s.change ∧ (s.takeNeedle h r).monitor
    = s.monitor ∧ (s.takeNeedle h r).gaps = s.gaps ∧ (s.takeNeedle h r).link = s.link ∧ (s.takeNeedle h r).cfg =
    s.cfg ∧ (s.takeNeedle h r).free = s.free ∧ (s.takeNeedle h r).pending = s.pending := by
  unfold State.takeNeedle
  split <;> simp

@[simp] theorem State.resync_keeps (s : State) (h : Nat) (r : StatusRecord) : (s.resync h r).store = s.store
    ∧ (s.resync h r).gov = s.gov ∧ (s.resync h r).frame = s.frame ∧ (s.resync h r).shaft = s.shaft ∧ (s.resync h
    r).monitor = s.monitor ∧ (s.resync h r).gaps = s.gaps ∧ (s.resync h r).link = s.link ∧ (s.resync h r).cfg =
    s.cfg ∧ (s.resync h r).free = s.free ∧ (s.resync h r).pending = s.pending := by
  unfold State.resync
  (repeat' split) <;> simp

@[simp] theorem State.acceptRecord_keeps (s : State) (h : Nat) (r : StatusRecord) (queued : Bool) :
    (s.acceptRecord h r queued).cfg = s.cfg ∧ (s.acceptRecord h r queued).free = s.free ∧ (s.acceptRecord h r
    queued).pending = s.pending ∧ (s.acceptRecord h r queued).link.bare = s.link.bare ∧ (s.acceptRecord h r
    queued).link.replies = s.link.replies ∧ (s.acceptRecord h r queued).link.resetBy = s.link.resetBy := by
  simp [State.acceptRecord]

@[simp] theorem State.probeAnswered_keeps (s : State) (h : Nat) (r : StatusRecord) : (s.probeAnswered h
    r).cfg = s.cfg ∧ (s.probeAnswered h r).free = s.free ∧ (s.probeAnswered h r).pending = s.pending ∧
    (s.probeAnswered h r).link.bare = s.link.bare ∧ (s.probeAnswered h r).link.replies = s.link.replies ∧
    (s.probeAnswered h r).link.resetBy = s.link.resetBy := by
  simp only [State.probeAnswered]
  (repeat' split) <;> simp

@[simp] theorem State.answered_keeps (s : State) (t : Transaction) (r : StatusRecord) : (s.answered t r).cfg
    = s.cfg ∧ (s.answered t r).free = s.free ∧ (s.answered t r).pending = s.pending ∧ (s.answered t r).link.bare
    = s.link.bare ∧ (s.answered t r).link.replies = s.link.replies ∧ (s.answered t r).link.resetBy =
    s.link.resetBy := by
  unfold State.answered
  split <;> simp

@[simp] theorem State.headLost_keeps (s : State) (t : Transaction) : (s.headLost t).cfg = s.cfg ∧
    (s.headLost t).free = s.free ∧ (s.headLost t).pending = s.pending ∧ (s.headLost t).link.bare = s.link.bare ∧
    (s.headLost t).link.replies = s.link.replies ∧ (s.headLost t).link.resetBy = s.link.resetBy := by
  unfold State.headLost
  split <;> simp

@[simp] theorem State.timedOut_keeps (s : State) (t : Transaction) : (s.timedOut t).cfg = s.cfg ∧
    (s.timedOut t).free = s.free ∧ (s.timedOut t).pending = s.pending ∧ (s.timedOut t).link.bare = s.link.bare ∧
    (s.timedOut t).link.replies = s.link.replies ∧ (s.timedOut t).link.resetBy = s.link.resetBy := by
  simp only [State.timedOut]
  (repeat' split) <;> simp

/-! ## FrameEvents -/

@[simp] theorem State.homingTo_keeps (s : State) (hm : Homing) (p : HomingPhase) (up : Bool) : (s.homingTo
    hm p up).run = s.run ∧ (s.homingTo hm p up).store = s.store ∧ (s.homingTo hm p up).gov = s.gov ∧ (s.homingTo
    hm p up).shaft = s.shaft ∧ (s.homingTo hm p up).bus = s.bus ∧ (s.homingTo hm p up).change = s.change ∧
    (s.homingTo hm p up).monitor = s.monitor ∧ (s.homingTo hm p up).gaps = s.gaps ∧ (s.homingTo hm p up).link =
    s.link ∧ (s.homingTo hm p up).cfg = s.cfg ∧ (s.homingTo hm p up).free = s.free ∧ (s.homingTo hm p
    up).pending = s.pending := by
  simp [State.homingTo]

@[simp] theorem State.sensorSeen_keeps (s : State) (hm : Homing) (active : Bool) : (s.sensorSeen hm
    active).cfg = s.cfg ∧ (s.sensorSeen hm active).pending = s.pending ∧ (s.sensorSeen hm active).link.bare =
    s.link.bare := by
  unfold State.sensorSeen
  (repeat' split) <;> simp

/-! ## Halt -/

@[simp] theorem State.enterHalt_keeps (s : State) : (s.enterHalt).store = s.store ∧ (s.enterHalt).gov =
    s.gov ∧ (s.enterHalt).frame = s.frame ∧ (s.enterHalt).shaft = s.shaft ∧ (s.enterHalt).bus = s.bus ∧
    (s.enterHalt).change = s.change ∧ (s.enterHalt).monitor = s.monitor ∧ (s.enterHalt).gaps = s.gaps ∧
    (s.enterHalt).link = s.link ∧ (s.enterHalt).cfg = s.cfg ∧ (s.enterHalt).free = s.free ∧
    (s.enterHalt).pending = s.pending := by
  simp [State.enterHalt]

@[simp] theorem State.haltShaft_keeps (s : State) : (s.haltShaft).run = s.run ∧ (s.haltShaft).store =
    s.store ∧ (s.haltShaft).gov = s.gov ∧ (s.haltShaft).frame = s.frame ∧ (s.haltShaft).change = s.change ∧
    (s.haltShaft).monitor = s.monitor ∧ (s.haltShaft).gaps = s.gaps ∧ (s.haltShaft).link = s.link ∧
    (s.haltShaft).cfg = s.cfg ∧ (s.haltShaft).free = s.free ∧ (s.haltShaft).pending = s.pending := by
  simp [State.haltShaft]

@[simp] theorem State.emergencyStop_keeps (s : State) (nx ny : Nat) : (s.emergencyStop nx ny).cfg = s.cfg ∧
    (s.emergencyStop nx ny).pending = s.pending ∧ (s.emergencyStop nx ny).link.bare = s.link.bare := by
  simp [State.emergencyStop]

/-! ## DesignRequests -/

@[simp] theorem State.dropDesign_keeps (s : State) (d : DesignState) : (s.dropDesign d).frame = s.frame ∧
    (s.dropDesign d).shaft = s.shaft ∧ (s.dropDesign d).cfg = s.cfg ∧ (s.dropDesign d).free = s.free ∧
    (s.dropDesign d).pending = s.pending ∧ (s.dropDesign d).link.bare = s.link.bare ∧ (s.dropDesign
    d).link.replies = s.link.replies ∧ (s.dropDesign d).link.resetBy = s.link.resetBy := by
  simp [State.dropDesign]

@[simp] theorem State.clearJoins_keeps (s : State) : (s.clearJoins).run = s.run ∧ (s.clearJoins).store = s.store ∧
    (s.clearJoins).gov = s.gov ∧ (s.clearJoins).frame = s.frame ∧ (s.clearJoins).shaft = s.shaft ∧
    (s.clearJoins).bus = s.bus ∧ (s.clearJoins).change = s.change ∧ (s.clearJoins).gaps = s.gaps ∧
    (s.clearJoins).link = s.link ∧ (s.clearJoins).cfg = s.cfg ∧ (s.clearJoins).free = s.free ∧
    (s.clearJoins).pending = s.pending := by
  simp [State.clearJoins]

@[simp] theorem State.tryResume_keeps (s : State) : (s.tryResume).frame = s.frame ∧ (s.tryResume).shaft =
    s.shaft ∧ (s.tryResume).cfg = s.cfg ∧ (s.tryResume).free = s.free ∧
    (s.tryResume).pending = s.pending ∧ (s.tryResume).link.bare = s.link.bare ∧ (s.tryResume).link.replies =
    s.link.replies ∧ (s.tryResume).link.resetBy = s.link.resetBy := by
  unfold State.tryResume
  split <;> simp

@[simp] theorem State.enterAccepted_keeps (s : State) (waited : Bool) : (s.enterAccepted waited).run = s.run
    ∧ (s.enterAccepted waited).gov = s.gov ∧ (s.enterAccepted waited).frame = s.frame ∧ (s.enterAccepted
    waited).shaft = s.shaft ∧ (s.enterAccepted waited).bus = s.bus ∧ (s.enterAccepted waited).change = s.change
    ∧ (s.enterAccepted waited).monitor = s.monitor ∧ (s.enterAccepted waited).gaps = s.gaps ∧ (s.enterAccepted
    waited).cfg = s.cfg ∧ (s.enterAccepted waited).free = s.free ∧ (s.enterAccepted waited).pending = s.pending
    ∧ (s.enterAccepted waited).link.bare = s.link.bare ∧ (s.enterAccepted waited).link.replies = s.link.replies
    ∧ (s.enterAccepted waited).link.resetBy = s.link.resetBy := by
  unfold State.enterAccepted
  split <;> simp

@[simp] theorem State.takeBlock_keeps (s : State) (body : List Byte) (rs : List DesignRecord) : (s.takeBlock
    body rs).cfg = s.cfg ∧ (s.takeBlock body rs).pending = s.pending ∧ (s.takeBlock body rs).link.bare =
    s.link.bare := by
  simp [State.takeBlock]

/-! ## RunRequests -/

@[simp] theorem State.stopHoming_keeps (s : State) : (s.stopHoming).run = s.run ∧ (s.stopHoming).store =
    s.store ∧ (s.stopHoming).gov = s.gov ∧ (s.stopHoming).bus = s.bus ∧ (s.stopHoming).change = s.change ∧
    (s.stopHoming).monitor = s.monitor ∧ (s.stopHoming).gaps = s.gaps ∧ (s.stopHoming).cfg = s.cfg ∧
    (s.stopHoming).free = s.free ∧ (s.stopHoming).pending = s.pending ∧ (s.stopHoming).link.bare = s.link.bare ∧
    (s.stopHoming).link.replies = s.link.replies ∧ (s.stopHoming).link.resetBy = s.link.resetBy := by
  unfold State.stopHoming
  split <;> simp

@[simp] theorem State.bringOn_keeps (s : State) (h : Nat) : (s.bringOn h).store = s.store ∧ (s.bringOn
    h).gov = s.gov ∧ (s.bringOn h).frame = s.frame ∧ (s.bringOn h).shaft = s.shaft ∧ (s.bringOn h).change =
    s.change ∧ (s.bringOn h).monitor = s.monitor ∧ (s.bringOn h).gaps = s.gaps ∧ (s.bringOn h).link = s.link ∧
    (s.bringOn h).cfg = s.cfg ∧ (s.bringOn h).free = s.free ∧ (s.bringOn h).pending = s.pending := by
  simp [State.bringOn]

@[simp] theorem State.headOnEffect_keeps (s : State) (h : Nat) : (s.headOnEffect h).store = s.store ∧
    (s.headOnEffect h).gov = s.gov ∧ (s.headOnEffect h).frame = s.frame ∧ (s.headOnEffect h).shaft = s.shaft ∧
    (s.headOnEffect h).change = s.change ∧ (s.headOnEffect h).gaps = s.gaps ∧ (s.headOnEffect h).link = s.link ∧
    (s.headOnEffect h).cfg = s.cfg ∧ (s.headOnEffect h).free = s.free ∧ (s.headOnEffect h).pending = s.pending
    := by
  unfold State.headOnEffect
  split <;> simp

@[simp] theorem State.headOffEffect_keeps (s : State) (h : Nat) : (s.headOffEffect h).frame = s.frame ∧
    (s.headOffEffect h).shaft = s.shaft ∧ (s.headOffEffect h).cfg = s.cfg ∧ (s.headOffEffect h).free = s.free ∧
    (s.headOffEffect h).pending = s.pending ∧ (s.headOffEffect h).link.bare = s.link.bare ∧ (s.headOffEffect
    h).link.replies = s.link.replies ∧ (s.headOffEffect h).link.resetBy = s.link.resetBy := by
  simp only [State.headOffEffect]
  (repeat' split) <;> simp

/-! ## MotionRequests -/

@[simp] theorem State.startHoming_keeps (s : State) : (s.startHoming).run = s.run ∧ (s.startHoming).store =
    s.store ∧ (s.startHoming).gov = s.gov ∧ (s.startHoming).bus = s.bus ∧ (s.startHoming).change = s.change ∧
    (s.startHoming).monitor = s.monitor ∧ (s.startHoming).gaps = s.gaps ∧ (s.startHoming).link = s.link ∧
    (s.startHoming).cfg = s.cfg ∧ (s.startHoming).free = s.free ∧ (s.startHoming).pending = s.pending := by
  simp [State.startHoming]

@[simp] theorem State.hostTravel_keeps (s : State) (legs : List Point) : (s.hostTravel legs).store = s.store
    ∧ (s.hostTravel legs).gov = s.gov ∧ (s.hostTravel legs).bus = s.bus ∧ (s.hostTravel legs).change = s.change
    ∧ (s.hostTravel legs).monitor = s.monitor ∧ (s.hostTravel legs).gaps = s.gaps ∧ (s.hostTravel legs).link =
    s.link ∧ (s.hostTravel legs).cfg = s.cfg ∧ (s.hostTravel legs).free = s.free ∧ (s.hostTravel legs).pending =
    s.pending := by
  simp [State.hostTravel]

/-! ## HeadRequests -/

@[simp] theorem State.mapNeedle_keeps (s : State) (slot h needle : Nat) : (s.mapNeedle slot h needle).run =
    s.run ∧ (s.mapNeedle slot h needle).store = s.store ∧ (s.mapNeedle slot h needle).gov = s.gov ∧ (s.mapNeedle
    slot h needle).frame = s.frame ∧ (s.mapNeedle slot h needle).shaft = s.shaft ∧ (s.mapNeedle slot h
    needle).bus = s.bus ∧ (s.mapNeedle slot h needle).monitor = s.monitor ∧ (s.mapNeedle slot h needle).gaps =
    s.gaps ∧ (s.mapNeedle slot h needle).link = s.link ∧ (s.mapNeedle slot h needle).cfg = s.cfg ∧ (s.mapNeedle
    slot h needle).free = s.free ∧ (s.mapNeedle slot h needle).pending = s.pending := by
  unfold State.mapNeedle
  split <;> simp

@[simp] theorem State.mapNeedles_keeps (s : State) (slot : Nat) (needles : List Nat) : (s.mapNeedles slot
    needles).run = s.run ∧ (s.mapNeedles slot needles).store = s.store ∧ (s.mapNeedles slot needles).gov = s.gov
    ∧ (s.mapNeedles slot needles).frame = s.frame ∧ (s.mapNeedles slot needles).shaft = s.shaft ∧ (s.mapNeedles
    slot needles).bus = s.bus ∧ (s.mapNeedles slot needles).monitor = s.monitor ∧ (s.mapNeedles slot
    needles).gaps = s.gaps ∧ (s.mapNeedles slot needles).link = s.link ∧ (s.mapNeedles slot needles).cfg = s.cfg
    ∧ (s.mapNeedles slot needles).free = s.free ∧ (s.mapNeedles slot needles).pending = s.pending := by
  simp [State.mapNeedles]

@[simp] theorem State.setBobbin_keeps (s : State) (h count : Nat) : (s.setBobbin h count).run = s.run ∧
    (s.setBobbin h count).store = s.store ∧ (s.setBobbin h count).gov = s.gov ∧ (s.setBobbin h count).frame =
    s.frame ∧ (s.setBobbin h count).shaft = s.shaft ∧ (s.setBobbin h count).bus = s.bus ∧ (s.setBobbin h
    count).change = s.change ∧ (s.setBobbin h count).gaps = s.gaps ∧ (s.setBobbin h count).cfg = s.cfg ∧
    (s.setBobbin h count).free = s.free ∧ (s.setBobbin h count).pending = s.pending ∧ (s.setBobbin h
    count).link.bare = s.link.bare ∧ (s.setBobbin h count).link.replies = s.link.replies ∧ (s.setBobbin h
    count).link.resetBy = s.link.resetBy := by
  unfold State.setBobbin
  split <;> simp

/-! ## GapRequests -/

@[simp] theorem State.beginPatch_keeps (s : State) (start : Nat) : (s.beginPatch start).gov = s.gov ∧
    (s.beginPatch start).shaft = s.shaft ∧ (s.beginPatch start).bus = s.bus ∧ (s.beginPatch start).monitor = s.monitor ∧ (s.beginPatch start).cfg = s.cfg ∧ (s.beginPatch
    start).free = s.free ∧ (s.beginPatch start).pending = s.pending ∧ (s.beginPatch start).link.bare =
    s.link.bare ∧ (s.beginPatch start).link.replies = s.link.replies ∧ (s.beginPatch start).link.resetBy =
    s.link.resetBy := by
  simp [State.beginPatch]

@[simp] theorem State.abandonHead_keeps (s : State) (h : Nat) : (s.abandonHead h).run = s.run ∧
    (s.abandonHead h).gov = s.gov ∧ (s.abandonHead h).frame = s.frame ∧ (s.abandonHead h).shaft = s.shaft ∧
    (s.abandonHead h).bus = s.bus ∧ (s.abandonHead h).change = s.change ∧ (s.abandonHead h).monitor = s.monitor
    ∧ (s.abandonHead h).cfg = s.cfg ∧ (s.abandonHead h).free = s.free ∧ (s.abandonHead h).pending = s.pending ∧
    (s.abandonHead h).link.bare = s.link.bare ∧ (s.abandonHead h).link.replies = s.link.replies ∧ (s.abandonHead
    h).link.resetBy = s.link.resetBy := by
  simp only [State.abandonHead]
  (repeat' split) <;> simp

@[simp] theorem State.cursorBack_keeps (s : State) (new : Nat) : (s.cursorBack new).gov = s.gov ∧
    (s.cursorBack new).frame = s.frame ∧ (s.cursorBack new).shaft = s.shaft ∧ (s.cursorBack new).bus = s.bus ∧
    (s.cursorBack new).change = s.change ∧ (s.cursorBack new).monitor = s.monitor ∧ (s.cursorBack new).gaps =
    s.gaps ∧ (s.cursorBack new).cfg = s.cfg ∧ (s.cursorBack new).free = s.free ∧ (s.cursorBack new).pending =
    s.pending ∧ (s.cursorBack new).link.bare = s.link.bare ∧ (s.cursorBack new).link.replies = s.link.replies ∧
    (s.cursorBack new).link.resetBy = s.link.resetBy := by
  simp [State.cursorBack]

@[simp] theorem State.cursorForward_keeps (s : State) (new : Nat) : (s.cursorForward new).gov = s.gov ∧
    (s.cursorForward new).frame = s.frame ∧ (s.cursorForward new).shaft = s.shaft ∧ (s.cursorForward new).bus =
    s.bus ∧ (s.cursorForward new).change = s.change ∧ (s.cursorForward new).monitor = s.monitor ∧
    (s.cursorForward new).gaps = s.gaps ∧ (s.cursorForward new).cfg = s.cfg ∧ (s.cursorForward new).free =
    s.free ∧ (s.cursorForward new).pending = s.pending ∧ (s.cursorForward new).link.bare = s.link.bare ∧
    (s.cursorForward new).link.replies = s.link.replies ∧ (s.cursorForward new).link.resetBy = s.link.resetBy :=
    by
  simp [State.cursorForward]

@[simp] theorem State.shortenGaps_keeps (s : State) (new : Nat) : (s.shortenGaps new).run = s.run ∧
    (s.shortenGaps new).gov = s.gov ∧ (s.shortenGaps new).frame = s.frame ∧ (s.shortenGaps new).shaft = s.shaft
    ∧ (s.shortenGaps new).bus = s.bus ∧ (s.shortenGaps new).change = s.change ∧ (s.shortenGaps new).monitor =
    s.monitor ∧ (s.shortenGaps new).cfg = s.cfg ∧ (s.shortenGaps new).free = s.free ∧ (s.shortenGaps
    new).pending = s.pending ∧ (s.shortenGaps new).link.bare = s.link.bare ∧ (s.shortenGaps new).link.replies =
    s.link.replies ∧ (s.shortenGaps new).link.resetBy = s.link.resetBy := by
  simp [State.shortenGaps]

/-! ## Configure -/

@[simp] theorem State.leaveUnconfigured_keeps (s : State) : (s.leaveUnconfigured).store = s.store ∧
    (s.leaveUnconfigured).gov = s.gov ∧ (s.leaveUnconfigured).frame = s.frame ∧ (s.leaveUnconfigured).shaft =
    s.shaft ∧ (s.leaveUnconfigured).bus = s.bus ∧ (s.leaveUnconfigured).change = s.change ∧
    (s.leaveUnconfigured).monitor = s.monitor ∧ (s.leaveUnconfigured).gaps = s.gaps ∧ (s.leaveUnconfigured).link
    = s.link ∧ (s.leaveUnconfigured).cfg = s.cfg ∧ (s.leaveUnconfigured).free = s.free ∧
    (s.leaveUnconfigured).pending = s.pending := by
  unfold State.leaveUnconfigured
  split <;> simp

@[simp] theorem State.changeHeadCount_keeps (s : State) (old new : Nat) : (s.changeHeadCount old new).frame
    = s.frame ∧ (s.changeHeadCount old new).shaft = s.shaft ∧ (s.changeHeadCount old new).cfg = s.cfg ∧
    (s.changeHeadCount old new).free = s.free ∧ (s.changeHeadCount old new).pending = s.pending ∧
    (s.changeHeadCount old new).link.bare = s.link.bare ∧ (s.changeHeadCount old new).link.replies =
    s.link.replies ∧ (s.changeHeadCount old new).link.resetBy = s.link.resetBy := by
  unfold State.changeHeadCount
  generalize headNumbers = l
  refine ⟨foldl_keeps State.frame _ ?_ _ _, foldl_keeps State.shaft _ ?_ _ _, foldl_keeps State.cfg _ ?_ _ _,
    foldl_keeps State.free _ ?_ _ _, foldl_keeps State.pending _ ?_ _ _,
    foldl_keeps (fun s => s.link.bare) _ ?_ _ _, foldl_keeps (fun s => s.link.replies) _ ?_ _ _,
    foldl_keeps (fun s => s.link.resetBy) _ ?_ _ _⟩
  all_goals
    intro s h
    (repeat' split) <;> simp

@[simp] theorem State.takeMachine_keeps (s : State) (g : MachineGroup) : (s.takeMachine g).pending =
    s.pending ∧ (s.takeMachine g).link.bare = s.link.bare := by
  simp [State.takeMachine]

/-! ## LinkEvents -/

@[simp] theorem State.beginReset_keeps (s : State) (src : Sender) : (s.beginReset src).cfg = s.cfg ∧
    (s.beginReset src).pending = s.pending ∧ (s.beginReset src).link.bare = s.link.bare := by
  simp only [State.beginReset]
  (repeat' split) <;> simp

end Sys2Proof.Machine
end

