-- ==== Sys2Proof/Laws/PerInstr.lean ====
section
/-!
SUPPORT. Statements about every command as syntax, one lemma per constructor of `Instr`.
-/

namespace Sys2Proof.Laws.Broadcast

/-- A command that is acted on when it is broadcast (R161) is a request: it carries its sender. -/
def Statement (i : Instr) : Prop := i.actsOnBroadcast = true → i.sender?.isSome = true

theorem powerOn (rateStraps addressStraps : Nat) (hostReady estop homeX homeY : Bool) :
    Statement (.powerOn rateStraps addressStraps hostReady estop homeX homeY) := fun h => nomatch h
theorem frameClose (bytes : List Byte) :
    Statement (.frameClose bytes) := fun h => nomatch h
theorem frameAbort (bytes : List Byte) :
    Statement (.frameAbort bytes) := fun h => nomatch h
theorem requestDecode :
    Statement .requestDecode := fun h => nomatch h
theorem openDesign (src : Sender) :
    Statement (.openDesign src) := fun h => nomatch h
theorem designBlock (src : Sender) (body : List Byte) :
    Statement (.designBlock src body) := fun h => nomatch h
theorem discardDesign (src : Sender) :
    Statement (.discardDesign src) := fun h => nomatch h
theorem start (src : Sender) :
    Statement (.start src) := fun h => nomatch h
theorem resume (src : Sender) :
    Statement (.resume src) := fun h => nomatch h
theorem stop (src : Sender) :
    Statement (.stop src) := fun _ => rfl
theorem step (src : Sender) :
    Statement (.step src) := fun h => nomatch h
theorem clearHalt (src : Sender) :
    Statement (.clearHalt src) := fun h => nomatch h
theorem runToMark (src : Sender) (label : Nat) :
    Statement (.runToMark src label) := fun h => nomatch h
theorem setMode (src : Sender) (mode : Nat) :
    Statement (.setMode src mode) := fun h => nomatch h
theorem headOn (src : Sender) (head : Nat) :
    Statement (.headOn src head) := fun h => nomatch h
theorem headOff (src : Sender) (head : Nat) :
    Statement (.headOff src head) := fun h => nomatch h
theorem speedCeiling (src : Sender) (rpm : Nat) :
    Statement (.speedCeiling src rpm) := fun h => nomatch h
theorem setOrigin (src : Sender) :
    Statement (.setOrigin src) := fun h => nomatch h
theorem homeFrame (src : Sender) :
    Statement (.homeFrame src) := fun h => nomatch h
theorem referenceShaft (src : Sender) :
    Statement (.referenceShaft src) := fun h => nomatch h
theorem moveFrame (src : Sender) (dx dy : Int) :
    Statement (.moveFrame src dx dy) := fun h => nomatch h
theorem mapColour (src : Sender) (slot : Nat) (needles : List Nat) :
    Statement (.mapColour src slot needles) := fun h => nomatch h
theorem bobbinSet (src : Sender) (head count : Nat) :
    Statement (.bobbinSet src head count) := fun h => nomatch h
theorem setPolicy (src : Sender) (policy : Nat) :
    Statement (.setPolicy src policy) := fun h => nomatch h
theorem repairDone (src : Sender) (head : Nat) :
    Statement (.repairDone src head) := fun h => nomatch h
theorem sewGaps (src : Sender) :
    Statement (.sewGaps src) := fun h => nomatch h
theorem abandonGap (src : Sender) (head : Nat) :
    Statement (.abandonGap src head) := fun h => nomatch h
theorem back (src : Sender) (n : Nat) :
    Statement (.back src n) := fun h => nomatch h
theorem forward (src : Sender) (n : Nat) :
    Statement (.forward src n) := fun h => nomatch h
theorem status (src : Sender) (selection : Nat) :
    Statement (.status src selection) := fun h => nomatch h
theorem readHead (src : Sender) (head : Nat) :
    Statement (.readHead src head) := fun h => nomatch h
theorem readGaps (src : Sender) :
    Statement (.readGaps src) := fun h => nomatch h
theorem reset (src : Sender) (mode : Nat) :
    Statement (.reset src mode) := fun _ => rfl
theorem configureMachine (src : Sender) (group : MachineGroup) :
    Statement (.configureMachine src group) := fun h => nomatch h
theorem configureSpeedLimits (src : Sender) (group : SpeedGroup) :
    Statement (.configureSpeedLimits src group) := fun h => nomatch h
theorem configureMoveTable (src : Sender) (piece : Nat) (entries : List Nat) :
    Statement (.configureMoveTable src piece entries) := fun h => nomatch h
theorem configureThread (src : Sender) (group : ThreadGroup) :
    Statement (.configureThread src group) := fun h => nomatch h
theorem configurePacing (src : Sender) (group : PacingGroup) :
    Statement (.configurePacing src group) := fun h => nomatch h
theorem configureZone (src : Sender) (zone : Nat) (active : Nat) (xBase : Int) (kx : Nat) (yBase : Int) (ky : Nat) :
    Statement (.configureZone src zone active xBase kx yBase ky) := fun h => nomatch h
theorem configureArbiter (src : Sender) (phases : List Nat) :
    Statement (.configureArbiter src phases) := fun h => nomatch h
theorem configurePoll (src : Sender) (angle period : Nat) :
    Statement (.configurePoll src angle period) := fun h => nomatch h
theorem configureProgress (src : Sender) (period : Nat) :
    Statement (.configureProgress src period) := fun h => nomatch h
theorem configurePolicy (src : Sender) (policy : Nat) :
    Statement (.configurePolicy src policy) := fun h => nomatch h
theorem configureMode (src : Sender) (mode : Nat) :
    Statement (.configureMode src mode) := fun h => nomatch h
theorem configureReadBack (src : Sender) (group : Nat) (number : Option Nat) :
    Statement (.configureReadBack src group number) := fun h => nomatch h
theorem outboundWalk :
    Statement .outboundWalk := fun h => nomatch h
theorem hostReadyChange (level : Bool) :
    Statement (.hostReadyChange level) := fun h => nomatch h
theorem encoderCount (forward : Bool) :
    Statement (.encoderCount forward) := fun h => nomatch h
theorem indexPulse :
    Statement .indexPulse := fun h => nomatch h
theorem shaftRestDeclared :
    Statement .shaftRestDeclared := fun h => nomatch h
theorem stallTimerExpiry :
    Statement .stallTimerExpiry := fun h => nomatch h
theorem estopAssert (xSteps ySteps : Nat) :
    Statement (.estopAssert xSteps ySteps) := fun h => nomatch h
theorem estopNegate :
    Statement .estopNegate := fun h => nomatch h
theorem warningHoldExpiry :
    Statement .warningHoldExpiry := fun h => nomatch h
theorem stitchMoveComplete :
    Statement .stitchMoveComplete := fun h => nomatch h
theorem travelSegmentComplete :
    Statement .travelSegmentComplete := fun h => nomatch h
theorem reseatComplete (axis : AxisName) :
    Statement (.reseatComplete axis) := fun h => nomatch h
theorem homeSensorChange (axis : AxisName) (active : Bool) :
    Statement (.homeSensorChange axis active) := fun h => nomatch h
theorem homeBackoffDone :
    Statement .homeBackoffDone := fun h => nomatch h
theorem homingTimeout :
    Statement .homingTimeout := fun h => nomatch h
theorem headAnswer (head : Nat) (checkOk : Bool) (record : StatusRecord) :
    Statement (.headAnswer head checkOk record) := fun h => nomatch h
theorem headAttemptTimeout :
    Statement .headAttemptTimeout := fun h => nomatch h
theorem restTimerExpiry :
    Statement .restTimerExpiry := fun h => nomatch h
theorem trimTimerExpiry (head : Nat) :
    Statement (.trimTimerExpiry head) := fun h => nomatch h
theorem caseTimerExpiry (head : Nat) :
    Statement (.caseTimerExpiry head) := fun h => nomatch h
theorem firstFlagAfterPowerOn (bytes : List Byte) :
    Statement (.firstFlagAfterPowerOn bytes) := fun h => nomatch h

end Sys2Proof.Laws.Broadcast
end

