-- ==== Sys2Proof/Laws/Requests.lean ====
section
/-!
SUPPORT. How a request reaches its owner and how its reply is written (R161, R162), and what a command does when
nothing is due by itself.
-/

namespace Sys2Proof.Machine

/-- A reserved place at the tail of the reply queue takes the reply. -/
theorem Link.answer_tail (l : Link) (rs : List ReplyPlace) (tag : Byte) (r : Reply)
    (h : l.replies = rs ++ [⟨tag, none⟩]) : l.answer r = { l with replies := rs ++ [⟨tag, some r⟩] } := by
  unfold Link.answer
  rw [h]
  simp [List.modify_eq_set_getElem?]

/-- Delivering a reply to a state whose last reply place is reserved. -/
theorem State.deliver_tail (t : State) (rs : List ReplyPlace) (tag : Byte) (r : Reply)
    (h : t.link.replies = rs ++ [⟨tag, none⟩]) :
    State.deliver (t, some r) = t.setLink { t.link with replies := rs ++ [⟨tag, some r⟩] } := by
  show t.setLink (t.link.answer r) = _
  rw [Link.answer_tail _ _ _ _ h]

/-- An addressed request that is heard is handed to its owner with its reply place reserved. -/
theorem State.takeAddressed_hears (s : State) (tag : Byte) (owner : State → Served) (h : s.hears = true) :
    s.takeAddressed tag owner = State.deliver (owner (s.setLink (s.link.reserve tag))) := by
  simp only [State.hears, Bool.and_eq_true, bne_iff_ne, ne_eq, decide_eq_true_eq, Option.isNone_iff_eq_none] at h
  simp [State.takeAddressed, Link.ownAddress, h.1.1, h.2, Nat.not_le.mpr h.1.2, Config.replyPlaces, Link.reserve]

/-- The owner's answer, when it kept the reply queue and the rest of its work does not read it. -/
theorem State.takeAddressed_served (s t : State) (tag : Byte) (owner : State → Served) (r : Reply)
    (h : s.hears = true) (ho : owner (s.setLink (s.link.reserve tag)) = (t, some r))
    (hr : t.link.replies = s.link.replies ++ [⟨tag, none⟩]) :
    s.takeAddressed tag owner = t.setLink { t.link with replies := s.link.replies ++ [⟨tag, some r⟩] } := by
  rw [State.takeAddressed_hears s tag owner h, ho, State.deliver_tail t _ tag r hr]

/-- A request that its owner refuses gets its reply, and nothing else changes. -/
theorem State.takeAddressed_refused (s : State) (tag : Byte) (owner : State → Served) (c : ResultCode)
    (h : s.hears = true)
    (ho : owner (s.setLink (s.link.reserve tag)) = refuse (s.setLink (s.link.reserve tag)) c) :
    s.takeAddressed tag owner = s.replied tag c [] := by
  rw [State.takeAddressed_served s _ tag owner (Reply.plain c) h ho rfl]
  rfl

/-- An addressed request that cannot be heard for want of an own address or a reply place changes nothing. -/
theorem State.takeAddressed_waits (s : State) (tag : Byte) (owner : State → Served)
    (h : s.link.addressStraps = 15 ∨ 4 ≤ s.link.replies.length) : s.takeAddressed tag owner = s := by
  unfold State.takeAddressed Link.ownAddress Config.replyPlaces
  rcases h with h | h <;> simp [h]

/-- During the stop of a CONTROLLED RESET an addressed request is answered BUSY. -/
theorem State.takeAddressed_busy (s : State) (tag : Byte) (owner : State → Served) (h1 : s.link.addressStraps ≠ 15)
    (h2 : s.link.replies.length < 4) (h3 : s.link.resetBy ≠ none) : s.takeAddressed tag owner = s.replied tag .busy [] := by
  have h3' : s.link.resetBy.isSome = true := Option.isSome_iff_ne_none.mpr h3
  have e : State.deliver (refuse (s.setLink (s.link.reserve tag)) .busy) = s.replied tag .busy [] := by
    unfold refuse
    rw [State.deliver_tail _ s.link.replies tag _ rfl]
    rfl
  simp [State.takeAddressed, Link.ownAddress, h1, Nat.not_le.mpr h2, Config.replyPlaces, h3', e]

/-- A block that nothing about requests and replies touches. -/
theorem State.deliver_pending (r : Served) : (State.deliver r).pending = r.1.pending := by
  unfold State.deliver
  split <;> rfl

/-- A request keeps the queue of waiting commands when its owner does. -/
theorem State.takeAddressed_pending (s : State) (tag : Byte) (owner : State → Served)
    (h : ∀ t, (owner t).1.pending = t.pending) : (s.takeAddressed tag owner).pending = s.pending := by
  unfold State.takeAddressed
  split
  · rfl
  · dsimp only
    split <;> simp [State.deliver_pending, refuse, h]

/-- A request keeps the queue of waiting commands when its owner does. -/
theorem State.takeRequest_pending (s : State) (src : Sender) (owner : State → Served)
    (h : ∀ t, (owner t).1.pending = t.pending) : (s.takeRequest src owner).pending = s.pending := by
  unfold State.takeRequest
  split
  · exact State.takeAddressed_pending s _ owner h
  · rfl

/-- STOP and RESET keep the queue of waiting commands when their owner does. -/
theorem State.takeBoth_pending (s : State) (src : Sender) (owner : State → Served)
    (h : ∀ t, (owner t).1.pending = t.pending) : (s.takeBoth src owner).pending = s.pending := by
  unfold State.takeBoth
  split
  · exact State.takeAddressed_pending s _ owner h
  · split <;> simp [h]

/-- The straps survive a request when its owner keeps them. -/
theorem State.takeAddressed_bare (s : State) (tag : Byte) (owner : State → Served)
    (h : ∀ t, (owner t).1.link.bare = t.link.bare) : (s.takeAddressed tag owner).link.bare = s.link.bare := by
  have hd : ∀ r : Served, (State.deliver r).link.bare = r.1.link.bare := by
    intro r
    unfold State.deliver
    split <;> rfl
  unfold State.takeAddressed
  split
  · rfl
  · dsimp only
    split <;> simp [hd, refuse, h, Link.reserve]

/-- With nothing due, no step is made. -/
theorem State.advance_quiet (s : State) (h : s.quiet = true) : s.advance = none := by
  simp only [State.quiet, FrameDrive.homingHeld, Bool.and_eq_true, beq_iff_eq, bne_iff_ne, ne_eq,
    Option.isNone_iff_eq_none] at h
  obtain ⟨⟨⟨⟨h1, h2⟩, h3⟩, h4⟩, h5⟩ := h
  have ha : s.advanceActivity = none := by simp [State.advanceActivity, h1, h2, h3]
  unfold State.advance
  rw [h4]
  split at h5
  · rename_i hn
    simp [hn, ha]
  · rename_i hm hs
    simp only [hs, ha, Bool.or_eq_true, bne_iff_ne, ne_eq] at h5 ⊢
    rcases h5 with h5 | h5
    · simp [h5]
    · simp [Option.isSome_iff_ne_none.mp h5]

/-- With nothing due, the state settles at once. -/
theorem State.settle_quiet (n : Nat) (s : State) (h : s.quiet = true) : s.settle n = s := by
  cases n <;> simp [State.settle, State.advance_quiet s h]

/-- With nothing due, a command ends with the head bus beginning its next transaction, if it is free (R105). -/
theorem State.finish_quiet (s : State) (h : s.quiet = true) : s.finish = s.pump := by
  rw [State.finish, State.settle_quiet _ s h]

/-- The head bus does not read the Link Interface. -/
theorem State.pump_setLink (s : State) (l : Link) : (s.setLink l).pump = s.pump.setLink l := by
  have e1 : ∀ h, (s.setLink l).linkAt h = s.linkAt h := fun _ => rfl
  have e2 : ∀ r, (s.setLink l).passedOver r = s.passedOver r := fun _ => rfl
  unfold State.pump
  simp only [State.setLink_bus, e1, e2]
  split
  · rfl
  · split
    · rfl
    · split
      · rfl
      · split
        · rfl
        · split <;> rfl

/-- With a transaction in flight the head bus begins nothing (R105). -/
theorem State.pump_busy (s : State) (h : s.bus.inFlight.isSome = true) : s.pump = s := by
  simp [State.pump, h]

end Sys2Proof.Machine
end

