-- ==== Sys2Proof/Laws/Store.lean ====
section
/-!
SUPPORT. What the stamps say of the record just before an index: the lemmas by which R124's question is answered
from the design, whether the block of that record is still held or not.
-/

namespace Sys2Proof.Machine

/-- After a record, the stamps say whether it was a TRIM record. -/
@[simp] theorem Stamp.after_afterTrim (t : Stamp) (r : DesignRecord) : (t.after r).afterTrim = (r == .trim) := by
  cases r <;> rfl

@[simp] theorem Stamp.through_nil (t : Stamp) : t.through [] = t := rfl

/-- The exit stamps are those after the last record. -/
@[simp] theorem Stamp.through_concat (t : Stamp) (rs : List DesignRecord) (r : DesignRecord) :
    t.through (rs ++ [r]) = (t.through rs).after r := by
  simp [Stamp.through]

/-- Inside a held block, the stamps at an index say whether the record before it is a TRIM record. -/
theorem Slot.afterTrim_inside (sl : Slot) (k : Nat) (h : k < sl.records.length) :
    (sl.entry.through (sl.records.take (k + 1))).afterTrim = (sl.records[k] == .trim) := by
  rw [List.take_succ_eq_append_getElem h, Stamp.through_concat, Stamp.after_afterTrim]

/-- R124's question at a cursor in a held block: the record before it, or at the block's first record what the
block's entry stamps say, which are the exit stamps of the block before (R37). -/
theorem State.trimmedBefore_held (s : State) (sl : Slot) (h : s.store.slotOf s.cursor = some sl) :
    s.trimmedBefore = match s.cursor - sl.firstIndex with
      | 0 => sl.entry.afterTrim
      | k + 1 => sl.records[k]? == some .trim := by
  have hs : sl.holds s.cursor = true := List.find?_some (p := fun x : Slot => x.holds s.cursor) h
  simp only [Slot.holds, Bool.and_eq_true, decide_eq_true_eq] at hs
  simp only [State.trimmedBefore, State.stampAt, h]
  cases hk : s.cursor - sl.firstIndex with
  | zero => rfl
  | succ k =>
    have hl : k < sl.records.length := by omega
    simp [Slot.afterTrim_inside sl k hl, List.getElem?_eq_getElem hl]

end Sys2Proof.Machine
end

