-- ==== Sys2Proof/Machine/HeadBoard.lean ====
section
/-!
DEFINITION. A head board (06, R100 to R102): the partner at the other end of the head bus. It is not part of
the Controller and no command runs it; it says what the boards do with the requests that the Controller
sends, and where the status records that HEAD_ANSWER carries come from. Log 28.
-/

namespace Sys2Proof.Machine

/-- A request on the head bus: a command of Table 6-2 or a POLL. -/
inductive BoardRequest where
  | caseMove (ahead : Bool) (places : Nat)
  | trim
  | lower
  | lift
  | clear
  | poll
deriving DecidableEq, Repr

/-- What a board answers: an acknowledgement, or its status record. -/
inductive BoardAnswer where
  | acknowledge
  | record (r : StatusRecord)
deriving DecidableEq, Repr

/-- A head board. `kept` is the mark of the last request it acted on (1 or 2), `last` the answer it gave then;
`reached` is the position the case reached last and `between` says that it has left it; `turn` is the case
motion under way, its direction and the positions still to go; `bar` is the engagement that waits for the next
top position. -/
structure HeadBoard where
  kept : Option Mark
  last : BoardAnswer
  reached : Nat
  between : Bool
  caseState : CaseState
  turn : Option (Bool × Nat)
  trimState : TrimState
  engaged : Bool
  bar : Option Bool
  penetrations : Nat
  feed : Nat
  tension : Nat
  bobbinLow : Bool
deriving DecidableEq, Repr

/-- The needle in working position; 0 while the case is between positions (Table 6-3). -/
def HeadBoard.casePos (b : HeadBoard) : Nat := if b.between then 0 else b.reached

/-- The status record as the board holds it (Table 6-3). -/
def HeadBoard.status (b : HeadBoard) : StatusRecord :=
  ⟨b.casePos, b.caseState, b.trimState, b.engaged, b.penetrations, b.feed, b.tension, b.bobbinLow⟩

/-- The bar is engaged or disengaged: at once with the shaft still, else at the next top position
(Table 6-2). -/
def HeadBoard.setBar (b : HeadBoard) (shaftStill engage : Bool) : HeadBoard :=
  if shaftStill then { b with engaged := engage, bar := none } else { b with bar := some engage }

/-- The board acts on a request (Table 6-2, R102) and answers. CLEAR stops the case where it stands: at the
position reached, or between positions, which is position 0. -/
def HeadBoard.act (b : HeadBoard) (shaftStill : Bool) (q : BoardRequest) : HeadBoard × BoardAnswer :=
  match q with
  | .caseMove ahead places =>
    (match b.caseState with
      | .atRest => { b with caseState := .moving, turn := some (ahead, places) }
      | .moving => b
      | .jammed => b, .acknowledge)
  | .trim => (if b.trimState = .busy then b else { b with trimState := .busy }, .acknowledge)
  | .lower => (b.setBar shaftStill true, .acknowledge)
  | .lift => (b.setBar shaftStill false, .acknowledge)
  | .clear => ({ b with caseState := .atRest, turn := none, trimState := .idle }, .acknowledge)
  | .poll => ({ b with penetrations := 0, feed := 0 }, .record b.status)

/-- The mark a board keeps for a request it acts on: 1 for FRESH (R100). -/
def keptMark (m : Mark) : Mark :=
  match m with
  | .fresh => .one
  | .one => .one
  | .two => .two

/-- A request whose mark is not FRESH and equals the kept mark is a repeat (R100). -/
def HeadBoard.repeats (b : HeadBoard) (m : Mark) : Bool := m != .fresh && b.kept == some m

/-- A request reaches the board (R100): a repeat gets the earlier answer again, unchanged; any other is acted
on. Its mark is kept also when Table 6-2 has it acknowledged and not acted on (log 78). -/
def HeadBoard.receive (b : HeadBoard) (shaftStill : Bool) (m : Mark) (q : BoardRequest) : HeadBoard × BoardAnswer :=
  if b.repeats m then (b, b.last)
  else
    let (b', a) := b.act shaftStill q
    ({ b' with kept := some (keptMark m), last := a }, a)

/-- The next place on the ring of 12. -/
def ringNext (p : Nat) (ahead : Bool) : Nat := (if ahead then p else p + 10) % 12 + 1

/-- The turning case leaves the position it stood at (Tables 6-2, 6-3). -/
def HeadBoard.leave (b : HeadBoard) : HeadBoard := if b.turn.isSome then { b with between := true } else b

/-- The turning case comes to the next position: on the last one it has arrived and is AT REST there
(Table 6-2). A turn begun between positions counts from the position reached last (log 28). -/
def HeadBoard.reach (b : HeadBoard) : HeadBoard :=
  match b.turn with
  | some (ahead, places) =>
    let there := { b with reached := ringNext b.reached ahead, between := false }
    if places ≤ 1 then { there with caseState := .atRest, turn := none }
    else { there with turn := some (ahead, places - 1) }
  | none => b

/-- The case cannot turn on: it stands JAMMED where it is (Table 6-2). -/
def HeadBoard.jam (b : HeadBoard) : HeadBoard :=
  match b.turn with
  | some _ => { b with caseState := .jammed, turn := none }
  | none => b

/-- The trimmer's cycle ends (Table 6-2). -/
def HeadBoard.trimEnds (b : HeadBoard) (ok : Bool) : HeadBoard :=
  if b.trimState = .busy then { b with trimState := if ok then .done else .failed } else b

/-- The mechanism's top position: a waiting engagement is made. -/
def HeadBoard.top (b : HeadBoard) : HeadBoard := { b with engaged := b.bar.getD b.engaged, bar := none }

/-- The needle enters the fabric (R102): counted while the bar is engaged and needle lockout negated, with the
tension sample taken there; saturates at 255. -/
def HeadBoard.needleEntry (b : HeadBoard) (lockout : Bool) (sample : Nat) : HeadBoard :=
  if b.engaged && !lockout then { b with penetrations := min 255 (b.penetrations + 1), tension := sample } else b

/-- A pulse of the thread-feed encoder (R102): saturates at 65535. -/
def HeadBoard.feedPulse (b : HeadBoard) : HeadBoard := { b with feed := min 65535 (b.feed + 1) }

end Sys2Proof.Machine
end

