-- ==== Sys2Proof/Tests/Slice0.lean ====
section
/-!
SUPPORT. Own tests. First the smoke test of `WellFormed`, then the manual's worked examples and tables, then one step of
some commands, and last, for each statement with hypotheses, a state and operands that meet them (`met_…`), clause by
clause at the edges of their ranges.
-/

namespace Sys2Proof.Tests

open Sys2Proof.Machine

-- The tests are checked one after the other, so that they do not all wait in threads of their own.
set_option Elab.async false

/-! ## Ill-formed commands are refused -/

theorem test_wf_power_on : (Instr.powerOn 4 0 true false false false).wf = false ∧
    (Instr.powerOn 3 16 true false false false).wf = false ∧ (Instr.powerOn 3 15 true false false false).wf = true := by decide
theorem test_wf_line : (Instr.frameClose [0x7E]).wf = false ∧ (Instr.frameAbort [1, 0x7E]).wf = false ∧
    (Instr.firstFlagAfterPowerOn [0x7E]).wf = false ∧ (Instr.frameClose [0x7D, 0x5E]).wf = true := by decide
theorem test_wf_block : (Instr.designBlock .broadcast (List.replicate 301 0)).wf = false ∧
    (Instr.designBlock .broadcast (List.replicate 300 0)).wf = true := by decide +kernel
theorem test_wf_one_byte : (Instr.runToMark .broadcast 256).wf = false ∧ (Instr.setMode .broadcast 256).wf = false ∧
    (Instr.headOn .broadcast 256).wf = false ∧ (Instr.headOff .broadcast 256).wf = false ∧
    (Instr.setPolicy .broadcast 256).wf = false ∧ (Instr.repairDone .broadcast 256).wf = false ∧
    (Instr.abandonGap .broadcast 256).wf = false ∧ (Instr.status .broadcast 256).wf = false ∧
    (Instr.readHead .broadcast 256).wf = false ∧ (Instr.reset .broadcast 256).wf = false ∧
    (Instr.configurePolicy .broadcast 256).wf = false ∧ (Instr.configureMode .broadcast 256).wf = false := by decide
theorem test_wf_two_bytes : (Instr.speedCeiling .broadcast 65536).wf = false ∧ (Instr.back .broadcast 65536).wf = false ∧
    (Instr.forward .broadcast 65536).wf = false ∧ (Instr.configureProgress .broadcast 65536).wf = false ∧
    (Instr.bobbinSet .broadcast 1 65536).wf = false ∧ (Instr.bobbinSet .broadcast 256 1).wf = false ∧
    (Instr.configurePoll .broadcast 65536 5).wf = false ∧ (Instr.configurePoll .broadcast 0 256).wf = false ∧
    (Instr.configurePacing .broadcast ⟨65536, 0, 0⟩).wf = false := by decide
theorem test_wf_move_frame : (Instr.moveFrame .broadcast 2147483648 0).wf = false ∧
    (Instr.moveFrame .broadcast 0 (-2147483649)).wf = false ∧
    (Instr.moveFrame .broadcast (-2147483648) 2147483647).wf = true := by decide
theorem test_wf_map_colour : (Instr.mapColour .broadcast 256 (List.replicate 8 1)).wf = false ∧
    (Instr.mapColour .broadcast 0 (List.replicate 7 1)).wf = false ∧
    (Instr.mapColour .broadcast 0 (256 :: List.replicate 7 1)).wf = false := by decide
theorem test_wf_groups : (Instr.configureMachine .broadcast ⟨256, 64, 64, 0, 1, 0, 1, 0, 0⟩).wf = false ∧
    (Instr.configureMachine .broadcast ⟨1, 64, 64, -32769, 1, 0, 1, 0, 0⟩).wf = false ∧
    (Instr.configureSpeedLimits .broadcast ⟨80, 1000, 40, 150, 760, 240, 256⟩).wf = false ∧
    (Instr.configureMoveTable .broadcast 256 (List.replicate 32 0)).wf = false ∧
    (Instr.configureMoveTable .broadcast 0 (List.replicate 31 0)).wf = false ∧
    (Instr.configureMoveTable .broadcast 0 (65536 :: List.replicate 31 0)).wf = false ∧
    (Instr.configureThread .broadcast ⟨6, 40, 200, 8, 2, 70, 65536, 3⟩).wf = false ∧
    (Instr.configureZone .broadcast 1 256 0 4 0 4).wf = false ∧
    (Instr.configureZone .broadcast 1 0 32768 4 0 4).wf = false ∧
    (Instr.configureArbiter .broadcast (List.replicate 15 0)).wf = false ∧
    (Instr.configureArbiter .broadcast (256 :: List.replicate 15 0)).wf = false ∧
    (Instr.configureReadBack .broadcast 256 none).wf = false ∧
    (Instr.configureReadBack .broadcast 3 (some 256)).wf = false ∧
    (Instr.configureReadBack .broadcast 10 (some 1)).wf = false := by decide
theorem test_wf_head_events : (Instr.headAnswer 0 true default).wf = false ∧ (Instr.headAnswer 9 true default).wf = false ∧
    (Instr.headAnswer 1 true ⟨13, .atRest, .idle, false, 0, 0, 0, false⟩).wf = false ∧
    (Instr.trimTimerExpiry 9).wf = false ∧ (Instr.caseTimerExpiry 0).wf = false := by decide

/-! ## Worked examples and tables of the manual -/

/-- 10, section 10.6: the check value over "123456789" is 0x29B1. -/
theorem test_crc : crc [0x31, 0x32, 0x33, 0x34, 0x35, 0x36, 0x37, 0x38, 0x39] = 0x29B1#16 := by decide +kernel

/-- R159: FLAG and 0x7D in a content are sent as 0x7D and the byte with bit 5 inverted. -/
theorem test_escape : escapeBytes [0x7E, 0x01, 0x7D] = [0x7D, 0x5E, 0x01, 0x7D, 0x5D] := by decide

/-- Table 4-4: steps and new residue of the five moves. -/
theorem test_residue_carry :
    moveSteps 640 0 45 = 112 ∧ moveSteps 640 128 45 = 113 ∧ moveSteps 640 0 (-45) = -113 ∧
    moveSteps 640 128 (-30) = -75 ∧ stepsAt 640 (-15) = -38 ∧ residueAt 640 45 = 128 ∧ residueAt 640 (-15) = 128 := by decide

/-- Example 4-2: the four targets against zone 2. -/
theorem test_zone :
    let z : ZoneFields := ⟨true, 1024, 10, -512, 9⟩
    inZone z ⟨1500, -100⟩ = true ∧ inZone z ⟨2048, -100⟩ = false ∧ inZone z ⟨1100, 0⟩ = false ∧
      inZone z ⟨1024, -512⟩ = true := by decide

/-- Table 7-2. -/
theorem test_ring : ringMove 11 2 = (true, 3) ∧ ringMove 3 9 = (true, 6) ∧ ringMove 5 1 = (false, 4) ∧
    ringMove 6 11 = (true, 5) ∧ ringMove 12 1 = (true, 1) := by decide

/-- A move time table with the entries of Table 3-2. -/
def table32 : List Nat :=
  List.replicate 20 0 ++ [9000] ++ List.replicate 24 9000 ++ [18000] ++ List.replicate 54 18000 ++ [42000] ++
    List.replicate 26 42000 ++ [60000]

/-- Table 3-2, and the JUMP of index 127 beside it. -/
theorem test_time_bounds :
    let c := { Settings.default with table := table32 }
    c.timeBound 20 true = 3281 ∧ c.timeBound 45 true = 1640 ∧ c.timeBound 100 true = 703 ∧ c.timeBound 127 true = 492 ∧
      c.timeBound 127 false = 1000 ∧ c.recordBound (.stitch 100 0) 1500 = 703 ∧ c.recordBound (.stitch 20 0) 1500 = 1000 := by
  decide

/-- Table 3-3, records i to i+5: the lookahead bound. -/
theorem test_lookahead :
    let w := fun (l : List Nat) => lookBound 150 1000 (l.zipIdx.map (fun p => (⟨0, p.1, p.2, false⟩ : WindowEntry)))
    w [1000, 1000, 1000, 703, 1000, 492] = 1000 ∧ w [1000, 1000, 703, 1000, 492, 1000] = 1000 ∧
      w [1000, 703, 1000, 492, 1000] = 853 ∧ w [703, 1000, 492, 1000] = 703 ∧ w [1000, 492, 1000] = 642 ∧
      w [492, 1000] = 492 := by decide

/-! ## States -/

/-- After power-on with own address 3 and the host ready. -/
def base : State := State.atPowerOn 0 3 true false false

/-- A host tag. -/
def tag : Byte := 7
def src : Sender := .addressed tag

/-- Records 0 to 9 of a small design. -/
def records : List DesignRecord :=
  [.stitch 10 5, .stitch (-20) 3, .speed 800, .mark 7, .jump 100 0, .trim, .stitch 4 4, .colour 2, .stitch 127 (-127), .finish]

/-- The slot that holds them. -/
def slot : Slot := ⟨.active, 0, true, true, 0, records, ⟨⟨0, 0⟩, 0, 1500, false⟩, ⟨⟨221, -115⟩, 2, 800, false⟩⟩

/-- IDLE, configured and referenced, with the design held and nothing sewn. -/
def ready : State :=
  (((((base.setRun { base.run with state := .idle }).setStore
    ⟨.complete, slot :: List.replicate 31 Slot.empty, 1, 0, 10, some ⟨⟨221, -115⟩, 2, 800, false⟩⟩).setFrame { base.frame with
      x := { base.frame.x with referenced := true }, y := { base.frame.y with referenced := true } }).setShaft { base.shaft with
        state := .atRest, referenced := true }).setCfg { Settings.default with
          machineSet := true, speedsSet := true, tableLoaded := true }).setLink { base.link with flagSeen := true }

/-- PAUSED at the cursor given, on the path. -/
def pausedAt (cursor : Nat) (p : Point) : State :=
  (ready.setRun { ready.run with state := .paused, cause := some .host, mainCursor := cursor }).setFrame { ready.frame with
    x := { ready.frame.x with pos := p.x, steps := stepsAt 640 p.x, residue := residueAt 640 p.x }
    y := { ready.frame.y with pos := p.y, steps := stepsAt 640 p.y, residue := residueAt 640 p.y }
    origin := some ⟨0, 0⟩ }

/-- RUNNING at the cursor given, the shaft one count before an angle. -/
def runningAt (cursor : Nat) (angle : Nat) : State :=
  ((pausedAt cursor ⟨0, 0⟩).setRun { ready.run with
    state := .running, mainCursor := cursor, heads := ready.run.heads.set 0 ⟨.sewing, 1, none, none⟩ }).setShaft { ready.shaft with
      state := .running, speed := 500, stall := some 1500, angle := (angle + 1023) % 1024 }

/-- A state in another run state. -/
def inState (s : State) (r : RunState) : State := s.setRun { s.run with state := r }
/-- A state with another shaft state. -/
def withShaft (s : State) (t : ShaftState) : State := s.setShaft { s.shaft with state := t }
/-- A state with gap records. -/
def withGaps (s : State) (g : List Gap) : State := { s with gaps := g }

/-! ## One step of some commands -/

/-- The state after a command. -/
def after (i : Instr) (s : State) : State :=
  match exec i s with
  | .next t => t
  | .fault _ => s
  | .refused _ => s

theorem test_step_takes_the_front : step (ready.setPending [.estopNegate, .indexPulse]) =
    exec .estopNegate (ready.setPending [.indexPulse]) := rfl
/-- R12, R14, R15: START is answered OK and arms the run. -/
theorem test_start : (after (.start src) ready).run.state = .arming ∧ (after (.start src) ready).run.warning = true ∧
    (after (.start src) ready).link.replies = [⟨tag, some ⟨.ok, []⟩⟩] := by decide +kernel
/-- R1: START in UNCONFIGURED is answered NOT CONFIGURED. -/
theorem test_start_unconfigured : (after (.start src) base).link.replies = [⟨tag, some ⟨.notConfigured, []⟩⟩] := by
  decide +kernel
/-- Example 4-3: the first segment of the travel by (+300, +50). -/
theorem test_move_frame :
    ((after (.moveFrame src 300 50) (pausedAt 0 ⟨-3000, -2000⟩)).frame.x.move = some ⟨.segment, 100, 250, 0⟩) ∧
    ((after (.moveFrame src 300 50) (pausedAt 0 ⟨-3000, -2000⟩)).frame.y.move.map AxisMove.delta = some 16) ∧
    ((after (.moveFrame src 300 50) (pausedAt 0 ⟨-3000, -2000⟩)).run.state = .travelling) := by decide +kernel
/-- Example 3-4: a STOP at 1000 with D of 150; the next stitch is commanded at 850. -/
theorem test_stop_speed :
    ((inState ((runningAt 0 760).setGov { ready.gov with last := some 1000 }) .stopping).speedFrom 1000 1000) = 850 := by
  decide +kernel
/-- Example 10-1: the pointer is 5, EVENT at phase 5 is served first. -/
theorem test_walk :
    let s := base.setLink { base.link with
      pointer := 5, events := [⟨.halted, 0, 0, 0⟩], progress := some ⟨0, 0, ⟨0, 0⟩, .main⟩
      replies := [⟨1, some ⟨.ok, []⟩⟩, ⟨2, some ⟨.ok, []⟩⟩] }
    (after .outboundWalk s).link.events = [] ∧ (after .outboundWalk s).link.pointer = 6 ∧
      (after .outboundWalk (after .outboundWalk s)).link.replies = [⟨2, some ⟨.ok, []⟩⟩] := by decide +kernel
/-- R32: OPEN DESIGN grants 8 blocks from sequence number 0. -/
theorem test_open_design : (after (.openDesign src) ready).link.grant = some ⟨0, 8⟩ ∧
    (after (.openDesign src) ready).store.granted = 8 := by decide +kernel
/-- R95, R96: the emergency stop in RUNNING. -/
theorem test_estop : (after (.estopAssert 0 0) (runningAt 0 760)).run.state = .halted ∧
    (after (.estopAssert 0 0) (runningAt 0 760)).run.haltReturn = some .paused ∧
    (after (.estopAssert 0 0) (runningAt 0 760)).shaft.state = .unreferenced := by decide +kernel
/-- R5: at the Open angle the move of the record at the cursor begins. -/
theorem test_open_angle : (after (.encoderCount true) (runningAt 0 760)).frame.stitch = some ⟨10, false, 0, false⟩ := by
  decide +kernel
/-- R157: FORWARD 2 from record 4 passes records 4 and then stops at the TRIM. -/
theorem test_forward : (after (.forward src 2) (pausedAt 4 ⟨-10, 8⟩)).run.mainCursor = 5 ∧
    (after (.forward src 2) (pausedAt 4 ⟨-10, 8⟩)).link.replies = [⟨tag, some ⟨.ok, [0, 1]⟩⟩] := by decide +kernel
/-- Tables 6-2, 6-3: a CASE MOVE of 2 from position 12, cleared between positions 1 and 2: AT REST at position 0. -/
theorem test_clear_between_positions :
    let b : HeadBoard := ⟨none, .acknowledge, 12, false, .atRest, none, .idle, false, none, 0, 0, 0, false⟩
    let moved := (b.act true (.caseMove true 2)).1
    moved.leave.status.casePos = 0 ∧ moved.leave.reach.status.casePos = 1 ∧
      (moved.leave.reach.leave.act true .clear).1.status.casePos = 0 ∧
      (moved.leave.reach.leave.act true .clear).1.status.caseState = .atRest ∧
      moved.leave.reach.leave.reach.status.casePos = 2 := by decide

/-! ## Witnesses: the machine as a whole -/

theorem met_StepRunsFrontCommand : State.reset.pending = [] := rfl
theorem met_RequestsPassTheGate :
    ((Instr.start .broadcast).sender? = some .broadcast ∧ (Instr.start .broadcast).actsOnBroadcast = false) ∧
    ((Instr.stop src).sender? = some (.addressed tag) ∧ (State.atPowerOn 0 15 true false false).link.addressStraps = 15) ∧
    (4 ≤ (base.setLink { base.link with replies := List.replicate 4 ⟨1, none⟩ }).link.replies.length) ∧
    (let s := base.setLink { base.link with replies := List.replicate 3 ⟨1, none⟩, resetBy := some .broadcast };
      s.link.addressStraps ≠ 15 ∧ s.link.replies.length < 4 ∧ s.link.resetBy ≠ none) := by decide
theorem met_StrapsReadOnlyAtPowerOn :
    (∃ t, exec (.powerOn 3 15 true true false true) base = .next t) ∧ (∃ t, exec .estopNegate base = .next t) :=
  ⟨⟨_, rfl⟩, ⟨_, rfl⟩⟩

/-- Is the outcome of the step a next state? -/
def steps (s : State) : Bool :=
  match step s with
  | .next _ => true
  | .fault _ => false
  | .refused _ => false

theorem exists_of_steps {s : State} (h : steps s = true) : ∃ t, step s = .next t := by
  unfold steps at h
  split at h
  · exact ⟨_, by assumption⟩
  · cases h
  · cases h

/-- G at 32 with every slot FREE. -/
def edgeStore : State := (ready.setStore { base.store with design := .loading, granted := 32 }).setPending [.openDesign src]
theorem met_SlotsAndGrantsStayWithin32 : edgeStore.slotsRight = true ∧ ∃ t, step edgeStore = .next t :=
  ⟨by decide +kernel, exists_of_steps (by decide +kernel)⟩
/-- Every queue of the link full, the counters and the pointer at their highest values. -/
def edgeLink : State := ((ready.setLink { ready.link with
  replies := List.replicate 4 ⟨1, none⟩, events := List.replicate 32 ⟨.halted, 0, 0, 0⟩
  buffers := List.replicate 2 ⟨false, 4, 1, []⟩, errors := 65535, assembling := List.replicate 308 0, pointer := 16, progressCount := 1000 }).setCfg
  { ready.cfg with progressPeriod := 1000 }).setPending
    [.frameClose [1]]
theorem met_LinkCapacitiesKept : edgeLink.linkRight = true ∧ ∃ t, step edgeLink = .next t :=
  ⟨by decide +kernel, exists_of_steps (by decide +kernel)⟩
/-- Sixteen gap records, four of each of four heads, one of the four OPEN. -/
def edgeGaps : State := (withGaps (pausedAt 6 ⟨90, 8⟩) ([1, 2, 3, 4].flatMap (fun h =>
  [⟨h, 0, some 1, ⟨0, 0⟩, 0, .closed⟩, ⟨h, 1, some 2, ⟨0, 0⟩, 0, .closed⟩, ⟨h, 2, some 3, ⟨0, 0⟩, 0, .closed⟩,
    ⟨h, 3, none, ⟨0, 0⟩, 0, .opened⟩]))).setPending [.abandonGap src 1]
theorem met_GapTableBoundsKept : edgeGaps.gapsRight ∧ ∃ t, step edgeGaps = .next t := by
  refine ⟨⟨by decide, fun h => ?_⟩, exists_of_steps (by decide +kernel)⟩
  by_cases h1 : h = 1
  · subst h1; decide
  by_cases h2 : h = 2
  · subst h2; decide
  by_cases h3 : h = 3
  · subst h3; decide
  by_cases h4 : h = 4
  · subst h4; decide
  · have := Ne.symm h1; have := Ne.symm h2; have := Ne.symm h3; have := Ne.symm h4
    simp [edgeGaps, withGaps, State.setPending, *]
/-- A stitch move of 127 in flight on both axes, from a position whose residue is not 0. -/
def edgeMove : State :=
  (let s := pausedAt 0 ⟨45, -15⟩
   s.setFrame { s.frame with
    x := { s.frame.x with move := some ⟨.stitch, 127, moveSteps 640 128 127, 0⟩ }
    y := { s.frame.y with move := some ⟨.stitch, -127, moveSteps 640 128 (-127), 0⟩ }
    stitch := some ⟨127, false, 0, false⟩ }).setPending [.stitchMoveComplete]
theorem met_StepCountFollowsPosition : edgeMove.stepsRight ∧ ∃ t, step edgeMove = .next t := by
  refine ⟨⟨⟨by decide, ?_⟩, ⟨by decide, ?_⟩⟩, exists_of_steps (by decide +kernel)⟩
  · rintro m ⟨⟩; decide
  · rintro m ⟨⟩; decide
/-- A full command queue with a command held back. -/
def edgeBus : State := (ready.setBus { ready.bus with
  queue := List.replicate 16 ⟨1, .poll⟩, held := [⟨2, .clear⟩] }).setPending [.restTimerExpiry]
theorem met_HeadBusQueueBoundKept : edgeBus.queueRight = true ∧ ∃ t, step edgeBus = .next t :=
  ⟨by decide +kernel, exists_of_steps (by decide +kernel)⟩
/-- HALTED out of PAUSED. -/
def halted : State := (inState (pausedAt 6 ⟨90, 8⟩) .halted).setShaft { ready.shaft with
  state := .unreferenced, referenced := false, lockout := { Lockout.empty with halt := true } }
/-- The run record of HALTED. -/
def haltedBack (r : RunState) : State := halted.setRun { halted.run with haltReturn := some r }
theorem met_HaltKeepsNeedlesLockedOut :
    ((haltedBack .paused).setPending [.homeFrame src]).haltRight ∧
      ∃ t, step ((haltedBack .paused).setPending [.homeFrame src]) = .next t :=
  ⟨by unfold State.haltRight; decide +kernel, exists_of_steps (by decide +kernel)⟩
theorem met_ListShapesKept :
    let s := ready.setPending [.configureMoveTable src 3 (List.replicate 32 65535), .configureArbiter src (List.replicate 16 0)]
    (∀ c ∈ s.pending, c.wf = true) ∧ s.shapesRight = true ∧ ∃ t, step s = .next t :=
  ⟨by decide +kernel, by decide +kernel, exists_of_steps (by decide +kernel)⟩

/-! ## Witnesses: power-on and the host link -/

theorem met_PowerOnValues : 2 ≤ 8 ∧ (63 : Nat) < 64 := by decide
theorem met_FrameRoundTrip :
    (ready.link.flagSeen = true ∧ ready.link.escaped = false ∧ ready.link.assembling = [] ∧ ready.link.buffers.length < 2) ∧
    ((255 : Nat) < 256 ∧ (List.replicate 300 (0x7E : Byte)).length ≤ 300) ∧
    ((3 : Nat) < 15 ∧ ready.link.addressStraps = 3) := by decide +kernel
/-- The same link with a buffer free, none free. -/
def buffered (n : Nat) : State := ready.setLink { ready.link with buffers := List.replicate n ⟨false, 4, 1, []⟩ }
theorem met_FrameChecksInOrder :
    (ready.link.flagSeen = true ∧ ready.link.escaped = false ∧ ready.link.assembling = []) ∧
    307 < (List.replicate 308 (0 : Byte)).length ∧
    (let c := List.replicate 307 (0 : Byte);
      c.length ≤ 307 ∧ ¬ (7 ≤ c.length ∧ twoAt c 3 ≤ 300 ∧ c.length = 7 + twoAt c 3)) ∧
    (let c := List.replicate 6 (3 : Byte);
      c.length ≤ 307 ∧ ¬ (7 ≤ c.length ∧ twoAt c 3 ≤ 300 ∧ c.length = 7 + twoAt c 3)) ∧
    (let c : List Byte := [3, 4, 7, 0, 0, 0, 0];
      (7 ≤ c.length ∧ twoAt c 3 ≤ 300 ∧ c.length = 7 + twoAt c 3) ∧ ¬ crcBytes (c.take 5) = c.drop 5) ∧
    (let c := frameContent 4 4 7 [];
      (7 ≤ c.length ∧ twoAt c 3 ≤ 300 ∧ c.length = 7 + twoAt c 3) ∧ crcBytes (c.take 5) = c.drop 5 ∧
        ¬ (byteAt c 0 = 15 ∨ byteAt c 0 = ready.link.addressStraps)) ∧
    (let c := frameContent 15 6 0 [];
      (7 ≤ c.length ∧ twoAt c 3 ≤ 300 ∧ c.length = 7 + twoAt c 3) ∧ crcBytes (c.take 5) = c.drop 5 ∧ byteAt c 0 = 15 ∧
        2 ≤ (buffered 2).link.buffers.length) := by decide +kernel
theorem met_LineOpensAbortsAndWaits :
    (∀ b ∈ ([0x7C, 0x5E] : List Byte), b ≠ 0x7D#8) ∧ base.link.escaped = false ∧ base.link.flagSeen = false ∧
    ready.link.flagSeen = true ∧ ready.link.assembling = [] ∧
    (base.setLink { base.link with hostReady := false }).link.hostReady = false ∧
    (base.link.addressStraps ≠ 15 ∧ base.link.replyFirst = false ∧ base.link.ready .reply = false ∧
      base.link.ready .event = false ∧ base.link.ready .grant = false ∧ base.link.ready .progress = false) := by decide
theorem met_DecoderHandsOnOrAnswers :
    (let f : InFrame := ⟨false, 30, 1, [11, 2]⟩;
      decodeRequest f.cls f.body = .request (.configureMode 2) ∧
        (Request.configureMode 2).command (.addressed 1) = some (.configureMode (.addressed 1) 2)) ∧
    ((buffered 1).link.buffers = [⟨false, 4, 1, []⟩] ∧ (buffered 1).link.addressStraps ≠ 15 ∧
      (buffered 1).link.replies.length < 4) ∧
    (let f : InFrame := ⟨true, 6, 1, []⟩;
      decodeRequest f.cls f.body = .request .stop ∧ (Request.stop).command .broadcast = some (.stop .broadcast) ∧
        (Instr.stop .broadcast).actsOnBroadcast = true) ∧
    4 ≤ ((buffered 1).setLink { (buffered 1).link with replies := List.replicate 4 ⟨1, none⟩ }).link.replies.length ∧
    ((31 : Nat) = 0 ∨ (30 : Nat) < 31) ∧ (18, 8) ∈ ([(18, 9)] : List (Nat × Nat)).flatMap
      (fun p => (List.range p.2).map (fun k => (p.1, k))) := by decide +kernel
/-- A phase table in which one phase serves progress reports, the one before the pointer. -/
def lastPhase : Link := { base.link with
  phases := .progress :: List.replicate 15 .reply, pointer := 2, progress := some ⟨0, 0, ⟨0, 0⟩, .main⟩ }
theorem met_WalkServesFirstReadyPhase :
    (lastPhase.hostReady = true ∧ lastPhase.addressStraps ≠ 15 ∧ lastPhase.replyFirst = false ∧ lastPhase.phases.length = 16 ∧
      1 ≤ lastPhase.pointer ∧ lastPhase.pointer ≤ 16) ∧
    lastPhase.phases[(lastPhase.pointer - 1 + 15) % 16]? = some .progress ∧ lastPhase.ready .progress = true ∧
    lastPhase.ready .reply = false ∧
    ({ base.link with events := [⟨.halted, 0, 0, 0⟩], pointer := 16 } : Link).ready .progress = false ∧
    ({ lastPhase with replyFirst := true, replies := [⟨9, some ⟨.ok, []⟩⟩] } : Link).replies = ⟨9, some ⟨.ok, []⟩⟩ :: [] ∧
    (let l := (State.atPowerOn 0 15 true false false).link;
      l.addressStraps = 15 ∧ l.hostReady = true ∧ l.phases[(l.pointer - 1 + 1) % 16]? = some .event ∧
        l.phases[(l.pointer - 1 + 0) % 16]? ≠ some .event ∧
        ({ l with events := [⟨.resetDone, 0, 0, 1⟩] } : Link).events.head? = some ⟨.resetDone, 0, 0, 1⟩) := by
  decide +kernel

/-- The same link before every frame, but for the pointer: an event waits all the time. -/
def waitingEvent : Nat → Link
  | 0 => { base.link with events := [⟨.halted, 0, 0, 0⟩], pointer := 16 }
  | n + 1 => { base.link with events := [⟨.halted, 0, 0, 0⟩], pointer := (waitingEvent n).outbound.pointer }
theorem met_SourceServedWithin16Frames :
    ((waitingEvent 0).phases.length = 16 ∧ OutSource.event ∈ (waitingEvent 0).phases ∧ 1 ≤ (waitingEvent 0).pointer ∧
      (waitingEvent 0).pointer ≤ 16) ∧
    (∀ n, (waitingEvent n).hostReady = true ∧ (waitingEvent n).addressStraps ≠ 15 ∧ (waitingEvent n).replyFirst = false ∧
      (waitingEvent n).ready .event = true) ∧
    (∀ n, (waitingEvent (n + 1)).phases = (waitingEvent n).phases ∧
      (waitingEvent (n + 1)).pointer = (waitingEvent n).outbound.pointer) := by
  refine ⟨by decide +kernel, fun n => ?_, fun n => ?_⟩
  · cases n <;> exact ⟨rfl, (by decide : (3 : Nat) ≠ 15), rfl, rfl⟩
  · cases n <;> exact ⟨rfl, rfl⟩
theorem met_MessageLayouts :
    let l : Link := { base.link with
      replies := [⟨1, some ⟨.ok, []⟩⟩], events := [⟨.stopped, 0, 16777215, 13⟩], grant := some ⟨65535, 32⟩
      progress := some ⟨0, 1500, ⟨-1, 1⟩, .patch⟩ }
    l.replies = ⟨1, some ⟨.ok, []⟩⟩ :: [] ∧ l.events = ⟨.stopped, 0, 16777215, 13⟩ :: [] ∧ l.grant = some ⟨65535, 32⟩ ∧
      l.progress = some ⟨0, 1500, ⟨-1, 1⟩, .patch⟩ := ⟨rfl, rfl, rfl, rfl⟩

/-! ## Witnesses: the Design Store -/

theorem met_OpenAndDiscardDesign :
    ready.hears = true ∧ ready.quiet = true ∧ ready.run.state = .idle ∧
    ((inState ready .finished).quiet = true ∧ (inState ready .finished).run.state = .finished) ∧
    ((pausedAt 6 ⟨90, 8⟩).quiet = true ∧ (pausedAt 6 ⟨90, 8⟩).run.state = .paused ∧ (pausedAt 6 ⟨90, 8⟩).hears = true) ∧
    ((runningAt 0 0).hears = true ∧ (runningAt 0 0).run.state ≠ .idle ∧ (runningAt 0 0).run.state ≠ .finished ∧
      (runningAt 0 0).run.state ≠ .paused) ∧
    (ready.engagedHead 1 = false ∧ ready.engagedHead 8 = false) := by decide +kernel
/-- OPEN, with G of 1 and nothing filled. -/
def loading : State := ready.setStore { base.store with design := .loading, granted := 1 }
theorem met_DesignBlockChecksInOrder :
    loading.hears = true ∧ ([0, 0, 0] : List Byte).length < 4 ∧ ready.store.design ≠ .loading ∧
    (loading.setStore { loading.store with granted := 0 }).store.granted = 0 ∧
    (loading.store.design = .loading ∧ loading.store.granted ≠ 0) ∧
    twoAt [0, 1, 0, 1] 0 ≠ loading.store.nextSeq ∧
    (twoAt [0, 0, 0, 0] 0 = loading.store.nextSeq ∧ blockForm [0, 0, 0, 0] = none) ∧
    (blockForm [0, 0, 1, 1, 8, 0, 0] = some [.finish] ∧
      16777216 < (loading.setStore { loading.store with filledEnd := 16777216 }).store.filledEnd + 1) ∧
    (blockForm [0, 0, 0, 1, 1, 127, 0] = some [.stitch 127 0] ∧
      positionsInDesign ⟨⟨32000, 0⟩, 0, 1500, false⟩ [.stitch 127 0] = false) := by decide +kernel
theorem met_DesignBlockForm : 4 ≤ ([0, 0, 1, 1, 8, 0, 0] : List Byte).length ∧
    blockForm [0, 0, 1, 1, 8, 0, 0] = some [.finish] ∧ (0 : Byte).toNat = 0 ∧ 8 < (9 : Byte).toNat ∧
    (∀ n ∈ [1, 2, 3, 4, 5, 6, 7, 8], (BitVec.ofNat 8 n).toNat = n) := by decide +kernel
/-- Table 10-7: displacements to the edges, a slot of 63 and of 64, a limit of 2550 rpm, kinds 0 and 9. -/
theorem test_record_kinds :
    recordOf 1 129 127 = some (.stitch (-127) 127) ∧ recordOf 1 128 0 = none ∧ recordOf 2 0 128 = none ∧
    recordOf 2 255 1 = some (.jump (-1) 1) ∧ recordOf 4 63 0 = some (.colour 63) ∧ recordOf 4 64 0 = none ∧
    recordOf 5 255 0 = some (.speed 2550) ∧ recordOf 7 255 9 = some (.mark 255) ∧ recordOf 0 0 0 = none ∧
    recordOf 9 0 0 = none := by decide +kernel
/-- The main cursor at the filled end of a design still LOADING, in this run state. -/
def feeding (r : RunState) : State := inState ((runningAt 0 0).setStore loading.store) r
theorem met_DesignBlockAccepted :
    let b : List Byte := [0, 0, 1, 2, 1, 127, 129, 8, 0, 0]
    (loading.hears = true ∧ loading.quiet = true ∧ loading.run.state ≠ .waiting ∧ 4 ≤ b.length ∧
      loading.store.design = .loading ∧ loading.store.granted ≠ 0 ∧ twoAt b 0 = loading.store.nextSeq) ∧
    blockForm b = some [.stitch 127 (-127), .finish] ∧ loading.store.filledEnd + 2 ≤ 16777216 ∧
    positionsInDesign loading.tailStamp [.stitch 127 (-127), .finish] = true ∧
    (let s := feeding .running;
      s.hears = true ∧ s.calm = true ∧ s.shaft.state = .running ∧ s.run.state ≠ .waiting ∧ s.store = loading.store) ∧
    (let s := feeding .waiting;
      s.hears = true ∧ s.run.state = .waiting ∧ s.joinsWaiting = false ∧ s.store = loading.store ∧
        (after (.designBlock src b) s).run.state = .running) := by decide +kernel

/-- A RETAINED slot of ten records behind the main cursor given. -/
def retainedAt (cursor : Nat) : State :=
  (ready.setStore { ready.store with slots := { slot with state := .retained } :: List.replicate 31 Slot.empty }).setRun
    { ready.run with mainCursor := cursor }
theorem met_PacingAndRelease :
    (loading.cfg.pacing.low < loading.cfg.pacing.high ∧ loading.store.design = .loading ∧
      min (2 - loading.store.granted) (loading.store.freeCount - loading.store.granted) ≠ 0) ∧
    ready.store.design ≠ .loading ∧
    (∀ j, 0 ≤ j → j < 10 → ¬ ((retainedAt 250).run.mainCursor - 240 ≤ j ∧ j < (retainedAt 250).run.mainCursor)) ∧
    ((retainedAt 249).run.mainCursor - 240 ≤ 9 ∧ 9 < (retainedAt 249).run.mainCursor) ∧
    (retainedAt 250).store.slots[0]? = some { slot with state := .retained } ∧
    ready.store.slots[0]? = some slot ∧ slot.state ≠ .retained := by
  refine ⟨by decide +kernel, by decide, ?_, by decide, rfl, rfl, by decide⟩
  simp [retainedAt, State.setRun]
  omega

/-! ## Witnesses: run requests -/

/-- PAUSED before the last STITCH. -/
def paused : State := pausedAt 6 ⟨90, 8⟩
/-- A state in another run mode. -/
def inMode (s : State) (m : RunMode) : State := s.setRun { s.run with mode := m }
theorem met_StartsArmTheRun :
    (ready.hears = true ∧ ready.run.state = .idle ∧ ready.startRefused = none ∧ ready.run.mode ≠ .single) ∧
    (paused.hears = true ∧ paused.run.state = .paused ∧ paused.resumeRefused = none ∧ paused.run.mode ≠ .single) ∧
    (255 : Nat) < 256 ∧
    ((inMode ready .single).run.mode = .single ∧ (inMode ready .single).startRefused = none) ∧
    (inMode paused .single).resumeRefused = none := by decide +kernel
/-- Head 1 with a pending fault of this handling. -/
def faulted (s : State) (k : FaultKind) (h : Handling) : State :=
  s.setMonitor { s.monitor with heads := s.monitor.heads.modify 0 (fun w => { w with fault := some ⟨k, h⟩ }) }
/-- A field that no record of the design leaves the middle of. -/
def smallField (s : State) : State :=
  s.setCfg { s.cfg with machine := ⟨1, 640, 640, -9, 9, -9, 9, 0, 0⟩ }
/-- No axis referenced. -/
def unreferenced (s : State) : State := s.setFrame { s.frame with
  x := { s.frame.x with referenced := false }, y := { s.frame.y with referenced := false } }
/-- All heads OFF. -/
def noHeads (s : State) : State := s.setRun { s.run with heads := List.replicate 8 ⟨.off, 0, none, none⟩ }
theorem met_StartConditionsInOrder :
    (base.hears = true ∧ base.run.state = .unconfigured) ∧
    ((runningAt 0 0).hears = true ∧ (runningAt 0 0).run.state ≠ .unconfigured ∧ (runningAt 0 0).run.state ≠ .idle ∧
      (runningAt 0 0).run.state ≠ .paused) ∧
    ((inMode ready .single).run.state = .idle ∧ (inMode ready .single).run.mode = .single ∧ ready.run.mode ≠ .single) ∧
    ((ready.setStore base.store).run.state = .idle ∧ (ready.setStore base.store).store.design = .absent) ∧
    (loading.store.recordAt 0 = none ∧ ready.store.design ≠ .absent ∧ ready.store.recordAt 0 ≠ none) ∧
    ((unreferenced ready).frame.x.referenced = false ∧ (unreferenced ready).run.state = .idle ∧
      (unreferenced ready).store.recordAt 0 ≠ none) ∧
    (ready.frame.x.referenced = true ∧ ready.frame.y.referenced = true ∧ ready.shaft.referenced = true) ∧
    (faulted ready .lost .held).heldFault = true ∧
    ((noHeads ready).heldFault = false ∧ (noHeads ready).anyAble = false) ∧
    ((smallField ready).heldFault = false ∧ (smallField ready).anyAble = true ∧
      (smallField ready).outOfBounds (smallField ready).cursor = true) ∧
    (paused.run.state = .paused ∧ paused.run.mode ≠ .single ∧ paused.heldFault = false ∧
      paused.frame.x.referenced = true ∧ paused.frame.y.referenced = true ∧ paused.dataAtCursor = true ∧
      paused.anyAble = true) ∧
    (faulted paused .upperBreak .held).heldFault = true ∧ (unreferenced paused).frame.y.referenced = false ∧
    (pausedAt 10 ⟨221, -115⟩).dataAtCursor = false ∧
    ((noHeads paused).dataAtCursor = true ∧ (noHeads paused).anyAble = false) ∧
    ((smallField paused).anyAble = true ∧ (smallField paused).outOfBounds (smallField paused).cursor = true) ∧
    ready.run.pass = .main ∧
    ((inMode paused .single).run.state = .paused ∧ (inMode paused .single).run.mode = .single ∧
      (inMode (faulted paused .lost .held) .single).heldFault = true ∧ (inMode (noHeads paused) .single).anyAble = false ∧
      (inMode (noHeads ready) .single).anyAble = false ∧ (inMode (smallField ready) .single).outOfBounds 0 = true) := by
  decide +kernel

/-- The warning hold of a start made from PAUSED. -/
def holding : State := paused.setRun { paused.run with
  state := .arming, cause := none, activity := .hold, startReturn := some .paused, warning := true }
/-- A homing of X under way. -/
def homing (s : State) (a : AxisName) (p : HomingPhase) : State := s.setFrame { s.frame with
  x := { s.frame.x with referenced := false, move := some ⟨.homing, 0, 0, 0⟩ }
  y := { s.frame.y with referenced := false }, homing := some ⟨a, p⟩ }
theorem met_StopEndsWhatRuns :
    ((runningAt 0 0).hears = true ∧ (runningAt 0 0).joinsWaiting = false ∧ (runningAt 0 0).run.state = .running ∧
      (runningAt 0 0).run.activity = .none ∧ (runningAt 0 0).shaft.state = .running ∧ (runningAt 0 0).frame.travel = none ∧
      (runningAt 0 0).frame.homing = none) ∧
    (holding.hears = true ∧ holding.joinsWaiting = false ∧ holding.run.state = .arming ∧ holding.run.activity = .hold ∧
      holding.run.startReturn = some .paused ∧ holding.shaft.state ≠ .referencing ∧ holding.frame.travel = none ∧
      holding.frame.homing = none) ∧
    ((inState paused .waiting).quiet = true ∧ (inState paused .waiting).run.state = .waiting) ∧
    (ready.quiet = true ∧ ready.joinsWaiting = false ∧ ready.frame.homing = none) ∧
    ((homing ready .x .down).quiet = true ∧ (homing ready .x .down).run.state = .idle ∧
      (homing ready .x .down).frame.homing = some ⟨.x, .down⟩) ∧
    (let s := withShaft (inState (runningAt 0 0) .stopping) .stopping;
      s.hears = true ∧ s.run.state = .stopping ∧ s.calm = true ∧ s.shaft.state = .stopping) ∧
    (let s := ready.setRun { ready.run with state := .arming, activity := .hold, startReturn := some .idle };
      s.shaft.state ≠ .referencing ∧ s.frame.travel = none ∧ s.frame.homing = none ∧
        ∀ h ∈ headNumbers, s.engagedHead h = false ∧ (s.headAt h).state ≠ .resting) ∧
    (let s := (withShaft holding .referencing).setRun { holding.run with activity := .referencing };
      s.hears = true ∧ s.joinsWaiting = false ∧ s.run.state = .arming ∧ s.shaft.state = .referencing ∧
        s.run.startReturn = some .paused) ∧
    ((withShaft holding .referencing).setRun { holding.run with activity := .dueTravel }).run.activity = .dueTravel ∧
    (let s := paused.setRun { paused.run with state := .changing, activity := .changing };
      s.run.state = .changing ∧ s.run.activity ≠ .hostTravel ∧ s.shaft.state ≠ .referencing ∧ s.frame.homing = none) ∧
    (let s := (paused.setRun { paused.run with state := .travelling, activity := .hostTravel }).setFrame { paused.frame with
        travel := some ⟨[], ⟨0, 0⟩, ⟨300, 50⟩, 3, 1, some 100, false⟩ };
      s.run.state = .travelling ∧ s.shaft.state ≠ .referencing ∧ s.frame.homing = none) ∧
    ((withShaft ready .referencing).quiet = true ∧ (withShaft ready .referencing).frame.homing = none) := by
  decide +kernel
/-- A broadcast STOP: in the states above no CONTROLLED RESET waits; here one does. -/
theorem met_StopEndsWhatRuns_broadcast :
    (∀ s ∈ [runningAt 0 0, holding, inState paused .waiting, ready, homing ready .x .down, withShaft ready .referencing],
      s.link.resetBy = none ∧ s.joinsWaiting = false) ∧
    ((runningAt 0 0).setLink { ready.link with resetBy := some .broadcast }).link.resetBy ≠ none := by decide +kernel
/-- R16, R161: a broadcast STOP stops the run and leaves no reply. -/
theorem test_broadcast_stop :
    (after (.stop .broadcast) (runningAt 0 0)).run.state = .stopping ∧
      (after (.stop .broadcast) (runningAt 0 0)).link.replies = [] := by decide +kernel
theorem met_StopEndsWhatRuns_moves : ∀ t ∈ [ShaftState.atRest, .holding],
    let s := withShaft ((runningAt 0 0).setFrame { ready.frame with stitch := some ⟨10, false, 0, false⟩ }) t;
    s.hears = true ∧ s.joinsWaiting = false ∧ s.run.state = .running ∧ s.run.activity = .none ∧ s.shaft.state = t ∧
      s.frame.stitch ≠ none ∧ s.frame.travel = none ∧ s.frame.homing = none := by decide +kernel

theorem met_SetModeAndModeGroup : (ready.hears = true ∧ ready.run.state = .idle) ∧ paused.run.state = .paused ∧ (2 : Nat) < 3 ∧
    (base.hears = true ∧ base.run.state ≠ .idle ∧ base.run.state ≠ .paused) := by decide +kernel
/-- A machine of two heads, the second OFF. -/
def twoHeads (s : State) : State := s.setCfg { s.cfg with machine := { s.cfg.machine with headCount := 2 } }
theorem met_HeadOnAndHeadOff :
    (base.hears = true ∧ base.run.state ≠ .idle ∧ base.run.state ≠ .paused) ∧
    (ready.run.state = .idle ∧ (8 : Nat) < 9 ∧ ready.cfg.machine.headCount < 2) ∧
    (ready.quiet = true ∧ (1 : Nat) ≤ ready.cfg.machine.headCount ∧ (ready.headAt 1).state ≠ .off) ∧
    ((twoHeads ready).quiet = true ∧ (2 : Nat) ≤ (twoHeads ready).cfg.machine.headCount ∧
      ((twoHeads ready).headAt 2).state = .off) ∧
    (ready.run.heads.length = 8 ∧ ready.monitor.heads.length = 8 ∧ ready.bus.heads.length = 8) ∧
    (ready.headAt 8).state = .off ∧ ready.run.pass = .main ∧
    (let s := faulted (paused.setRun { paused.run with heads := paused.run.heads.set 0 ⟨.sewing, 1, none, none⟩ }) .lost .held;
      s.quiet = true ∧ s.hears = true ∧ (s.headAt 1).state ≠ .off ∧ s.engagedHead 1 = true) := by decide +kernel
theorem met_ClearHaltReturns :
    (ready.hears = true ∧ ready.run.state ≠ .halted) ∧
    (halted.hears = true ∧ halted.run.state = .halted ∧ (halted.setShaft { halted.shaft with estop := true }).shaft.estop = true) ∧
    ((haltedBack .paused).shaft.estop = false ∧ (haltedBack .paused).run.haltReturn = some .paused ∧
      (haltedBack .paused).joinsWaiting = false ∧ (haltedBack .paused).quiet = true ∧
      ∀ e ∈ (haltedBack .paused).run.heads, e.acked = none) := by decide +kernel
/-- R105: CLEAR HALT ends with the head bus beginning a transaction that waits. -/
theorem test_clear_halt_pumps :
    ((after (.clearHalt src) ((haltedBack .idle).setBus { halted.bus with
      queue := [⟨1, .engage ⟨.lift, .idle, false, false⟩⟩] })).bus.inFlight.map Transaction.head) = some 1 := by decide +kernel

/-! ## Witnesses: frame and shaft requests -/

theorem met_SpeedCeilingAndOrigin :
    (ready.hears = true ∧ ready.cfg.speeds.crawl ≤ ready.cfg.speeds.maxSpeed ∧ ready.cfg.speeds.crawl = 80 ∧
      ready.cfg.speeds.maxSpeed = 1000) ∧ ((80 : Nat) ≤ 80 ∧ (79 : Nat) < 80 ∧ (1000 : Nat) < 1001) ∧
    paused.run.state ≠ .idle ∧ ((unreferenced ready).run.state = .idle ∧ (unreferenced ready).frame.x.referenced = false) ∧
    (ready.frame.x.referenced = true ∧ ready.frame.y.referenced = true) := by decide +kernel
/-- The fields of a guard zone 1 and field limits in X. -/
def guardedBy (z : ZoneFields) (xLow xHigh : Int) (s : State) : State :=
  (s.setFrame { s.frame with zones := s.frame.zones.set 0 ⟨z, none⟩ }).setCfg { s.cfg with
    machine := { s.cfg.machine with xLow := xLow, xHigh := xHigh } }
/-- R71 to R73: the target (10, 5) of record 0 at the edges of the limits and of a zone 16 units wide. -/
theorem met_SpeedCeilingAndOrigin_judged :
    (∀ z ∈ [(⟨true, 0, 4, 0, 4⟩ : ZoneFields), ⟨false, 0, 4, 0, 4⟩, ⟨true, -16, 4, 0, 4⟩],
      let s := guardedBy z (-10) 10 paused;
      s.store.recordAt 0 = some (.stitch 10 5) ∧ s.run.pass = .main ∧ s.run.point ≠ some 0 ∧
        ∀ z ∈ s.frame.zones, z.fields.xBase % 2 ^ z.fields.kx = 0 ∧ z.fields.yBase % 2 ^ z.fields.ky = 0) ∧
    (guardedBy ⟨true, 0, 4, 0, 4⟩ (-10) 10 paused).stopKindAt 0 = some .zone ∧
    (guardedBy ⟨true, -16, 4, 0, 4⟩ (-10) 10 paused).stopKindAt 0 = none ∧
    (guardedBy ⟨true, 0, 4, 0, 4⟩ (-10) 9 paused).stopKindAt 0 = some .fieldLimit ∧
    paused.store.recordAt 4 = some (.jump 100 0) := by decide +kernel
theorem met_HomingAndReferencingBegin :
    (base.hears = true ∧ base.run.state = .unconfigured ∧ base.cfg.machineSet = false ∧ base.cfg.speedsSet = false) ∧
    ((inState ready .finished).run.state ≠ .unconfigured ∧ (inState ready .finished).run.state ≠ .idle ∧
      (inState ready .finished).run.state ≠ .paused) ∧
    ((homing ready .x .down).run.state = .idle ∧ (homing ready .x .down).frame.homing ≠ none) ∧
    ((withShaft ready .referencing).shaft.state = .referencing) ∧
    (ready.frame.homing = none ∧ ready.shaft.state ≠ .referencing ∧ ready.quiet = true ∧ ready.frame.stitch = none) ∧
    ((runningAt 0 0).run.state ≠ .unconfigured ∧ (runningAt 0 0).run.state ≠ .idle ∧ (runningAt 0 0).run.state ≠ .paused ∧
      (runningAt 0 0).run.state ≠ .finished) ∧
    (ready.shaft.state = .atRest ∧ ready.frame.travel = none) := by decide +kernel
theorem met_MoveFrameBeginsItsTravel :
    (base.hears = true ∧ base.run.state ≠ .idle ∧ base.run.state ≠ .paused) ∧
    (withShaft ready .referencing).shaft.state = .referencing ∧
    ((unreferenced ready).shaft.state ≠ .referencing ∧ (unreferenced ready).frame.x.referenced = false) ∧
    (ready.cfg.machine.xHigh < ready.frame.x.pos + 3001) ∧ (ready.frame.x.pos + 3000 ≤ ready.cfg.machine.xHigh) ∧
    (paused.quiet = true ∧ paused.joinsWaiting = false ∧ paused.frame.stitch = none ∧ paused.frame.x.move = none ∧
      paused.frame.y.move = none ∧ paused.frame.x.offPath = none ∧ paused.frame.y.offPath = none) ∧
    (ready.quiet = true ∧ (-3000 ≤ ready.cfg.machine.xLow)) := by decide +kernel

/-! ## Witnesses: requests about heads -/

/-- Head 1 SEWING in a paused run. -/
def engaged : State := paused.setRun { paused.run with heads := paused.run.heads.set 0 ⟨.sewing, 1, none, none⟩ }
theorem met_OpenAndDiscardDesign_lifts :
    engaged.hears = true ∧ engaged.quiet = true ∧ engaged.run.state = .paused ∧ engaged.engagedHead 1 = true ∧
      (engaged.linkAt 1).lost = false := by decide +kernel
/-- Head 1 engaged for slot 0, with a pending needle there, armed and with a join pending. -/
def pendingNeedle (s : State) (h : HeadState) : State :=
  ((s.setRun { s.run with heads := s.run.heads.set 0 ⟨h, 1, none, none⟩ }).setChange { s.change with
    waiting := [⟨0, 1, 5⟩] }).setMonitor { s.monitor with
      heads := s.monitor.heads.modify 0 (fun w => { w with armed := true, joining := true }) }
theorem met_OpenAndDiscardDesign_items :
    let s := pendingNeedle paused .sewing;
    s.hears = true ∧ s.quiet = true ∧ s.run.state = .paused ∧ s.shapesRight = true ∧ s.engagedHead 1 = true ∧
      s.change.waitingFor 0 1 = some 5 ∧ (∀ p ∈ s.change.waiting, p.slot = 0 → p.head = 1 → p.needle = 5) ∧
      (∀ p ∈ s.change.waiting, p.slot ≠ 63 ∨ p.head ≠ 1) ∧ s.engagedHead 8 = false ∧
      (inState s .idle).quiet = true ∧ (inState s .idle).run.state = .idle := by decide +kernel
/-- R113, R130, R144: DISCARD DESIGN keeps the map, the pending needle written into it, and clears a join; OPEN DESIGN
keeps the join and gives the map its default. -/
theorem test_open_and_discard :
    (let t := after (.discardDesign src) (pendingNeedle paused .sewing);
      t.change.mapAt 0 1 = 5 ∧ t.change.waiting = [] ∧ (t.watchAt 1).joining = false) ∧
    (let t := after (.openDesign src) (inState (pendingNeedle paused .sewing) .idle);
      t.change.mapAt 0 1 = 1 ∧ t.change.waiting = [] ∧ (t.watchAt 1).joining = true) := by decide +kernel
/-- A state whose head 1 holds an OPEN gap from this record on, beside a gap of another head, and is in WARN. -/
def withOpenGap (s : State) (start : Nat) : State :=
  withGaps (s.setMonitor { s.monitor with
      warnCount := 1, heads := s.monitor.heads.modify 0 (fun w => { w with warn := true, excursion := 9 }) })
    [⟨1, start, none, ⟨0, 0⟩, 0, .opened⟩, ⟨2, 1, none, ⟨0, 0⟩, 0, .opened⟩]
theorem met_HeadOnAndHeadOff_openGap : ∀ n ∈ [3, 6], -- at 6 the gap holds nothing
    (withOpenGap engaged n).hears = true ∧ (withOpenGap engaged n).quiet = true ∧ (withOpenGap engaged n).run.pass = .main ∧
      (withOpenGap engaged n).run.state = .paused ∧ ((withOpenGap engaged n).headAt 1).state ≠ .off ∧
      (withOpenGap engaged n).run.heads.length = 8 ∧ ((withOpenGap engaged n).watchAt 1).warn = true := by decide +kernel
/-- R148, R135: HEAD OFF closes the OPEN gap at the main cursor, or removes it when it holds nothing. -/
theorem test_head_off_closes_gap :
    (after (.headOff src 1) (withOpenGap engaged 3)).gaps =
      [⟨1, 3, some 6, ⟨0, 0⟩, 0, .closed⟩, ⟨2, 1, none, ⟨0, 0⟩, 0, .opened⟩] ∧
    (after (.headOff src 1) (withOpenGap engaged 3)).link.events = [⟨.tensionClear, 1, 6, 0⟩, ⟨.gapClosed, 1, 6, 3⟩] ∧
    (after (.headOff src 1) (withOpenGap engaged 6)).gaps = [⟨2, 1, none, ⟨0, 0⟩, 0, .opened⟩] := by decide +kernel
theorem met_MapColourAndBobbinSet :
    (ready.hears = true ∧ ready.shapesRight = true ∧ (List.replicate 8 12).length = 8) ∧
    (inState ready .changing).run.state = .changing ∧
    (ready.run.state ≠ .changing ∧ (63 : Nat) < 64 ∧ ∃ n ∈ (13 :: List.replicate 7 1), 12 < n) ∧
    (∀ n ∈ List.replicate 8 12, n ≤ 12) ∧
    (engaged.hears = true ∧ engaged.shapesRight = true ∧ engaged.engagedHead 1 = true ∧ engaged.colourNow = 0) ∧
    ¬ (ready.engagedHead 8 = true ∧ ready.colourNow = 63) ∧ (List.replicate 8 12)[8 - 1]? = some 12 ∧
    (let s := engaged.setRun { engaged.run with
        pass := .patch, patchCursor := some 9, heads := engaged.run.heads.set 0 ⟨.patch, 1, none, none⟩ };
      (s.headAt 1).state = .patch ∧ s.engagedHead 1 = true ∧ (s.stampAt 9).colour = 2) := by decide +kernel

theorem met_RepairDoneRepairsAtOnce :
    (ready.hears = true ∧ ready.shapesRight = true ∧ ready.quiet = true ∧ (8 : Nat) < 9) ∧
    (ready.headAt 8).state = .off ∧
    (let s := ready.setBus { ready.bus with heads := ready.bus.heads.set 0 ⟨false, 3, true, .fresh, none⟩ };
      s.hears = true ∧ s.shapesRight = true ∧ s.quiet = true ∧ (s.headAt 1).state ≠ .off ∧ (s.linkAt 1).lost = true) ∧
    ((ready.headAt 1).state ≠ .off ∧ (ready.linkAt 1).lost = false ∧ ready.run.pass = .main ∧ (ready.watchAt 1).fault = none) ∧
    (let s := faulted ready .upperBreak .held;
      s.quiet = true ∧ (s.watchAt 1).fault = some ⟨.upperBreak, .held⟩ ∧ (s.headAt 1).state ≠ .lost ∧
        (s.headAt 1).state ≠ .dropped) ∧
    (let s := faulted (paused.setRun { paused.run with heads := paused.run.heads.set 0 ⟨.dropped, 1, none, none⟩ }) .caseJam .dropped;
      s.hears = true ∧ s.shapesRight = true ∧ s.quiet = true ∧ (s.watchAt 1).fault = some ⟨.caseJam, .dropped⟩ ∧
        (s.headAt 1).state = .dropped ∧ s.run.state = .paused ∧ (s.linkAt 1).lost = false) := by decide +kernel

theorem met_RepairDoneRepairsAtOnce_openGap : ∀ n ∈ [3, 6],
    let s := withOpenGap (faulted (paused.setRun { paused.run with
      heads := paused.run.heads.set 0 ⟨.dropped, 1, none, none⟩ }) .caseJam .dropped) n;
    s.hears = true ∧ s.shapesRight = true ∧ s.quiet = true ∧ (s.watchAt 1).fault = some ⟨.caseJam, .dropped⟩ ∧
      (s.headAt 1).state = .dropped ∧ s.run.state = .paused ∧ (s.linkAt 1).lost = false ∧ s.run.pass = .main := by
  decide +kernel

/-! ## Witnesses: gap requests -/

/-- A CLOSED gap of head 1 over records 0 and 1. -/
def oneGap : State := withGaps paused [⟨1, 0, some 2, ⟨0, 0⟩, 0, .closed⟩]
theorem met_SewGapsBeginsThePass :
    (ready.hears = true ∧ ¬ ((ready.run.state = .paused ∧ ready.run.pass = .main) ∨ ready.run.state = .finished)) ∧
    (withShaft paused .referencing).shaft.state = .referencing ∧ (inMode paused .single).run.mode = .single ∧
    ((paused.run.state = .paused ∧ paused.run.pass = .main) ∧ paused.shaft.state ≠ .referencing ∧ paused.run.mode ≠ .single ∧
      paused.gaps = []) ∧
    (oneGap.hears = true ∧ oneGap.gaps = [⟨1, 0, some 2, ⟨0, 0⟩, 0, .closed⟩] ∧ (oneGap.headAt 1).state ≠ .off ∧
      (oneGap.headAt 1).state ≠ .lost ∧ (oneGap.watchAt 1).fault = none) ∧
    (unreferenced oneGap).frame.x.referenced = false ∧
    (oneGap.frame.x.referenced = true ∧ oneGap.frame.y.referenced = true ∧ oneGap.heldFault = false) ∧
    (let s := withGaps ((faulted (twoHeads paused) .lost .held).setRun { paused.run with
        heads := paused.run.heads.set 1 ⟨.idle, 1, none, none⟩ }) [⟨2, 0, some 2, ⟨0, 0⟩, 0, .closed⟩];
      s.hears = true ∧ s.heldFault = true ∧ (s.headAt 2).state = .idle ∧ (s.watchAt 2).fault = none) ∧
    (oneGap.setChange { oneGap.change with map := List.replicate 64 (List.replicate 8 0) }).change.needle 0 1 = 0 ∧
    oneGap.change.needle 0 1 ≠ 0 ∧ (smallField oneGap).outOfBounds 0 = true ∧ oneGap.outOfBounds 0 = false ∧
    (let s := (pendingNeedle oneGap .patch).setChange { oneGap.change with waiting := [⟨2, 1, 6⟩, ⟨0, 1, 5⟩] };
      s.shapesRight = true ∧ s.hears = true ∧ s.engagedHead 1 = true ∧ (s.headAt 1).state = .patch ∧
        (s.stampAt 0).colour = 0 ∧ s.heldFault = false ∧ s.outOfBounds 0 = false ∧
        s.change.waitingFor 2 1 = some 6 ∧ s.change.waitingFor 0 1 = some 5 ∧
        ∀ p ∈ s.change.waiting, p.slot = 2 → p.head = 1 → p.needle = 6) := by
  decide +kernel
/-- A patch pass, paused, with its one selected gap. -/
def patching : State := (withGaps paused [⟨1, 0, some 2, ⟨0, 0⟩, 0, .sewing⟩]).setRun { paused.run with
  pass := .patch, patchCursor := some 1, passReturn := some .finished }
theorem met_AbandonGapGivesUpGaps :
    (ready.hears = true ∧ ready.run.state ≠ .paused ∧ ready.run.state ≠ .finished) ∧ (8 : Nat) < 9 ∧
    (oneGap.hears = true ∧ oneGap.run.state = .paused ∧ oneGap.quiet = true ∧ oneGap.run.pass = .main) ∧
    (inState oneGap .finished).run.state = .finished ∧
    (patching.hears = true ∧ patching.quiet = true ∧ patching.run.state = .paused ∧ patching.run.pass = .patch ∧
      patching.run.passReturn = some .finished ∧ ∀ g ∈ patching.gaps, g.state = .sewing → (1 ≤ g.head && g.head ≤ 8) = true) ∧
    (∃ g ∈ patching.gaps, g.state = .sewing ∧ (g.head == 2) = false) := by
  decide +kernel
/-- R116: a needle that waits for another slot than that of the pass's first place is written as the pass begins. -/
theorem test_sew_gaps_writes_pending :
    let s := (pendingNeedle oneGap .patch).setChange { oneGap.change with waiting := [⟨2, 1, 6⟩, ⟨0, 1, 5⟩] };
    let t := after (.sewGaps src) s;
    t.run.pass = .patch ∧ t.change.waiting = [⟨0, 1, 5⟩] ∧ t.change.mapAt 2 1 = 6 := by decide +kernel
/-- PAUSED at record 250, the ten records of a RETAINED slot held by a gap of head 1 alone, in this design state. -/
def keptByGap (d : DesignState) : State :=
  withGaps ((paused.setStore { (retainedAt 250).store with design := d }).setRun { paused.run with mainCursor := 250 })
    [⟨1, 0, some 2, ⟨0, 0⟩, 0, .closed⟩]
theorem met_AbandonGapGivesUpGaps_store : ∀ d ∈ [DesignState.complete, .loading],
    let s := keptByGap d;
    s.hears = true ∧ s.quiet = true ∧ s.run.state = .paused ∧ s.run.pass = .main ∧
      s.store.slots[0]? = some { slot with state := .retained } ∧ s.store.slots[31]? = some Slot.empty ∧
      (∀ sl ∈ s.store.slots, ¬ (sl.state ≠ .free ∧ sl.firstIndex ≤ 250 ∧ 250 < sl.firstIndex + sl.records.length)) ∧
      (∀ sl ∈ s.store.slots, sl.state ≠ .free → ¬ (sl.firstIndex + sl.records.length = 250)) ∧
      (d = .loading → s.store.freeCount = 31 ∧ s.pacingTarget ≠ 0 ∧ s.store.granted = 0) := by decide +kernel
theorem met_AbandonGapGivesUpGaps_truncates :
    let s := withOpenGap paused 3;
    s.hears = true ∧ s.quiet = true ∧ s.run.pass = .main ∧
      (∃ sl ∈ s.store.slots, sl.state ≠ .free ∧ sl.firstIndex ≤ 6 ∧ 6 < sl.firstIndex + sl.records.length) ∧
      (∀ sl ∈ s.store.slots, sl.state ≠ .free ∧ sl.firstIndex ≤ 6 ∧ 6 < sl.firstIndex + sl.records.length →
        sl.state ≠ .retained) := by decide +kernel
/-- R45, R149: giving up the gap frees the slot that it alone held; an OPEN gap begins at the main cursor, with the
position and the colour slot there. -/
theorem test_abandon_gap :
    (after (.abandonGap src 1) (keptByGap .complete)).store.slots[0]? = some Slot.empty ∧
    (after (.abandonGap src 1) (keptByGap .loading)).link.grant.isSome = true ∧
    (after (.abandonGap src 1) (withOpenGap paused 3)).gaps[0]? = some ⟨1, 6, none, ⟨90, 8⟩, 0, .opened⟩ := by decide +kernel
/-- HALTED out of a paused patch pass, with these gaps. -/
def haltedPass (g : List Gap) : State :=
  withGaps (halted.setRun { patching.run with state := .halted, haltReturn := some .paused, cause := some .estop }) g
/-- The premise that a patch pass has a selected gap left, and that it has none: with CLEAR HALT each has its clause. -/
theorem met_PassGoesOn :
    (patching.passGoesOn = true ∧ paused.passGoesOn = true ∧ holding.passGoesOn = true ∧
      (haltedBack .paused).passGoesOn = true ∧ (haltedPass patching.gaps).passGoesOn = true) ∧
    (let s := haltedPass [];
      s.hears = true ∧ s.run.state = .halted ∧ s.shaft.estop = false ∧ s.run.haltReturn = some .paused ∧
        s.joinsWaiting = false ∧ (∀ e ∈ s.run.heads, e.acked = none) ∧ s.quiet = true ∧ s.passGoesOn = false ∧
        s.run.passReturn = some .finished) := by decide +kernel
/-- R154: the pass whose last gap left it in HALTED ends as CLEAR HALT makes it PAUSED. -/
theorem test_clear_halt_ends_pass :
    (after (.clearHalt src) (haltedPass [])).run.state = .finished ∧
    (after (.clearHalt src) (haltedPass [])).run.pass = .main ∧
    (after (.clearHalt src) (haltedPass [])).link.events = [⟨.stopped, 0, 1, 13⟩, ⟨.patchDone, 0, 1, 0⟩] := by
  decide +kernel
theorem met_BackAndForwardMoveTheCursor :
    (ready.hears = true ∧ ready.run.state ≠ .paused) ∧ patching.run.pass = .patch ∧
    (withShaft paused .referencing).shaft.state = .referencing ∧
    (paused.hears = true ∧ paused.run.state = .paused ∧ paused.run.pass = .main ∧ paused.shaft.state ≠ .referencing) ∧
    (unreferenced paused).frame.x.referenced = false ∧
    (paused.motionBack paused.backLimit 6 1 = [] ∧ (pausedAt 5 ⟨90, 8⟩).walkForward 6 5 1 = (5, [])) ∧
    (let s := smallField (pausedAt 5 ⟨0, 0⟩);
      s.frame.x.referenced = true ∧ s.frame.y.referenced = true ∧ ∃ i ∈ s.motionBack s.backLimit 5 1,
        inField s.cfg.machine (s.framePosAt i) = false) ∧
    (let s := pausedAt 5 ⟨90, 8⟩;
      (s.quiet = true ∧ s.frame.stitch = none ∧ s.frame.x.move = none ∧ s.frame.y.move = none ∧ s.offPath = false) ∧
        s.motionBack s.backLimit 5 65535 = [4, 1, 0] ∧ (∀ i ∈ [4, 1, 0], inField s.cfg.machine (s.framePosAt i) = true) ∧
        s.framePosAt 4 ≠ s.frame.pos) ∧
    (let s := pausedAt 2 ⟨-10, 8⟩;
      (s.quiet = true ∧ s.offPath = false) ∧ s.walkForward 9 2 65535 = (5, [4]) ∧ s.motionTarget 4 ≠ s.frame.pos) := by
  decide +kernel

/-! ## Witnesses: read-outs, configuration groups, RESET -/

theorem met_StatusAnswersTheSelectedGroups : ready.hears = true ∧ (255 : Nat) < 256 ∧
    (edgeMove.frame.x.move = some ⟨.stitch, 127, moveSteps 640 128 127, 0⟩ ∧ MoveKind.stitch ≠ .homing) ∧
    (faulted ready .lost .held).watchAt 1 = { ready.watchAt 1 with fault := some ⟨.lost, .held⟩ } := by decide +kernel
theorem met_ReadoutsAnswerTheirData : ready.hears = true ∧ ((8 : Nat) < 9 ∧ (1 : Nat) ≤ 8) ∧ ((3 : Nat) ≤ 3 ∧ (4 : Nat) < 5) ∧
    ready.frame.zones[4 - 1]? = some ⟨⟨false, 0, 14, 0, 14⟩, none⟩ ∧ (11 : Nat) < 12 ∧
    ((Instr.configureReadBack src 3 none).wf = true ∧ (Instr.configureReadBack src 1 (some 1)).wf = true) := by
  decide +kernel

/-- The machine group at the ends of its ranges. -/
def wideMachine : MachineGroup := ⟨8, 64, 4096, -32000, 32000, -32000, 32000, -32000, 32000⟩
theorem met_MachineGroupTaken :
    (ready.hears = true ∧ ready.shapesRight = true) ∧
    (¬ ((inState ready .finished).run.state = .unconfigured ∨ (inState ready .finished).run.state = .idle ∨
      (inState ready .finished).run.state = .paused)) ∧ (homing ready .x .down).frame.busy = true ∧
    (ready.run.state = .idle ∧ ready.frame.busy = false ∧ ¬ ((64 : Nat) ≤ 63)) ∧
    (ready.quiet = true ∧ ready.run.pass = .main ∧ ready.frame.x.offPath = none ∧ ready.frame.y.offPath = none) ∧
    (let g := wideMachine;
      1 ≤ g.headCount ∧ g.headCount ≤ 8 ∧ 64 ≤ g.kX ∧ g.kY ≤ 4096 ∧ g.xLow < g.xHigh ∧ g.yLow < g.yHigh ∧
        g.xLow ≤ g.homeX ∧ g.homeY ≤ g.yHigh ∧ g.xLow ≤ ready.frame.x.pos ∧ ready.frame.y.pos ≤ g.yHigh) ∧
    (ready.cfg.machine.headCount < 8 ∧ (ready.headAt 8).state = .off) := by decide +kernel
theorem met_SpeedLimitsTaken :
    ready.hears = true ∧
    (¬ ((inState ready .running).run.state = .unconfigured ∨ (inState ready .running).run.state = .idle ∨
      (inState ready .running).run.state = .paused)) ∧ (withShaft ready .referencing).shaft.state = .referencing ∧
    (base.hears = true ∧ base.run.state = .unconfigured ∧ base.shaft.state ≠ .referencing) ∧
    (¬ ((1000 : Nat) ≤ 80 + 16 * 57) ∧ (1000 : Nat) ≤ 80 + 16 * 58) ∧
    ((128 : Int) ≤ (((240 : Nat) : Int) - (112 : Nat)) % 1024 ∧ (((496 : Nat) : Int) - (752 : Nat)) % 1024 ≤ 768) := by
  decide +kernel
theorem met_MoveTableTakesPieces :
    (ready.hears = true ∧ ready.shapesRight = true ∧ (List.replicate 32 65535).length = 32) ∧
    (inState ready .finished).run.state = .finished ∧ (3 : Nat) < 4 ∧
    (base.hears = true ∧ base.shapesRight = true ∧ base.run.state = .unconfigured ∧ base.cfg.tableLoaded = false) ∧
    (base.cfg.pieces[1]? = some false ∧ (List.replicate 32 9).Pairwise (fun a b => a ≤ b)) ∧
    ¬ (([9, 8] : List Nat).Pairwise (fun a b => a ≤ b)) := by decide +kernel
/-- The first two records alone, in a design in this state: nothing stops the run behind the second of a complete one. -/
def twoRecords (d : DesignState) : State := paused.setStore { paused.store with
  design := d, slots := [{ slot with records := records.take 2 }], filledEnd := 2 }
theorem met_MoveTableTakesPieces_window :
    (paused.store.recordAt 0 = some (.stitch 10 5) ∧ motionOf (.stitch 10 5) = some (10, 5)) ∧
    (paused.store.recordAt 4 = some (.jump 100 0) ∧ paused.stopKindAt 5 = some .trim ∧ paused.stopKindAt 4 = none ∧
      paused.stopKindAt 2 = none ∧ paused.stopKindAt 3 = none ∧ paused.stopKindAt 1 = none ∧ paused.store.filledEnd = 10) ∧
    ((twoRecords .loading).store.recordAt 1 = some (.stitch (-20) 3) ∧ (twoRecords .loading).stopKindAt 2 = some .filledEnd ∧
      (twoRecords .complete).stopKindAt 2 = some .filledEnd ∧ (twoRecords .complete).store.design ≠ .loading) := by
  decide +kernel
/-- R52 to R54: effect records are passed, the TRIM makes record 4 a crawl point, the filled end one of a LOADING design
only, and a held STITCH sews at crawl and makes the record before it a crawl point. -/
theorem test_window :
    paused.windowAt 0 = [⟨0, 1000, 0, false⟩, ⟨1, 1000, 1, false⟩, ⟨4, 80, 2, true⟩] ∧
    (twoRecords .loading).windowAt 0 = [⟨0, 1000, 0, false⟩, ⟨1, 80, 1, true⟩] ∧
    (twoRecords .complete).windowAt 0 = [⟨0, 1000, 0, false⟩, ⟨1, 1000, 1, false⟩] ∧
    ((twoRecords .complete).setCfg { ready.cfg with
      table := List.replicate 11 10000 ++ List.replicate 117 700000 }).windowAt 0 =
        [⟨0, 80, 0, false⟩, ⟨1, 80, 1, false⟩] := by decide +kernel
theorem met_OtherGroupsTaken :
    (ready.hears = true ∧ ready.run.state = .idle) ∧ (base.run.state ≠ .idle ∧ base.run.state ≠ .paused) ∧
    ((inState ready .running).run.state = .running) ∧
    ((2 : Nat) ≤ 31 ∧ (199 : Nat) < 200 ∧ (30 : Nat) < 31 ∧ ¬ ((2 : Nat) ≤ 1)) ∧
    ((96 : Nat) ≤ 96 ∧ (96 : Nat) < 97 ∧ ¬ ((3073 : Nat) ≤ 3072) ∧ (0 : Nat) ≠ ready.cfg.pacing.retain ∧
      ready.cfg.pacing.retain = 240) ∧
    ((2 ^ 14 : Int) ∣ 16384 ∧ ¬ ((2 ^ 14 : Int) ∣ 8192)) ∧
    ((∃ n ∈ (4 :: List.replicate 15 0), 3 < n) ∧
      ([.reply, .event, .grant, .progress] : List OutSource).map OutSource.code = [0, 1, 2, 3]) ∧
    ((1023 : Nat) < 1024 ∧ (200 : Nat) < 201 ∧ (1000 : Nat) < 1001) := by decide +kernel
/-- A record's move under way or done, the shaft one count before an angle. -/
def carrying (angle : Nat) (m : Option StitchMove) : State :=
  let s := runningAt 0 angle
  (s.setRun { s.run with carry := true }).setFrame { s.frame with stitch := m }
theorem met_ResetTakesEffect :
    (ready.shapesRight = true ∧ ready.hears = true ∧ ready.link.resetBy = none) ∧ (1 : Nat) < 2 ∧
    ((runningAt 0 0).shapesRight = true ∧ (runningAt 0 0).shaft.state = .running ∧ (runningAt 0 0).run.state = .running ∧
      (runningAt 0 0).calm = true ∧ (runningAt 0 0).hears = true) ∧
    ((runningAt 0 0).engagedHead 1 = true ∧ ((runningAt 0 0).headAt 8).state = .off) ∧
    (ready.shaft.state = .atRest ∧ ready.frame.travel = none) ∧
    (halted.run.state = .halted ∧ halted.shapesRight = true) ∧
    (let s := withShaft (carrying 0 (some ⟨10, false, 0, false⟩)) .atRest;
      s.shapesRight = true ∧ s.hears = true ∧ s.calm = true ∧ s.frame.stitch ≠ none) ∧
    (edgeMove.hears = true ∧ edgeMove.shaft.state = .atRest ∧ edgeMove.frame.travel = none ∧
      edgeMove.frame.x.move = some ⟨.stitch, 127, moveSteps 640 128 127, 0⟩) := by decide +kernel

/-! ## Witnesses: the main shaft -/

/-- A LIFT of head 1 and a join LOWER of head 2, acknowledged while the shaft turned. -/
def acking (s : State) : State := s.setRun { s.run with
  heads := (s.run.heads.set 0 ⟨.sewing, 1, none, some ⟨.lift, .idle, false, false⟩⟩).set 1
    ⟨.dropped, 1, none, some ⟨.lower, .sewing, true, false⟩⟩ }
theorem met_EncoderFollowsTheShaft :
    base.shaft.referenced = false ∧ (ready.setShaft { ready.shaft with wraps := 1 }).shaft.wraps ≠ 0 ∧
    (let u := (runningAt 0 100).shaft;
      u.referenced = true ∧ u.state = .running ∧ u.wraps = 0 ∧ (runningAt 0 100).calm = true ∧ (u.angle + 1) % 1024 = 100 ∧
        u.openAngle = 760 ∧ u.closeAngle = 240 ∧ (runningAt 0 100).cfg.pollAngle = 512) ∧
    (let s := (withShaft (runningAt 0 0) .stopping);
      (s.shaft.angle + 1) % 1024 = 0 ∧ s.shaft.state = .stopping ∧ s.shaft.braked = false ∧ s.ackedNone = true ∧
        s.calm = true ∧ s.cfg.pollAngle ≠ 0 ∧ (s.shaft.closeAngle + 1008) % 1024 ≠ 0 ∧ s.shaft.closeAngle ≠ 0 ∧
        s.shaft.openAngle ≠ 0) ∧
    (let s := runningAt 0 512;
      (s.shaft.angle + 1) % 1024 = s.cfg.pollAngle ∧ s.shaft.seenPoll = false ∧
        s.cfg.pollAngle ≠ (s.shaft.closeAngle + 1008) % 1024 ∧ s.cfg.pollAngle ≠ s.shaft.closeAngle ∧
        s.cfg.pollAngle ≠ s.shaft.openAngle) ∧
    (let s := acking (runningAt 0 0);
      (s.shaft.angle + 1) % 1024 = 0 ∧ s.shapesRight = true ∧ s.calm = true ∧ (s.headAt 1).acked = some ⟨.lift, .idle, false, false⟩ ∧
        s.engagedHead 1 = true ∧ (s.headAt 2).acked = some ⟨.lower, .sewing, true, false⟩ ∧ (s.headAt 2).state = .dropped ∧
        (s.watchAt 2).fault = none ∧ (s.headAt 8).acked = none) ∧
    (let s := (runningAt 0 224).setShaft { (runningAt 0 224).shaft with state := .stopping, braked := true };
      s.shaft.referenced = true ∧ s.shaft.wraps = 0 ∧ (s.shaft.angle + 1) % 1024 = (s.shaft.closeAngle + 1008) % 1024 ∧
        s.shaft.seenLate = false ∧ (s.shaft.angle + 1) % 1024 ≠ s.shaft.openAngle ∧ (s.shaft.angle + 1) % 1024 ≠ s.cfg.pollAngle) := by
  decide +kernel

/-- R84, R87: an angle seen while the shaft coasted is reported again after a turn over TDC by hand, and not after a rock
back and forward over it. -/
theorem test_tdc_by_hand :
    let s := ready.setShaft { ready.shaft with seenClose := true, angle := 1023 };
    (after (.encoderCount true) s).shaft.seenClose = false ∧
    (after (.encoderCount true) (s.setShaft { s.shaft with wraps := 1 })).shaft.seenClose = true ∧
    (after .indexPulse (s.setShaft { s.shaft with angle := 1021 })).shaft.seenClose = false ∧
    (after .indexPulse (s.setShaft { s.shaft with angle := 3 })).shaft.seenClose = true := by decide +kernel
/-- Coasting to the late angle after the braking TDC with a move in flight. -/
def coasting (jump late : Bool) : State :=
  let s := carrying 224 (some ⟨10, jump, 0, late⟩)
  s.setShaft { s.shaft with state := .stopping, braked := true }
theorem met_EncoderFollowsTheShaft_overrun : ∀ b ∈ [true, false], ∀ l ∈ [true, false],
    (coasting b l).shaft.referenced = true ∧ (coasting b l).shaft.state = .stopping ∧ (coasting b l).shaft.wraps = 0 ∧
      ((coasting b l).shaft.angle + 1) % 1024 = ((coasting b l).shaft.closeAngle + 1008) % 1024 ∧
      (coasting b l).shaft.seenLate = false ∧ (coasting b l).frame.stitch = some ⟨10, b, 0, l⟩ := by decide +kernel
/-- R69, R84, R89: the late move of a coasting shaft is reported once, before the overrun stalls it. -/
theorem test_late_move_while_coasting :
    (after (.encoderCount true) (coasting false false)).link.events.head? = some ⟨.lateMove, 0, 0, 10⟩ ∧
    (after (.encoderCount true) (coasting true false)).link.events =
      (after (.encoderCount true) (coasting false true)).link.events := by decide +kernel

/-- A patch pass that sews record 0, with the main cursor at 6. -/
def sewingPatch (angle : Nat) (carry : Bool) : State :=
  withGaps ((runningAt 0 angle).setRun { (runningAt 0 angle).run with
    pass := .patch, mainCursor := 6, patchCursor := some 0, carry := carry, patchDone := some 0 }) [⟨1, 0, some 2, ⟨0, 0⟩, 0, .sewing⟩]
theorem met_CrossingsCarryTheStitch :
    (let s := runningAt 0 760;
      s.shaft.referenced = true ∧ s.shaft.state = .running ∧ s.shaft.wraps = 0 ∧ s.shaft.braked = false ∧ s.calm = true ∧
        s.shaft.openAngle ≠ s.shaft.closeAngle ∧ s.shaft.openAngle ≠ (s.shaft.closeAngle + 1008) % 1024 ∧
        (s.shaft.angle + 1) % 1024 = s.shaft.openAngle ∧ (s.shaft.angle + 1) % 1024 ≠ s.cfg.pollAngle ∧
        s.shaft.seenOpen = false ∧ s.frame.stitch = none ∧ s.run.carry = false ∧ s.run.state = .running ∧
        s.run.stepDone = false ∧ s.stopKindAt s.cursor = none ∧ s.store.recordAt s.cursor = some (.stitch 10 5) ∧
        s.cfg.heldIndex 10 = false) ∧
    (let s := runningAt 4 760;
      s.calm = true ∧ s.stopKindAt s.cursor = none ∧ s.store.recordAt s.cursor = some (.jump 100 0)) ∧
    (let s := runningAt 5 760;
      s.calm = true ∧ s.shaft.seenOpen = false ∧ s.run.state = .running ∧ s.stopKindAt s.cursor ≠ none) ∧
    (let s := carrying 224 (some ⟨10, false, 0, false⟩);
      s.calm = true ∧ (s.shaft.angle + 1) % 1024 = (s.shaft.closeAngle + 1008) % 1024 ∧ s.shaft.seenLate = false ∧
        s.frame.stitch = some ⟨10, false, 0, false⟩) ∧
    (let s := carrying 240 (some ⟨10, false, 0, false⟩);
      s.calm = true ∧ (s.shaft.angle + 1) % 1024 = s.shaft.closeAngle ∧ s.shaft.seenClose = false ∧ s.run.carry = true ∧
        s.frame.stitch ≠ none ∧ s.store.recordAt s.cursor = some (.stitch 10 5)) ∧
    (let s := carrying 240 none;
      s.calm = true ∧ s.frame.stitch = none ∧ s.shaft.lockout.late = false ∧ s.run.pass = .main) ∧
    (let s := carrying 760 (some ⟨100, true, 0, false⟩);
      s.calm = true ∧ (s.shaft.angle + 1) % 1024 = s.shaft.openAngle ∧ s.shaft.seenOpen = false ∧
        s.frame.stitch = some ⟨100, true, 0, false⟩) ∧
    (let s := (runningAt 4 240).setRun { (runningAt 4 240).run with carry := true };
      s.calm = true ∧ (s.shaft.angle + 1) % 1024 = s.shaft.closeAngle ∧ s.shaft.seenClose = false ∧
        s.store.recordAt s.cursor = some (.jump 100 0)) ∧
    (let s := sewingPatch 760 false;
      s.shaft.state = .running ∧ s.calm = true ∧ s.run.pass = .patch ∧ s.stopKindAt s.cursor = none ∧ s.frame.stitch = none ∧
        s.store.recordAt s.cursor = some (.stitch 10 5)) ∧
    (let s := sewingPatch 240 true;
      s.calm = true ∧ s.run.pass = .patch ∧ s.run.carry = true ∧ s.frame.stitch = none ∧ s.shaft.lockout.late = false) := by
  decide +kernel

/-- Before the Open angle of record 0, the last commanded speed known, in this run state. -/
def opening (r : RunState) (last : Nat) : State :=
  inState ((runningAt 0 760).setGov { ready.gov with last := some last }) r
/-- The same with moves so slow that every STITCH is a held one. -/
def slow (s : State) : State := s.setCfg { s.cfg with table := List.replicate 128 800000 }
theorem met_CrossingsCarryTheStitch_stops :
    (∀ s ∈ [opening .stopping 300, opening .stopping 80, opening .running 300, slow (opening .running 80)],
      s.shaft.referenced = true ∧ s.shaft.state = .running ∧ s.shaft.wraps = 0 ∧ s.shaft.braked = false ∧ s.calm = true ∧
        (s.shaft.angle + 1) % 1024 = s.shaft.openAngle ∧ (s.shaft.angle + 1) % 1024 ≠ s.cfg.pollAngle ∧
        s.shaft.openAngle ≠ (s.shaft.closeAngle + 1008) % 1024 ∧ s.shaft.seenOpen = false ∧ s.frame.stitch = none ∧
        s.run.carry = false ∧ s.run.stepDone = false ∧ s.stopKindAt s.cursor = none ∧ s.cfg.speeds.crawl = 80 ∧
        s.cfg.speeds.crawl ≤ s.cfg.speeds.maxSpeed ∧ s.gov.window = [] ∧
        s.store.recordAt s.cursor = some (.stitch 10 5)) ∧
    ((opening .stopping 300).cfg.heldIndex 10 = false ∧ (slow (opening .running 80)).cfg.heldIndex 10 = true) ∧
    ((opening .running 300).setRun { (opening .running 300).run with stepDone := true }).run.stepDone = true := by
  decide +kernel
/-- R59, R63, R61: a STOPPING run falls by D and is stopped after a stitch at crawl; a held stitch is sewn at crawl and
the stop ordered with the hold mark. -/
theorem test_stop_at_open :
    (after (.encoderCount true) (opening .stopping 300)).shaft.speed = 150 ∧
    (let t := after (.encoderCount true) (opening .stopping 80);
      t.shaft.state = .stopping ∧ t.shaft.hold = false ∧ t.frame.stitch = none) ∧
    (let t := after (.encoderCount true) (slow (opening .running 80));
      t.shaft.state = .stopping ∧ t.shaft.hold = true ∧ t.gov.last = some 80 ∧ t.frame.stitch ≠ none) := by decide +kernel

/-- A shaft at rest under its brake, before rest is declared. -/
def braking (t : ShaftState) (s : State) : State := s.setShaft { s.shaft with state := t, speed := 0, braked := true }
theorem met_IndexAndRest :
    (base.shaft.referenced = false ∧ base.shaft.state ≠ .referencing) ∧
    (let s := withShaft base .referencing;
      s.shaft.referenced = false ∧ s.run.activity = .none ∧ s.frame.travel = none ∧ s.frame.homing = none) ∧
    (ready.shaft.referenced = true ∧ (ready.setShaft { ready.shaft with angle := 4 }).shaft.angle ≤ 4 ∧
      1020 ≤ (ready.setShaft { ready.shaft with angle := 1020 }).shaft.angle ∧ ready.shaft.state = .atRest) ∧
    (runningAt 0 0).shaft.braked = false ∧
    (let s := braking .referencing ready;
      s.shaft.braked = true ∧ s.shaft.state = .referencing ∧ s.quiet = true ∧ s.link.resetBy = none) ∧
    (let s := braking .stopping (carrying 0 (some ⟨10, false, 0, false⟩));
      let t := s.setShaft { s.shaft with hold := true };
      t.calm = true ∧ t.shaft.braked = true ∧ t.shaft.hold = true ∧ t.frame.stitch ≠ none) ∧
    (let s := braking .stopping (inState (runningAt 0 0) .stopping);
      s.calm = true ∧ s.shaft.hold = false ∧ s.run.state = .stopping ∧ s.frame.stitch = none ∧ s.run.carry = false ∧
        s.run.point = none ∧ s.link.resetBy = none ∧ s.ackedNone = true ∧ s.joinsWaiting = false ∧
        s.stopKindAt s.cursor = none) := by decide +kernel
/-- A run that has braked before the record at a cursor, in this run state and mode. -/
def atStop (r : RunState) (m : RunMode) (cursor : Nat) : State :=
  inState (inMode (braking .stopping (runningAt cursor 0)) m) r
/-- R18: a join point placed at the END record does not hide it from the end of a stop. -/
theorem test_stopping_finishes_at_a_point :
    let s := atStop .stopping .burst 9;
    (after .shaftRestDeclared (s.setRun { s.run with point := some 9 })).run.state = .finished := by decide +kernel
/-- The same design with a STOP as its first record. -/
def withStop (s : State) : State :=
  s.setStore { s.store with slots := s.store.slots.set 0 { slot with records := .stop :: records.drop 1 } }
theorem met_IndexAndRest_changes :
    (let s := atStop .running .burst 9;
      s.calm = true ∧ s.shaft.braked = true ∧ s.shaft.state = .stopping ∧ s.shaft.hold = false ∧ s.frame.stitch = none ∧
        s.run.carry = false ∧ s.run.point = none ∧ s.link.resetBy = none ∧ s.ackedNone = true ∧ s.joinsWaiting = false ∧
        s.run.pass = .main ∧ s.run.stepDone = false ∧ s.shapesRight = true ∧ s.store.recordAt s.cursor = some .finish ∧
        s.gaps = [] ∧ ∀ h ∈ headNumbers, s.bus.joinOrder h = none) ∧
    ((atStop .running .burst 5).store.recordAt 5 = some .trim ∧ (atStop .running .burst 5).engagedHead 1 = true ∧
      ((atStop .running .burst 5).linkAt 1).lost = false) ∧
    (let s := atStop .running .burst 7;
      s.store.recordAt 7 = some (.colour 2) ∧ s.changes 1 = true ∧ s.change.needle 2 1 ≠ 0 ∧ s.trimmedBefore = false ∧
        (s.setChange { s.change with map := List.replicate 64 (List.replicate 8 0) }).change.needle 2 1 = 0) ∧
    ((atStop .running .burst 10).store.recordAt 10 = none ∧ (atStop .running .continuous 10).run.mode = .continuous) ∧
    (let s := (atStop .running .burst 3).setRun { (atStop .running .burst 3).run with mark := some 7 };
      s.store.recordAt 3 = some (.mark 7)) := by decide +kernel
/-- At a COLOUR record that opens a block, with the block before it, which ended in this record, held no more. -/
def atReleasedColour (before : DesignRecord) : State :=
  let entry := ready.firstStamp.through [.stitch 10 5, before]
  let rs : List DesignRecord := [.colour 2, .finish]
  let s := atStop .running .burst 2
  s.setStore ⟨.complete, Slot.empty :: ⟨.active, 1, false, true, 2, rs, entry, entry.through rs⟩ ::
    List.replicate 30 Slot.empty, 2, 0, 4, some (entry.through rs)⟩
/-- R124: the record before the COLOUR record is that of the design, in a released block too. -/
theorem test_trim_step_of_released_block :
    (let c := (after .shaftRestDeclared (atReleasedColour .trim)).change; c.work = .colourChange ∧ c.casing = true) ∧
    (let c := (after .shaftRestDeclared (atReleasedColour .stop)).change; c.work = .colourChange ∧ c.casing = false) := by
  decide +kernel
/-- At END with an OPEN gap of head 1 from this record on and one of head 2. -/
def endWithGaps (start : Nat) : State := withOpenGap (atStop .running .burst 9) start
theorem endWithGaps_gapsRight (start : Nat) : (endWithGaps start).gapsRight := by
  refine ⟨by simp [endWithGaps, withOpenGap, withGaps], fun h => ?_⟩
  obtain rfl | h1 := eq_or_ne 1 h
  · simp [endWithGaps, withOpenGap, withGaps]
  · by_cases h2 : 2 = h <;> simp [endWithGaps, withOpenGap, withGaps, h1, h2]
theorem met_IndexAndRest_gaps : ∀ n ∈ [3, 9], -- at 9 the gap holds nothing
    (endWithGaps n).calm = true ∧ (endWithGaps n).store.recordAt 9 = some .finish ∧ (endWithGaps n).cursor = 9 ∧
      (endWithGaps n).run.pass = .main ∧ (endWithGaps n).shapesRight = true ∧ (endWithGaps n).joinsWaiting = false ∧
      (endWithGaps n).shaft.state = .stopping ∧ (endWithGaps n).shaft.braked = true := by decide +kernel
/-- R9, R148: at END the OPEN gaps are closed there, one that holds nothing is removed, DESIGN ENDED counts those held. -/
theorem test_end_closes_gaps :
    (after .shaftRestDeclared (endWithGaps 3)).link.events =
      [⟨.gapClosed, 1, 9, 6⟩, ⟨.gapClosed, 2, 9, 8⟩, ⟨.designEnded, 0, 9, 2⟩] ∧
    (after .shaftRestDeclared (endWithGaps 9)).gaps = [⟨2, 1, some 9, ⟨0, 0⟩, 0, .closed⟩] := by decide +kernel
theorem met_IndexAndRest_indexAndReset :
    (∀ a ∈ [1020, 1023],
      let s := (runningAt 0 0).setShaft { (runningAt 0 0).shaft with angle := a, state := .stopping };
      s.shaft.referenced = true ∧ 1020 ≤ s.shaft.angle ∧ (after .indexPulse s).shaft.braked = true ∧
        (after .indexPulse s).shaft.angle = 0) ∧
    (let s := (atStop .stopping .burst 0).setLink { base.link with resetBy := some src };
      s.shaft.braked = true ∧ s.shaft.state = .stopping ∧ s.calm = true ∧ s.shaft.hold = false ∧ s.ackedNone = true ∧
        (∀ h ∈ headNumbers, s.bus.joinOrder h = none) ∧ s.link.resetBy = some src ∧ s.link.addressStraps ≠ 15 ∧
        (after .shaftRestDeclared s).link.events = [⟨.resetDone, 0, 0, 0⟩]) ∧
    (let s := (braking .referencing ready).setLink { base.link with resetBy := some src };
      s.shaft.braked = true ∧ s.shaft.state = .referencing ∧ s.frame.travel = none ∧ s.link.resetBy = some src ∧
        s.link.addressStraps ≠ 15 ∧ (after .shaftRestDeclared s).link.events = [⟨.resetDone, 0, 0, 0⟩]) := by decide +kernel
theorem met_IndexAndRest_pauses :
    ((withStop (atStop .stopping .burst 0)).store.recordAt 0 = some .stop) ∧
    ((smallField (atStop .running .burst 0)).stopKindAt 0 = some .fieldLimit) ∧
    (let s := atStop .running .burst 0;
      (s.setFrame { s.frame with zones := s.frame.zones.set 0 ⟨⟨true, 0, 14, 0, 14⟩, none⟩ }).stopKindAt 0 = some .zone) ∧
    (let s := (braking .stopping (carrying 0 (some ⟨10, false, 0, false⟩))).setBus { ready.bus with
        queue := [⟨2, .engage ⟨.lower, .sewing, true, false⟩⟩] };
      let t := s.setRun { s.run with heads := s.run.heads.set 1 ⟨.dropped, 1, none, none⟩ };
      t.calm = true ∧ t.frame.stitch ≠ none ∧ t.link.resetBy = none ∧ t.shapesRight = true ∧ (t.headAt 2).acked = none ∧
        t.bus.joinOrder 2 = some ⟨.lower, .sewing, true, false⟩ ∧ (t.headAt 2).state = .dropped ∧ (t.watchAt 2).fault = none) := by
  decide +kernel
theorem met_StallBrakesTheShaft :
    (ready.link.resetBy = none ∧ ready.ackedNone = true ∧ ready.joinsWaiting = false ∧ ready.calm = true ∧
      ready.shaft.stall = none) ∧
    (let s := runningAt 0 1020;
      s.ackedNone = true ∧ s.joinsWaiting = false ∧ s.calm = true ∧ s.shaft.stall ≠ none ∧ s.run.state = .running ∧
        s.shaft.state = .running ∧ s.shaft.referenced = true ∧ 4 < s.shaft.angle ∧ s.shaft.angle < 1020 ∧
        s.link.resetBy = none) ∧
    (let s := ready.setShaft { ready.shaft with
        state := .referencing, referenced := false, stall := some 1500, hostReference := true };
      s.calm = true ∧ s.shaft.stall ≠ none ∧ s.run.state = .idle ∧ s.shaft.state = .referencing ∧
        s.shaft.hostReference = true) ∧
    (∀ a ∈ [Activity.referencing, .dueTravel],
      let s := (holding.setRun { holding.run with activity := a }).setShaft { ready.shaft with
        state := .referencing, referenced := false, stall := some 1500, hostReference := true };
      s.link.resetBy = none ∧ s.ackedNone = true ∧ s.joinsWaiting = false ∧ s.frame.travel = none ∧ s.frame.homing = none ∧
        s.shaft.stall ≠ none ∧ s.run.state = .arming ∧ s.run.activity = a ∧ s.shaft.state = .referencing ∧
        s.passGoesOn = true) := by decide +kernel
theorem met_EmergencyStopHalts :
    (halted.setShaft { halted.shaft with estop := true }).shaft.estop = true ∧ halted.run.state = .halted ∧
    (ready.shaft.estop = false ∧ ready.run.state ≠ .halted ∧ ready.link.resetBy = none) ∧
    (base.run.state = .unconfigured ∧ (runningAt 0 0).run.state = .running) ∧
    (holding.run.state = .arming ∧ holding.run.startReturn = some .paused) ∧
    (ready.setRun { ready.run with state := .arming, activity := .hold, startReturn := some .idle }).run.startReturn = some .idle ∧
    (let s := (runningAt 0 0).setRun { (runningAt 0 0).run with state := .changing, activity := .changing };
      s.run.state = .changing ∧ s.run.activity.starting = false) ∧
    (let s := paused.setRun { paused.run with state := .travelling, activity := .hostTravel, travelReturn := some .paused };
      s.run.state = .travelling ∧ s.run.activity = .hostTravel ∧ s.run.travelReturn = some .paused) ∧
    (edgeMove.frame.x.move = some ⟨.stitch, 127, moveSteps 640 128 127, 0⟩ ∧ (0 : Nat) ≤ 318 ∧
      318 ≤ (moveSteps 640 128 127).natAbs) := by decide +kernel

/-! ## Witnesses: the frame's events and the warning hold -/

theorem met_StitchMoveCompletes :
    ready.frame.stitch = none ∧ (edgeMove.frame.stitch ≠ none ∧ edgeMove.calm = true) ∧
    ((carrying 0 (some ⟨10, false, 0, false⟩)).shaft.state = .running ∧ (carrying 0 (some ⟨10, false, 0, false⟩)).calm = true) ∧
    (let s := withShaft (carrying 0 (some ⟨10, false, 0, false⟩)) .atRest;
      s.shaft.state = .atRest ∧ s.run.state = .running ∧ s.run.carry = true ∧ s.bus.startOutstanding = false ∧ s.calm = true ∧
        s.frame.stitch ≠ none) ∧
    (let s := withShaft (carrying 0 (some ⟨10, false, 0, false⟩)) .unreferenced;
      s.calm = true ∧ s.shaft.state = .unreferenced ∧ s.link.resetBy = none) ∧
    (let s := withShaft (carrying 0 (some ⟨10, false, 0, false⟩)) .holding;
      s.calm = true ∧ s.shaft.state = .holding ∧ s.run.state = .running) := by decide +kernel

/-- A MOVE FRAME under way from (0, 0) to (300, 50), with this many of its three segments made, X being in flight. -/
def travelling (made : Nat) (stop : Bool) : State :=
  let s := pausedAt 0 ⟨100 * made, 0⟩
  (s.setRun { s.run with state := .travelling, activity := .hostTravel, travelReturn := some .paused }).setFrame { s.frame with
    x := { s.frame.x with move := some ⟨.segment, 100, 250, 0⟩ }
    travel := some ⟨[], ⟨0, 0⟩, ⟨300, 50⟩, 3, made, some 100, stop⟩ }
/-- The axis X off its path, being re-seated before a travel. -/
def reseating (both : Bool) : State :=
  let s := paused
  s.setFrame { s.frame with
    x := { s.frame.x with steps := 200, move := some ⟨.reseat, 0, 25, 0⟩, offPath := some 25 }
    y := if both then { s.frame.y with steps := 0, move := some ⟨.reseat, 0, 20, 0⟩, offPath := some 20 } else s.frame.y
    travel := some ⟨[⟨0, 0⟩], ⟨90, 8⟩, ⟨0, 0⟩, 0, 0, none, false⟩ }
theorem met_TravelRunsByItsSegments :
    ready.frame.travel = none ∧
    (let s := travelling 1 false;
      s.frame.travel = some ⟨[], ⟨0, 0⟩, ⟨300, 50⟩, 3, 1, some 100, false⟩ ∧ s.frame.stitch = none ∧
        s.frame.x.offPath = none ∧ s.frame.y.offPath = none ∧ s.frame.y.move = none ∧ 1 + 1 < 3) ∧
    (let s := travelling 2 false;
      s.run.activity = .hostTravel ∧ s.run.travelReturn = some .paused ∧ s.frame.homing = none ∧ s.link.resetBy = none ∧
        s.joinsWaiting = false ∧ 3 ≤ 2 + 1) ∧
    ((travelling 0 true).frame.travel = some ⟨[], ⟨0, 0⟩, ⟨300, 50⟩, 3, 0, some 100, true⟩) ∧
    (ready.frame.axis .y).move = none ∧
    ((reseating true).frame.x.move = some ⟨.reseat, 0, 25, 0⟩ ∧ (reseating true).frame.y.move = some ⟨.reseat, 0, 20, 0⟩) ∧
    (let s := reseating false;
      s.frame.travel = some ⟨[⟨0, 0⟩], ⟨90, 8⟩, ⟨0, 0⟩, 0, 0, none, false⟩ ∧ (⟨0, 0⟩ : Point) ≠ s.frame.pos ∧
        s.frame.stitch = none ∧ (s.frame.axis .x).move = some ⟨.reseat, 0, 25, 0⟩ ∧ (s.frame.axis .y).move = none ∧
        (s.frame.axis .y).offPath = none) := by decide +kernel
/-- The same travel between two segments, made for this, with these legs to follow. -/
def between (made : Nat) (legs : List Point) (stop : Bool) (a : Activity) : State :=
  let s := pausedAt 0 ⟨100 * made, 0⟩
  (s.setRun { s.run with
    state := .travelling, activity := a, travelReturn := some .paused, startReturn := some .paused
    cause := if stop then some .host else none }).setFrame { s.frame with
      travel := some ⟨legs, ⟨0, 0⟩, ⟨300, 50⟩, 3, made, none, stop⟩ }
/-- A patch pass with no selected gap left. -/
def overPass (s : State) : State := s.setRun { s.run with
  pass := .patch, patchCursor := some 1, passReturn := some .paused, cause := none }
theorem met_TravelRunsByItsSegments_advance :
    (∀ a ∈ [Activity.hostTravel, .returnTravel, .patchTravel], ∀ stop ∈ [true, false],
      let s := between 3 [] stop a;
      s.frame.travel = some ⟨[], ⟨0, 0⟩, ⟨300, 50⟩, 3, 3, none, stop⟩ ∧ s.frame.stitch = none ∧ s.frame.x.move = none ∧
        s.frame.y.move = none ∧ s.frame.x.offPath = none ∧ s.frame.y.offPath = none ∧ s.link.resetBy = none ∧
        s.run.activity = a ∧ s.run.cause = (if stop then some .host else none) ∧ s.joinsWaiting = false ∧
        s.passGoesOn = true ∧ s.run.startReturn = some .paused) ∧
    ((between 2 [] false .hostTravel).frame.travel = some ⟨[], ⟨0, 0⟩, ⟨300, 50⟩, 3, 2, none, false⟩) ∧
    ((between 3 [⟨9, 9⟩] false .hostTravel).frame.travel = some ⟨[⟨9, 9⟩], ⟨0, 0⟩, ⟨300, 50⟩, 3, 3, none, false⟩) ∧
    (let s := (between 3 [] true .returnTravel).setRun { (between 3 [] true .returnTravel).run with startReturn := some .idle };
      s.run.startReturn = some .idle) ∧
    (let s := (between 3 [] false .hostTravel).setLink { base.link with resetBy := some src };
      s.link.resetBy = some src ∧ s.link.addressStraps ≠ 15 ∧ s.shaft.state = .atRest) ∧
    (∀ a ∈ [Activity.returnTravel, .patchTravel],
      (overPass (between 1 [] true a)).run.cause = none ∧ (overPass (between 1 [] true a)).passGoesOn = false) := by
  decide +kernel
theorem met_HomingFollowsTheSensor :
    (ready.quiet = true ∧ ready.frame.homing = none) ∧
    ((homing ready .x .away).quiet = true ∧ (homing ready .x .away).frame.homing = some ⟨.x, .away⟩) ∧
    ((homing ready .x .down).quiet = true ∧ (homing ready .x .down).frame.homing = some ⟨.x, .down⟩) ∧
    ((homing ready .y .down).quiet = true ∧ (homing ready .y .down).frame.homing = some ⟨.y, .down⟩) ∧
    ((homing ready .x .backoff).quiet = true ∧ (homing ready .x .backoff).frame.homing = some ⟨.x, .backoff⟩ ∧
      HomingPhase.down ≠ .backoff ∧ HomingPhase.down ≠ .waiting) ∧
    (let s := homing (carrying 0 (some ⟨10, false, 0, false⟩)) .x .waiting;
      (inState s .paused).quiet = true ∧ s.frame.homing = some ⟨.x, .waiting⟩) := by decide +kernel
theorem met_HoldExpiryBeginsTheStart :
    ready.run.activity ≠ .hold ∧
    (holding.run.activity = .hold ∧ holding.run.state = .arming ∧ holding.run.cause = none ∧
      holding.run.startReturn = some .paused ∧ holding.joinsWaiting = false) ∧
    (holding.frame.stitch = none ∧ holding.frame.x.move = none ∧ holding.frame.y.move = none ∧
      holding.frame.x.offPath = none ∧ holding.frame.y.offPath = none ∧ holding.frame.travel = none ∧
      holding.frame.homing = none ∧ holding.shaft.state ≠ .referencing ∧ holding.link.resetBy = none) ∧
    (let s := holding.setShaft { holding.shaft with state := .unreferenced, referenced := false };
      s.offPath = false ∧ s.shaft.referenced = false ∧ s.shaft.state = .unreferenced) ∧
    (let s := holding.setFrame { holding.frame with origin := some ⟨1, 0⟩ };
      s.offPath = true ∧ inField s.cfg.machine (s.framePosAt s.cursor) = true) ∧
    (let s := holding.setFrame { holding.frame with origin := some ⟨3000, 0⟩ };
      s.offPath = true ∧ inField s.cfg.machine (s.framePosAt s.cursor) = false) ∧
    ((withShaft holding .referencing).offPath = false ∧ (withShaft holding .referencing).shaft.state = .referencing) ∧
    ((withShaft (holding.setFrame { holding.frame with origin := some ⟨1, 0⟩ }) .referencing).offPath = true) ∧
    (holding.setRun { holding.run with startReturn := some .idle }).run.startReturn = some .idle := by decide +kernel

/-! ## Witnesses: the head bus and the thread change -/

/-- A transaction of head 1 in flight. -/
def sending (s : State) (k : TransactionKind) : State := s.setBus { s.bus with inFlight := some ⟨k, 1, 1, .fresh, true⟩ }
/-- Head 1 with these items of the Thread Change Unit. -/
def withWork (s : State) (w : HeadWork) : State := s.setChange { s.change with heads := s.change.heads.set 0 w }
/-- A round poll of head 1, SEWING with its countdown at 2 and this bobbin counter, in a RUNNING run past its tie-in. -/
def supervised (bobbin : Nat) : State :=
  let s := sending (runningAt 0 0) .roundPoll
  s.setMonitor { s.monitor with heads := s.monitor.heads.modify 0 (fun w => { w with countdown := 2, bobbin := bobbin }) }
/-- A record of an engaged head with these penetrations and feed pulses and its tension inside the band. -/
def sewn (penetrations feed : Nat) : StatusRecord := ⟨1, .atRest, .done, true, penetrations, feed, 100, false⟩
theorem met_HeadAnswerEndsItsTransaction :
    (ready.shapesRight = true ∧ ready.bus.inFlight = none) ∧
    ((sending ready (.command .trim)).bus.inFlight = some ⟨.command .trim, 1, 1, .fresh, true⟩ ∧ (2 : Nat) ≠ 1) ∧
    ((sending (runningAt 0 0) (.command (.engage ⟨.lift, .idle, false, false⟩))).shaft.state = .running) ∧
    (let s := sending engaged (.command (.engage ⟨.lift, .idle, false, false⟩));
      s.shapesRight = true ∧ ¬ (s.shaft.state = .running ∨ s.shaft.state = .stopping) ∧ s.engagedHead 1 = true ∧
        (s.watchAt 1).fault = none ∧ (s.workAt 1).case ≠ .lifting) ∧
    (let s := sending ready (.command (.engage ⟨.lower, .sewing, false, true⟩));
      s.shapesRight = true ∧ ¬ (s.shaft.state = .running ∨ s.shaft.state = .stopping) ∧ (s.headAt 1).state = .idle ∧
        (s.workAt 1).case ≠ .lowering) ∧
    (let s := withWork (sending ready (.command .trim)) ⟨true, .waiting, 1, false, .absent, 0, 0, false, 0, none, none⟩;
      s.shapesRight = true ∧ (s.workAt 1).trim = .waiting ∧ ∀ c ∈ s.bus.queue ++ s.bus.held, c.head = 1 → c.work ≠ .trim) ∧
    (let s := sending ready .roundPoll;
      s.shapesRight = true ∧ s.engagedHead 1 = false ∧ (s.watchAt 1).bobbin = 0 ∧ (s.workAt 1).trim ≠ .waiting ∧
        (s.workAt 1).case ≠ .clearing ∧ (s.workAt 1).case ≠ .moving) ∧
    (let s := supervised 3;
      s.shapesRight = true ∧ s.bus.inFlight = some ⟨.roundPoll, 1, 1, .fresh, true⟩ ∧ s.engagedHead 1 = true ∧
        (s.workAt 1).trim ≠ .waiting ∧ (s.workAt 1).case ≠ .clearing ∧ (s.workAt 1).case ≠ .moving ∧
        (s.watchAt 1).fault = none ∧ s.run.tieIn = 0 ∧ (s.watchAt 1).ownTieIn = 0 ∧ (s.watchAt 1).bobbin = 3 ∧
        (s.watchAt 1).countdown = 2 ∧ s.monitor.policy = .stopAll ∧ s.run.pass = .main ∧ s.run.state = .running) ∧
    ((after (.headAnswer 1 true (sewn 1 0)) (supervised 3)).watchAt 1).fault = none ∧
    ((after (.headAnswer 1 true (sewn 2 0)) (supervised 0)).watchAt 1).fault = some ⟨.upperBreak, .held⟩ ∧
    ((after (.headAnswer 1 true (sewn 3 5)) (supervised 3)).watchAt 1).fault = some ⟨.bobbinOut, .held⟩ := by
  decide +kernel

/-- The last LOWER of step 4 of a start made in PAUSED, in flight to head 1. -/
def starting : State := sending (paused.setRun { paused.run with
  state := .arming, cause := none, activity := .engaging, startReturn := some .paused, startValue := 1 })
    (.command (.engage ⟨.lower, .sewing, false, true⟩))
theorem met_HeadAnswer_starts :
    starting.shapesRight = true ∧ (starting.headAt 1).state = .idle ∧ (starting.workAt 1).case ≠ .lowering ∧
      starting.run.state = .arming ∧ starting.run.activity = .engaging ∧ starting.run.cause = none ∧
      starting.run.pass = .main ∧ starting.run.carry = false ∧ starting.run.stepDone = false ∧
      starting.shaft.state = .atRest ∧ starting.frame.stitch = none ∧ starting.frame.travel = none ∧
      starting.frame.homing = none ∧ starting.bus.queue ++ starting.bus.held = [] ∧ starting.cursor = 6 ∧
      starting.stopKindAt 6 = none ∧ starting.store.recordAt 6 = some (.stitch 4 4) := by decide +kernel
/-- R14, R49: RUN STARTED is posted and the move begins; "at rest" stays until the shaft starts, at crawl. -/
theorem test_start_runs :
    let t := after (.headAnswer 1 true default) starting;
    t.run.state = .running ∧ t.link.events = [⟨.runStarted, 0, 6, 1⟩] ∧ t.frame.stitch = some ⟨4, false, 6, false⟩ ∧
      t.gov.last = none ∧ (after .stitchMoveComplete t).gov.last = some 80 ∧
      (after .stitchMoveComplete t).shaft.state = .running := by decide +kernel
/-- R107, Table 6-4: with its last POLL in flight a round is in progress, and one that becomes due is skipped. -/
theorem test_round_skipped :
    let s := sending (ready.setBus { ready.bus with round := some ⟨[], []⟩ }) .roundPoll;
    (after .restTimerExpiry s).bus.round = some ⟨[], []⟩ ∧ (after (.headAnswer 1 true default) s).bus.round = none := by
  decide +kernel

/-- CHANGING with work that needs no more from a head, in a run with this cause. -/
def workOver (s : State) (w : Work) (cause : Option StopCause) : State :=
  (s.setChange { s.change with work := w, casing := true, newSlot := 2 }).setRun { s.run with
    state := .changing, activity := .changing, cause := cause }
/-- Head 1 waits to join. -/
def joiner (s : State) : State :=
  s.setMonitor { s.monitor with heads := s.monitor.heads.modify 0 (fun w => { w with joining := true }) }
theorem met_HeadAnswer_advances :
    (starting.setBus ready.bus).bus.startOutstanding = false ∧ starting.bus.startOutstanding = true ∧
    (∀ w ∈ [Work.trim, .colourChange], ∀ c ∈ [none, some StopCause.fault],
      let s := workOver engaged w c;
      s.frame.travel = none ∧ s.frame.homing = none ∧ s.run.activity = .changing ∧ s.change.work = w ∧
        s.change.casing = true ∧ s.run.cause = c ∧ s.joinsWaiting = false ∧ s.passGoesOn = true ∧ s.anyEngaged = true ∧
        ∀ h ∈ headNumbers, (s.workAt h).trim ≠ .waiting ∧ (s.workAt h).part = false) ∧
    (workOver paused .colourChange none).anyEngaged = false ∧
    ((workOver (joiner engaged) .trim none).joinsWaiting = true ∧ (joiner engaged).run.pass = .main) ∧
    (workOver patching .trim none).run.pass = .patch ∧
    ((withWork (workOver engaged .trim none) ⟨true, .waiting, 1, true, .absent, 0, 0, false, 0, none, none⟩).workAt 1).trim =
      .waiting ∧
    (let s := sending patching (.command (.engage ⟨.lower, .patch, true, false⟩));
      s.shapesRight = true ∧ s.run.pass = .patch ∧ (s.headAt 1).state = .idle ∧ (s.workAt 1).case ≠ .lowering ∧
        s.shaft.state = .atRest) := by decide +kernel
/-- R117, R10, R126: what follows a trim and a colour change. -/
theorem test_work_over :
    (after (.trimTimerExpiry 8) (workOver engaged .trim (some .fault))).run.mainCursor = 7 ∧
    (after (.trimTimerExpiry 8) (workOver engaged .trim (some .fault))).link.events = [⟨.stopped, 0, 7, 6⟩] ∧
    (after (.trimTimerExpiry 8) (workOver paused .colourChange none)).link.events.map Event.kind = [.colourDone, .stopped] ∧
    (after (.trimTimerExpiry 8) (workOver paused .colourChange none)).run.cause = some .noHead := by decide +kernel

theorem met_TimeoutsRetryThenLose :
    (ready.shapesRight = true ∧ ready.bus.inFlight = none) ∧
    (let s := sending ready .roundPoll;
      s.bus.inFlight = some ⟨.roundPoll, 1, 1, .fresh, true⟩ ∧ (s.linkAt 1).timeouts < 2) ∧
    (let s := sending (ready.setBus { ready.bus with heads := ready.bus.heads.set 0 ⟨false, 2, false, .fresh, none⟩ }) .roundPoll;
      s.shapesRight = true ∧ 2 ≤ (s.linkAt 1).timeouts ∧ (s.headAt 1).state ≠ .off ∧ (s.watchAt 1).fault = none ∧
        s.run.state = .idle ∧ s.run.pass = .main ∧ s.quiet = true ∧ s.link.events.length < 32) ∧
    (ready.setBus { ready.bus with restTimer := none }).bus.restTimer = none ∧ ready.bus.restTimer ≠ none := by
  decide +kernel
/-- A change under way, the run CHANGING. -/
def changing (w : HeadWork) : State :=
  withWork (engaged.setRun { engaged.run with state := .changing, activity := .changing }) w
/-- The same under DROP-OUT, with a second head that is able to sew and these gaps. -/
def dropping (s : State) (g : List Gap) : State :=
  withGaps ((s.setMonitor { s.monitor with policy := .dropOut }).setRun { s.run with
    heads := s.run.heads.set 1 ⟨.idle, 2, none, none⟩ }) g
theorem met_ThreadTimersFailTheirAttempts :
    (ready.shapesRight = true ∧ (ready.workAt 1).trim ≠ .waiting ∧ (ready.workAt 8).case ≠ .moving) ∧
    (let s := changing ⟨true, .waiting, 1, true, .absent, 0, 0, false, 0, none, none⟩;
      s.shapesRight = true ∧ (s.workAt 1).trim = .waiting ∧ (s.workAt 1).trimTimer = true ∧ (s.workAt 1).trimAttempt < 2 ∧
        (s.linkAt 1).lost = false ∧ s.bus.queue.length < 15 ∧ s.bus.held = []) ∧
    (let s := changing ⟨true, .waiting, 2, true, .absent, 0, 0, false, 0, none, none⟩;
      2 ≤ (s.workAt 1).trimAttempt ∧ s.run.state = .changing ∧ s.run.pass = .main ∧ s.monitor.policy = .stopAll ∧
        (s.headAt 1).state ≠ .off ∧ (s.watchAt 1).fault = none) ∧
    (let s := changing ⟨true, .absent, 0, false, .moving, 3, 2, true, 2, some 540, some 1⟩;
      s.shapesRight = true ∧ (s.workAt 1).case = .moving ∧ (s.workAt 1).caseTimer ≠ none ∧ (s.workAt 1).caseAttempt < 3 ∧
        (s.linkAt 1).lost = false) ∧
    (let s := changing ⟨true, .absent, 0, false, .moving, 3, 3, true, 2, some 540, some 1⟩;
      s.shapesRight = true ∧ 3 ≤ (s.workAt 1).caseAttempt ∧ s.run.state = .changing ∧ (s.watchAt 1).fault = none) ∧
    (let s := dropping (changing ⟨true, .waiting, 2, true, .absent, 0, 0, false, 0, none, none⟩) [];
      s.shapesRight = true ∧ s.monitor.policy = .dropOut ∧ s.run.state = .changing ∧ s.openGap 1 = none ∧
        s.able 2 = true ∧ (s.watchAt 2).fault = none ∧ s.change.work ≠ .colourChange ∧ s.gaps.length < 16 ∧
        (after (.trimTimerExpiry 1) s).gaps = [⟨1, 3, none, ⟨-10, 8⟩, 0, .opened⟩]) ∧
    (let s := dropping (changing ⟨true, .waiting, 2, true, .absent, 0, 0, false, 0, none, none⟩)
        (List.replicate 4 ⟨1, 0, some 1, ⟨0, 0⟩, 0, .closed⟩);
      s.openGap 1 = none ∧ s.able 2 = true ∧ ¬ ((s.gaps.filter (fun g => g.head == 1)).length < 4)) ∧
    (let s := (changing ⟨true, .waiting, 2, true, .absent, 0, 0, false, 0, none, none⟩).setMonitor
        { ready.monitor with policy := .dropOut };
      s.openGap 1 = none ∧ ∀ j ∈ headNumbers, j ≠ 1 → (s.headAt j).state ≠ .sewing ∧ s.able j = false) := by
  decide +kernel

/-- A patch pass with head 1's gap over records 0 and 1, at this patch cursor, CHANGING with this under way. -/
def patchStopAt (c : Nat) (head : HeadState) (a : Activity) : State :=
  let s := withGaps paused [⟨1, 0, some 2, ⟨0, 0⟩, 0, .sewing⟩]
  s.setRun { s.run with
    state := .changing, pass := .patch, patchCursor := some c, passReturn := some .paused, cause := none, activity := a
    heads := s.run.heads.set 0 ⟨head, 1, none, none⟩ }
/-- Head 1 known to stand at this case position. -/
def standing (s : State) (p : Nat) : State := withWork s ⟨false, .absent, 0, false, .absent, 0, 0, false, 0, none, some p⟩
/-- The patch cursor past every range, with a selected gap further on that has this entry position. -/
def jumping (entry : Point) : State := withGaps (patchStopAt 2 .idle (.endStops .pick)) [⟨1, 3, some 5, entry, 0, .sewing⟩]
theorem met_ThreadTimers_patchStops :
    (let s := inState (patchStopAt 2 .patch .none) .running;
      s.frame.travel = none ∧ s.frame.homing = none ∧ s.run.pass = .patch ∧ s.shapesRight = true ∧ s.cursor = 2 ∧
        s.run.state = .running ∧ s.shaft.state = .atRest ∧ s.frame.stitch = none ∧ s.run.carry = false ∧
        s.run.stepDone = false ∧ s.patchStop 2 = true) ∧
    (let s := patchStopAt 2 .patch (.endStops .pick);
      s.gaps = [⟨1, 0, some 2, ⟨0, 0⟩, 0, .sewing⟩] ∧ s.engagedHead 1 = true ∧ (s.linkAt 1).lost = false ∧
        s.bus.queue.length < 16 ∧ s.bus.held = [] ∧ (s.watchAt 1).fault = none ∧ s.joinsWaiting = false ∧
        s.run.passReturn = some .paused ∧ s.patchLeft = true ∧ ∀ h ∈ headNumbers, (s.workAt h).trim ≠ .waiting) ∧
    ((patchStopAt 2 .resting (.endStops .pick)).headAt 1).state = .resting ∧
    ((withWork (patchStopAt 2 .patch (.endStops (.trimming 1)))
      ⟨true, .waiting, 1, true, .absent, 0, 0, false, 0, none, none⟩).workAt 1).trim = .waiting ∧
    ((sending (patchStopAt 2 .patch (.endStops (.lifting 1)))
      (.command (.engage ⟨.lift, .idle, false, false⟩))).bus.engageOutstanding 1 = true) ∧
    ((patchStopAt 2 .idle (.endStops (.lifting 1))).bus.engageOutstanding 1 = false ∧
      ((patchStopAt 2 .idle (.endStops (.lifting 1))).headAt 1).acked = none) ∧
    (inField ready.cfg.machine ((jumping ⟨10, 20⟩).originPos.add ⟨10, 20⟩) = true ∧
      inField ready.cfg.machine ((jumping ⟨3001, 0⟩).originPos.add ⟨3001, 0⟩) = false ∧
      (jumping ⟨3001, 0⟩).joinsWaiting = false ∧ (jumping ⟨10, 20⟩).cursor = 2) ∧
    (let s := patchStopAt 0 .idle (.joining [1] .pick .patch);
      s.cursor = 0 ∧ s.change.needle (s.stampAt 0).colour 1 = 1 ∧ (s.watchAt 1).fault = none ∧
        (s.setChange { s.change with map := List.replicate 64 (List.replicate 8 0) }).change.needle 0 1 = 0 ∧
        ((standing s 1).workAt 1).lastKnown = some 1 ∧ ((standing s 4).workAt 1).lastKnown = some 4) ∧
    (let s := withWork (patchStopAt 0 .idle (.joining [] (.aligning 1) .patch))
        ⟨true, .absent, 0, false, .arrived, 1, 1, false, 3, none, some 1⟩;
      (s.workAt 1).case = .arrived ∧ ∀ j ∈ headNumbers, (s.workAt j).part = true → (s.workAt j).case = .arrived) := by
  decide +kernel

/-- The state after the next step that is due by itself. -/
def advanced (s : State) : State := s.advance.getD base
/-- R14, R76, R78, R156: what follows a segment: the next leg, step 2 of the start, the join stops of a patch travel. -/
theorem test_travel_goes_on :
    (advanced (between 3 [⟨9, 9⟩] false .hostTravel)).frame.travel = some ⟨[], ⟨300, 0⟩, ⟨-291, 9⟩, 3, 0, none, false⟩ ∧
    (advanced (between 3 [] false .returnTravel)).run.activity = .dueReference ∧
    (advanced (between 3 [] false .patchTravel)).run.activity = .joining [] .pick .patch ∧
    (advanced (between 1 [] true .patchTravel)).link.events = [⟨.stopped, 0, 0, 1⟩] := by decide +kernel

/-- A start in this activity, made from PAUSED. -/
def startIn (a : Activity) : State := holding.setRun { holding.run with activity := a }
/-- Every needle 0. -/
def unmapped (s : State) : State := s.setChange { s.change with map := List.replicate 64 (List.replicate 8 0) }
theorem met_HoldExpiry_steps :
    (∀ a ∈ [Activity.dueReference, .referencing, .dueAlign, .aligning, .dueEngage, .engaging],
      let s := startIn a;
      s.frame.travel = none ∧ s.frame.homing = none ∧ s.shapesRight = true ∧ s.joinsWaiting = false ∧
        s.run.activity = a ∧ s.run.cause = none ∧ s.passGoesOn = true ∧ s.link.resetBy = none ∧
        s.shaft.state = .atRest ∧ s.shaft.referenced = true ∧ s.bus.startOutstanding = false ∧ s.run.pass = .main ∧
        s.run.startReturn = some .paused) ∧
    (let s := startIn .dueAlign;
      s.able 1 = true ∧ (s.headAt 1).state = .idle ∧ (s.watchAt 1).fault = none ∧ (s.workAt 1).lastKnown = none ∧
        s.change.needle (s.stampAt s.cursor).colour 1 = 1 ∧ ((standing s 1).workAt 1).lastKnown = some 1 ∧
        (∀ h ∈ headNumbers, h ≠ 1 → s.able h = false) ∧ (s.linkAt 1).lost = false ∧
        ((standing s 12).workAt 1).lastKnown = some 12) ∧
    (let s := unmapped (startIn .dueAlign);
      (∀ h ∈ headNumbers, s.able h = false) ∧ ∀ h ∈ headNumbers, s.change.needle (s.stampAt s.cursor).colour h = 0) ∧
    (let s := startIn .dueEngage;
      (unmapped s).able 1 = false ∧ ((unmapped s).headAt 1).state = .idle ∧
        (engaged.setRun { engaged.run with activity := .dueEngage }).engagedHead 1 = true) ∧
    (let s := withWork (startIn .aligning) ⟨true, .absent, 0, false, .moving, 1, 1, true, 3, some 660, some 4⟩;
      (s.workAt 1).part = true ∧ (s.workAt 1).case = .moving) ∧
    (let s := withGaps (overPass (startIn .dueAlign)) [⟨1, 0, some 2, ⟨0, 0⟩, 0, .sewing⟩];
      s.passGoesOn = true ∧ s.run.pass = .patch ∧ s.cursor = 1) ∧
    ((overPass (startIn .dueAlign)).passGoesOn = false) ∧
    ((startIn .dueAlign).setRun { (startIn .dueAlign).run with cause := some .host }).run.cause = some .host := by
  decide +kernel
/-- R66, R78, R169: an index fault at rest does not take a CONTROLLED RESET that waits for a travel segment. -/
theorem test_reset_waits_for_segment :
    let s := ((travelling 1 false).setLink { base.link with resetBy := some src }).setShaft { ready.shaft with angle := 500 };
    (after .indexPulse s).shaft.state = .unreferenced ∧ (after .indexPulse s).link.resetBy = some src ∧
      (after .indexPulse s).frame.travel = s.frame.travel := by decide +kernel
/-- R93, R98, R169: a fault that breaks off a start in its referencing, with a CONTROLLED RESET waiting, leaves the
referencing to run to the index, and the rest there takes the reset. -/
theorem test_reset_lets_referencing_run :
    let a := (startIn .referencing).setShaft { ready.shaft with state := .referencing, referenced := false };
    let s := (a.setLink { base.link with resetBy := some src }).stopOrder .fault;
    s.run.state = .paused ∧ s.shaft.state = .referencing ∧
      (after .shaftRestDeclared (after .indexPulse s)).link.events = [⟨.resetDone, 0, 0, 0⟩] ∧
      (a.stopOrder .fault).shaft.state = .unreferenced := by decide +kernel
/-- R64: a guard zone taken away while the first move from rest is in flight frees the record before it of its crawl
bound when the shaft is started. -/
theorem test_zone_reaches_window :
    let s := withShaft (carrying 0 (some ⟨10, false, 0, false⟩)) .atRest;
    let t := s.setGov { s.gov with window := [⟨0, 80, 0, true⟩] };
    (after .stitchMoveComplete t).gov.window = [⟨0, 1000, 0, false⟩, ⟨1, 1000, 1, false⟩, ⟨4, 80, 2, true⟩] ∧
      (after .stitchMoveComplete t).shaft.state = .running := by decide +kernel
/-- R53: a record keeps the bound and the stop mark with which it entered the window. -/
theorem test_window_keeps :
    let s := (opening .running 300).setGov { ready.gov with last := some 300, window := [⟨1, 90, 0, true⟩] };
    ((after (.encoderCount true) s).gov.window.find? (fun e => e.index == 1)) = some ⟨1, 90, 1, true⟩ := by decide +kernel
/-- R154: the pass that loses its last gap in the warning hold of its start ends at once. -/
theorem test_hold_ends_pass :
    (overPass (startIn .hold)).endPatchIfEmpty.run.state = .paused ∧
    (overPass (startIn .hold)).endPatchIfEmpty.run.pass = .main := by decide +kernel
/-- R144: with a stop cause recorded while heads joined in a start from IDLE the run becomes PAUSED. -/
theorem test_joins_pause :
    ((startIn .none).setRun { (startIn .none).run with startReturn := some .idle, cause := some .host }
      |>.afterJoins .stepEngage).run.state = .paused := by decide +kernel
/-- R143: a head that waits joins at this stop, though nothing at the cursor stops the run any more. -/
theorem test_waiting_head_joins_here :
    (joiner (atStop .running .burst 0)).clearPoint.run.point = some 0 ∧
    (atStop .running .burst 0).clearPoint.run.point = none := by decide +kernel
/-- R14, R25, R128: steps 3 and 4 of a start. -/
theorem test_start_steps :
    (advanced (standing (startIn .dueAlign) 1)).run.activity = .dueEngage ∧
    (advanced (standing (startIn .dueAlign) 4)).bus.queue = [⟨1, .caseMove false 3⟩] ∧
    (advanced (unmapped (startIn .dueAlign))).run.cause = some .noHead ∧
    (advanced (startIn .dueEngage)).bus.queue = [⟨1, .engage ⟨.lower, .sewing, false, true⟩⟩] ∧
    ((advanced (unmapped (startIn .dueEngage))).headAt 1).state = .resting := by decide +kernel

/-- R151, R152: the end stop of a head, its join after a case move, and the jump. -/
theorem test_patch_stops :
    (advanced (patchStopAt 2 .patch (.endStops .pick))).bus.queue = [⟨1, .trim⟩] ∧
    (advanced (patchStopAt 2 .patch (.endStops (.trimming 1)))).bus.queue = [⟨1, .engage ⟨.lift, .idle, false, false⟩⟩] ∧
    (advanced (patchStopAt 2 .idle (.endStops (.lifting 1)))).gaps = [] ∧
    (advanced (standing (patchStopAt 0 .idle (.joining [1] .pick .patch)) 4)).bus.queue = [⟨1, .caseMove false 3⟩] ∧
    (advanced (jumping ⟨10, 20⟩)).run.state = .travelling ∧ (advanced (jumping ⟨3001, 0⟩)).run.cause = some .frameLimit := by
  decide +kernel
/-- R116, R150: a SEWING head that becomes PATCH for another slot is no longer engaged for the main one, whose pending
entry is written; R128: a head that arrives in an alignment is left IDLE. -/
theorem test_pending_written_and_arrived :
    (let s := (patching.setRun { patching.run with
        patchCursor := some 8, heads := patching.run.heads.set 0 ⟨.sewing, 1, none, none⟩ }).setChange
          { patching.change with waiting := [⟨0, 1, 5⟩, ⟨2, 1, 6⟩] };
      (s.setHeadState 1 .patch).change.waiting = [⟨2, 1, 6⟩] ∧ (s.setHeadState 1 .patch).change.mapAt 0 1 = 5) ∧
    (let s := withWork (ready.setRun { ready.run with
        state := .changing, activity := .aligning, heads := ready.run.heads.set 0 ⟨.resting, 1, none, none⟩ })
          ⟨true, .absent, 0, false, .moving, 1, 1, false, 0, some 300, some 4⟩;
      (((s.setChange { s.change with work := .alignAll }).arrived 1).headAt 1).state = .idle) := by decide +kernel

theorem met_CaseMovesAndTrimsFollowTheAnswers :
    (let s := withWork ready ⟨true, .absent, 0, false, .absent, 12, 1, true, 0, none, some 1⟩;
      (s.workAt 1).lastKnown = some 1 ∧ (s.workAt 1).target = 12 ∧ (s.linkAt 1).lost = false ∧ s.bus.queue.length < 16 ∧
        s.bus.held = []) ∧
    (let s := withWork ready ⟨true, .absent, 0, false, .absent, 12, 1, true, 0, none, some 12⟩;
      (s.workAt 1).lastKnown = some 12 ∧ (s.workAt 1).target = 12) := by decide +kernel
/-- A POLL of head 1 in flight in a change, its record of this case position, case state and trim state. -/
def polled (w : HeadWork) (k : TransactionKind) : State := sending (changing w) k
def report (pos : Nat) (c : CaseState) (t : TrimState) : StatusRecord := ⟨pos, c, t, true, 0, 0, 100, false⟩
/-- A head in an attempt of its case move to position 3, from position 1. -/
def casing (c : CaseProgress) (attempt : Nat) (timer : Option Nat) : HeadWork :=
  ⟨true, .absent, 0, false, c, 3, attempt, true, 2, timer, some 1⟩
/-- A head whose trim runs. -/
def trimming (attempt : Nat) (timer : Bool) : HeadWork := ⟨true, .waiting, attempt, timer, .absent, 0, 0, false, 0, none, some 1⟩
theorem met_CaseMovesAndTrims_records :
    (∀ w ∈ [casing .moving 1 none, casing .moving 2 (some 540), casing .clearing 2 none, casing .moving 3 (some 540),
        trimming 1 true, trimming 2 true, trimming 1 false],
      let s := polled w (.command .poll);
      s.shapesRight = true ∧ s.bus.inFlight = some ⟨.command .poll, 1, 1, .fresh, true⟩ ∧ s.workAt 1 = w ∧
        s.engagedHead 1 = true ∧ (s.linkAt 1).lost = false ∧ s.bus.queue ++ s.bus.held = [] ∧ s.run.state = .changing ∧
        s.run.pass = .main ∧ s.monitor.policy = .stopAll ∧ (s.headAt 1).state ≠ .off ∧ (s.watchAt 1).fault = none ∧
        s.change.work ≠ .colourChange ∧ s.bus.engageOutstanding 1 = false) ∧
    (let s := polled (casing .moving 1 none) (.command (.caseMove true 2));
      s.bus.inFlight = some ⟨.command (.caseMove true 2), 1, 1, .fresh, true⟩ ∧ (s.workAt 1).case = .moving) ∧
    ((polled (casing .clearing 1 none) .roundPoll).bus.inFlight.map Transaction.kind = some .roundPoll) ∧
    (let s := polled (casing .moving 1 (some 540)) (.command .poll);
      (s.setChange { s.change with work := .colourChange }).change.work = .colourChange) ∧
    (let s := faulted ((sending ready .probe).setRun { ready.run with heads := ready.run.heads.set 0 ⟨.lost, 1, none, none⟩ })
        .lost .held;
      s.shapesRight = true ∧ (s.headAt 1).state = .lost ∧ (s.watchAt 1).fault = some ⟨.lost, .held⟩ ∧
        (s.watchAt 1).warn = false ∧ s.gaps = [] ∧ s.run.pass = .main ∧ (s.workAt 1).trim ≠ .waiting ∧
        (s.workAt 1).case ≠ .moving ∧ (s.workAt 1).case ≠ .clearing) := by decide +kernel
/-- R117, R120, R121: a trim fails once, a case arrives, a case jams, a case clears and moves again. -/
theorem test_records :
    (let t := after (.headAnswer 1 true (report 1 .atRest .failed)) (polled (trimming 1 true) (.command .poll));
      (t.workAt 1).trimAttempt = 2 ∧ t.bus.queue = [⟨1, .trim⟩]) ∧
    ((after (.headAnswer 1 true (report 3 .atRest .idle)) (polled (casing .moving 1 (some 540)) .roundPoll)).workAt 1).case =
      .arrived ∧
    ((after (.headAnswer 1 true (report 2 .jammed .idle)) (polled (casing .moving 3 (some 540)) .roundPoll)).watchAt 1).fault =
      some ⟨.caseJam, .held⟩ ∧
    ((after (.headAnswer 1 true (report 2 .atRest .idle)) (polled (casing .clearing 1 none) (.command .poll))).bus.inFlight.map
      Transaction.kind) = some (.command (.caseMove true 1)) := by decide +kernel

/-! ## Witnesses: repairs in a run, the joins of a main pass and the case step -/

/-- Head 1 DROPPED out with its case jammed, its OPEN gap from record 0 on. -/
def droppedOut (s : State) : State :=
  withGaps (faulted (s.setRun { s.run with heads := s.run.heads.set 0 ⟨.dropped, 1, none, none⟩ }) .caseJam .dropped)
    [⟨1, 0, none, ⟨0, 0⟩, 0, .opened⟩]
theorem met_RepairDone_inRun :
    (∀ r ∈ [RunState.paused, .halted, .finished, .idle],
      let s := inState (droppedOut paused) r;
      s.hears = true ∧ s.shapesRight = true ∧ s.quiet = true ∧ s.run.pass = .main ∧ (s.linkAt 1).lost = false ∧
        (s.watchAt 1).fault = some ⟨.caseJam, .dropped⟩ ∧ (s.headAt 1).state = .dropped) ∧
    (let s := droppedOut (runningAt 3 300);
      s.hears = true ∧ s.shapesRight = true ∧ s.run.pass = .main ∧ (s.linkAt 1).lost = false ∧
        (s.watchAt 1).fault = some ⟨.caseJam, .dropped⟩ ∧ (s.headAt 1).state = .dropped ∧ s.run.state = .running ∧
        s.shaft.state = .running ∧ s.change.needle (s.stampAt 3).colour 1 = 1 ∧ (s.workAt 1).lastKnown = none ∧
        ((standing s 1).workAt 1).lastKnown = some 1 ∧ s.bus.queue ++ s.bus.held = []) ∧
    (∀ r ∈ [RunState.stopping, .changing, .waiting, .arming, .running],
      let s := inState (droppedOut paused) r;
      s.hears = true ∧ s.shapesRight = true ∧ s.run.state = r ∧ s.run.pass = .main ∧ s.shaft.state = .atRest ∧
        (s.headAt 1).state = .dropped ∧ (s.watchAt 1).fault = some ⟨.caseJam, .dropped⟩) ∧
    (∀ a ∈ [Activity.returnTravel, .hostTravel],
      let s := (droppedOut paused).setRun { (droppedOut paused).run with
        state := .travelling, activity := a, travelReturn := if a = .hostTravel then some .paused else none };
      s.hears = true ∧ s.shapesRight = true ∧ s.run.pass = .main ∧ (s.headAt 1).state = .dropped ∧
        (s.watchAt 1).fault = some ⟨.caseJam, .dropped⟩ ∧ (s.run.activity = .returnTravel ∨ s.run.travelReturn = some .paused)) := by
  decide +kernel
/-- A design of short stitches, longer than the lookahead window. -/
def longDesign (s : State) : State :=
  let rs : List DesignRecord := List.replicate 24 (.stitch 1 0) ++ [.finish]
  s.setStore { s.store with
    slots := { slot with records := rs, exit := slot.entry.through rs } :: List.replicate 31 Slot.empty
    filledEnd := 25, tail := some (slot.entry.through rs) }
theorem met_RepairDone_joinPoint :
    ((runningAt 0 300).setRun { (runningAt 0 300).run with point := some 9 }).run.point ≠ none ∧
    (let s := longDesign (runningAt 0 300);
      let far := s.setRun { s.run with point := some s.store.filledEnd };
      s.run.point = none ∧ s.run.carry = false ∧ far.outlook 0 = .motion 0 false ∧
        (far.windowAt 0).getLast?.map WindowEntry.index = some 15) ∧
    (let s := longDesign (runningAt 20 300);
      let far := s.setRun { s.run with point := some s.store.filledEnd };
      far.outlook 20 = .motion 20 false ∧ (far.windowAt 20).getLast?.map WindowEntry.index = some 23) ∧
    (let s := runningAt 5 300;
      let far := s.setRun { s.run with point := some s.store.filledEnd };
      s.run.point = none ∧ far.outlook 5 = .stop ∧ s.run.pass = .main) := by decide +kernel
/-- R142, R143: a repair while the shaft turns issues the LOWER of a direct join, or has a join point placed behind the
window of 16 motion records; R144: in a stop the head waits. -/
theorem test_repair_in_run :
    (let t := after (.repairDone src 1) (standing (droppedOut (longDesign (runningAt 0 300))) 1);
      t.bus.inFlight.map Transaction.kind = some (.command (.engage ⟨.lower, .sewing, true, false⟩)) ∧ t.run.point = none ∧
        (t.headAt 1).state = .dropped ∧ (t.watchAt 1).joining = false) ∧
    (let t := after (.repairDone src 1) (standing (droppedOut (longDesign (runningAt 0 300))) 4);
      t.bus.inFlight = none ∧ t.run.point = some 16 ∧ (t.watchAt 1).joining = true ∧ (t.watchAt 1).fault = none) ∧
    (let t := after (.repairDone src 1) (inState (droppedOut (runningAt 0 300)) .stopping);
      t.run.point = none ∧ (t.watchAt 1).joining = true ∧ (t.headAt 1).state = .dropped ∧
        t.link.events = [⟨.headRepaired, 1, 0, 3⟩]) := by decide +kernel

/-- Head 1, DROPPED with an OPEN gap from record 0 on, in a run that joins its heads before it goes on. -/
def rejoining (p : JoinPhase) (a : AfterJoin) : State :=
  let s := droppedOut paused
  (joiner (s.setMonitor paused.monitor)).setRun { s.run with
    state := .changing, cause := none, activity := .joining [1] p a, startReturn := some .paused }
/-- At rest at a join point, head 1 waiting. -/
def waitingAtPoint (c : Nat) : State :=
  let s := joiner (inState (pausedAt c ⟨90, 8⟩) .running)
  s.setRun { s.run with point := some c, cause := none, heads := s.run.heads.set 0 ⟨.dropped, 1, none, none⟩ }
theorem met_ThreadTimers_joins :
    (∀ a ∈ [AfterJoin.running, .stepEngage, .fromWaiting], ∀ p ∈ [JoinPhase.pick, .aligning 1, .lowering 1],
      let s := rejoining p a;
      s.run.pass = .main ∧ s.shapesRight = true ∧ s.frame.travel = none ∧ s.frame.homing = none ∧
        s.run.activity = .joining [1] p a ∧ (s.watchAt 1).joining = true ∧ (s.watchAt 1).fault = none ∧
        (s.linkAt 1).lost = false ∧ s.bus.queue.length < 16 ∧ s.bus.held = [] ∧ s.run.cause = none ∧
        s.bus.engageOutstanding 1 = false ∧ (s.headAt 1).acked = none ∧ a ≠ .patch) ∧
    (let s := rejoining .pick .running;
      s.change.needle (s.stampAt 6).colour 1 = 1 ∧ ((standing s 1).workAt 1).lastKnown = some 1 ∧
        ((standing s 4).workAt 1).lastKnown = some 4 ∧ (unmapped s).change.needle (s.stampAt 6).colour 1 = 0 ∧
        ∀ h ∈ headNumbers, (s.setMonitor paused.monitor).watchAt h = (paused.watchAt h) ∧ (paused.watchAt h).joining = false) ∧
    (let s := withWork (rejoining (.aligning 1) .running) ⟨true, .absent, 0, false, .arrived, 1, 1, false, 3, none, some 1⟩;
      (s.workAt 1).case = .arrived ∧ ∀ j ∈ headNumbers, (s.workAt j).part = true → (s.workAt j).case = .arrived) ∧
    ((withWork (rejoining (.aligning 1) .running) ⟨true, .absent, 0, false, .handedOver, 1, 3, false, 3, none, none⟩).workAt 1
      ).case = .handedOver ∧
    (let s := (waitingAtPoint 8);
      s.frame.travel = none ∧ s.frame.homing = none ∧ s.run.state = .running ∧ s.run.activity = .none ∧
        s.shaft.state = .atRest ∧ s.frame.stitch = none ∧ s.run.carry = false ∧ s.run.stepDone = false ∧
        s.run.point = some s.run.mainCursor ∧ s.joinsWaiting = true ∧ s.run.pass = .main ∧ s.shapesRight = true) ∧
    (let s := (rejoining .pick .stepEngage).setMonitor paused.monitor;
      (s.setRun { s.run with cause := some .host }).run.cause = some .host ∧ s.joinsWaiting = false) ∧
    (let s := sending (rejoining (.lowering 1) .running) (.command (.engage ⟨.lower, .sewing, true, false⟩));
      s.bus.engageOutstanding 1 = true ∧ s.bus.inFlight = some ⟨.command (.engage ⟨.lower, .sewing, true, false⟩), 1, 1, .fresh, true⟩ ∧
        s.shaft.state = .atRest ∧ (s.headAt 1).state = .dropped ∧ (s.watchAt 1).fault = none ∧
        (s.workAt 1).case ≠ .lowering ∧ s.run.pass = .main) := by decide +kernel
/-- R144, R142: a waiting head is aligned, lowered and joins, its gap closed at the main cursor; with needle 0 it rests;
then the run goes on. -/
theorem test_main_joins :
    (advanced (standing (rejoining .pick .running) 4)).bus.queue = [⟨1, .caseMove false 3⟩] ∧
    (advanced (standing (rejoining .pick .running) 1)).bus.queue = [⟨1, .engage ⟨.lower, .sewing, true, false⟩⟩] ∧
    (let t := advanced (unmapped (rejoining .pick .running));
      (t.headAt 1).state = .resting ∧ t.gaps = [⟨1, 0, some 6, ⟨0, 0⟩, 0, .closed⟩] ∧ (t.watchAt 1).joining = false) ∧
    (let t := after (.headAnswer 1 true default)
        (sending (rejoining (.lowering 1) .running) (.command (.engage ⟨.lower, .sewing, true, false⟩)));
      (t.headAt 1).state = .sewing ∧ t.gaps = [⟨1, 0, some 6, ⟨0, 0⟩, 0, .closed⟩] ∧ t.run.state = .running) ∧
    (advanced (waitingAtPoint 8)).run.activity = .joining [1] .pick .running ∧
    (advanced (rejoining .pick .running)).bus.queue = [⟨1, .clear⟩, ⟨1, .poll⟩] ∧
    (advanced ((rejoining .pick .fromWaiting).setMonitor paused.monitor)).link.events = [⟨.runStarted, 0, 6, 4⟩] := by
  decide +kernel

theorem met_IndexAndRest_step :
    let s := (atStop .running .single 1).setRun { (atStop .running .single 1).run with stepping := true, stepDone := true };
    s.calm = true ∧ s.shaft.braked = true ∧ s.shaft.state = .stopping ∧ s.shaft.hold = false ∧ s.frame.stitch = none ∧
      s.run.carry = false ∧ s.run.point = none ∧ s.link.resetBy = none ∧ s.ackedNone = true ∧ s.joinsWaiting = false ∧
      s.run.state = .running ∧ s.run.stepDone = true ∧ s.passGoesOn = true ∧ s.run.cause = none ∧
      (after .shaftRestDeclared s).run.state = .paused ∧ (after .shaftRestDeclared s).run.cause = some .step ∧
      ∀ h ∈ headNumbers, s.bus.joinOrder h = none := by decide +kernel

/-- The same stop, or one with the run state STOPPING, with head 1 out of the run and waiting to join. -/
def waitingAtStop (r : RunState) (c : Nat) : State :=
  joiner ((droppedOut (atStop r .burst c)).setMonitor ready.monitor)
theorem waitingAtStop_gapsRight (r : RunState) (c : Nat) : (waitingAtStop r c).gapsRight := by
  have g : (waitingAtStop r c).gaps = [⟨1, 0, none, ⟨0, 0⟩, 0, .opened⟩] := rfl
  refine ⟨by simp [g], fun h => ?_⟩
  obtain rfl | h1 := eq_or_ne 1 h <;> simp_all
theorem met_IndexAndRest_waiting :
    (∀ p ∈ [(RunState.stopping, 0), (.stopping, 8), (.stopping, 9), (.running, 9)],
      let s := waitingAtStop p.1 p.2;
      s.calm = true ∧ s.shaft.braked = true ∧ s.shaft.state = .stopping ∧ s.shaft.hold = false ∧ s.frame.stitch = none ∧
        s.run.carry = false ∧ s.run.pass = .main ∧ s.link.resetBy = none ∧ s.ackedNone = true ∧ s.shapesRight = true ∧
        s.run.state = p.1 ∧ s.run.point = none ∧ s.run.stepDone = false ∧ (∀ h ∈ headNumbers, s.bus.joinOrder h = none) ∧
        (s.watchAt 1).joining = true ∧ (s.headAt 1).state = .dropped ∧
        ∀ h ∈ headNumbers, h ≠ 1 → (s.watchAt h).joining = false) ∧
    (waitingAtStop .stopping 8).store.recordAt 8 = some (.stitch 127 (-127)) ∧
    (waitingAtStop .running 9).store.recordAt 9 = some .finish := by decide +kernel
/-- R144: where the stop ends in PAUSED, and at END, a waiting head becomes IDLE with its gap closed there. -/
theorem test_waiting_head_freed : ∀ p ∈ [(RunState.stopping, 8), (.running, 9)],
    let t := after .shaftRestDeclared (waitingAtStop p.1 p.2);
    (t.headAt 1).state = .idle ∧ (t.watchAt 1).joining = false ∧ t.gaps = [⟨1, 0, some p.2, ⟨0, 0⟩, 0, .closed⟩] ∧
      t.run.state = (if p.2 = 8 then .paused else .finished) := by decide +kernel

theorem met_CrossingsCarryTheStitch_effects :
    (∀ c ∈ [2, 3],
      let s := runningAt c 760;
      s.shaft.referenced = true ∧ s.shaft.state = .running ∧ s.shaft.wraps = 0 ∧ s.shaft.braked = false ∧ s.calm = true ∧
        (s.shaft.angle + 1) % 1024 = s.shaft.openAngle ∧ (s.shaft.angle + 1) % 1024 ≠ s.cfg.pollAngle ∧
        s.shaft.seenOpen = false ∧ s.frame.stitch = none ∧ s.run.carry = false ∧ s.run.stepDone = false ∧
        s.stopKindAt c = none ∧ s.cursor = c ∧ c < s.store.filledEnd) ∧
    (runningAt 2 760).store.recordAt 2 = some (.speed 800) ∧ (runningAt 3 760).store.recordAt 3 = some (.mark 7) ∧
    (let s := (carrying 240 none).setCfg { ready.cfg with progressPeriod := 1 };
      s.calm = true ∧ s.frame.stitch = none ∧ s.shaft.lockout.late = false ∧ s.run.carry = true ∧ s.cfg.progressPeriod ≠ 0 ∧
        ¬ s.link.progressCount + 1 < s.cfg.progressPeriod) := by decide +kernel
/-- R7, R168: the records 2 and 3 are passed at one Open angle and the JUMP behind them begins its move; the progress
report of record 0, which moves the frame by (10, 5). -/
theorem test_effects_and_progress :
    (let t := after (.encoderCount true) (runningAt 2 760);
      t.run.mainCursor = 4 ∧ t.frame.stitch.isSome = true ∧ t.run.state = .running) ∧
    (let s := (carrying 240 none).setCfg { ready.cfg with progressPeriod := 1 };
      let t := after (.encoderCount true) (s.setGov { s.gov with last := some 300 });
      t.link.progress = some ⟨0, 300, ⟨10, 5⟩, .main⟩ ∧ t.link.progressCount = 0) := by decide +kernel

/-- A record with this engaged flag and no penetrations. -/
def flagged (e : Bool) : StatusRecord := ⟨1, .atRest, .idle, e, 0, 0, 0, false⟩
theorem met_HeadAnswer_engagedFlag :
    (∀ s ∈ [sending engaged .roundPoll, sending engaged (.command .poll), sending ready .roundPoll],
      s.shapesRight = true ∧ (s.linkAt 1).lost = false ∧ s.bus.queue ++ s.bus.held = [] ∧ (s.headAt 1).acked = none ∧
        (s.workAt 1).trim ≠ .waiting ∧ (s.workAt 1).case ≠ .clearing ∧ (s.workAt 1).case ≠ .moving) ∧
    ((flagged false).engaged ≠ (sending engaged .roundPoll).engagedHead 1 ∧
      (flagged true).engaged ≠ (sending ready .roundPoll).engagedHead 1 ∧ (flagged true).bobbinLow = false) ∧
    (let s := sending (engaged.setBus { ready.bus with queue := [⟨1, .engage ⟨.lift, .idle, false, false⟩⟩] }) .roundPoll;
      ∃ c ∈ s.bus.queue ++ s.bus.held, c.engages 1 = true) ∧
    ((ready.setBus { ready.bus with queue := List.replicate 16 ⟨2, .poll⟩ }).bus.queue.length = 16) := by decide +kernel
/-- R109: the board is sent the command that the head table calls for. -/
theorem test_engaged_flag :
    ((after (.headAnswer 1 true (flagged false)) (sending engaged .roundPoll)).bus.inFlight.map Transaction.kind =
      some (.command (.engage ⟨.lower, .sewing, false, false⟩))) ∧
    ((after (.headAnswer 1 true (flagged true)) (sending ready .roundPoll)).bus.inFlight.map Transaction.kind =
      some (.command (.engage ⟨.lift, .idle, false, false⟩))) := by decide +kernel

/-- A colour change in its trim, which is over, with this head 1: its target, its last known position, engaged or not. -/
def trimmed (target : Nat) (known : Option Nat) (head : HeadState) : State :=
  let s := paused.setRun { paused.run with
    state := .changing, cause := none, activity := .changing, heads := paused.run.heads.set 0 ⟨head, 1, none, none⟩ }
  withWork (s.setChange { s.change with work := .colourChange, casing := false, newSlot := 2 })
    ⟨true, .done, 1, false, .absent, target, 1, false, 0, none, known⟩
/-- The same in its case step, with an engagement command of head 1 in flight. -/
def engaging (c : CaseProgress) (target : Nat) (known : Option Nat) (o : EngageOrder) (head : HeadState) : State :=
  let s := trimmed target known head
  sending (withWork (s.setChange { s.change with casing := true })
    ⟨true, .done, 1, false, c, target, 1, false, 0, none, known⟩) (.command (.engage o))
theorem met_CaseMovesAndTrims_caseStep :
    (∀ q ∈ [0, 3], ∀ p ∈ [none, some 1, some 3], ∀ e ∈ [HeadState.sewing, .idle],
      let s := trimmed q p e;
      s.frame.travel = none ∧ s.frame.homing = none ∧ s.shapesRight = true ∧ s.run.activity = .changing ∧
        s.change.work = .colourChange ∧ s.change.casing = false ∧ (s.linkAt 1).lost = false ∧ (s.workAt 1).part = true ∧
        (s.workAt 1).target = q ∧ (s.workAt 1).lastKnown = p ∧ s.engagedHead 1 = (e == .sewing) ∧
        ∀ h ∈ headNumbers, (s.workAt h).trim ≠ .waiting ∧ (s.workAt h).caseAttempt < 3) ∧
    ((withWork (trimmed 3 none .idle) ⟨true, .waiting, 1, false, .absent, 3, 1, false, 0, none, none⟩).workAt 1).trim = .waiting ∧
    ((withWork (trimmed 3 none .idle) ⟨true, .handedOver, 1, false, .absent, 3, 1, false, 0, none, none⟩).workAt 1).trim =
      .handedOver ∧ ((trimmed 3 none .idle).workAt 8).part = false := by decide +kernel
theorem met_CaseMovesAndTrims_engagements :
    (∀ t ∈ [(0, none), (3, none), (3, some 1), (3, some 3)],
      let s := engaging .lifting t.1 t.2 ⟨.lift, .idle, false, false⟩ .sewing;
      s.shapesRight = true ∧ s.bus.inFlight = some ⟨.command (.engage ⟨.lift, .idle, false, false⟩), 1, 1, .fresh, true⟩ ∧
        s.shaft.state = .atRest ∧ (s.watchAt 1).fault = none ∧ s.engagedHead 1 = true ∧ (s.workAt 1).case = .lifting ∧
        (s.workAt 1).target = t.1 ∧ (s.workAt 1).lastKnown = t.2 ∧ (s.workAt 1).caseAttempt < 3 ∧ (s.linkAt 1).lost = false ∧
        s.bus.queue ++ s.bus.held = [] ∧ s.change.work = .colourChange) ∧
    (let s := engaging .lowering 3 (some 3) ⟨.lower, .sewing, false, false⟩ .idle;
      s.shapesRight = true ∧ s.shaft.state = .atRest ∧ (s.headAt 1).state = .idle ∧ (s.workAt 1).case = .lowering ∧
        (s.watchAt 1).fault = none) := by decide +kernel
/-- R125: the rows of its table, the CASE MOVE behind the LIFT, and the arrival. -/
theorem test_case_step :
    (∀ p ∈ [none, some 1], (advanced (trimmed 3 p .sewing)).bus.queue = [⟨1, .engage ⟨.lift, .idle, false, false⟩⟩]) ∧
    (advanced (trimmed 0 (some 1) .sewing)).bus.queue = [⟨1, .engage ⟨.lift, .resting, false, false⟩⟩] ∧
    ((advanced (trimmed 0 (some 1) .idle)).headAt 1).state = .resting ∧
    (advanced (trimmed 3 (some 1) .idle)).bus.queue = [⟨1, .caseMove true 2⟩] ∧
    (advanced (trimmed 3 (some 3) .idle)).bus.queue = [⟨1, .engage ⟨.lower, .sewing, false, false⟩⟩] ∧
    ((advanced (trimmed 3 (some 3) .sewing)).workAt 1).case = .arrived ∧
    ((after (.headAnswer 1 true default)
      (engaging .lifting 3 (some 1) ⟨.lift, .idle, false, false⟩ .sewing)).bus.inFlight.map Transaction.kind =
        some (.command (.caseMove true 2))) ∧
    (let t := after (.headAnswer 1 true default) (engaging .lowering 3 (some 3) ⟨.lower, .sewing, false, false⟩ .idle);
      (t.headAt 1).state = .sewing ∧ t.link.events.head? = some ⟨.colourDone, 0, 6, 2⟩) := by decide +kernel

end Sys2Proof.Tests
end

/-!
SET MODE and the MODE group (R19). Both commands hand the same owner, `serveSetMode`, to the gate of the requests; so
the owner is described once, one lemma per outcome, and its answer is carried through the gate for both.
-/

namespace Sys2Proof.Machine

/-! ## A request taken -/

/-- An addressed request that its owner takes, having left the Link Interface alone, leaves the state the owner made,
with OK as its reply. -/
theorem State.takeAddressed_taken (s t : State) (tag : Byte) (owner : State → Served) (h : s.hears = true)
    (hl : t.link = s.link) (ho : owner (s.setLink (s.link.reserve tag)) = taken (t.setLink (s.link.reserve tag))) :
    s.takeAddressed tag owner = t.replied tag .ok [] := by
  rw [State.takeAddressed_served s _ tag owner (Reply.plain .ok) h ho rfl, State.replied, hl]
  rfl

/-! ## The commands and their owner -/

theorem exec_setMode_addressed (tag : Byte) (mode : Nat) (s : State) :
    exec (.setMode (.addressed tag) mode) s = .next (s.takeAddressed tag (serveSetMode mode)) :=
  rfl

theorem exec_configureMode_addressed (tag : Byte) (mode : Nat) (s : State) :
    exec (.configureMode (.addressed tag) mode) s = .next (s.takeAddressed tag (serveSetMode mode)) :=
  rfl

theorem State.settable_iff (s : State) : s.settable = true ↔ s.run.state = .idle ∨ s.run.state = .paused := by
  simp [State.settable]

@[simp] theorem State.settable_setLink (s : State) (l : Link) : (s.setLink l).settable = s.settable := rfl

theorem runModeOf_eq_none_of_two_lt {mode : Nat} (h : 2 < mode) : runModeOf mode = none := by
  match mode, h with
  | _ + 3, _ => rfl

theorem serveSetMode_of_code {s : State} {mode : Nat} {m : RunMode} (h : s.settable = true)
    (hm : runModeOf mode = some m) : serveSetMode mode s = taken (s.setRun { s.run with mode := m }) := by
  simp [serveSetMode, h, hm]

theorem serveSetMode_of_no_code {s : State} {mode : Nat} (h : s.settable = true) (hm : runModeOf mode = none) :
    serveSetMode mode s = refuse s .range := by
  simp [serveSetMode, h, hm]

theorem serveSetMode_of_not_settable {s : State} (mode : Nat) (h : s.settable = false) :
    serveSetMode mode s = refuse s .busy := by
  simp [serveSetMode, h]

/-! ## The owner behind the gate -/

theorem takeAddressed_serveSetMode_of_code {s : State} (tag : Byte) {mode : Nat} {m : RunMode} (hh : s.hears = true)
    (h : s.settable = true) (hm : runModeOf mode = some m) :
    s.takeAddressed tag (serveSetMode mode) = (s.setRun { s.run with mode := m }).replied tag .ok [] :=
  State.takeAddressed_taken s (s.setRun { s.run with mode := m }) tag _ hh rfl (serveSetMode_of_code h hm)

theorem takeAddressed_serveSetMode_of_no_code {s : State} (tag : Byte) {mode : Nat} (hh : s.hears = true)
    (h : s.settable = true) (hm : runModeOf mode = none) :
    s.takeAddressed tag (serveSetMode mode) = s.replied tag .range [] :=
  State.takeAddressed_refused s tag _ .range hh (serveSetMode_of_no_code h hm)

theorem takeAddressed_serveSetMode_of_not_settable {s : State} (tag : Byte) (mode : Nat) (hh : s.hears = true)
    (h : s.settable = false) : s.takeAddressed tag (serveSetMode mode) = s.replied tag .busy [] :=
  State.takeAddressed_refused s tag _ .busy hh (serveSetMode_of_not_settable mode h)

/-- Settles O30: both commands end as their common owner does, by the run state first and by the code then. -/
theorem setModeAndModeGroup : Obligations.SetModeAndModeGroup := by
  intro s tag mode hh both
  have both_of {t : State} (ht : s.takeAddressed tag (serveSetMode mode) = t) : both t :=
    ⟨by rw [exec_setMode_addressed, ht], by rw [exec_configureMode_addressed, ht]⟩
  refine ⟨fun hs => ?settable, fun hidle hpaused => ?elsewhere⟩
  case settable =>
    have h : s.settable = true := s.settable_iff.mpr hs
    have taken_as {m : RunMode} (hm : runModeOf mode = some m) :=
      both_of (takeAddressed_serveSetMode_of_code tag hh h hm)
    refine ⟨?single, ?burst, ?continuous, fun hm => ?range⟩
    case single => rintro rfl; exact taken_as rfl
    case burst => rintro rfl; exact taken_as rfl
    case continuous => rintro rfl; exact taken_as rfl
    case range => exact both_of (takeAddressed_serveSetMode_of_no_code tag hh h (runModeOf_eq_none_of_two_lt hm))
  case elsewhere =>
    have h : s.settable = false := by
      rw [Bool.eq_false_iff, Ne, State.settable_iff]
      exact not_or.mpr ⟨hidle, hpaused⟩
    exact both_of (takeAddressed_serveSetMode_of_not_settable tag mode hh h)

end Sys2Proof.Machine

/-!
The checks of a DESIGN BLOCK (R33 to R35). The gate of the requests hands the block to its owner, `serveDesignBlock`,
which checks the block's head in order (R33), then the form of its records (R34) and then their range (R35). Each check
of the head has a lemma for its code, and each of the three stages one that carries its refusal through the gate.
-/

namespace Sys2Proof.Machine

/-! ## The checks of the block's head -/

theorem State.blockRefused_of_short (s : State) {body : List Byte} (h : body.length < 4) :
    s.blockRefused body = some .format := by
  simp [State.blockRefused, h]

theorem State.blockRefused_of_not_loading {s : State} {body : List Byte} (hb : 4 ≤ body.length)
    (h : s.store.design ≠ .loading) : s.blockRefused body = some .busy := by
  simp [State.blockRefused, Nat.not_lt.mpr hb, h]

theorem State.blockRefused_of_not_granted {s : State} {body : List Byte} (hb : 4 ≤ body.length)
    (hl : s.store.design = .loading) (h : s.store.granted = 0) : s.blockRefused body = some .notGranted := by
  simp [State.blockRefused, Nat.not_lt.mpr hb, hl, h]

theorem State.blockRefused_of_out_of_order {s : State} {body : List Byte} (hb : 4 ≤ body.length)
    (hl : s.store.design = .loading) (hg : s.store.granted ≠ 0) (h : blockSeq body ≠ s.store.nextSeq) :
    s.blockRefused body = some .outOfOrder := by
  simp [State.blockRefused, Nat.not_lt.mpr hb, hl, hg, h]

theorem State.blockRefused_eq_none {s : State} {body : List Byte} (hb : 4 ≤ body.length)
    (hl : s.store.design = .loading) (hg : s.store.granted ≠ 0) (hq : blockSeq body = s.store.nextSeq) :
    s.blockRefused body = none := by
  simp [State.blockRefused, Nat.not_lt.mpr hb, hl, hg, hq]

@[simp] theorem State.blockRefused_setLink (s : State) (l : Link) (body : List Byte) :
    (s.setLink l).blockRefused body = s.blockRefused body := rfl

/-! ## The range of the block's records -/

theorem State.blockInRange_eq_false_iff (s : State) (rs : List DesignRecord) :
    s.blockInRange rs = false ↔
      16777216 < s.store.filledEnd + rs.length ∨ positionsInDesign s.tailStamp rs = false := by
  rw [State.blockInRange, Bool.and_eq_false_iff, decide_eq_false_iff_not, Nat.not_le, Config.recordLimit]

@[simp] theorem State.blockInRange_setLink (s : State) (l : Link) (rs : List DesignRecord) :
    (s.setLink l).blockInRange rs = s.blockInRange rs := rfl

/-! ## The owner -/

theorem serveDesignBlock_of_blockRefused {s : State} {body : List Byte} {c : ResultCode}
    (h : s.blockRefused body = some c) : serveDesignBlock body s = refuse s c := by
  simp [serveDesignBlock, h]

theorem serveDesignBlock_of_no_form {s : State} {body : List Byte} (h : s.blockRefused body = none)
    (hf : blockForm body = none) : serveDesignBlock body s = refuse s .format := by
  simp [serveDesignBlock, h, hf]

theorem serveDesignBlock_of_not_inRange {s : State} {body : List Byte} {rs : List DesignRecord}
    (h : s.blockRefused body = none) (hf : blockForm body = some rs) (hr : s.blockInRange rs = false) :
    serveDesignBlock body s = refuse s .range := by
  simp [serveDesignBlock, h, hf, hr]

/-! ## The owner behind the gate -/

section Gate

variable {s : State} (tag : Byte) {body : List Byte} (hh : s.hears = true)
include hh

theorem exec_designBlock_refused {c : ResultCode}
    (h : serveDesignBlock body (s.setLink (s.link.reserve tag)) = refuse (s.setLink (s.link.reserve tag)) c) :
    exec (.designBlock (.addressed tag) body) s = .next (s.replied tag c []) :=
  congrArg Host.Outcome.next (s.takeAddressed_refused tag (serveDesignBlock body) c hh h)

theorem exec_designBlock_of_blockRefused {c : ResultCode} (h : s.blockRefused body = some c) :
    exec (.designBlock (.addressed tag) body) s = .next (s.replied tag c []) :=
  exec_designBlock_refused tag hh (serveDesignBlock_of_blockRefused (by simpa using h))

theorem exec_designBlock_of_no_form (h : s.blockRefused body = none) (hf : blockForm body = none) :
    exec (.designBlock (.addressed tag) body) s = .next (s.replied tag .format []) :=
  exec_designBlock_refused tag hh (serveDesignBlock_of_no_form (by simpa using h) hf)

theorem exec_designBlock_of_not_inRange {rs : List DesignRecord} (h : s.blockRefused body = none)
    (hf : blockForm body = some rs) (hr : s.blockInRange rs = false) :
    exec (.designBlock (.addressed tag) body) s = .next (s.replied tag .range []) :=
  exec_designBlock_refused tag hh (serveDesignBlock_of_not_inRange (by simpa using h) hf (by simpa using hr))

end Gate

/-- Settles O23: the owner's checks in their order, each with the code of the first that fails. -/
theorem designBlockChecksInOrder : Obligations.DesignBlockChecksInOrder := by
  intro s tag body hh answer
  have head_refuses {c : ResultCode} (h : s.blockRefused body = some c) : answer c :=
    exec_designBlock_of_blockRefused tag hh h
  refine ⟨?short, fun hb => ⟨?not_loading, fun hl => ⟨?not_granted, ?granted⟩⟩⟩
  case short => exact fun hb => head_refuses (s.blockRefused_of_short hb)
  case not_loading => exact fun hl => head_refuses (State.blockRefused_of_not_loading hb hl)
  case not_granted => exact fun hg => head_refuses (State.blockRefused_of_not_granted hb hl hg)
  case granted =>
    refine fun hg => ⟨?out_of_order, fun hq => ?in_order⟩
    case out_of_order => exact fun hq => head_refuses (State.blockRefused_of_out_of_order hb hl hg hq)
    case in_order =>
      have passed : s.blockRefused body = none := State.blockRefused_eq_none hb hl hg hq
      refine ⟨?no_form, ?out_of_range⟩
      case no_form => exact fun hf => exec_designBlock_of_no_form tag hh passed hf
      case out_of_range =>
        exact fun rs hf hr =>
          exec_designBlock_of_not_inRange tag hh passed hf ((s.blockInRange_eq_false_iff rs).mpr hr)

end Sys2Proof.Machine

/-!
The SPEED LIMITS group (R58, R85, R173). The gate of the requests hands the group to its owner, `serveSpeedLimits`,
which looks at the run state and the shaft first and at the group's ranges then. What the owner tests and what it
computes are stated once in the terms of the manual; each of its three outcomes is then carried through the gate.
-/

namespace Sys2Proof.Machine

/-! ## The run states of the group -/

theorem State.configurable_iff (s : State) :
    s.configurable = true ↔ s.run.state = .unconfigured ∨ s.run.state = .idle ∨ s.run.state = .paused := by
  simp [State.configurable, or_assoc]

@[simp] theorem State.configurable_setLink (s : State) (l : Link) : (s.setLink l).configurable = s.configurable := rfl

/-! ## The ranges of the group -/

theorem within_iff (lo v hi : Nat) : within lo v hi = true ↔ lo ≤ v ∧ v ≤ hi := by
  simp [within]

theorem arcOf_cast (g : SpeedGroup) : (arcOf g : Int) = ((g.closeAngle : Int) - g.openAngle) % 1024 :=
  Int.toNat_of_nonneg (Int.emod_nonneg _ (by decide))

theorem speedsRight_iff (g : SpeedGroup) :
    speedsRight g = true ↔
      40 ≤ g.crawl ∧ g.crawl ≤ 200 ∧ 200 ≤ g.maxSpeed ∧ g.maxSpeed ≤ 1500 ∧ 5 ≤ g.accel ∧ g.accel ≤ 200 ∧
        20 ≤ g.decel ∧ g.decel ≤ 400 ∧ g.maxSpeed ≤ g.crawl + 16 * g.decel ∧ g.openAngle ≤ 1023 ∧
        g.closeAngle ≤ 1023 ∧ 128 ≤ ((g.closeAngle : Int) - g.openAngle) % 1024 ∧
        ((g.closeAngle : Int) - g.openAngle) % 1024 ≤ 768 ∧ g.tieIn ≤ 9 := by
  simp only [speedsRight, Bool.and_eq_true, within_iff, decide_eq_true_eq, and_assoc, ← arcOf_cast,
    Nat.ofNat_le_cast, Nat.cast_le_ofNat, Nat.sub_le_iff_le_add']

/-! ## What a taken group brings -/

theorem clampSpeed_eq_ite {g : SpeedGroup} (h : g.crawl ≤ g.maxSpeed) (v : Nat) :
    clampSpeed g v = if v < g.crawl then g.crawl else if g.maxSpeed < v then g.maxSpeed else v := by
  unfold clampSpeed
  split_ifs <;> omega

/-- R2, R175: with the mark of SPEED LIMITS set, the other two marks decide whether the run leaves UNCONFIGURED. -/
theorem State.leaveUnconfigured_of_speedsSet {s : State} (h : s.cfg.speedsSet = true) :
    s.leaveUnconfigured = s.setRun { s.run with
      state := if s.run.state = .unconfigured ∧ s.cfg.machineSet = true ∧ s.cfg.tableLoaded = true then .idle
        else s.run.state } := by
  unfold State.leaveUnconfigured
  simp only [h, true_and]
  split <;> rfl

theorem State.leaveUnconfigured_setLink (s : State) (l : Link) :
    (s.setLink l).leaveUnconfigured = s.leaveUnconfigured.setLink l :=
  (apply_ite (State.setLink · l) _ (s.enter .idle) s).symm

/-- The state that a taken SPEED LIMITS group leaves, before its reply. -/
def State.takeSpeedLimits (s : State) (g : SpeedGroup) : State :=
  ((s.setCfg { s.cfg with speeds := g, speedsSet := true }).setGov { s.gov with
    ceiling := clampSpeed g s.gov.ceiling }).leaveUnconfigured

theorem State.takeSpeedLimits_setLink (s : State) (g : SpeedGroup) (l : Link) :
    (s.setLink l).takeSpeedLimits g = (s.takeSpeedLimits g).setLink l := by
  rw [State.takeSpeedLimits, State.takeSpeedLimits, ← State.leaveUnconfigured_setLink]
  rfl

theorem State.takeSpeedLimits_link (s : State) (g : SpeedGroup) : (s.takeSpeedLimits g).link = s.link := by
  simp [State.takeSpeedLimits]

/-- R58: the ceiling is clamped into the new range, and the run state that may follow is the only other change. -/
theorem State.takeSpeedLimits_eq (s : State) {g : SpeedGroup} (h : g.crawl ≤ g.maxSpeed) :
    s.takeSpeedLimits g =
      ((s.setCfg { s.cfg with speeds := g, speedsSet := true }).setGov { s.gov with
        ceiling := if s.gov.ceiling < g.crawl then g.crawl else if g.maxSpeed < s.gov.ceiling then g.maxSpeed
          else s.gov.ceiling }).setRun { s.run with
        state := if s.run.state = .unconfigured ∧ s.cfg.machineSet = true ∧ s.cfg.tableLoaded = true then .idle
          else s.run.state } := by
  rw [State.takeSpeedLimits, State.leaveUnconfigured_of_speedsSet rfl, clampSpeed_eq_ite h]
  rfl

/-! ## The owner -/

theorem serveSpeedLimits_of_busy {s : State} (g : SpeedGroup)
    (h : s.configurable = false ∨ s.shaft.state = .referencing) : serveSpeedLimits g s = refuse s .busy := by
  simp [serveSpeedLimits, h]

theorem serveSpeedLimits_of_not_right {s : State} {g : SpeedGroup} (hc : s.configurable = true)
    (hs : s.shaft.state ≠ .referencing) (hr : speedsRight g = false) : serveSpeedLimits g s = refuse s .range := by
  simp [serveSpeedLimits, hc, hs, hr]

theorem serveSpeedLimits_of_right {s : State} {g : SpeedGroup} (hc : s.configurable = true)
    (hs : s.shaft.state ≠ .referencing) (hr : speedsRight g = true) :
    serveSpeedLimits g s = taken (s.takeSpeedLimits g) := by
  simp [serveSpeedLimits, hc, hs, hr, State.takeSpeedLimits]

/-! ## The owner behind the gate -/

section Gate

variable {s : State} (tag : Byte) {g : SpeedGroup} (hh : s.hears = true)
include hh

theorem exec_configureSpeedLimits_of_busy (h : s.configurable = false ∨ s.shaft.state = .referencing) :
    exec (.configureSpeedLimits (.addressed tag) g) s = .next (s.replied tag .busy []) :=
  congrArg Host.Outcome.next
    (s.takeAddressed_refused tag (serveSpeedLimits g) .busy hh (serveSpeedLimits_of_busy g (by simpa using h)))

theorem exec_configureSpeedLimits_of_not_right (hc : s.configurable = true) (hs : s.shaft.state ≠ .referencing)
    (hr : speedsRight g = false) :
    exec (.configureSpeedLimits (.addressed tag) g) s = .next (s.replied tag .range []) :=
  congrArg Host.Outcome.next
    (s.takeAddressed_refused tag (serveSpeedLimits g) .range hh
      (serveSpeedLimits_of_not_right (by simpa using hc) (by simpa using hs) hr))

theorem exec_configureSpeedLimits_of_right (hc : s.configurable = true) (hs : s.shaft.state ≠ .referencing)
    (hr : speedsRight g = true) :
    exec (.configureSpeedLimits (.addressed tag) g) s = .next ((s.takeSpeedLimits g).replied tag .ok []) := by
  refine congrArg Host.Outcome.next
    (s.takeAddressed_taken (s.takeSpeedLimits g) tag (serveSpeedLimits g) hh (s.takeSpeedLimits_link g) ?_)
  rw [serveSpeedLimits_of_right (by simpa using hc) (by simpa using hs) hr, State.takeSpeedLimits_setLink]

end Gate

/-- Settles O44: the owner's three outcomes, with its tests in the manual's terms. A group in range has crawl at most
200 and machine max at least 200, so the range into which the ceiling is clamped is not empty. -/
theorem speedLimitsTaken : Obligations.SpeedLimitsTaken := by
  intro s tag g hh run open_ arc right state ceiling
  have open_iff : s.configurable = true ↔ open_ := s.configurable_iff
  have right_iff : speedsRight g = true ↔ right := speedsRight_iff g
  refine ⟨fun h => ?busy, fun ho hs hr => ?range, fun ho hs hr => ?taken⟩
  case busy =>
    exact exec_configureSpeedLimits_of_busy tag hh (h.imp_left fun ho => Bool.eq_false_iff.mpr (mt open_iff.mp ho))
  case range =>
    exact exec_configureSpeedLimits_of_not_right tag hh (open_iff.mpr ho) hs
      (Bool.eq_false_iff.mpr (mt right_iff.mp hr))
  case taken =>
    have crawl_le_max : g.crawl ≤ g.maxSpeed := by
      obtain ⟨_, hcrawl, hmax, _⟩ := hr
      exact hcrawl.trans hmax
    calc run
      _ = .next ((s.takeSpeedLimits g).replied tag .ok []) :=
        exec_configureSpeedLimits_of_right tag hh (open_iff.mpr ho) hs (right_iff.mpr hr)
      _ = _ := by rw [s.takeSpeedLimits_eq crawl_le_max]

end Sys2Proof.Machine

/-!
What every operation of the model keeps. `State.Follows w a s` says that the state `s`, which some operation makes of
`a`, meets each of the invariants of Safety.lean that `a` meets, and that straps and waiting commands are those of `a`.
Each operation of the model has one lemma, named after it: when `s` follows `a`, so does what the operation makes of `s`.
The proof for a longer operation is then the chain of its own calls: `h.releaseSlots.pace` for `s.releaseSlots.pace`. An invariant is then the projection of one chain, made once for the whole
of `exec`. The shapes of the lists are kept by well-formed commands only: `w` stands for that premise.

Whether a HALTED run stays as it is depends on where an operation is used, so it is kept apart (`State.Awake` below).
-/

namespace Sys2Proof.Machine

-- As in the tests: the proofs are checked one after the other, so that they do not all wait in threads of their own.
set_option Elab.async false

/-! ## The relation -/

/-- The run is not HALTED, and no recorded state is. -/
structure Run.Awake (r : Run) : Prop where
  state : r.state ≠ .halted
  haltReturn : r.haltReturn ≠ some .halted
  travelReturn : r.travelReturn ≠ some .halted
  passReturn : r.passReturn ≠ some .halted

/-- The state `s` meets the capacities, scales and shapes that `a` meets, with the straps and waiting commands of `a`. -/
structure State.Meets (w : Prop) (a s : State) : Prop where
  pending : s.pending = a.pending
  straps : s.link.rateStraps = a.link.rateStraps ∧ s.link.addressStraps = a.link.addressStraps
  slots : a.slotsRight = true → s.slotsRight = true
  link : a.linkRight = true → s.linkRight = true
  gaps : a.gapsRight → s.gapsRight
  steps : a.stepsRight → s.stepsRight
  queue : a.queueRight = true → s.queueRight = true
  shapes : w → a.shapesRight = true → s.shapesRight = true

/-- The state `s` meets what `a` meets, and is out of HALTED when `a` is. -/
structure State.Follows (w : Prop) (a s : State) : Prop extends State.Meets w a s where
  awake : a.run.Awake → s.run.Awake

theorem State.Follows.refl (w : Prop) (a : State) : a.Follows w a :=
  ⟨⟨rfl, ⟨rfl, rfl⟩, id, id, id, id, id, fun _ => id⟩, id⟩

/-! ## The updates by block -/

section Blocks

variable {w : Prop} {a s : State}

theorem State.Follows.setGov {g : Governor} (h : a.Follows w s) : a.Follows w (s.setGov g) :=
  ⟨⟨h.pending, h.straps, h.slots, h.link, h.gaps, h.steps, h.queue, h.shapes⟩, h.awake⟩

theorem State.Follows.setShaft {u : Shaft} (h : a.Follows w s) : a.Follows w (s.setShaft u) :=
  ⟨⟨h.pending, h.straps, h.slots, h.link, h.gaps, h.steps, h.queue, h.shapes⟩, h.awake⟩

theorem State.Follows.setFree {n : Nat} (h : a.Follows w s) : a.Follows w (s.setFree n) :=
  ⟨⟨h.pending, h.straps, h.slots, h.link, h.gaps, h.steps, h.queue, h.shapes⟩, h.awake⟩

/-- The conjuncts of `State.shapesRight`, as propositions. -/
theorem State.shapesRight_iff (s : State) : s.shapesRight = true ↔
    s.run.heads.length = 8 ∧ s.monitor.heads.length = 8 ∧ s.bus.heads.length = 8 ∧ s.change.heads.length = 8 ∧
      s.change.map.length = 64 ∧ (∀ row ∈ s.change.map, row.length = 8) ∧ s.frame.zones.length = 4 ∧
      s.cfg.table.length = 128 ∧ s.cfg.pieces.length = 4 ∧ s.link.phases.length = 16 := by
  simp [State.shapesRight, and_assoc]

/-- The conjuncts of `State.linkRight`, as propositions. -/
theorem State.linkRight_iff (s : State) : s.linkRight = true ↔
    s.link.replies.length ≤ 4 ∧ s.link.events.length ≤ 32 ∧ s.link.buffers.length ≤ 2 ∧ s.link.errors ≤ 65535 ∧
      s.link.assembling.length ≤ 308 ∧ 1 ≤ s.link.pointer ∧ s.link.pointer ≤ 16 ∧ s.link.progressCount ≤ 1000 ∧
      s.cfg.progressPeriod ≤ 1000 := by
  simp [State.linkRight, and_assoc]

theorem State.Follows.setRun {r : Run} (h : a.Follows w s) (hl : r.heads.length = s.run.heads.length)
    (hr : s.run.Awake → r.Awake) : a.Follows w (s.setRun r) where
  pending := h.pending
  straps := h.straps
  slots := h.slots
  link := h.link
  gaps := h.gaps
  steps := h.steps
  queue := h.queue
  shapes hw ha := by
    have := (s.shapesRight_iff).mp (h.shapes hw ha)
    rw [State.shapesRight_iff]
    simpa [hl] using this
  awake ha := hr (h.awake ha)

theorem State.Follows.setStore {x : Store} (h : a.Follows w s)
    (hx : s.slotsRight = true → (s.setStore x).slotsRight = true) : a.Follows w (s.setStore x) :=
  ⟨⟨h.pending, h.straps, fun ha => hx (h.slots ha), h.link, h.gaps, h.steps, h.queue, h.shapes⟩, h.awake⟩

theorem State.Follows.setGaps {x : List Gap} (h : a.Follows w s) (hx : s.gapsRight → (s.setGaps x).gapsRight) :
    a.Follows w (s.setGaps x) :=
  ⟨⟨h.pending, h.straps, h.slots, h.link, fun ha => hx (h.gaps ha), h.steps, h.queue, h.shapes⟩, h.awake⟩

theorem State.Follows.setLink {l : Link} (h : a.Follows w s)
    (hs : l.rateStraps = s.link.rateStraps ∧ l.addressStraps = s.link.addressStraps)
    (hp : l.phases.length = s.link.phases.length)
    (hl : s.linkRight = true → (s.setLink l).linkRight = true) : a.Follows w (s.setLink l) where
  pending := h.pending
  straps := ⟨hs.1.trans h.straps.1, hs.2.trans h.straps.2⟩
  slots := h.slots
  link ha := hl (h.link ha)
  gaps := h.gaps
  steps := h.steps
  queue := h.queue
  shapes hw ha := by
    have := (s.shapesRight_iff).mp (h.shapes hw ha)
    rw [State.shapesRight_iff]
    simpa [hp] using this
  awake := h.awake

theorem State.Follows.setBus {b : Bus} (h : a.Follows w s)
    (hb : s.queueRight = true → (s.setBus b).queueRight = true)
    (hl : b.heads.length = s.bus.heads.length := by rfl) : a.Follows w (s.setBus b) where
  pending := h.pending
  straps := h.straps
  slots := h.slots
  link := h.link
  gaps := h.gaps
  steps := h.steps
  queue ha := hb (h.queue ha)
  shapes hw ha := by
    have := (s.shapesRight_iff).mp (h.shapes hw ha)
    rw [State.shapesRight_iff]
    simpa [hl] using this
  awake := h.awake

theorem State.Follows.setChange {c : ThreadChange} (h : a.Follows w s)
    (hl : c.heads.length = s.change.heads.length)
    (hm : c.map.map List.length = s.change.map.map List.length ∨ c.map = defaultMap) :
    a.Follows w (s.setChange c) where
  pending := h.pending
  straps := h.straps
  slots := h.slots
  link := h.link
  gaps := h.gaps
  steps := h.steps
  queue := h.queue
  shapes hw ha := by
    obtain ⟨h1, h2, h3, h4, h5, h6, h7⟩ := (s.shapesRight_iff).mp (h.shapes hw ha)
    rw [State.shapesRight_iff]
    refine ⟨h1, h2, h3, hl.trans h4, ?_, ?_, h7⟩
    · rcases hm with hm | hm
      · exact (by simpa using congrArg List.length hm : c.map.length = _).trans h5
      · exact (congrArg List.length hm).trans (by simp [defaultMap])
    · rcases hm with hm | hm
      · intro row hrow
        have : row.length ∈ s.change.map.map List.length := hm ▸ List.mem_map_of_mem hrow
        obtain ⟨old, hold, e⟩ := List.mem_map.mp this
        exact e ▸ h6 old hold
      · intro row hrow
        have hrow : row ∈ defaultMap := hm ▸ hrow
        obtain ⟨i, _, rfl⟩ := List.mem_map.mp hrow
        simp
  awake := h.awake

theorem State.Follows.setMonitor {m : Monitor} (h : a.Follows w s)
    (hl : m.heads.length = s.monitor.heads.length := by rfl) : a.Follows w (s.setMonitor m) where
  pending := h.pending
  straps := h.straps
  slots := h.slots
  link := h.link
  gaps := h.gaps
  steps := h.steps
  queue := h.queue
  shapes hw ha := by
    have := (s.shapesRight_iff).mp (h.shapes hw ha)
    rw [State.shapesRight_iff]
    simpa [hl] using this
  awake := h.awake

theorem State.Follows.setFrame {f : FrameDrive} (h : a.Follows w s)
    (hx : s.frame.x.stepsRight s.cfg.machine.kX → f.x.stepsRight s.cfg.machine.kX)
    (hy : s.frame.y.stepsRight s.cfg.machine.kY → f.y.stepsRight s.cfg.machine.kY)
    (hz : f.zones.length = s.frame.zones.length := by rfl) : a.Follows w (s.setFrame f) where
  pending := h.pending
  straps := h.straps
  slots := h.slots
  link := h.link
  gaps := h.gaps
  steps ha := ⟨hx (h.steps ha).1, hy (h.steps ha).2⟩
  queue := h.queue
  shapes hw ha := by
    have := (s.shapesRight_iff).mp (h.shapes hw ha)
    rw [State.shapesRight_iff]
    simpa [hz] using this
  awake := h.awake

theorem State.Follows.setCfg {c : Settings} (h : a.Follows w s) (hm : c.machine = s.cfg.machine)
    (ht : w → s.cfg.table.length = 128 → c.table.length = 128) (hp : c.pieces.length = s.cfg.pieces.length)
    (hr : s.cfg.progressPeriod ≤ 1000 → c.progressPeriod ≤ 1000) : a.Follows w (s.setCfg c) where
  pending := h.pending
  straps := h.straps
  slots := h.slots
  link ha := by
    obtain ⟨h1, h2, h3, h4, h5, h6, h7, h8, h9⟩ := (s.linkRight_iff).mp (h.link ha)
    exact ((s.setCfg c).linkRight_iff).mpr ⟨h1, h2, h3, h4, h5, h6, h7, h8, hr h9⟩
  gaps := h.gaps
  steps ha := by
    have := h.steps ha
    simpa [State.stepsRight, hm] using this
  queue := h.queue
  shapes hw ha := by
    obtain ⟨h1, h2, h3, h4, h5, h6, h7, h8, h9, h10⟩ := (s.shapesRight_iff).mp (h.shapes hw ha)
    exact ((s.setCfg c).shapesRight_iff).mpr ⟨h1, h2, h3, h4, h5, h6, h7, ht hw h8, hp.trans h9, h10⟩
  awake := h.awake

/-- What every step of a fold keeps, the fold keeps. -/
theorem State.Follows.foldl {β : Type} {f : State → β → State} {l : List β} (h : a.Follows w s)
    (hf : ∀ t b, a.Follows w t → a.Follows w (f t b)) : a.Follows w (l.foldl f s) := by
  induction l generalizing s with
  | nil => exact h
  | cons b l ih => exact ih (hf s b h)

end Blocks

end Sys2Proof.Machine

/-!
What the shared operations, the store, the governor, the heads, the head bus and the Gap Table keep.
-/

namespace Sys2Proof.Machine

set_option Elab.async false

/-! ## Run Controller and events -/

theorem Link.post_length (l : Link) (e : Event) (h : l.events.length ≤ 32) : (l.post e).events.length ≤ 32 := by
  unfold Link.post Config.eventPlaces
  split
  · simp; omega
  · exact h

/-- Posting writes the event queue and the overflow flag: what does not read them is kept. -/
theorem Link.post_keeps_of (l : Link) (e : Event) {α : Type} (g : Link → α) (hg : ∀ l x, g { l with events := x } = g l)
    (ho : ∀ l x, g { l with overflow := x } = g l) : g (l.post e) = g l := by
  unfold Link.post
  split
  · exact hg _ _
  · exact ho _ _

section Shared

variable {w : Prop} {a s : State}

theorem State.Follows.ite {c : Prop} [Decidable c] {x y : State} (hx : a.Follows w x) (hy : a.Follows w y) :
    a.Follows w (if c then x else y) := by
  split
  · exact hx
  · exact hy

/-- Posting keeps the event queue within its capacity (R163). -/
theorem State.Follows.postAt {kind : EventKind} {head index value : Nat} (h : a.Follows w s) :
    a.Follows w (s.postAt kind head index value) := by
  have kept {α : Type} := Link.post_keeps_of s.link ⟨kind, head, index, value⟩ (α := α)
  refine h.setLink ⟨kept (·.rateStraps) (fun _ _ => rfl) (fun _ _ => rfl), kept (·.addressStraps) (fun _ _ => rfl)
    (fun _ _ => rfl)⟩ (kept (·.phases.length) (fun _ _ => rfl) (fun _ _ => rfl)) fun hl => ?_
  obtain ⟨h1, h2, h3, h4, h5, h6, h7, h8, h9⟩ := (s.linkRight_iff).mp hl
  refine (State.linkRight_iff _).mpr ⟨?_, Link.post_length _ _ h2, ?_, ?_, ?_, ?_, ?_, ?_, h9⟩
  · exact (kept (·.replies.length) (fun _ _ => rfl) (fun _ _ => rfl)).trans_le h1
  · exact (kept (·.buffers.length) (fun _ _ => rfl) (fun _ _ => rfl)).trans_le h3
  · exact (kept (·.errors) (fun _ _ => rfl) (fun _ _ => rfl)).trans_le h4
  · exact (kept (·.assembling.length) (fun _ _ => rfl) (fun _ _ => rfl)).trans_le h5
  · exact h6.trans_eq (kept (·.pointer) (fun _ _ => rfl) (fun _ _ => rfl)).symm
  · exact (kept (·.pointer) (fun _ _ => rfl) (fun _ _ => rfl)).trans_le h7
  · exact (kept (·.progressCount) (fun _ _ => rfl) (fun _ _ => rfl)).trans_le h8

theorem State.Follows.post {kind : EventKind} {head value : Nat} (h : a.Follows w s) :
    a.Follows w (s.post kind head value) := h.postAt

/-- A change of the run that touches neither the head table's length nor the run state and the recorded states. -/
theorem State.Follows.setRunSame {r : Run} (h : a.Follows w s)
    (hl : r.heads.length = s.run.heads.length := by rfl)
    (hr : r.state = s.run.state ∧ r.haltReturn = s.run.haltReturn ∧ r.travelReturn = s.run.travelReturn ∧
      r.passReturn = s.run.passReturn := by exact ⟨rfl, rfl, rfl, rfl⟩) : a.Follows w (s.setRun r) :=
  h.setRun hl fun ⟨h1, h2, h3, h4⟩ => ⟨hr.1 ▸ h1, hr.2.1 ▸ h2, hr.2.2.1 ▸ h3, hr.2.2.2 ▸ h4⟩

/-- A change of the run to a state other than HALTED that leaves the recorded states as they were or clears them. -/
theorem State.Follows.setRunTo {r : Run} (h : a.Follows w s) (hs : r.state ≠ .halted := by nofun)
    (hl : r.heads.length = s.run.heads.length := by rfl)
    (hh : r.haltReturn = s.run.haltReturn := by rfl)
    (ht : r.travelReturn = s.run.travelReturn ∨ r.travelReturn = none := by exact .inl rfl)
    (hp : r.passReturn = s.run.passReturn ∨ r.passReturn = none := by exact .inl rfl) : a.Follows w (s.setRun r) := by
  refine h.setRun hl fun ⟨_, h2, h3, h4⟩ => ⟨hs, hh ▸ h2, ?_, ?_⟩
  · rcases ht with ht | ht <;> simp [ht, h3]
  · rcases hp with hp | hp <;> simp [hp, h4]

theorem State.Follows.modHead {h : Nat} {f : HeadEntry → HeadEntry} (hs : a.Follows w s) :
    a.Follows w (s.modHead h f) := hs.setRunSame (by simp)

theorem State.Follows.modWatch {h : Nat} {f : HeadWatch → HeadWatch} (hs : a.Follows w s) :
    a.Follows w (s.modWatch h f) := hs.setMonitor (by simp)

theorem State.Follows.modWork {h : Nat} {f : HeadWork → HeadWork} (hs : a.Follows w s) :
    a.Follows w (s.modWork h f) := hs.setChange (by simp) (.inl rfl)

theorem State.Follows.modLink {h : Nat} {f : HeadLink → HeadLink} (hs : a.Follows w s) :
    a.Follows w (s.modLink h f) := hs.setBus id (by simp)

theorem State.Follows.modLockout {f : Lockout → Lockout} (h : a.Follows w s) : a.Follows w (s.modLockout f) :=
  h.setShaft

theorem State.Follows.tick (h : a.Follows w s) : a.Follows w s.tick := h.setFree

theorem State.Follows.recordCause {c : StopCause} (h : a.Follows w s) : a.Follows w (s.recordCause c) :=
  .ite h.setRunSame h

theorem State.Follows.enter {r : RunState} (h : a.Follows w s) (hr : r ≠ .halted := by nofun) :
    a.Follows w (s.enter r) := h.setRunTo hr

theorem State.Follows.doing {x : Activity} (h : a.Follows w s) : a.Follows w (s.doing x) := h.setRunSame

end Shared

/-! ## Design Store -/

/-- R43: with 32 slots, those that are not FREE and G are at most 32 when G is at most the number of FREE slots. -/
theorem State.slotsRight_iff (s : State) :
    s.slotsRight = true ↔ s.store.slots.length = 32 ∧ s.store.granted ≤ s.store.freeCount := by
  have : s.store.freeCount ≤ s.store.slots.length := List.countP_le_length
  simp only [State.slotsRight, Bool.and_eq_true, beq_iff_eq, decide_eq_true_eq]
  omega

/-- A change of the slots one by one that leaves FREE slots FREE. -/
theorem Store.freeCount_map_le (l : List Slot) (f : Slot → Slot) (hf : ∀ sl, sl.state = .free → (f sl).state = .free) :
    l.countP (fun sl => sl.state == .free) ≤ (l.map f).countP (fun sl => sl.state == .free) := by
  rw [List.countP_map]
  exact List.countP_mono_left fun sl _ h => by simpa using hf sl (by simpa using h)

/-- The state that R27 gives a slot is never FREE. -/
theorem State.slotState_ne_free (s : State) (sl : Slot) : s.slotState sl ≠ .free := by
  unfold State.slotState
  (repeat' split) <;> simp

/-- Filling the first FREE slot takes one from the FREE slots. -/
theorem Store.freeCount_set_findIdx (l : List Slot) (sl : Slot) (hs : sl.state ≠ .free) :
    l.countP (fun x => x.state == .free) ≤
      (l.set (l.findIdx (fun x => x.state == .free)) sl).countP (fun x => x.state == .free) + 1 := by
  induction l with
  | nil => simp
  | cons x xs ih =>
    by_cases hx : x.state = .free
    · simp [List.findIdx_cons, hx, hs]
    · have hb : (x.state == SlotState.free) = false := by simpa using hx
      simpa [List.findIdx_cons, hb, List.countP_cons] using ih

section Store

variable {w : Prop} {a s : State}

theorem State.Follows.refreshSlots (h : a.Follows w s) : a.Follows w s.refreshSlots :=
  h.setStore fun hs => by
    obtain ⟨hl, hg⟩ := (s.slotsRight_iff).mp hs
    refine (State.slotsRight_iff _).mpr ⟨(List.length_map _).trans hl, hg.trans ?_⟩
    exact Store.freeCount_map_le _ _ fun sl hf => by simp [hf]

theorem State.Follows.releaseSlots (h : a.Follows w s) : a.Follows w s.releaseSlots :=
  h.setStore fun hs => by
    obtain ⟨hl, hg⟩ := (s.slotsRight_iff).mp hs
    refine (State.slotsRight_iff _).mpr ⟨(List.length_map _).trans hl, hg.trans ?_⟩
    refine Store.freeCount_map_le _ _ fun sl hf => ?_
    split
    · rfl
    · exact hf

/-- A grant record is no capacity of the Link Interface. -/
theorem State.Follows.setGrant {g : Option Grant} (h : a.Follows w s) :
    a.Follows w (s.setLink { s.link with grant := g }) :=
  ⟨⟨h.pending, h.straps, h.slots, h.link, h.gaps, h.steps, h.queue, h.shapes⟩, h.awake⟩

theorem State.Follows.grantBlocks {n : Nat} (h : a.Follows w s)
    (hn : s.slotsRight = true → s.store.granted + n ≤ s.store.freeCount) : a.Follows w (s.grantBlocks n) :=
  State.Follows.setGrant (s := s.setStore _) <| h.setStore fun hs =>
    (State.slotsRight_iff _).mpr ⟨((s.slotsRight_iff).mp hs).1, hn hs⟩

/-- R41 grants at most FREE - G blocks, so G stays within FREE. -/
theorem State.Follows.pace (h : a.Follows w s) : a.Follows w s.pace :=
  .ite (.ite h (h.grantBlocks fun hs => by
    have := ((s.slotsRight_iff).mp hs).2
    omega)) h

theorem State.Follows.release (h : a.Follows w s) : a.Follows w s.release := .ite h.releaseSlots.pace h

theorem State.Follows.moveMain {i : Nat} (h : a.Follows w s) : a.Follows w (s.moveMain i) :=
  .ite h.setRunSame.refreshSlots.releaseSlots.pace h.setRunSame.refreshSlots

theorem State.Follows.movePatch {i : Nat} (h : a.Follows w s) : a.Follows w (s.movePatch i) :=
  .ite h.setRunSame.refreshSlots.release h.setRunSame.refreshSlots

theorem State.Follows.advanceCursor (h : a.Follows w s) : a.Follows w s.advanceCursor := .ite h.movePatch h.moveMain

/-- An accepted block takes one FREE slot and one of the blocks granted (R36). -/
theorem State.Follows.acceptBlock {seq : Nat} {last : Bool} {rs : List DesignRecord} (h : a.Follows w s) :
    a.Follows w (s.acceptBlock seq last rs) := by
  have taken {x : Store} (sl : Slot) (hsl : sl.state ≠ .free) (hx : x.granted = s.store.granted - 1)
      (hs : x.slots = s.store.slots.set (s.store.slots.findIdx (fun sl => sl.state == .free)) sl) :
      a.Follows w (s.setStore x) :=
    h.setStore fun h0 => by
      obtain ⟨h1, h2⟩ := (s.slotsRight_iff).mp h0
      refine (State.slotsRight_iff _).mpr ⟨by simpa [hs] using h1, ?_⟩
      have := Store.freeCount_set_findIdx s.store.slots sl hsl
      simp only [Store.freeCount, State.setStore_store, hs, hx] at h2 this ⊢
      omega
  unfold State.acceptBlock
  refine .ite (State.Follows.setGrant (State.Follows.setStore ?filled fun h0 => ?_)) ?filled
  · exact State.Follows.setGrant (taken _ (by exact State.slotState_ne_free _ _) rfl rfl)
  · exact (State.slotsRight_iff _).mpr ⟨((State.slotsRight_iff _).mp h0).1, Nat.zero_le _⟩

theorem State.Follows.clearStore {d : DesignState} (h : a.Follows w s) : a.Follows w (s.clearStore d) :=
  State.Follows.setGrant (s := s.setStore _) <| h.setStore fun _ =>
    (State.slotsRight_iff _).mpr ⟨by simp [Config.slotCount], Nat.zero_le _⟩

end Store

/-! ## Governor and heads -/

theorem ThreadChange.write_lengths (c : ThreadChange) (slot h needle : Nat) :
    (c.write slot h needle).heads = c.heads ∧ (c.write slot h needle).map.map List.length = c.map.map List.length := by
  refine ⟨rfl, List.ext_getElem? fun i => ?_⟩
  simp only [ThreadChange.write, List.getElem?_map, List.getElem?_modify]
  cases c.map[i]? <;> simp
  split <;> simp

theorem ThreadChange.apply_lengths (c : ThreadChange) (p : PendingNeedle → Bool) :
    (c.apply p).heads = c.heads ∧ (c.apply p).map.map List.length = c.map.map List.length := by
  have folded : ∀ (l : List PendingNeedle) (d : ThreadChange),
      (l.foldl (fun c e => c.write e.slot e.head e.needle) d).heads = d.heads ∧
        (l.foldl (fun c e => c.write e.slot e.head e.needle) d).map.map List.length = d.map.map List.length := by
    intro l
    induction l with
    | nil => exact fun d => ⟨rfl, rfl⟩
    | cons e l ih =>
      intro d
      obtain ⟨h1, h2⟩ := ih (d.write e.slot e.head e.needle)
      obtain ⟨w1, w2⟩ := d.write_lengths e.slot e.head e.needle
      exact ⟨h1.trans w1, h2.trans w2⟩
  exact folded _ c

section Heads

variable {w : Prop} {a s : State}

theorem State.Follows.refreshWindow (h : a.Follows w s) : a.Follows w s.refreshWindow := h.setGov

theorem State.Follows.openWindowEnd (h : a.Follows w s) : a.Follows w s.openWindowEnd := h.setGov

theorem State.Follows.computeSpeed {i : Nat} (h : a.Follows w s) : a.Follows w (s.computeSpeed i) := h.setGov

theorem State.Follows.govAtRest (h : a.Follows w s) : a.Follows w s.govAtRest := h.setGov

theorem State.Follows.placePoint (h : a.Follows w s) : a.Follows w s.placePoint := by
  unfold State.placePoint
  refine .ite h ?_
  dsimp only
  split
  · split
    · exact h.setRunSame
    · exact h
  · exact .ite h.setRunSame h
  · exact h

theorem State.Follows.setWarnCount {n : Nat} (h : a.Follows w s) : a.Follows w (s.setWarnCount n) :=
  h.setMonitor.setGov

theorem State.Follows.clearTension {h : Nat} (hs : a.Follows w s) : a.Follows w (s.clearTension h) :=
  .ite hs.modWatch.post.setWarnCount hs.modWatch

/-- Pending needles written into the map change no list's length. -/
theorem State.Follows.apply {p : PendingNeedle → Bool} (h : a.Follows w s) :
    a.Follows w (s.setChange (s.change.apply p)) :=
  h.setChange (congrArg List.length (ThreadChange.apply_lengths _ _).1) (.inl (ThreadChange.apply_lengths _ _).2)

theorem State.Follows.writePending {h : Nat} (hs : a.Follows w s) : a.Follows w (s.writePending h) := hs.apply

theorem State.Follows.writePendings (h : a.Follows w s) : a.Follows w s.writePendings :=
  h.foldl fun _ _ ht => ht.writePending

theorem State.Follows.setHeadState {h : Nat} {new : HeadState} (hs : a.Follows w s) :
    a.Follows w (s.setHeadState h new) :=
  .ite (.ite hs.modHead.writePending (.ite hs.modHead.writePending.modWatch.clearTension
    hs.modHead.writePending.modWatch)) hs.modHead

theorem State.Follows.loadTieIn (h : a.Follows w s) : a.Follows w s.loadTieIn := h.setRunSame.setMonitor (by simp)

end Heads

/-! ## Head bus -/

/-- R104, as propositions. -/
theorem State.queueRight_iff (s : State) :
    s.queueRight = true ↔ s.bus.queue.length ≤ 16 ∧ (s.bus.held = [] ∨ s.bus.queue.length = 16) := by
  simp [State.queueRight]

theorem replaceEngage_length (c : BusCommand) (l : List BusCommand) : (replaceEngage c l).length = l.length :=
  List.length_map _

theorem replaceEngage_eq_nil (c : BusCommand) (l : List BusCommand) : replaceEngage c l = [] ↔ l = [] :=
  List.map_eq_nil_iff

/-- Refilled from the held-back list, a queue within 16 is right (R104). -/
theorem Bus.refill_right (b : Bus) (h : b.queue.length ≤ 16) :
    b.refill.queue.length ≤ 16 ∧ (b.refill.held = [] ∨ b.refill.queue.length = 16) := by
  simp only [Bus.refill, Config.queuePlaces, List.length_append, List.length_take, List.drop_eq_nil_iff]
  omega

section HeadBus

variable {w : Prop} {a s : State}

theorem State.Follows.handOver {h : Nat} (hs : a.Follows w s) : a.Follows w (s.handOver h) := .ite hs.modWork hs

theorem State.Follows.notDelivered {c : BusCommand} (h : a.Follows w s) : a.Follows w (s.notDelivered c) :=
  .ite h.handOver.modHead h.handOver

/-- A command goes to the place of an older LOWER or LIFT, behind the queue while it has a free place, or behind the
held-back list (R104). -/
theorem State.Follows.enqueue {c : BusCommand} {p : Bool} (h : a.Follows w s) :
    a.Follows w (if p = true then
        s.setBus { s.bus with queue := replaceEngage c s.bus.queue, held := replaceEngage c s.bus.held }
      else if (s.bus.queue.length < Config.queuePlaces && s.bus.held.isEmpty) = true then
        s.setBus { s.bus with queue := s.bus.queue ++ [c] }
      else s.setBus { s.bus with held := s.bus.held ++ [c] }) := by
  split
  · refine h.setBus fun hq => ?_
    simpa [State.queueRight_iff, replaceEngage_length, replaceEngage_eq_nil] using hq
  · split
    · rename_i hroom
      refine h.setBus fun _ => ?_
      simp only [Bool.and_eq_true, decide_eq_true_eq, List.isEmpty_iff] at hroom
      obtain ⟨hlt, hheld⟩ := hroom
      exact (State.queueRight_iff _).mpr ⟨by simpa [Config.queuePlaces] using hlt, .inl hheld⟩
    · rename_i hfull
      refine h.setBus fun hq => ?_
      obtain ⟨hle, hor⟩ := (s.queueRight_iff).mp hq
      simp only [Bool.and_eq_true, decide_eq_true_eq, List.isEmpty_iff, not_and] at hfull
      have : ¬ s.bus.queue.length < 16 := fun hlt => hor.elim (hfull hlt) hlt.ne
      exact (State.queueRight_iff _).mpr ⟨hle, .inr (le_antisymm hle (not_lt.mp this))⟩

theorem State.Follows.issue {c : BusCommand} (h : a.Follows w s) : a.Follows w (s.issue c) := by
  unfold State.issue
  split
  · exact h.notDelivered
  · cases c.work.order? with
    | none => exact h.enqueue
    | some o => exact h.modHead.enqueue

theorem State.Follows.issueLift {h : Nat} {becomes : HeadState} {forStart : Bool} (hs : a.Follows w s) :
    a.Follows w (s.issueLift h becomes forStart) := hs.issue

theorem State.Follows.issueLower {h : Nat} {becomes : HeadState} {join forStart : Bool} (hs : a.Follows w s) :
    a.Follows w (s.issueLower h becomes join forStart) := hs.issue

/-- Transactions and rounds are no part of what is kept of the head bus. -/
theorem State.Follows.setBusSame {b : Bus} (h : a.Follows w s) (hl : b.heads.length = s.bus.heads.length := by rfl)
    (hq : b.queue = s.bus.queue := by rfl) (hh : b.held = s.bus.held := by rfl) : a.Follows w (s.setBus b) :=
  h.setBus (fun hs => by simpa [State.queueRight_iff, hq, hh] using hs) hl

theorem State.Follows.beginTransaction {kind : TransactionKind} {h : Nat} (hs : a.Follows w s) :
    a.Follows w (s.beginTransaction kind h) := hs.modLink.setBusSame

/-- A command that leaves the queue makes room for one held back (R104). -/
theorem State.Follows.pump (h : a.Follows w s) : a.Follows w s.pump := by
  unfold State.pump
  split
  · exact h
  split
  · rename_i c rest hq
    refine (h.setBus fun hs => ?_).beginTransaction
    have hle := ((s.queueRight_iff).mp hs).1
    rw [hq, List.length_cons] at hle
    exact (State.queueRight_iff _).mpr (Bus.refill_right _ (Nat.le_of_succ_le hle))
  split
  · exact h.modLink.beginTransaction
  split
  · exact h
  split
  · exact h.setBusSame
  · exact h.setBusSame.beginTransaction

theorem State.Follows.roundDue (h : a.Follows w s) : a.Follows w s.roundDue := by
  unfold State.roundDue
  split
  · exact h
  · exact h.setBusSame

theorem State.Follows.endTransaction (h : a.Follows w s) : a.Follows w s.endTransaction := h.setBusSame

theorem State.Follows.clearLoss {h : Nat} (hs : a.Follows w s) : a.Follows w (s.clearLoss h) := hs.modLink

theorem State.Follows.passOver {h : Nat} (hs : a.Follows w s) : a.Follows w (s.setBus (s.bus.passOver h)) :=
  hs.setBusSame

theorem State.Follows.purge {h : Nat} (hs : a.Follows w s) : a.Follows w (s.purge h) := by
  refine State.Follows.foldl (hs.setBus fun hq => ?_) fun _ _ ht => ht.notDelivered
  exact (State.queueRight_iff _).mpr (Bus.refill_right _
    ((List.length_filter_le ..).trans ((s.queueRight_iff).mp hq).1))

end HeadBus

/-! ## Gap Table -/

theorem insertGap_perm (g : Gap) (l : List Gap) : (insertGap g l).Perm (g :: l) := by
  induction l with
  | nil => exact List.Perm.refl _
  | cons x xs ih =>
    unfold insertGap
    split
    · exact (ih.cons x).trans (List.Perm.swap g x xs)
    · exact List.Perm.refl _

/-- A test of single gaps that a change of the gaps one by one cannot make true. -/
theorem countP_map_le_of_imp (l : List Gap) (f : Gap → Gap) (p : Gap → Bool) (h : ∀ g, p (f g) = true → p g = true) :
    (l.map f).countP p ≤ l.countP p := by
  rw [List.countP_map]
  exact List.countP_mono_left fun g _ hp => h g hp

/-- Gaps may leave the table. -/
theorem State.gapsRight_filter {s : State} (p : Gap → Bool) (h : s.gapsRight) :
    (s.setGaps (s.gaps.filter p)).gapsRight :=
  ⟨(List.length_filter_le ..).trans h.1, fun i =>
    ⟨(List.filter_sublist.countP_le).trans (h.2 i).1, (List.filter_sublist.countP_le).trans (h.2 i).2⟩⟩

/-- Gaps may change one by one, keeping their head and becoming OPEN by no change. -/
theorem State.gapsRight_map {s : State} (f : Gap → Gap) (hh : ∀ g, (f g).head = g.head)
    (ho : ∀ g, (f g).state = .opened → g.state = .opened) (h : s.gapsRight) : (s.setGaps (s.gaps.map f)).gapsRight := by
  refine ⟨(List.length_map ..).trans_le h.1, fun i => ⟨?_, ?_⟩⟩
  · exact (countP_map_le_of_imp _ _ _ fun g hg => by simpa [hh] using hg).trans (h.2 i).1
  · refine (countP_map_le_of_imp _ _ _ fun g hg => ?_).trans (h.2 i).2
    simp only [hh, Bool.and_eq_true, beq_iff_eq] at hg ⊢
    exact ⟨hg.1, ho g hg.2⟩

theorem State.truncated_keeps (s : State) (g : Gap) (i : Nat) :
    (s.truncated g i).head = g.head ∧ (s.truncated g i).state = g.state ∧ (s.truncated g i).stop = g.stop := by
  simp only [State.truncated]
  split <;> simp

section Gaps

variable {w : Prop} {a s : State}

theorem State.Follows.filterGaps {p : Gap → Bool} (h : a.Follows w s) :
    a.Follows w (s.setGaps (s.gaps.filter p)) := h.setGaps (State.gapsRight_filter p)

theorem State.Follows.mapGaps {f : Gap → Gap} (h : a.Follows w s) (hh : ∀ g, (f g).head = g.head)
    (ho : ∀ g, (f g).state = .opened → g.state = .opened) : a.Follows w (s.setGaps (s.gaps.map f)) :=
  h.setGaps (State.gapsRight_map f hh ho)

/-- A gap is opened for a head without an OPEN one, and with room for one more (R147). -/
theorem State.Follows.openGapFor {h : Nat} (hs : a.Follows w s) (ho : s.openGap h = none) (hr : s.gapRoom h = true) :
    a.Follows w (s.openGapFor h) := by
  refine State.Follows.postAt (hs.setGaps fun hg => ?_)
  simp only [State.gapRoom, Bool.and_eq_true, decide_eq_true_eq] at hr
  obtain ⟨head_room, table_room⟩ := hr
  have none_open : s.gaps.countP (fun g => g.head == h && g.state == .opened) = 0 :=
    List.countP_eq_zero.mpr fun g hg' => by simpa using List.find?_eq_none.mp ho g hg'
  have perm := insertGap_perm ⟨h, s.gapStart h, none, (s.stampAt (s.gapStart h)).pos,
    (s.stampAt (s.gapStart h)).colour, .opened⟩ s.gaps
  refine ⟨perm.length_eq.trans_le table_room, fun i => ⟨?_, ?_⟩⟩
  · simp only [State.setGaps_gaps, perm.countP_eq, List.countP_cons]
    by_cases hi : h = i
    · subst hi
      simpa [Config.gapsPerHead] using head_room
    · simpa [hi] using (hg.2 i).1
  · simp only [State.setGaps_gaps, perm.countP_eq, List.countP_cons]
    by_cases hi : h = i
    · subst hi
      simp [none_open]
    · simpa [hi] using (hg.2 i).2

theorem State.Follows.closeGap {h : Nat} (hs : a.Follows w s) : a.Follows w (s.closeGap h) := by
  unfold State.closeGap
  split
  · exact hs
  · refine State.Follows.release (State.Follows.postAt ?_)
    dsimp only
    split
    · refine hs.mapGaps (fun g => ?_) (fun g => ?_)
      · split <;> rfl
      · split <;> simp
    · exact hs.filterGaps

theorem State.Follows.closeAllGaps (h : a.Follows w s) : a.Follows w s.closeAllGaps := h.foldl fun _ _ ht => ht.closeGap

theorem State.Follows.removeGaps {p : Gap → Bool} (h : a.Follows w s) : a.Follows w (s.removeGaps p) :=
  .ite h.filterGaps.release h

theorem State.Follows.deselect {p : Gap → Bool} {i : Nat} (h : a.Follows w s) : a.Follows w (s.deselect p i) := by
  refine .ite (State.Follows.release (State.Follows.setGaps h fun hg => ?_)) h
  refine State.gapsRight_filter (s := s.setGaps _) _ (State.gapsRight_map _ (fun g => ?_) (fun g => ?_) hg)
  · split
    · exact (s.truncated_keeps g i).1
    · rfl
  · split <;> simp

end Gaps

end Sys2Proof.Machine

/-!
What the operations of frame, shaft, run, reset and supervision keep.
-/

namespace Sys2Proof.Machine

set_option Elab.async false

/-! ## Step arithmetic (R67) -/

section Axis

variable {x : Axis} {k : Nat}

/-- A change of an axis that leaves position, steps, residue, move, reference and off-path flag as they were. -/
theorem Axis.stepsRight_of_same {y : Axis} (h : x.stepsRight k) (hp : y.pos = x.pos) (hs : y.steps = x.steps)
    (hr : y.residue = x.residue) (hm : y.move = x.move) (hf : y.referenced = x.referenced)
    (ho : y.offPath = x.offPath) : y.stepsRight k := by
  unfold Axis.stepsRight
  rw [hp, hs, hr, hm, hf, ho]
  exact h

/-- A move that ends without a step counted leaves the axis right. -/
theorem Axis.stepsRight_without_move {y : Axis} (h : x.stepsRight k) (hp : y.pos = x.pos) (hs : y.steps = x.steps)
    (hr : y.residue = x.residue) (hm : y.move = none) (hf : y.referenced = x.referenced)
    (ho : y.offPath = x.offPath) : y.stepsRight k := by
  unfold Axis.stepsRight
  rw [hp, hs, hr, hm, hf, ho]
  exact ⟨h.1, fun m hm => nomatch hm⟩

/-- An axis is right with a homing in place of its move: a homing counts no steps of its own. -/
theorem Axis.stepsRight_homing {y : Axis} {m : AxisMove} (h : x.stepsRight k) (hp : y.pos = x.pos)
    (hs : y.steps = x.steps) (hr : y.residue = x.residue) (hm : y.move = some m) (hk : m.kind = .homing)
    (hf : y.referenced = x.referenced) (ho : y.offPath = x.offPath) : y.stepsRight k := by
  unfold Axis.stepsRight
  rw [hp, hs, hr, hm, hf, ho]
  refine ⟨h.1, fun m' hm' => ?_⟩
  obtain rfl : m = m' := by simpa using hm'
  simp [hk]

theorem Axis.begin_stepsRight (kind : MoveKind) (d : Int) (hk : kind ≠ .reseat) (h : x.stepsRight k) :
    (x.begin k kind d).stepsRight k := by
  unfold Axis.begin
  split
  · exact h
  · refine ⟨h.1, fun m hm => ?_⟩
    obtain rfl : _ = m := by simpa using hm
    exact ⟨fun _ => rfl, fun hr => absurd hr hk⟩

/-- The residue carry of R67: a whole move keeps step count and residue those of the position. -/
theorem steps_carry (k : Nat) (pos d : Int) :
    stepsAt k pos + moveSteps k (residueAt k pos) d = stepsAt k (pos + d) ∧
      moveResidue k (residueAt k pos) d = residueAt k (pos + d) := by
  have hr : ((pos * k % 256).toNat : Int) = pos * k % 256 := Int.toNat_of_nonneg (Int.emod_nonneg _ (by decide))
  have hd : (pos + d) * k = pos * k + d * k := Int.add_mul ..
  simp only [stepsAt, moveSteps, residueAt, moveResidue, hr, hd]
  generalize pos * (k : Int) = p
  generalize d * (k : Int) = q
  refine ⟨by omega, congrArg Int.toNat ?_⟩
  omega

theorem Axis.complete_stepsRight (kind : MoveKind) (hk : kind = .stitch ∨ kind = .segment) (h : x.stepsRight k) :
    (x.complete k kind).stepsRight k := by
  unfold Axis.complete
  split
  · rename_i m hm
    split
    · rename_i hkind
      refine ⟨fun hf => ?_, fun _ hm' => nomatch hm'⟩
      obtain ⟨hres, hsteps⟩ := h.1 hf
      have hmove : m.steps = moveSteps k x.residue m.delta := (h.2 m hm).1 (hkind ▸ hk)
      obtain ⟨c1, c2⟩ := steps_carry k x.pos m.delta
      dsimp only
      rw [hres]
      refine ⟨c2, fun ho => ?_⟩
      rw [hsteps ho, hmove, hres, c1]
    · exact h
  · exact h

theorem Axis.halt_stepsRight (n i : Nat) (h : x.stepsRight k) : (x.halt n i).stepsRight k := by
  unfold Axis.halt
  split
  · exact h
  · rename_i m hm
    have residue_kept {y : Axis} (hp : y.pos = x.pos) (hr : y.residue = x.residue) (hf : y.referenced = x.referenced)
        (hm : y.move = none) (ho : x.referenced = true → y.offPath ≠ none) : y.stepsRight k := by
      refine ⟨fun hy => ?_, fun _ hm' => nomatch hm.symm.trans hm'⟩
      have hx : x.referenced = true := hf ▸ hy
      exact ⟨hp ▸ hr ▸ (h.1 hx).1, fun hn => absurd hn (ho hx)⟩
    split
    case h_1 => exact Axis.stepsRight_without_move h rfl rfl rfl rfl rfl rfl
    case h_2 hk => exact residue_kept rfl rfl rfl rfl fun hf => Option.isSome_iff_ne_none.mp (((h.2 m hm).2 hk).2 hf)
    case h_3 => exact residue_kept rfl rfl rfl rfl fun _ => by simp
    case h_4 => exact residue_kept rfl rfl rfl rfl fun _ => by simp

/-- R82: a re-seat makes the steps back to those of the position, on an axis with no other move in flight. -/
theorem Axis.beginReseat_stepsRight (hm : x.move = none) (h : x.stepsRight k) : (x.beginReseat k).stepsRight k := by
  unfold Axis.beginReseat
  split
  · exact h
  · rename_i ho
    dsimp only
    split
    · rename_i hst
      refine ⟨fun hf => ⟨(h.1 hf).1, fun _ => ?_⟩, fun m hm' => nomatch hm.symm.trans hm'⟩
      show x.steps = stepsAt k x.pos
      omega
    · refine ⟨fun hf => ⟨(h.1 hf).1, fun hn => absurd hn (by simpa using ho)⟩, fun m hm' => ?_⟩
      obtain rfl : _ = m := by simpa using hm'
      refine ⟨by simp, fun _ => ⟨?_, fun _ => by simpa [Option.isSome_iff_ne_none] using ho⟩⟩
      show x.steps + (stepsAt k x.pos - x.steps) = stepsAt k x.pos
      omega

theorem Axis.completeReseat_stepsRight (h : x.stepsRight k) : x.completeReseat.stepsRight k := by
  unfold Axis.completeReseat
  split
  · rename_i m hm
    split
    · rename_i hk
      exact ⟨fun hf => ⟨(h.1 hf).1, fun _ => ((h.2 m hm).2 hk).1⟩, fun _ hm' => nomatch hm'⟩
    · exact h
  · exact h

end Axis

/-! ## Frame -/

section Frame

variable {w : Prop} {a s : State}

/-- The frame without its axes and zones is no part of what is kept. -/
theorem State.Follows.setFrameSame {f : FrameDrive} (h : a.Follows w s) (hx : f.x = s.frame.x := by rfl)
    (hy : f.y = s.frame.y := by rfl) (hz : f.zones.length = s.frame.zones.length := by rfl) :
    a.Follows w (s.setFrame f) := h.setFrame (hx ▸ id) (hy ▸ id) hz

theorem State.Follows.modAxis {n : AxisName} {g : Axis → Axis} (h : a.Follows w s)
    (hg : ∀ k x, x.stepsRight k → (g x).stepsRight k) : a.Follows w (s.modAxis n g) := by
  cases n
  · exact h.setFrame (hg _ _) id
  · exact h.setFrame id (hg _ _)

theorem State.Follows.beginMove {i : Nat} {dx dy : Int} {jump : Bool} (h : a.Follows w s) :
    a.Follows w (s.beginMove i dx dy jump) :=
  h.setFrame (Axis.begin_stepsRight _ _ (by decide)) (Axis.begin_stepsRight _ _ (by decide))

theorem State.Follows.completeMove (h : a.Follows w s) : a.Follows w s.completeMove :=
  h.setFrame (Axis.complete_stepsRight _ (.inl rfl)) (Axis.complete_stepsRight _ (.inl rfl))

theorem State.Follows.beginTravel {legs : List Point} (h : a.Follows w s) : a.Follows w (s.beginTravel legs) :=
  h.setFrameSame.modLockout

theorem State.Follows.beginLeg {t : Travel} {target : Point} {rest : List Point} (h : a.Follows w s) :
    a.Follows w (s.beginLeg t target rest) := h.setFrameSame

theorem State.Follows.beginSegment {t : Travel} (h : a.Follows w s) : a.Follows w (s.beginSegment t) :=
  h.setFrame (Axis.begin_stepsRight _ _ (by decide)) (Axis.begin_stepsRight _ _ (by decide))

theorem State.Follows.completeSegment {t : Travel} (h : a.Follows w s) : a.Follows w (s.completeSegment t) :=
  h.setFrame (Axis.complete_stepsRight _ (.inr rfl)) (Axis.complete_stepsRight _ (.inr rfl))

theorem State.Follows.beginReseats (h : a.Follows w s) (hx : s.frame.x.move = none) (hy : s.frame.y.move = none) :
    a.Follows w s.beginReseats :=
  h.setFrame (Axis.beginReseat_stepsRight hx) (Axis.beginReseat_stepsRight hy)

theorem State.Follows.askTravelStop (h : a.Follows w s) : a.Follows w s.askTravelStop := h.setFrameSame

theorem State.Follows.beginHoming {n : AxisName} (h : a.Follows w s) : a.Follows w (s.beginHoming n) :=
  State.Follows.setFrameSame (h.modAxis fun _ _ hx =>
    Axis.stepsRight_homing (m := ⟨MoveKind.homing, 0, 0, 0⟩) hx rfl rfl rfl rfl rfl rfl rfl)

theorem State.Follows.endHoming (h : a.Follows w s) : a.Follows w s.endHoming := by
  unfold State.endHoming
  refine State.Follows.modLockout (h.setFrame (fun hx => ?_) (fun hx => ?_))
  all_goals
    dsimp only
    split
    · split
      · exact Axis.stepsRight_without_move hx rfl rfl rfl rfl rfl rfl
      · exact hx
    · exact hx

/-- R81: at the sensor the axis takes the home coordinate, with the step count and residue of it. -/
theorem State.Follows.axisHomed {n : AxisName} (h : a.Follows w s) : a.Follows w (s.axisHomed n) := by
  have homed (k : Nat) (x : Axis) (p : Int) : ({ x with
      pos := p, steps := stepsAt k p, residue := residueAt k p, move := none, referenced := true } : Axis).stepsRight k :=
    ⟨fun _ => ⟨rfl, fun _ => rfl⟩, fun _ hm => nomatch hm⟩
  cases n
  · refine State.Follows.beginHoming (State.Follows.post (h.setFrame (fun _ => ?_) id))
    exact homed _ s.frame.x _
  · refine State.Follows.endHoming (State.Follows.post (h.setFrame id fun _ => ?_))
    exact homed _ s.frame.y _

theorem State.Follows.haltFrame {nx ny : Nat} (h : a.Follows w s) : a.Follows w (s.setFrame (s.frame.halt nx ny)) :=
  h.setFrame (Axis.halt_stepsRight _ _) (Axis.halt_stepsRight _ _)

theorem State.Follows.frameHalted (h : a.Follows w s) : a.Follows w s.frameHalted := .ite h.haltFrame.tick.tick h.haltFrame

end Frame

/-! ## Shaft -/

section Shaft

variable {w : Prop} {a s : State}

theorem State.Follows.shaftTo {t : ShaftState} (h : a.Follows w s) : a.Follows w (s.shaftTo t) :=
  .ite h.setShaft.setBusSame (.ite h.setShaft.setBusSame h.setShaft)

theorem State.Follows.driveAtCrawl {t : ShaftState} (h : a.Follows w s) : a.Follows w (s.driveAtCrawl t) :=
  h.setShaft.shaftTo

theorem State.Follows.startShaft (h : a.Follows w s) : a.Follows w s.startShaft :=
  h.refreshWindow.modLockout.driveAtCrawl.setGov

theorem State.Follows.restartHold (h : a.Follows w s) : a.Follows w s.restartHold :=
  h.refreshWindow.setShaft.modLockout.driveAtCrawl

theorem State.Follows.orderStop {hold : Bool} (h : a.Follows w s) : a.Follows w (s.orderStop hold) :=
  .ite h.setShaft.shaftTo h

theorem State.Follows.brakeAtTop (h : a.Follows w s) : a.Follows w s.brakeAtTop := h.setShaft.modLockout

theorem State.Follows.brakeAtOnce (h : a.Follows w s) : a.Follows w s.brakeAtOnce := h.setShaft.shaftTo

theorem State.Follows.beginReferencing {byHost : Bool} (h : a.Follows w s) : a.Follows w (s.beginReferencing byHost) :=
  h.setShaft.modLockout.driveAtCrawl

theorem State.Follows.stopReferencing (h : a.Follows w s) : a.Follows w s.stopReferencing := h.brakeAtOnce.modLockout

theorem State.Follows.cutReferencing (h : a.Follows w s) : a.Follows w s.cutReferencing := .ite h.stopReferencing h

theorem State.Follows.applyZones (h : a.Follows w s) : a.Follows w s.applyZones :=
  h.setFrameSame rfl rfl (List.length_map _)

end Shaft

/-! ## Run Controller -/

section RunControl

variable {w : Prop} {a s : State}

theorem State.Follows.bringBack {h : Nat} (hs : a.Follows w s) : a.Follows w (s.bringBack h) :=
  hs.modWatch.setHeadState.closeGap

theorem State.Follows.resolveJoins (h : a.Follows w s) : a.Follows w s.resolveJoins :=
  h.foldl fun _ _ ht => .ite ht.bringBack ht

theorem State.Follows.liftHead {h : Nat} (hs : a.Follows w s) : a.Follows w (s.liftHead h) :=
  .ite (.ite hs hs.issueLift) (.ite hs.setHeadState hs)

theorem State.Follows.liftAll (h : a.Follows w s) : a.Follows w s.liftAll := h.foldl fun _ _ ht => ht.liftHead

theorem State.Follows.idleHead {h : Nat} (hs : a.Follows w s) : a.Follows w (s.idleHead h) :=
  .ite hs.setHeadState.issueLift (.ite hs.setHeadState hs)

theorem State.Follows.idleAll (h : a.Follows w s) : a.Follows w s.idleAll := h.foldl fun _ _ ht => ht.idleHead

theorem State.Follows.endRun (h : a.Follows w s) : a.Follows w (s.setRun s.run.ended) :=
  h.setRun rfl fun ⟨h1, h2, _, h4⟩ => ⟨h1, h2, by simp [Run.ended], h4⟩

/-- A recorded state that is not HALTED, or the one taken without a record, is not HALTED. -/
theorem getD_ne_halted {r : Option RunState} {d : RunState} (h : r ≠ some .halted) (hd : d ≠ .halted) :
    r.getD d ≠ .halted := by
  cases r with
  | none => exact hd
  | some x => exact fun e => h (congrArg some e)

/-- The run returns to the recorded state of the pass, which is not HALTED. -/
theorem State.Follows.endPatch (h : a.Follows w s) : a.Follows w s.endPatch := by
  refine State.Follows.liftAll (State.Follows.resolveJoins (State.Follows.writePendings (State.Follows.release
    (State.Follows.refreshSlots (State.Follows.setRun h.post ?_ ?_)))))
  · exact rfl
  · exact fun ⟨_, h2, _, h4⟩ => ⟨getD_ne_halted h4 (by decide), h2, nofun, nofun⟩

theorem State.Follows.endPatchIfOver (h : a.Follows w s) : a.Follows w s.endPatchIfOver := .ite h.endPatch h

theorem State.Follows.endPatchIfEmpty (h : a.Follows w s) : a.Follows w s.endPatchIfEmpty := by
  unfold State.endPatchIfEmpty
  split
  · split
    case h_1 => exact h.endPatch
    case h_2 =>
      split
      · exact h.endPatch
      · exact h.endPatch
      · exact State.Follows.endPatch (.ite h.cutReferencing h)
      · exact h
    case h_3 => exact .ite h.askTravelStop h
    all_goals exact h
  · exact h

theorem State.Follows.toPaused (h : a.Follows w s) : a.Follows w s.toPaused :=
  h.endRun.enter.resolveJoins.post.endPatchIfOver

theorem State.Follows.pauseFor {c : StopCause} (h : a.Follows w s) : a.Follows w (s.pauseFor c) := h.recordCause.toPaused

theorem State.Follows.toFinished (h : a.Follows w s) : a.Follows w s.toFinished :=
  h.endRun.enter.closeAllGaps.resolveJoins.liftAll.post

theorem State.Follows.toWaiting {c : StopCause} (h : a.Follows w s) : a.Follows w (s.toWaiting c) :=
  h.recordCause.enter.post

theorem State.Follows.endStart (h : a.Follows w s) : a.Follows w s.endStart := by
  unfold State.endStart
  split
  · exact h.endRun.enter.resolveJoins.liftAll.post
  · exact h.toPaused

theorem State.Follows.unlessOver {next : State} (h : a.Follows w s) (hn : a.Follows w next) :
    a.Follows w (s.unlessOver next) := .ite h.endStart (.ite h.endPatch hn)

theorem State.Follows.stopOrder {c : StopCause} (h : a.Follows w s) : a.Follows w (s.stopOrder c) := by
  unfold State.stopOrder
  split
  case h_1 => exact h.recordCause.enter
  case h_3 => exact h.recordCause
  case h_4 => exact h.setRunSame.toPaused
  case h_5 =>
    split
    · exact h.recordCause.endStart
    · exact h.recordCause.cutReferencing.endStart
    · exact h.recordCause.cutReferencing.endStart
    · exact h.recordCause
  case h_6 => exact .ite h.recordCause.askTravelStop h
  all_goals exact h

theorem State.Follows.joinEffect {h : Nat} (hs : a.Follows w s) : a.Follows w (s.joinEffect h) :=
  .ite hs.modWatch.closeGap hs.modWatch

theorem State.Follows.engagedBy {h : Nat} {o : EngageOrder} (hs : a.Follows w s) : a.Follows w (s.engagedBy h o) := by
  unfold State.engagedBy
  split
  · exact .ite (.ite hs.setHeadState.joinEffect hs.setHeadState) hs
  · exact .ite hs.setHeadState hs

theorem State.Follows.takeOrder {h : Nat} {o : EngageOrder} (hs : a.Follows w s) : a.Follows w (s.takeOrder h o) :=
  hs.modHead.engagedBy

theorem State.Follows.applyAcked (h : a.Follows w s) : a.Follows w s.applyAcked :=
  h.foldl fun t i ht => by
    split
    · exact ht.takeOrder
    · exact ht

theorem State.Follows.joined {h : Nat} (hs : a.Follows w s) : a.Follows w (s.setBus (s.bus.joined h)) :=
  hs.setBus fun hq => by
    simpa [State.queueRight_iff, Bus.joined] using (s.queueRight_iff).mp hq

theorem State.Follows.joinAtRest {h : Nat} (hs : a.Follows w s) : a.Follows w (s.joinAtRest h) := by
  unfold State.joinAtRest
  split
  · exact .ite hs.takeOrder hs
  · split
    · exact hs.joined.engagedBy
    · exact hs

theorem State.Follows.joinsAtRest (h : a.Follows w s) : a.Follows w s.joinsAtRest := h.foldl fun _ _ ht => ht.joinAtRest

theorem State.Follows.beginStart {value : Nat} {step keepTieIn : Bool} (h : a.Follows w s) :
    a.Follows w (s.beginStart value step keepTieIn) := by
  have started {t : State} (ht : a.Follows w t) {r : Run} (hr : r = { t.run with
      state := .arming, cause := none, startReturn := some t.run.state, warning := true, activity := .hold
      startValue := value, stepping := step, stepDone := false, keepTieIn := keepTieIn
      patchDone := if t.run.pass = .patch then t.run.patchCursor else none }) : a.Follows w (t.setRun r) :=
    hr ▸ ht.setRunTo
  exact started (.ite h.setFrameSame h) rfl

end RunControl

/-! ## Reset -/

section Reset

variable {w : Prop} {a s : State}

theorem State.Follows.shaftImmediate (h : a.Follows w s) : a.Follows w s.shaftImmediate := h.brakeAtOnce.modLockout

theorem State.Follows.shaftControlled (h : a.Follows w s) : a.Follows w s.shaftControlled := h.setShaft.modLockout

/-- A run that is not HALTED is not HALTED after a RESET either, and records nothing. -/
theorem Run.atReset_awake {r : Run} (h : r.Awake) : r.atReset.Awake := by
  refine ⟨?_, ?_, nofun, nofun⟩
  · show resetRunState r.state ≠ .halted
    have := h.state
    cases hr : r.state <;> simp_all [resetRunState]
  · show resetHaltReturn r.state r.haltReturn ≠ some .halted
    simp [resetHaltReturn, h.state]

theorem Link.atReset_right (l : Link) (mode : Nat) (src : Sender) :
    (l.atReset mode src).replies.length ≤ 4 ∧ (l.atReset mode src).events.length ≤ 32 := by
  cases src <;> simp [Link.atReset]

theorem State.Follows.resetLink {mode : Nat} {src : Sender} (h : a.Follows w s) :
    a.Follows w (s.setLink (s.link.atReset mode src)) := by
  refine h.setLink ⟨rfl, rfl⟩ rfl fun hl => ?_
  obtain ⟨_, _, h3, h4, h5, _, _, _, h9⟩ := (s.linkRight_iff).mp hl
  obtain ⟨r1, r2⟩ := s.link.atReset_right mode src
  exact (State.linkRight_iff _).mpr ⟨r1, r2, h3, h4, h5, le_refl 1, (by decide : 1 ≤ 16), Nat.zero_le _, h9⟩

theorem State.Follows.resetEffect {mode : Nat} {src : Sender} (h : a.Follows w s) :
    a.Follows w (s.resetEffect mode src) := by
  have shaft : a.Follows w (if mode = 1 then s.shaftImmediate.frameHalted else s.shaftControlled) :=
    .ite h.shaftImmediate.frameHalted h.shaftControlled
  have run {t : State} (ht : a.Follows w t) :
      a.Follows w (t.setRun { t.run.atReset with heads := t.run.heads.map HeadEntry.atReset }) :=
    ht.setRun (by simp) fun hr => ⟨(Run.atReset_awake hr).state, (Run.atReset_awake hr).haltReturn, nofun, nofun⟩
  have bus {t : State} (ht : a.Follows w t) : a.Follows w (t.setBus t.bus.atReset) :=
    ht.setBus (fun _ => rfl) (by simp [Bus.atReset])
  have change {t : State} (ht : a.Follows w t) : a.Follows w (t.setChange t.change.atReset) :=
    ht.setChange (by simp [ThreadChange.atReset]) (.inr rfl)
  have monitor {t : State} (ht : a.Follows w t) : a.Follows w (t.setMonitor (t.monitor.atReset t.cfg.thread.breakB)) :=
    ht.setMonitor (by simp [Monitor.atReset])
  have gaps {t : State} (ht : a.Follows w t) : a.Follows w (t.setGaps []) :=
    ht.setGaps fun _ => ⟨Nat.zero_le _, fun _ => ⟨Nat.zero_le _, Nat.zero_le _⟩⟩
  have frame {t : State} (ht : a.Follows w t) : a.Follows w (t.setFrame { t.frame with origin := none, travel := none }) :=
    ht.setFrameSame
  have gov {t : State} (ht : a.Follows w t) :
      a.Follows w (t.setGov { t.gov with last := none, bound := none, derate := false, window := [] }) := ht.setGov
  have store := (run (frame shaft.endHoming)).clearStore (d := .absent)
  exact (monitor (change (bus (gaps (gov store))))).resetLink.foldl fun _ _ ht => ht.issueLift

theorem State.Follows.pendingReset (h : a.Follows w s) : a.Follows w s.pendingReset := by
  unfold State.pendingReset
  split
  · exact h.resetEffect
  · exact h

theorem State.Follows.resetIfDue (h : a.Follows w s) : a.Follows w s.resetIfDue := .ite h h.pendingReset

theorem State.Follows.stallReport {host : Bool} (h : a.Follows w s) : a.Follows w (s.stallReport host) := by
  unfold State.stallReport
  split
  case h_1 => exact h.pauseFor
  case h_2 => exact h.pauseFor
  case h_3 => exact .ite h.pauseFor h
  case h_4 => exact .ite h.postAt h
  case h_5 => exact .ite h.postAt h
  case h_6 => exact .ite h.postAt h
  all_goals exact h

theorem State.Follows.clearCarry (h : a.Follows w s) : a.Follows w (s.setRun { s.run with carry := false }) :=
  h.setRunSame

theorem State.Follows.stall (h : a.Follows w s) : a.Follows w s.stall :=
  h.brakeAtOnce.modLockout.govAtRest.applyAcked.clearCarry.stallReport.resetIfDue

end Reset

/-! ## Thread Monitor -/

section Monitor

variable {w : Prop} {a s : State}

theorem State.Follows.setFault {h : Nat} {f : Option PendingFault} (hs : a.Follows w s) :
    a.Follows w (s.setFault h f) := hs.modWatch

theorem State.Follows.setHandling {h : Nat} {g : Handling} (hs : a.Follows w s) :
    a.Follows w (s.setHandling h g) := hs.modWatch

theorem State.Follows.hold {h : Nat} {kind : FaultKind} {c : StopCause} (hs : a.Follows w s) :
    a.Follows w (s.hold h kind c) := State.Follows.stopOrder (.ite hs.setHandling.setHeadState hs.setHandling)

theorem State.Follows.drop {h : Nat} {kind : FaultKind} (hs : a.Follows w s) : a.Follows w (s.drop h kind) :=
  .ite hs.setHandling.setHeadState (.ite hs.setHandling.issueLift hs.setHandling.setHeadState)

/-- A gap is opened only behind the checks of R139: the head has no OPEN one, and the table has room. -/
theorem State.Follows.dropOut {h : Nat} {kind : FaultKind} (hs : a.Follows w s) : a.Follows w (s.dropOut h kind) := by
  unfold State.dropOut
  refine .ite hs.drop (.ite hs.hold ?_)
  split
  · exact hs.drop
  · rename_i none_open
    refine .ite hs.hold ?_
    split
    · exact hs.hold
    · rename_i room
      exact (hs.openGapFor (by simpa using none_open) (by simpa using room)).drop

theorem State.Follows.patchFault {h : Nat} (hs : a.Follows w s) : a.Follows w (s.patchFault h) :=
  .ite (.ite hs.deselect.placePoint hs.deselect) hs

theorem State.Follows.handleFault {h : Nat} {kind : FaultKind} (hs : a.Follows w s) :
    a.Follows w (s.handleFault h kind) := by
  refine .ite hs (.ite (.ite hs.post.patchFault.setHeadState hs.post.patchFault) ?_)
  dsimp only
  split
  · exact hs.post.modWatch.handOver.patchFault.hold
  · exact hs.post.modWatch.handOver.patchFault.dropOut

theorem State.Follows.raiseFault {h : Nat} {kind : FaultKind} (hs : a.Follows w s) :
    a.Follows w (s.raiseFault h kind) := hs.handleFault.endPatchIfEmpty

theorem State.Follows.joinTurning {h : Nat} (hs : a.Follows w s) : a.Follows w (s.joinTurning h) :=
  .ite hs.issueLower hs.modWatch.placePoint

theorem State.Follows.waitToJoin {h : Nat} (hs : a.Follows w s) : a.Follows w (s.waitToJoin h) := hs.modWatch

theorem State.Follows.rejoin {h : Nat} (hs : a.Follows w s) : a.Follows w (s.rejoin h) := by
  have out : a.Follows w (if (s.headAt h).state = .lost then s.setHeadState h .dropped else s) :=
    .ite hs.setHeadState hs
  refine .ite hs.bringBack ?_
  dsimp only
  split
  case h_1 => exact .ite out.joinTurning out.waitToJoin
  case h_6 => exact .ite out.waitToJoin hs.bringBack
  case h_2 | h_3 | h_4 | h_5 => exact out.waitToJoin
  all_goals exact hs.bringBack

theorem State.Follows.afterRepair {h : Nat} {cleared : Option PendingFault} (hs : a.Follows w s) :
    a.Follows w (s.afterRepair h cleared) := by
  unfold State.afterRepair
  split
  · exact hs
  · refine .ite hs.rejoin ?_
    split
    case h_1 => exact .ite hs.rejoin hs.setHeadState
    case h_2 => exact hs.rejoin
    all_goals exact hs

theorem State.Follows.repair {h : Nat} (hs : a.Follows w s) : a.Follows w (s.repair h) :=
  hs.modWatch.clearTension.setFault.post.afterRepair.endPatchIfEmpty

theorem State.Follows.updateArmed {h : Nat} {r : StatusRecord} (hs : a.Follows w s) :
    a.Follows w (s.updateArmed h r) := hs.modWatch

theorem State.Follows.updateCountdown {h : Nat} {r : StatusRecord} (hs : a.Follows w s) :
    a.Follows w (s.updateCountdown h r) := .ite hs (.ite hs.modWatch.raiseFault hs.modWatch)

theorem State.Follows.judgeBobbin {h : Nat} (hs : a.Follows w s) : a.Follows w (s.judgeBobbin h) :=
  .ite hs.post.modWatch hs

theorem State.Follows.countBobbin {h : Nat} {r : StatusRecord} (hs : a.Follows w s) :
    a.Follows w (s.countBobbin h r) := .ite (.ite hs.modWatch.judgeBobbin.raiseFault hs.modWatch.judgeBobbin) hs

theorem State.Follows.senseBobbin {h : Nat} {r : StatusRecord} (hs : a.Follows w s) :
    a.Follows w (s.senseBobbin h r) := .ite hs.post.modWatch hs

theorem State.Follows.judgeTension {h : Nat} {r : StatusRecord} (hs : a.Follows w s) :
    a.Follows w (s.judgeTension h r) :=
  .ite hs (.ite hs.modWatch.modWatch.post.setWarnCount (.ite hs.modWatch.modWatch.post.setWarnCount hs.modWatch))

theorem State.Follows.watchRecord {h : Nat} {r : StatusRecord} (hs : a.Follows w s) :
    a.Follows w (s.watchRecord h r) :=
  .ite hs.updateArmed.updateCountdown.countBobbin.senseBobbin.judgeTension hs.countBobbin.senseBobbin

end Monitor

end Sys2Proof.Machine

/-!
What the work of the Thread Change Unit and the sequences of the Run Controller keep.
-/

namespace Sys2Proof.Machine

set_option Elab.async false

/-! ## Thread Change Unit -/

section Change

variable {w : Prop} {a s : State}

/-- The work in progress of the Thread Change Unit, beside its heads and its map, is no part of what is kept. -/
theorem State.Follows.setChangeSame {c : ThreadChange} (h : a.Follows w s)
    (hl : c.heads.length = s.change.heads.length := by rfl) (hm : c.map = s.change.map := by rfl) :
    a.Follows w (s.setChange c) := h.setChange hl (.inl (hm ▸ rfl))

theorem State.Follows.clearWork (h : a.Follows w s) : a.Follows w s.clearWork := h.setChangeSame (List.length_map _)

theorem State.Follows.beginTrim {h : Nat} (hs : a.Follows w s) : a.Follows w (s.beginTrim h) := hs.modWork.issue

theorem State.Follows.trimHeads {heads : List Nat} (hs : a.Follows w s) : a.Follows w (s.trimHeads heads) :=
  hs.foldl fun _ _ ht => ht.beginTrim

theorem State.Follows.trimFailed {h : Nat} (hs : a.Follows w s) : a.Follows w (s.trimFailed h) :=
  .ite hs.modWork.issue.issue hs.modWork.raiseFault

theorem State.Follows.trimRecord {h : Nat} {r : StatusRecord} (hs : a.Follows w s) :
    a.Follows w (s.trimRecord h r) := by
  refine .ite ?_ hs
  split
  · exact hs.modWork
  · exact hs.trimFailed
  · exact hs
  · exact hs

theorem State.Follows.caseFailed {h : Nat} (hs : a.Follows w s) : a.Follows w (s.caseFailed h) :=
  .ite hs.modWork.issue.issue hs.modWork.raiseFault

theorem State.Follows.caseMoveFrom {h p : Nat} (hs : a.Follows w s) : a.Follows w (s.caseMoveFrom h p) :=
  hs.modWork.issue

theorem State.Follows.leftIdle {h : Nat} (hs : a.Follows w s) : a.Follows w (s.leftIdle h) := .ite hs.setHeadState hs

theorem State.Follows.arrived {h : Nat} (hs : a.Follows w s) : a.Follows w (s.arrived h) :=
  .ite hs.modWork.issueLower hs.modWork.leftIdle

theorem State.Follows.caseMove {h : Nat} (hs : a.Follows w s) : a.Follows w (s.caseMove h) := by
  unfold State.caseMove
  split
  · exact .ite hs.arrived hs.caseMoveFrom
  · exact hs.caseFailed

theorem State.Follows.caseRecord {h : Nat} {r : StatusRecord} (hs : a.Follows w s) :
    a.Follows w (s.caseRecord h r) := by
  refine .ite ?_ hs
  split
  · exact .ite hs.arrived hs.caseFailed
  · exact hs
  · exact hs.caseFailed

theorem State.Follows.clearedRecord {h : Nat} {r : StatusRecord} (hs : a.Follows w s) :
    a.Follows w (s.clearedRecord h r) := by
  refine .ite ?_ hs.modWork.caseFailed
  split
  · exact .ite hs.arrived hs.modWork.caseMoveFrom
  · exact hs.modWork.caseFailed

theorem State.Follows.changeRecord {h : Nat} {r : StatusRecord} {queued : Bool} (hs : a.Follows w s) :
    a.Follows w (s.changeRecord h r queued) :=
  .ite (.ite hs.modWork.trimRecord.clearedRecord hs.modWork.trimRecord) hs.modWork.trimRecord.caseRecord

theorem State.Follows.workAfterOrder {h : Nat} {o : EngageOrder} (hs : a.Follows w s) :
    a.Follows w (s.workAfterOrder h o) := by
  unfold State.workAfterOrder
  split
  · exact .ite hs.modWork hs
  · exact .ite (.ite hs.modWork hs.caseMove) hs

theorem State.Follows.takeEffect {h : Nat} {o : EngageOrder} (hs : a.Follows w s) : a.Follows w (s.takeEffect h o) :=
  hs.takeOrder.workAfterOrder

theorem State.Follows.acknowledged {h : Nat} {x : BusWork} (hs : a.Follows w s) :
    a.Follows w (s.acknowledged h x) := by
  unfold State.acknowledged
  split
  · exact .ite hs.modWork hs
  · exact .ite hs.modWork hs
  · exact .ite hs.modHead hs.takeEffect
  · exact hs
  · exact hs

theorem State.Follows.fixParticipants {heads : List Nat} {slot : Nat} (hs : a.Follows w s) :
    a.Follows w (s.fixParticipants heads slot) := hs.foldl fun _ _ ht => ht.modWork

theorem State.Follows.liftThenMove {h : Nat} (hs : a.Follows w s) : a.Follows w (s.liftThenMove h) :=
  .ite hs.modWork.issueLift hs.caseMove

theorem State.Follows.caseStepHead {h : Nat} (hs : a.Follows w s) : a.Follows w (s.caseStepHead h) :=
  .ite hs.modWork (.ite (.ite hs.modWork.issueLift hs.setHeadState.modWork)
    (.ite (.ite hs.modWork hs.modWork.issueLower) hs.liftThenMove))

theorem State.Follows.beginCaseStep (hs : a.Follows w s) : a.Follows w s.beginCaseStep := by
  have casing : a.Follows w (s.setChange { s.change with casing := true }) := hs.setChangeSame
  exact casing.foldl fun _ _ ht => ht.caseStepHead

/-- The kind of work taken up by the Thread Change Unit is no part of what is kept. -/
theorem State.Follows.takeUp {x : Work} {n : Nat} {c : Bool} (h : a.Follows w s) :
    a.Follows w (s.setChange { s.change with work := x, newSlot := n, casing := c }) := h.setChangeSame

theorem State.Follows.beginColour {slot : Nat} (h : a.Follows w s) : a.Follows w (s.beginColour slot) := by
  have fixed {t : State} (ht : a.Follows w t) {heads : List Nat} :
      a.Follows w (if t.trimmedBefore = true then t.beginCaseStep else t.trimHeads heads) :=
    .ite ht.beginCaseStep ht.trimHeads
  exact .ite h.post.pauseFor (fixed h.post.enter.doing.takeUp.fixParticipants)

theorem State.Follows.setSegmentStart {n : Nat} (h : a.Follows w s) :
    a.Follows w (s.setRun { s.run with segmentStart := n }) := h.setRunSame

theorem State.Follows.passChange (h : a.Follows w s) : a.Follows w s.passChange :=
  State.Follows.loadTieIn (State.Follows.doing (.ite h.advanceCursor.setSegmentStart h.advanceCursor))

theorem State.Follows.colourDone (h : a.Follows w s) : a.Follows w s.colourDone := h.post.clearWork.apply.passChange

theorem State.Follows.takeWork {x : Work} (h : a.Follows w s) :
    a.Follows w (s.setChange { s.change with work := x }) := h.setChangeSame

theorem State.Follows.takeTrim (h : a.Follows w s) : a.Follows w s.takeTrim := h.enter.doing.takeWork.trimHeads

theorem State.Follows.trimDone (h : a.Follows w s) : a.Follows w s.trimDone := h.clearWork.passChange

theorem State.Follows.beginAlign (h : a.Follows w s) : a.Follows w s.beginAlign := by
  have moved {t : State} (ht : a.Follows w t) {l : List Nat} : a.Follows w (l.foldl State.liftThenMove t) :=
    ht.foldl fun _ _ hu => hu.liftThenMove
  exact .ite h.recordCause.endStart (moved h.enter.doing.takeWork.fixParticipants)

theorem State.Follows.beginAlignOne {h slot : Nat} (hs : a.Follows w s) : a.Follows w (s.beginAlignOne h slot) :=
  hs.takeWork.fixParticipants.caseMove

theorem State.Follows.trimExpired {h : Nat} (hs : a.Follows w s) : a.Follows w (s.trimExpired h) := .ite hs.trimFailed hs

theorem State.Follows.caseExpired {h : Nat} (hs : a.Follows w s) : a.Follows w (s.caseExpired h) := .ite hs.caseFailed hs

end Change

/-! ## Sequences of the Run Controller -/

section Sequence

variable {w : Prop} {a s : State}

theorem State.Follows.passUpTo {n : Nat} (h : a.Follows w s) : a.Follows w (s.passUpTo n) := by
  induction n generalizing s with
  | zero => exact h
  | succ n ih =>
    unfold State.passUpTo
    refine .ite h ?_
    split
    · exact .ite (ih h.advanceCursor) h
    · exact h

theorem State.Follows.passEffects (h : a.Follows w s) : a.Follows w s.passEffects := h.passUpTo

theorem State.Follows.setCarry {c : Bool} (h : a.Follows w s) : a.Follows w (s.setRun { s.run with carry := c }) :=
  h.setRunSame

theorem State.Follows.beginRecord {r : DesignRecord} (h : a.Follows w s) : a.Follows w (s.beginRecord r) := by
  unfold State.beginRecord
  split
  · exact h
  · exact .ite h.computeSpeed.beginMove.setCarry.modLockout h.computeSpeed.beginMove.setCarry

theorem State.Follows.beginFromRest {r : DesignRecord} (h : a.Follows w s) : a.Follows w (s.beginFromRest r) :=
  h.beginRecord.setGov

theorem State.Follows.passStop (h : a.Follows w s) : a.Follows w s.passStop := h.advanceCursor

theorem State.Follows.setMark {m : Option Nat} (h : a.Follows w s) : a.Follows w (s.setRun { s.run with mark := m }) :=
  h.setRunSame

theorem State.Follows.passMark {label : Nat} (h : a.Follows w s) : a.Follows w (s.passMark label) :=
  h.advanceCursor.setMark.post

theorem State.Follows.starve (h : a.Follows w s) : a.Follows w s.starve := .ite h.toWaiting h.pauseFor

theorem State.Follows.goOn (h : a.Follows w s) : a.Follows w s.goOn := .ite h.toPaused h.enter.doing

theorem State.Follows.afterJoins {after : AfterJoin} (h : a.Follows w s) : a.Follows w (s.afterJoins after) := by
  unfold State.afterJoins
  split
  · exact h.goOn
  · exact h.goOn
  · exact .ite h.toPaused h.enter.doing
  · exact .ite h.toPaused h.enter.doing.loadTieIn.post

theorem State.Follows.aboutToRun {after : AfterJoin} (h : a.Follows w s) : a.Follows w (s.aboutToRun after) :=
  .ite h.enter.doing h.afterJoins

theorem State.Follows.afterChange {colour : Bool} (h : a.Follows w s) : a.Follows w (s.afterChange colour) :=
  .ite h.toPaused (.ite h.endPatch (.ite h.pauseFor h.aboutToRun))

theorem State.Follows.setPoint {p : Option Nat} (h : a.Follows w s) :
    a.Follows w (s.setRun { s.run with point := p }) := h.setRunSame

theorem State.Follows.actOn (h : a.Follows w s) : a.Follows w s.actOn := by
  refine .ite h.setPoint.enter.doing ?_
  split
  · exact h.setPoint.enter.doing
  · exact h.setPoint.aboutToRun
  · exact h.passStop.pauseFor
  · exact h.beginColour
  · exact h.takeTrim
  · exact h.toFinished
  · exact h.passMark.pauseFor
  · exact h.pauseFor
  · exact h.pauseFor
  · exact h.starve
  · split
    · exact h.beginFromRest
    · exact h

theorem State.Follows.actAtRest (h : a.Follows w s) : a.Follows w s.actAtRest := .ite h.pauseFor h.passEffects.actOn

theorem State.Follows.stoppingEnd (h : a.Follows w s) : a.Follows w s.stoppingEnd := by
  unfold State.stoppingEnd
  split
  case h_1 => exact h.passStop.toPaused
  case h_2 => exact h.passMark.toPaused
  case h_3 => exact .ite h.toPaused h.toFinished
  all_goals exact h.toPaused

/-- A step that is made only under a condition: what is made follows. -/
theorem State.Follows.of_ite_some {c : Prop} [Decidable c] {x t : State} (h : (if c then some x else none) = some t)
    (hx : a.Follows w x) : a.Follows w t := by
  split at h
  · exact Option.some.inj h ▸ hx
  · cases h

theorem State.Follows.of_ite_none {c : Prop} [Decidable c] {x t : State} (h : (if c then none else some x) = some t)
    (hx : a.Follows w x) : a.Follows w t := by
  split at h
  · cases h
  · exact Option.some.inj h ▸ hx

theorem State.Follows.of_some {x t : State} (h : some x = some t) (hx : a.Follows w x) : a.Follows w t :=
  Option.some.inj h ▸ hx

theorem State.Follows.advanceRun {t : State} (h : a.Follows w s) (ht : s.advanceRun = some t) : a.Follows w t := by
  unfold State.advanceRun at ht
  split at ht
  · cases ht
  split at ht
  case h_1 => exact .of_some ht h.restartHold
  case h_2 =>
    split at ht
    · exact .of_ite_none ht h.startShaft
    · split at ht
      · exact .of_some ht h.actAtRest
      · exact .of_some ht h.stoppingEnd
  all_goals cases ht

theorem State.Follows.stepTravel (h : a.Follows w s) : a.Follows w s.stepTravel := by
  have travel : a.Follows w (s.setRun { s.run with
      state := .travelling, travelReturn := some .arming, activity := .returnTravel }) :=
    h.setRun rfl fun ⟨_, h2, _, h4⟩ => ⟨nofun, h2, nofun, h4⟩
  exact .ite (.ite travel.beginTravel h.recordCause.endStart) h.doing

theorem State.Follows.stepReference (h : a.Follows w s) : a.Follows w s.stepReference :=
  .ite h.doing (.ite h.doing h.beginReferencing.doing)

theorem State.Follows.stepAlign (h : a.Follows w s) : a.Follows w s.stepAlign := .ite h.beginAlign h.aboutToRun

theorem State.Follows.engageMain {h : Nat} (hs : a.Follows w s) : a.Follows w (s.engageMain h) :=
  .ite hs.issueLower (.ite (.ite hs.issueLift hs.setHeadState) hs)

theorem State.Follows.engagePatch {h : Nat} (hs : a.Follows w s) : a.Follows w (s.engagePatch h) :=
  .ite (.ite hs.issueLower (.ite (.ite hs.issueLift hs.setHeadState) hs)) (.ite hs.issueLift (.ite hs.setHeadState hs))

theorem State.Follows.stepEngage (h : a.Follows w s) : a.Follows w s.stepEngage :=
  h.enter.doing.foldl fun _ _ ht => by
    split
    · exact ht.engagePatch
    · exact ht.engageMain

theorem State.Follows.stepRun (h : a.Follows w s) : a.Follows w s.stepRun := by
  have run : a.Follows w (s.setRun { s.run with
      state := .running, activity := .none, startReturn := none, keepTieIn := false }) := h.setRunTo
  exact State.Follows.post (.ite run run.loadTieIn)

theorem State.Follows.pickJoin {h : Nat} {rest : List Nat} {after : AfterJoin} (hs : a.Follows w s) :
    a.Follows w (s.pickJoin h rest after) := by
  refine .ite hs.doing (.ite hs.deselect.doing ?_)
  dsimp only
  split
  · exact State.Follows.doing (.ite hs.setHeadState hs.setHeadState.joinEffect)
  · exact hs.issueLower.doing
  · exact hs.beginAlignOne.doing

theorem State.Follows.setPatchDone {p : Option Nat} (h : a.Follows w s) :
    a.Follows w (s.setRun { s.run with patchDone := p }) := h.setRunSame

theorem State.Follows.advanceJoins {t : State} {todo : List Nat} {phase : JoinPhase} {after : AfterJoin}
    (h : a.Follows w s) (ht : s.advanceJoins todo phase after = some t) : a.Follows w t := by
  unfold State.advanceJoins at ht
  split at ht
  · split at ht
    · exact .of_some ht h.pickJoin
    · exact .of_some ht (State.Follows.afterJoins (.ite h.setPatchDone h))
  · exact .of_ite_some ht (.ite h.clearWork.issueLower.doing h.clearWork.doing)
  · exact .of_ite_none ht h.doing

theorem State.Follows.setPatchSewn {n : Nat} (h : a.Follows w s) :
    a.Follows w (s.setRun { s.run with patchSewn := n }) := h.setRunSame

theorem State.Follows.gapSewn {h : Nat} (hs : a.Follows w s) : a.Follows w (s.gapSewn h) :=
  hs.setPatchSewn.removeGaps.doing

theorem State.Follows.jumpTo {start : Nat} (h : a.Follows w s) : a.Follows w (s.jumpTo start) := by
  have travel {t : State} (ht : a.Follows w t) : a.Follows w (t.setRun { t.run with
      state := .travelling, travelReturn := some .changing, activity := .patchTravel }) :=
    ht.setRun rfl fun ⟨_, h2, _, h4⟩ => ⟨nofun, h2, nofun, h4⟩
  have moved : a.Follows w ((s.setRun { s.run with patchDone := none }).movePatch start).writePendings :=
    h.setPatchDone.movePatch.writePendings
  exact .ite (travel moved).beginTravel moved.pauseFor

theorem State.Follows.afterEndStops (h : a.Follows w s) : a.Follows w s.afterEndStops := by
  refine .ite h.doing ?_
  split
  · exact h.jumpTo
  · split
    · exact h.jumpTo
    · exact h.endPatch

theorem State.Follows.beginEndStop {h : Nat} (hs : a.Follows w s) : a.Follows w (s.beginEndStop h) :=
  .ite hs.takeWork.beginTrim.doing (.ite hs.setHeadState.gapSewn hs.gapSewn)

theorem State.Follows.endStopTrimmed {h : Nat} (hs : a.Follows w s) : a.Follows w (s.endStopTrimmed h) :=
  .ite hs.clearWork.issueLift.doing hs.clearWork.gapSewn

theorem State.Follows.advanceEndStops {t : State} {phase : EndPhase} (h : a.Follows w s)
    (ht : s.advanceEndStops phase = some t) : a.Follows w t := by
  unfold State.advanceEndStops at ht
  split at ht
  · split at ht
    · exact .of_some ht h.beginEndStop
    · exact .of_some ht h.afterEndStops
  · exact .of_ite_some ht h.endStopTrimmed
  · exact .of_ite_none ht h.gapSewn

/-- A host travel returns to the state that it was made from, which is not HALTED. -/
theorem State.Follows.endTravel {stopped : Bool} (h : a.Follows w s) : a.Follows w (s.endTravel stopped) := by
  have ended : a.Follows w ((s.setFrame { s.frame with travel := none }).modLockout
      (fun l => { l with travel := false })) := (State.Follows.setFrameSame h).modLockout
  unfold State.endTravel
  refine .ite ended.pendingReset ?_
  dsimp only
  generalize (s.setFrame { s.frame with travel := none }).modLockout (fun l => { l with travel := false }) = t at ended
  split
  · have armed : a.Follows w (t.setRun { t.run with
        state := .arming, travelReturn := none, activity := .dueReference }) := ended.setRunTo
        (ht := .inr rfl)
    exact .ite (armed.unlessOver armed.endStart) armed
  · have back : a.Follows w (t.setRun { t.run with travelReturn := none }) :=
      ended.setRun rfl fun ⟨h1, h2, _, h4⟩ => ⟨h1, h2, nofun, h4⟩
    exact .ite (.ite back.endPatch back.toPaused) back.enter.doing
  · have back : a.Follows w (t.setRun { t.run with
        state := t.run.travelReturn.getD .idle, travelReturn := none, activity := .none }) :=
      ended.setRun rfl fun ⟨_, h2, h3, h4⟩ => ⟨getD_ne_halted h3 nofun, h2, nofun, h4⟩
    exact State.Follows.endPatchIfEmpty (State.Follows.post (.ite back.resolveJoins back))

theorem State.Follows.advanceTravel {t : State} {v : Travel} (h : a.Follows w s) (ht : s.advanceTravel v = some t) :
    a.Follows w t := by
  unfold State.advanceTravel at ht
  split at ht
  · cases ht
  · rename_i still
    simp only [Bool.or_eq_true, not_or, Bool.not_eq_true, Option.isSome_eq_false_iff, Option.isNone_iff_eq_none] at still
    obtain ⟨⟨⟨_, hx⟩, hy⟩, _⟩ := still
    split at ht
    · exact .of_some ht h.endTravel
    split at ht
    · exact .of_some ht (h.beginReseats hx hy)
    split at ht
    · exact .of_some ht h.beginSegment
    split at ht
    · exact .of_some ht h.beginLeg
    · exact .of_some ht h.endTravel

theorem State.Follows.advanceActivity {t : State} (h : a.Follows w s) (ht : s.advanceActivity = some t) :
    a.Follows w t := by
  unfold State.advanceActivity at ht
  split at ht
  case h_1 =>
    split at ht
    · exact h.advanceRun ht
    · cases ht
  case h_2 => cases ht
  case h_3 => exact .of_ite_some ht h.stepTravel
  case h_4 => cases ht
  case h_5 => exact .of_ite_none ht (h.unlessOver h.stepReference)
  case h_6 => exact .of_ite_some ht (h.unlessOver h.doing)
  case h_7 => exact .of_some ht (h.unlessOver h.stepAlign)
  case h_8 => exact .of_ite_some ht (h.clearWork.unlessOver h.clearWork.enter.aboutToRun)
  case h_9 => exact .of_some ht (h.unlessOver h.stepEngage)
  case h_10 => exact .of_ite_none ht (h.unlessOver h.stepRun)
  case h_11 =>
    split at ht
    case h_1 => exact .of_ite_some ht h.trimDone.afterChange
    case h_2 =>
      split at ht
      · exact .of_ite_some ht h.colourDone.afterChange
      · exact .of_ite_some ht h.beginCaseStep
    all_goals cases ht
  case h_12 => exact h.advanceJoins ht
  case h_13 => exact h.advanceEndStops ht
  case h_14 => cases ht
  case h_15 => cases ht

theorem State.Follows.advance {t : State} (h : a.Follows w s) (ht : s.advance = some t) : a.Follows w t := by
  unfold State.advance at ht
  split at ht
  · exact h.advanceTravel ht
  · split at ht
    · split at ht
      · exact .of_ite_some ht h.beginHoming
      · exact h.advanceActivity ht
    · exact h.advanceActivity ht

theorem State.Follows.settle {n : Nat} (h : a.Follows w s) : a.Follows w (State.settle n s) := by
  induction n generalizing s with
  | zero => exact h
  | succ n ih =>
    unfold State.settle
    split
    · rename_i t ht
      exact ih (h.advance ht)
    · exact h

theorem State.Follows.finish (h : a.Follows w s) : a.Follows w s.finish := h.settle.pump

end Sequence

end Sys2Proof.Machine

/-!
What the events of shaft, head bus and frame keep.
-/

namespace Sys2Proof.Machine

set_option Elab.async false

/-! ## The main shaft's events -/

section Rotation

variable {w : Prop} {a s : State}

theorem State.Follows.setStitch {m : Option StitchMove} (h : a.Follows w s) :
    a.Follows w (s.setFrame { s.frame with stitch := m }) := h.setFrameSame

theorem State.Follows.openInFlight {m : StitchMove} (h : a.Follows w s) : a.Follows w (s.openInFlight m) := by
  unfold State.openInFlight
  split
  · exact (State.Follows.ite h h.postAt).setStitch.modLockout
  · exact h

theorem State.Follows.takeSpeed (h : a.Follows w s) : a.Follows w s.takeSpeed := h.setShaft

theorem State.Follows.openDecide (h : a.Follows w s) : a.Follows w s.openDecide := by
  unfold State.openDecide
  refine .ite h.orderStop (.ite h.passEffects.orderStop (.ite h.passEffects.orderStop ?_))
  split
  · exact .ite h.passEffects.beginRecord.takeSpeed.orderStop h.passEffects.beginRecord.takeSpeed
  · exact h.passEffects.orderStop

theorem State.Follows.openAction (h : a.Follows w s) : a.Follows w s.openAction := by
  unfold State.openAction
  dsimp only
  split
  · exact h.modLockout.openInFlight
  · exact .ite h.modLockout.openDecide h.modLockout

/-- The progress counter stays below the progress period, which is at most 1000 (R168, section 11.2). -/
theorem State.Follows.countProgress {i : Nat} (h : a.Follows w s) : a.Follows w (s.countProgress i) := by
  unfold State.countProgress
  dsimp only
  split
  · exact h
  split
  · rename_i hlt
    refine h.setLink ⟨rfl, rfl⟩ rfl fun hl => ?_
    obtain ⟨h1, h2, h3, h4, h5, h6, h7, _, h9⟩ := (s.linkRight_iff).mp hl
    exact (State.linkRight_iff _).mpr ⟨h1, h2, h3, h4, h5, h6, h7, hlt.le.trans h9, h9⟩
  · refine h.setLink ⟨rfl, rfl⟩ rfl fun hl => ?_
    obtain ⟨h1, h2, h3, h4, h5, h6, h7, _, h9⟩ := (s.linkRight_iff).mp hl
    exact (State.linkRight_iff _).mpr ⟨h1, h2, h3, h4, h5, h6, h7, Nat.zero_le _, h9⟩

theorem State.Follows.penetrate {r : DesignRecord} (h : a.Follows w s) : a.Follows w (s.penetrate r) := by
  have executed {t : State} (ht : a.Follows w t) : a.Follows w (t.setRun { t.run with
      carry := false, stepDone := t.run.stepping, tieIn := if isStitch r then t.run.tieIn - 1 else t.run.tieIn }) :=
    ht.setRunSame
  exact (executed h.advanceCursor).refreshWindow.countProgress

theorem State.Follows.closeAction (h : a.Follows w s) : a.Follows w s.closeAction := by
  unfold State.closeAction
  refine .ite ?_ h
  split
  · exact .ite (.ite h.penetrate h) h.penetrate
  · exact h

theorem State.Follows.judgeLate (h : a.Follows w s) : a.Follows w s.judgeLate := by
  unfold State.judgeLate
  split
  · exact .ite h (State.Follows.ite h h.post).setStitch.modLockout
  · exact h

theorem State.Follows.lateAction {coasted : Bool} (h : a.Follows w s) : a.Follows w (s.lateAction coasted) :=
  .ite h.judgeLate.stall h.judgeLate

theorem State.Follows.newRevolution (h : a.Follows w s) : a.Follows w s.newRevolution := h.setShaft

theorem State.Follows.tdcAction (h : a.Follows w s) : a.Follows w s.tdcAction := by
  have applied : a.Follows w (if s.shaft.state.pollsByAngle then s.applyAcked else s) := .ite h.applyAcked h
  exact .ite applied.brakeAtTop applied

theorem State.Follows.pollAction (h : a.Follows w s) : a.Follows w s.pollAction := .ite h.roundDue h

theorem State.Follows.crossings {angle : Nat} (h : a.Follows w s) : a.Follows w (s.crossings angle) := by
  have tdc {t : State} (ht : a.Follows w t) : a.Follows w (if angle = 0 then t.tdcAction else t) := .ite ht.tdcAction ht
  have poll {t : State} (ht : a.Follows w t) : a.Follows w (if angle = t.cfg.pollAngle ∧ t.shaft.seenPoll = false then
      (t.setShaft { t.shaft with seenPoll := true }).pollAction else t) := .ite ht.setShaft.pollAction ht
  have late {t : State} (ht : a.Follows w t) : a.Follows w
      (if angle = lateAngle t.shaft.closeAngle ∧ t.shaft.seenLate = false then
        (t.setShaft { t.shaft with seenLate := true }).lateAction s.shaft.coasting else t) :=
    .ite ht.setShaft.lateAction ht
  have close {t : State} (ht : a.Follows w t) : a.Follows w
      (if angle = t.shaft.closeAngle ∧ t.shaft.seenClose = false then
        (t.setShaft { t.shaft with seenClose := true }).closeAction else t) := .ite ht.setShaft.closeAction ht
  have opens {t : State} (ht : a.Follows w t) : a.Follows w
      (if angle = t.shaft.openAngle ∧ t.shaft.seenOpen = false then
        (t.setShaft { t.shaft with seenOpen := true }).openAction else t) := .ite ht.setShaft.openAction ht
  exact opens (close (late (poll (tdc h))))

theorem State.Follows.countForward (h : a.Follows w s) : a.Follows w s.countForward := by
  unfold State.countForward
  dsimp only
  have turned {u : Shaft} {c : Prop} [Decidable c] :
      a.Follows w (if c then (s.setShaft u).newRevolution else s.setShaft u) := .ite h.setShaft.newRevolution h.setShaft
  exact .ite turned.crossings.finish turned

theorem State.Follows.countReverse (h : a.Follows w s) : a.Follows w s.countReverse := h.setShaft

theorem State.Follows.restartStall (h : a.Follows w s) : a.Follows w s.restartStall := h.setShaft

theorem State.Follows.indexFound (h : a.Follows w s) : a.Follows w s.indexFound := h.setShaft.newRevolution.brakeAtTop

theorem State.Follows.indexCorrects (h : a.Follows w s) : a.Follows w s.indexCorrects := by
  unfold State.indexCorrects
  dsimp only
  have turned {u : Shaft} {c : Prop} [Decidable c] :
      a.Follows w (if c then (s.setShaft u).newRevolution else s.setShaft u) := .ite h.setShaft.newRevolution h.setShaft
  exact .ite turned.crossings.finish turned

theorem State.Follows.clearPoint (h : a.Follows w s) : a.Follows w s.clearPoint := .ite h (.ite h.setPoint h.setPoint)

theorem State.Follows.stopRests (h : a.Follows w s) : a.Follows w s.stopRests :=
  .ite h.shaftTo.applyZones.joinsAtRest
    h.shaftTo.govAtRest.applyZones.applyAcked.joinsAtRest.clearPoint.resetIfDue

theorem State.Follows.referencingRests (h : a.Follows w s) : a.Follows w s.referencingRests :=
  h.setShaft.shaftTo.modLockout.post.applyZones.resetIfDue

end Rotation

/-! ## The head bus's events -/

section HeadEvents

variable {w : Prop} {a s : State}

theorem State.Follows.storeRecord {h : Nat} {r : StatusRecord} (hs : a.Follows w s) :
    a.Follows w (s.storeRecord h r) := hs.modLink

theorem State.Follows.takeNeedle {h : Nat} {r : StatusRecord} (hs : a.Follows w s) :
    a.Follows w (s.takeNeedle h r) := .ite hs.modHead hs

theorem State.Follows.resync {h : Nat} {r : StatusRecord} (hs : a.Follows w s) : a.Follows w (s.resync h r) :=
  .ite hs (.ite hs (.ite hs.issueLower hs.issueLift))

theorem State.Follows.acceptRecord {h : Nat} {r : StatusRecord} {queued : Bool} (hs : a.Follows w s) :
    a.Follows w (s.acceptRecord h r queued) := hs.storeRecord.takeNeedle.changeRecord.watchRecord.resync

theorem State.Follows.probeAnswered {h : Nat} {r : StatusRecord} (hs : a.Follows w s) :
    a.Follows w (s.probeAnswered h r) := by
  have accepted : a.Follows w ((s.clearLoss h).acceptRecord h r false) := hs.clearLoss.acceptRecord
  unfold State.probeAnswered
  exact .ite accepted accepted.repair

theorem State.Follows.answered {t : Transaction} {r : StatusRecord} (h : a.Follows w s) :
    a.Follows w (s.answered t r) := by
  unfold State.answered
  split
  · exact h.acceptRecord
  · exact h.acknowledged
  · exact h.probeAnswered
  · exact h.acceptRecord

theorem State.Follows.headLost {t : Transaction} (h : a.Follows w s) : a.Follows w (s.headLost t) := by
  have reported : a.Follows w (match t.kind.work? with
      | some x => s.endTransaction.notDelivered ⟨t.head, x⟩
      | none => s.endTransaction) := by
    split
    · exact h.endTransaction.notDelivered
    · exact h.endTransaction
  exact reported.purge.passOver.modLink.handOver.raiseFault

theorem State.Follows.timedOut {t : Transaction} (h : a.Follows w s) : a.Follows w (s.timedOut t) :=
  .ite h.modLink.setBusSame h.modLink.headLost

end HeadEvents

/-! ## The frame's events -/

section FrameEvents

variable {w : Prop} {a s : State}

theorem State.Follows.setHoming {x : Option Homing} (h : a.Follows w s) :
    a.Follows w (s.setFrame { s.frame with homing := x }) := h.setFrameSame

/-- The sensor's level and the direction output are no part of the scale of an axis. -/
theorem State.Follows.setSensor {n : AxisName} {active : Bool} (h : a.Follows w s) :
    a.Follows w (s.modAxis n (fun x => { x with homeActive := active })) :=
  h.modAxis fun _ _ hx => Axis.stepsRight_of_same hx rfl rfl rfl rfl rfl rfl

theorem State.Follows.homingTo {hm : Homing} {p : HomingPhase} {up : Bool} (h : a.Follows w s) :
    a.Follows w (s.homingTo hm p up) := by
  have driven : a.Follows w (s.modAxis hm.axis (fun x => { x with dirUp := up })) :=
    h.modAxis fun _ _ hx => Axis.stepsRight_of_same hx rfl rfl rfl rfl rfl rfl
  exact driven.setHoming

theorem State.Follows.sensorSeen {hm : Homing} {active : Bool} (h : a.Follows w s) :
    a.Follows w (s.sensorSeen hm active) := by
  unfold State.sensorSeen
  split
  · exact h
  · exact .ite h h.homingTo
  · exact h
  · exact .ite h.axisHomed.finish h

theorem State.Follows.completeReseat {n : AxisName} (h : a.Follows w s) :
    a.Follows w (s.modAxis n Axis.completeReseat) := h.modAxis fun _ _ hx => Axis.completeReseat_stepsRight hx

/-- R80: a homing clears the off-path flag with the reference, so nothing is asked of the step count any more. -/
theorem Axis.unhomed_stepsRight {x : Axis} {k : Nat} (h : x.stepsRight k) : x.unhomed.stepsRight k :=
  ⟨nofun, fun m hm => ⟨(h.2 m hm).1, fun hk => ⟨((h.2 m hm).2 hk).1, nofun⟩⟩⟩

theorem State.Follows.startHoming (h : a.Follows w s) : a.Follows w s.startHoming :=
  (h.setFrame Axis.unhomed_stepsRight Axis.unhomed_stepsRight).modLockout

end FrameEvents

end Sys2Proof.Machine

/-!
What the requests keep. `(serve… s).1` is the state that the owner of a request leaves.
-/

namespace Sys2Proof.Machine

set_option Elab.async false

section Requests

variable {w : Prop} {a s : State}

theorem State.Follows.iteServed {c : Prop} [Decidable c] {x y : Served} (hx : a.Follows w x.1) (hy : a.Follows w y.1) :
    a.Follows w (if c then x else y).1 := by
  split
  · exact hx
  · exact hy

theorem State.Follows.taken (h : a.Follows w s) : a.Follows w (Machine.taken s).1 := h

/-! ## Design -/

theorem State.Follows.dropDesign {d : DesignState} (h : a.Follows w s) : a.Follows w (s.dropDesign d) := by
  have emptied : a.Follows w (s.idleAll.setGaps []) :=
    h.idleAll.setGaps fun _ => ⟨Nat.zero_le _, fun _ => ⟨Nat.zero_le _, Nat.zero_le _⟩⟩
  have opened {t : State} (ht : a.Follows w t) : a.Follows w (t.setRun t.run.atOpen) :=
    ht.setRun rfl fun ⟨_, h2, _, _⟩ => ⟨nofun, h2, nofun, nofun⟩
  exact (opened emptied).clearStore.setGov

/-- The progress counter begins anew. -/
theorem State.Follows.clearProgress (h : a.Follows w s) :
    a.Follows w (s.setLink { s.link with progressCount := 0 }) :=
  h.setLink ⟨rfl, rfl⟩ rfl fun hl => by
    obtain ⟨h1, h2, h3, h4, h5, h6, h7, _, h9⟩ := (s.linkRight_iff).mp hl
    exact (State.linkRight_iff _).mpr ⟨h1, h2, h3, h4, h5, h6, h7, Nat.zero_le _, h9⟩

/-- Blocks granted when nothing is granted: as many as FREE slots at most. -/
theorem State.Follows.firstGrant (h : a.Follows w s) (h0 : s.store.granted = 0) :
    a.Follows w (s.grantBlocks (min 8 s.store.freeCount)) :=
  h.grantBlocks fun _ => by omega

theorem State.Follows.serveOpenDesign (h : a.Follows w s) : a.Follows w (serveOpenDesign s).1 := by
  have map {t : State} (ht : a.Follows w t) :
      a.Follows w (t.setChange { t.change with map := defaultMap, waiting := [] }) := ht.setChange rfl (.inr rfl)
  have origin {t : State} (ht : a.Follows w t) : a.Follows w (t.setFrame { t.frame with origin := none }) :=
    ht.setFrameSame
  unfold Machine.serveOpenDesign
  split
  · exact ((origin (map h.dropDesign)).clearProgress.firstGrant (by simp [State.dropDesign, State.clearStore])).finish.taken
  · exact h

theorem State.Follows.clearJoins (h : a.Follows w s) : a.Follows w s.clearJoins := h.setMonitor (List.length_map _)

theorem State.Follows.serveDiscardDesign (h : a.Follows w s) : a.Follows w (serveDiscardDesign s).1 :=
  by
  unfold Machine.serveDiscardDesign
  split
  · exact h.dropDesign.clearJoins.finish.taken
  · exact h

theorem State.Follows.clearCause (h : a.Follows w s) : a.Follows w (s.setRun { s.run with cause := none }) :=
  h.setRunSame

theorem State.Follows.tryResume (h : a.Follows w s) : a.Follows w s.tryResume := .ite h.clearCause.aboutToRun h

theorem State.Follows.enterAccepted {waited : Bool} (h : a.Follows w s) : a.Follows w (s.enterAccepted waited) :=
  .ite h.release h

theorem State.Follows.takeBlock {body : List Byte} {rs : List DesignRecord} (h : a.Follows w s) :
    a.Follows w (s.takeBlock body rs) :=
  h.openWindowEnd.acceptBlock.pace.enterAccepted.refreshWindow.tryResume.finish

theorem State.Follows.serveDesignBlock {body : List Byte} (h : a.Follows w s) :
    a.Follows w (serveDesignBlock body s).1 := by
  unfold Machine.serveDesignBlock
  split
  · exact h
  · split
    · exact h
    · exact .iteServed h.takeBlock h

/-! ## The run -/

theorem State.Follows.serveStart (h : a.Follows w s) : a.Follows w (serveStart s).1 := by
  unfold Machine.serveStart
  split
  · exact h
  · exact h.beginStart

theorem State.Follows.serveResume (h : a.Follows w s) : a.Follows w (serveResume s).1 := by
  unfold Machine.serveResume
  split
  · exact h
  · split
    · exact h
    · exact h.beginStart

theorem State.Follows.serveStep (h : a.Follows w s) : a.Follows w (serveStep s).1 := by
  unfold Machine.serveStep
  split
  · exact h
  · exact h.beginStart

theorem State.Follows.serveRunToMark {label : Nat} (h : a.Follows w s) : a.Follows w (serveRunToMark label s).1 := by
  unfold Machine.serveRunToMark
  split
  · exact h
  · exact h.setMark.beginStart

theorem State.Follows.stopHoming (h : a.Follows w s) : a.Follows w s.stopHoming := by
  unfold State.stopHoming
  split
  · exact h.endHoming.post
  · exact h

theorem State.Follows.serveStop (h : a.Follows w s) : a.Follows w (serveStop s).1 := by
  have travel {t : State} (ht : a.Follows w t) :
      a.Follows w (if t.run.activity = .hostTravel then t.askTravelStop else t) := .ite ht.askTravelStop ht
  have shaft {t : State} (ht : a.Follows w t) :
      a.Follows w (if t.shaft.state = .referencing then t.stopReferencing else t) := .ite ht.stopReferencing ht
  exact (shaft (travel h.stopHoming.stopOrder)).finish

theorem State.Follows.serveSetMode {mode : Nat} (h : a.Follows w s) : a.Follows w (serveSetMode mode s).1 := by
  unfold Machine.serveSetMode
  split
  · split
    · exact h.setRunSame
    · exact h
  · exact h

theorem State.Follows.bringOn {h : Nat} (hs : a.Follows w s) : a.Follows w (s.bringOn h) := hs.clearLoss.modHead

theorem State.Follows.headOnEffect {h : Nat} (hs : a.Follows w s) : a.Follows w (s.headOnEffect h) :=
  .ite hs.bringOn.modWatch hs

theorem State.Follows.headOffEffect {h : Nat} (hs : a.Follows w s) : a.Follows w (s.headOffEffect h) := by
  unfold State.headOffEffect
  split
  · exact hs
  have lifted {t : State} (ht : a.Follows w t) :
      a.Follows w (if s.engagedHead h then t.issueLift h .off false else t) := .ite ht.issueLift ht
  have left {t : State} (ht : a.Follows w t) : a.Follows w (if t.run.pass = .patch then
      (t.deselect (fun g => g.head == h) t.cursor).endPatchIfOver else t) := .ite ht.deselect.endPatchIfOver ht
  exact left (lifted hs.setHeadState.modWatch.passOver.clearLoss.closeGap)

theorem State.Follows.serveHeadOn {head : Nat} (h : a.Follows w s) : a.Follows w (serveHeadOn head s).1 :=
  .iteServed h (.iteServed h.headOnEffect.finish h)

theorem State.Follows.serveHeadOff {head : Nat} (h : a.Follows w s) : a.Follows w (serveHeadOff head s).1 :=
  .iteServed h (.iteServed h.headOffEffect.finish h)

/-- What CLEAR HALT does once the run has its state back. -/
theorem State.Follows.afterHalt {back : RunState} {value : Nat} {post : State → Bool} (h : a.Follows w s) :
    a.Follows w (let t := if back = .paused then s.applyAcked.resolveJoins else s.applyAcked
      (if post t then t.post .stopped 0 value else t).endPatchIfEmpty.finish) := by
  have joined : a.Follows w (if back = .paused then s.applyAcked.resolveJoins else s.applyAcked) :=
    .ite h.applyAcked.resolveJoins h.applyAcked
  exact (State.Follows.ite joined.post joined).endPatchIfEmpty.finish

/-! ## Frame and shaft -/

theorem State.Follows.serveSpeedCeiling {rpm : Nat} (h : a.Follows w s) : a.Follows w (serveSpeedCeiling rpm s).1 :=
  h.setGov

theorem State.Follows.serveSetOrigin (h : a.Follows w s) : a.Follows w (serveSetOrigin s).1 :=
  .iteServed h (.iteServed h h.setFrameSame)

theorem State.Follows.serveHomeFrame (h : a.Follows w s) : a.Follows w (serveHomeFrame s).1 :=
  .iteServed h (.iteServed h (.iteServed h h.startHoming.finish))

theorem State.Follows.serveReferenceShaft (h : a.Follows w s) : a.Follows w (serveReferenceShaft s).1 :=
  .iteServed h (.iteServed h (.iteServed h h.beginReferencing))

/-- A travel that the host asks for records a state that is not HALTED. -/
theorem State.Follows.hostTravel {legs : List Point} (h : a.Follows w s) : a.Follows w (s.hostTravel legs) :=
  State.Follows.beginTravel (h.setRun rfl fun ⟨h1, h2, _, h4⟩ => ⟨nofun, h2, fun e => h1 (Option.some.inj e), h4⟩)

theorem State.Follows.serveMoveFrame {dx dy : Int} (h : a.Follows w s) : a.Follows w (serveMoveFrame dx dy s).1 :=
  .iteServed h (.iteServed h (.iteServed h h.hostTravel.finish))

/-! ## Heads -/

theorem State.Follows.mapNeedle {slot h needle : Nat} (hs : a.Follows w s) :
    a.Follows w (s.mapNeedle slot h needle) := by
  refine .ite (hs.setChange rfl (.inl rfl)) (hs.setChange ?_ (.inl ?_))
  · exact congrArg List.length (s.change.write_lengths slot h needle).1
  · exact (s.change.write_lengths slot h needle).2

theorem State.Follows.mapNeedles {slot : Nat} {needles : List Nat} (h : a.Follows w s) :
    a.Follows w (s.mapNeedles slot needles) := h.foldl fun _ _ ht => ht.mapNeedle

theorem State.Follows.serveMapColour {slot : Nat} {needles : List Nat} (h : a.Follows w s) :
    a.Follows w (serveMapColour slot needles s).1 := .iteServed h (.iteServed h h.mapNeedles.taken)

theorem State.Follows.setBobbin {h count : Nat} (hs : a.Follows w s) : a.Follows w (s.setBobbin h count) :=
  .ite hs.modWatch.judgeBobbin hs.modWatch

theorem State.Follows.serveBobbinSet {head count : Nat} (h : a.Follows w s) :
    a.Follows w (serveBobbinSet head count s).1 := .iteServed h.setBobbin h

theorem State.Follows.serveSetPolicy {policy : Nat} (h : a.Follows w s) : a.Follows w (serveSetPolicy policy s).1 := by
  unfold Machine.serveSetPolicy
  split
  · split
    · exact h.setMonitor
    · exact h
  · exact h

theorem State.Follows.serveRepairDone {head : Nat} (h : a.Follows w s) : a.Follows w (serveRepairDone head s).1 :=
  .iteServed h (.iteServed h (.iteServed h.modLink.finish h.repair.finish))

/-! ## Gaps and backtrack -/

/-- SEW GAPS makes no gap OPEN, and records a state that is not HALTED. -/
theorem State.Follows.beginPatch {start : Nat} (h : a.Follows w s) : a.Follows w (s.beginPatch start) := by
  have selected : a.Follows w (s.setGaps (s.gaps.map (fun g =>
      if s.selectable g then { g with state := .sewing } else g))) := by
    refine h.mapGaps (fun g => ?_) (fun g => ?_)
    · split <;> rfl
    · split <;> simp
  have passed {t : State} (ht : a.Follows w t) : a.Follows w (t.setRun { t.run with
      pass := .patch, patchCursor := none, passReturn := some t.run.state, state := .paused, patchSewn := 0
      point := none }) :=
    ht.setRun rfl fun ⟨h1, h2, h3, _⟩ => ⟨nofun, h2, h3, fun e => h1 (Option.some.inj e)⟩
  exact (passed selected).movePatch.writePendings.beginStart

theorem State.Follows.serveSewGaps (h : a.Follows w s) : a.Follows w (serveSewGaps s).1 := by
  unfold Machine.serveSewGaps
  split
  · exact h
  · exact h.beginPatch

theorem State.Follows.abandonHead {h : Nat} (hs : a.Follows w s) : a.Follows w (s.abandonHead h) := by
  unfold State.abandonHead
  dsimp only
  split
  · refine State.Follows.release (hs.removeGaps.mapGaps (fun g => ?_) (fun g => ?_))
    · split
      · exact (State.truncated_keeps _ g _).1
      · rfl
    · split
      · exact fun e => (State.truncated_keeps _ g _).2.1 ▸ e
      · exact id
  · exact hs.removeGaps

theorem State.Follows.serveAbandonGap {head : Nat} (h : a.Follows w s) : a.Follows w (serveAbandonGap head s).1 := by
  have abandoned : a.Follows w ((abandonNames head).foldl State.abandonHead s) := h.foldl fun _ _ ht => ht.abandonHead
  exact .iteServed h (.iteServed h abandoned.endPatchIfEmpty.finish)

theorem State.Follows.cursorBack {new : Nat} (h : a.Follows w s) : a.Follows w (s.cursorBack new) :=
  h.foldl fun _ _ ht => ht.moveMain

theorem State.Follows.cursorForward {new : Nat} (h : a.Follows w s) : a.Follows w (s.cursorForward new) :=
  h.foldl fun _ _ ht => ht.moveMain

theorem State.Follows.shortenGaps {new : Nat} (h : a.Follows w s) : a.Follows w (s.shortenGaps new) := by
  refine State.Follows.removeGaps (h.mapGaps (fun g => ?_) (fun g => ?_))
  · split <;> rfl
  · split
    · exact id
    · exact id

theorem State.Follows.serveBack {n : Nat} (h : a.Follows w s) : a.Follows w (serveBack n s).1 := by
  unfold Machine.serveBack
  split
  · exact h
  · refine .iteServed h ?_
    split
    · exact h
    · exact .iteServed h h.cursorBack.shortenGaps.hostTravel.finish

theorem State.Follows.serveForward {n : Nat} (h : a.Follows w s) : a.Follows w (serveForward n s).1 := by
  unfold Machine.serveForward
  split
  · exact h
  · dsimp only
    split
    · exact h
    · exact .iteServed h h.cursorForward.hostTravel.finish

/-! ## Readout -/

theorem State.Follows.clearOverflow (h : a.Follows w s) : a.Follows w (s.setLink { s.link with overflow := false }) :=
  h.setLink ⟨rfl, rfl⟩ rfl id

theorem State.Follows.serveStatus {selection : Nat} (h : a.Follows w s) : a.Follows w (serveStatus selection s).1 := by
  have cleared : a.Follows w (if groupSelected selection 5 then s.setLink { s.link with overflow := false } else s) :=
    .ite h.clearOverflow h
  exact cleared.setFree

theorem State.Follows.serveReadHead {head : Nat} (h : a.Follows w s) : a.Follows w (serveReadHead head s).1 :=
  .iteServed h.tick h

theorem State.Follows.serveReadBack {group : Nat} {number : Option Nat} (h : a.Follows w s) :
    a.Follows w (serveReadBack group number s).1 := by
  unfold Machine.serveReadBack
  split
  · split
    · exact h
    · exact h
  · exact h

end Requests

end Sys2Proof.Machine

/-!
What configuration and line keep, and `exec` as a whole.
-/

namespace Sys2Proof.Machine

set_option Elab.async false

/-! ## Configuration groups -/

section Configure

variable {w : Prop} {a s : State}

theorem State.Follows.leaveUnconfigured (h : a.Follows w s) : a.Follows w s.leaveUnconfigured := .ite h.enter h

/-- R71: an axis whose K changes is unreferenced, so nothing is asked of its step count; no move is in flight. -/
theorem Axis.rescaled_stepsRight {x : Axis} {old k : Nat} (hm : x.move = none) (h : x.stepsRight old) :
    (x.rescaled old k).stepsRight k := by
  unfold Axis.rescaled
  split
  · rename_i hk
    exact hk ▸ h
  split
  · exact ⟨nofun, fun m hm' => nomatch hm.symm.trans hm'⟩
  · exact ⟨nofun, fun m hm' => nomatch hm.symm.trans hm'⟩

theorem State.Follows.setMachine {g : MachineGroup} (h : a.Follows w s) (hb : s.frame.busy = false) :
    a.Follows w ((s.setCfg { s.cfg with machine := g, machineSet := true }).setFrame { s.frame with
      x := s.frame.x.rescaled s.cfg.machine.kX g.kX, y := s.frame.y.rescaled s.cfg.machine.kY g.kY }) := by
  simp only [FrameDrive.busy, Bool.or_eq_false_iff, Option.isSome_eq_false_iff, Option.isNone_iff_eq_none] at hb
  obtain ⟨⟨⟨⟨hx, hy⟩, _⟩, _⟩, _⟩ := hb
  exact ⟨⟨h.pending, h.straps, h.slots, h.link, h.gaps, fun ha =>
    ⟨Axis.rescaled_stepsRight hx (h.steps ha).1, Axis.rescaled_stepsRight hy (h.steps ha).2⟩, h.queue, h.shapes⟩, h.awake⟩

theorem State.Follows.changeHeadCount {old new : Nat} (h : a.Follows w s) :
    a.Follows w (s.changeHeadCount old new) := by
  refine h.foldl fun t i ht => ?_
  split
  · exact ht.headOffEffect
  · exact .ite (.ite ht.bringOn ht) ht

theorem State.Follows.serveMachine {g : MachineGroup} (h : a.Follows w s) : a.Follows w (serveMachine g s).1 := by
  unfold Machine.serveMachine
  split
  · exact h
  · rename_i hb
    simp only [Bool.or_eq_true, not_or, Bool.not_eq_true] at hb
    exact .iteServed h (.iteServed h (h.setMachine hb.2).changeHeadCount.leaveUnconfigured.finish.taken)

/-- A group of the configuration that is neither MACHINE, MOVE TABLE nor the progress period. -/
theorem State.Follows.setGroup {c : Settings} (h : a.Follows w s) (hm : c.machine = s.cfg.machine := by rfl)
    (ht : c.table = s.cfg.table := by rfl) (hp : c.pieces = s.cfg.pieces := by rfl)
    (hr : c.progressPeriod = s.cfg.progressPeriod := by rfl) : a.Follows w (s.setCfg c) :=
  h.setCfg hm (fun _ hl => ht ▸ hl) (congrArg _ hp) (fun hl => hr ▸ hl)

theorem State.Follows.serveSpeedLimits {g : SpeedGroup} (h : a.Follows w s) :
    a.Follows w (serveSpeedLimits g s).1 := by
  have grouped : a.Follows w (s.setCfg { s.cfg with speeds := g, speedsSet := true }) := h.setGroup
  exact .iteServed h (.iteServed h grouped.setGov.leaveUnconfigured.taken)

/-- A piece of 32 entries takes the place of 32 entries. -/
theorem Settings.withPiece_table_length {c : Settings} {piece : Nat} {entries : List Nat} (hp : piece ≤ 3)
    (he : entries.length = 32) (hc : c.table.length = 128) : (c.withPiece piece entries).table.length = 128 := by
  simp only [Settings.withPiece, List.length_append, List.length_take, List.length_drop]
  omega

theorem State.Follows.serveMoveTable {piece : Nat} {entries : List Nat} (h : a.Follows w s)
    (he : w → entries.length = 32) : a.Follows w (serveMoveTable piece entries s).1 := by
  unfold Machine.serveMoveTable
  split
  · exact h
  split
  · exact h
  · rename_i hp
    have placed {loaded : Bool} :
        a.Follows w (s.setCfg { s.cfg.withPiece piece entries with tableLoaded := loaded }) :=
      h.setCfg rfl (fun hw hc => Settings.withPiece_table_length (not_lt.mp hp) (he hw) hc) List.length_set id
    exact .iteServed h placed.leaveUnconfigured.taken

theorem State.Follows.serveThread {g : ThreadGroup} (h : a.Follows w s) : a.Follows w (serveThread g s).1 :=
  .iteServed h.setGroup h

theorem State.Follows.servePacing {g : PacingGroup} (h : a.Follows w s) : a.Follows w (servePacing g s).1 := by
  have grouped : a.Follows w (s.setCfg { s.cfg with pacing := g }) := h.setGroup
  exact .iteServed h (.iteServed h (State.Follows.ite grouped grouped.release).taken)

theorem State.Follows.serveZone {zone active : Nat} {xb yb : Int} {kx ky : Nat} (h : a.Follows w s) :
    a.Follows w (serveZone zone active xb kx yb ky s).1 :=
  .iteServed (h.setFrameSame rfl rfl (List.length_modify ..)) h

theorem mapM_some_length {α β : Type} {f : α → Option β} {l : List α} {r : List β} (h : l.mapM f = some r) :
    r.length = l.length := by
  induction l generalizing r with
  | nil => simp_all
  | cons x l ih =>
    simp only [List.mapM_cons, Option.bind_eq_bind, Option.bind_eq_some_iff, Option.pure_def, Option.some.injEq] at h
    obtain ⟨y, _, ys, hys, rfl⟩ := h
    simp [ih hys]

theorem phasesOf_length {codes : List Nat} {l : List OutSource} (h : phasesOf codes = some l) :
    l.length = codes.length := by
  unfold phasesOf at h
  split at h
  · rename_i hm
    split at h
    · exact Option.some.inj h ▸ mapM_some_length hm
    · cases h
  · cases h

/-- Sixteen new phases change no length when the table had sixteen. -/
theorem State.Follows.setPhases {l : List OutSource} (h : a.Follows w s) (hl : w → l.length = 16) :
    a.Follows w (s.setLink { s.link with phases := l }) where
  pending := h.pending
  straps := h.straps
  slots := h.slots
  link := h.link
  gaps := h.gaps
  steps := h.steps
  queue := h.queue
  shapes hw ha := by
    obtain ⟨h1, h2, h3, h4, h5, h6, h7, h8, h9, _⟩ := (s.shapesRight_iff).mp (h.shapes hw ha)
    exact (State.shapesRight_iff _).mpr ⟨h1, h2, h3, h4, h5, h6, h7, h8, h9, hl hw⟩
  awake := h.awake

theorem State.Follows.serveArbiter {phases : List Nat} (h : a.Follows w s) (hp : w → phases.length = 16) :
    a.Follows w (serveArbiter phases s).1 := by
  unfold Machine.serveArbiter
  split
  · rename_i l hl
    exact (h.setPhases fun hw => (phasesOf_length hl).trans (hp hw)).taken
  · exact h

theorem State.Follows.servePoll {angle period : Nat} (h : a.Follows w s) : a.Follows w (servePoll angle period s).1 :=
  .iteServed h.setGroup h

theorem State.Follows.serveProgress {period : Nat} (h : a.Follows w s) : a.Follows w (serveProgress period s).1 := by
  have clamped : a.Follows w (s.setCfg { s.cfg with progressPeriod := min period 1000 }) :=
    h.setCfg rfl (fun _ => id) rfl fun _ => min_le_right ..
  exact clamped.clearProgress

end Configure

/-! ## Replies -/

section Replies

variable {w : Prop} {a s : State}

theorem Link.answer_length (l : Link) (r : Reply) : (l.answer r).replies.length = l.replies.length := by
  simp [Link.answer]

/-- Writing a reply into its place takes no place more. -/
theorem State.Follows.answer {r : Reply} (h : a.Follows w s) : a.Follows w (s.setLink (s.link.answer r)) :=
  h.setLink ⟨rfl, rfl⟩ rfl fun hl => by
    obtain ⟨h1, h2, h3, h4, h5, h6, h7, h8, h9⟩ := (s.linkRight_iff).mp hl
    exact (State.linkRight_iff _).mpr ⟨(s.link.answer_length r).trans_le h1, h2, h3, h4, h5, h6, h7, h8, h9⟩

theorem State.Follows.deliver {r : Served} (h : a.Follows w r.1) : a.Follows w (State.deliver r) := by
  unfold State.deliver
  split
  · exact h.answer
  · exact h

/-- A place is reserved while one of the four is free (R161). -/
theorem State.Follows.reserve {tag : Byte} (h : a.Follows w s) (hr : s.link.replies.length < 4) :
    a.Follows w (s.setLink (s.link.reserve tag)) :=
  h.setLink ⟨rfl, rfl⟩ rfl fun hl => by
    obtain ⟨_, h2, h3, h4, h5, h6, h7, h8, h9⟩ := (s.linkRight_iff).mp hl
    exact (State.linkRight_iff _).mpr ⟨by simpa [Link.reserve] using hr, h2, h3, h4, h5, h6, h7, h8, h9⟩

theorem State.Follows.takeAddressed {tag : Byte} {owner : State → Served} (h : a.Follows w s)
    (ho : ∀ t, a.Follows w t → a.Follows w (owner t).1) : a.Follows w (s.takeAddressed tag owner) := by
  unfold State.takeAddressed
  split
  · exact h
  · rename_i hr
    have room : s.link.replies.length < 4 := by
      rw [Bool.or_eq_true, not_or, decide_eq_true_eq] at hr
      exact not_le.mp hr.2
    exact .ite (h.reserve room).deliver (ho _ (h.reserve room)).deliver

theorem State.Follows.takeRequest {src : Sender} {owner : State → Served} (h : a.Follows w s)
    (ho : ∀ t, a.Follows w t → a.Follows w (owner t).1) : a.Follows w (s.takeRequest src owner) := by
  cases src with
  | addressed tag => exact h.takeAddressed ho
  | broadcast => exact h

theorem State.Follows.takeBoth {src : Sender} {owner : State → Served} (h : a.Follows w s)
    (ho : ∀ t, a.Follows w t → a.Follows w (owner t).1) : a.Follows w (s.takeBoth src owner) := by
  cases src with
  | addressed tag => exact h.takeAddressed ho
  | broadcast => exact .ite h (ho s h)

theorem State.Follows.beginReset {src : Sender} (h : a.Follows w s) : a.Follows w (s.beginReset src) := by
  have noted : a.Follows w (s.setLink { s.link with resetBy := some src }) := h.setLink ⟨rfl, rfl⟩ rfl id
  have stopped {t : State} (ht : a.Follows w t) : a.Follows w (if t.run.state = .running then t.stopOrder .host else t) :=
    .ite ht.stopOrder ht
  exact (State.Follows.ite (stopped noted).askTravelStop (stopped noted)).finish

theorem State.Follows.serveReset {src : Sender} {mode : Nat} (h : a.Follows w s) :
    a.Follows w (serveReset src mode s).1 :=
  .iteServed h (.iteServed h.beginReset h.resetEffect.finish)

/-- CLEAR HALT returns to the recorded state, which is not HALTED. -/
theorem State.Follows.serveClearHalt (h : a.Follows w s) : a.Follows w (serveClearHalt s).1 := by
  have back {t : State} (ht : a.Follows w t) : a.Follows w (t.setRun { t.run with
      state := t.run.haltReturn.getD .idle, haltReturn := none }) :=
    ht.setRun rfl fun ⟨_, h2, h3, h4⟩ => ⟨getD_ne_halted h2 nofun, nofun, h3, h4⟩
  unfold Machine.serveClearHalt
  split
  · split
    · exact h
    · dsimp only
      have joined {c : Prop} [Decidable c] {t : State} (ht : a.Follows w t) :
          a.Follows w (if c then t.applyAcked.resolveJoins else t.applyAcked) :=
        .ite ht.applyAcked.resolveJoins ht.applyAcked
      have posted {c : Prop} [Decidable c] {t : State} {v : Nat} (ht : a.Follows w t) :
          a.Follows w (if c then t.post .stopped 0 v else t) := .ite ht.post ht
      exact (posted (joined (back h.modLockout))).endPatchIfEmpty.finish.taken
  · exact h

end Replies

/-! ## The line -/

section Line

/-- The part of the Link Interface that reception keeps: with at most 308 bytes assembled, two buffers and a bounded
error count. -/
structure Link.Receives (l m : Link) : Prop where
  rest : m = { l with
    assembling := m.assembling, escaped := m.escaped, flagSeen := m.flagSeen, errors := m.errors, buffers := m.buffers }
  assembling : l.assembling.length ≤ 308 → m.assembling.length ≤ 308
  errors : l.errors ≤ 65535 → m.errors ≤ 65535
  buffers : l.buffers.length ≤ 2 → m.buffers.length ≤ 2

theorem Link.Receives.refl (l : Link) : l.Receives l := ⟨rfl, id, id, id⟩

theorem Link.Receives.trans {l m n : Link} (h : l.Receives m) (k : m.Receives n) : l.Receives n :=
  ⟨by rw [k.rest, h.rest], k.assembling ∘ h.assembling, k.errors ∘ h.errors, k.buffers ∘ h.buffers⟩

theorem Link.addByte_receives (l : Link) (b : Byte) : l.Receives (l.addByte b) := by
  refine ⟨rfl, fun h => ?_, id, id⟩
  by_cases hroom : l.assembling.length < 308
  · simp [Link.addByte, contentCut, hroom]
  · simpa [Link.addByte, contentCut, hroom] using h

theorem Link.receive_receives (l : Link) (b : Byte) : l.Receives (l.receive b) := by
  unfold Link.receive
  split
  · exact .refl l
  split
  · exact l.addByte_receives _
  split
  · exact ⟨rfl, id, id, id⟩
  · exact l.addByte_receives _

theorem Link.receiveAll_receives (l : Link) (bytes : List Byte) : l.Receives (bytes.foldl Link.receive l) := by
  induction bytes generalizing l with
  | nil => exact .refl l
  | cons b bytes ih => exact (l.receive_receives b).trans (ih _)

theorem Link.countError_receives (l : Link) : l.Receives l.countError := ⟨rfl, id, fun _ => Nat.min_le_left .., id⟩

theorem Link.opened_receives (l : Link) : l.Receives l.opened := ⟨rfl, fun _ => Nat.zero_le _, id, id⟩

theorem Link.check_receives (l : Link) (content : List Byte) : l.Receives (l.check content) := by
  unfold Link.check
  split
  · exact l.countError_receives
  split
  · exact l.countError_receives
  split
  · exact .refl l
  split
  · exact l.countError_receives
  · rename_i hfull
    refine ⟨rfl, id, id, fun _ => ?_⟩
    simp only [Config.receiveBuffers] at hfull
    simp; omega

theorem Link.flag_receives (l : Link) : l.Receives l.flag := by
  unfold Link.flag
  split
  · exact l.opened_receives
  · exact (l.check_receives _).trans (Link.opened_receives _)

/-- What sending keeps: the capacities, straps and phases. -/
structure Link.Sends (l m : Link) : Prop where
  straps : m.rateStraps = l.rateStraps ∧ m.addressStraps = l.addressStraps
  phases : m.phases = l.phases
  replies : m.replies.length ≤ l.replies.length
  events : m.events.length ≤ l.events.length
  kept : m.buffers = l.buffers ∧ m.errors = l.errors ∧ m.assembling = l.assembling ∧ m.progressCount = l.progressCount
  pointer : 1 ≤ l.pointer ∧ l.pointer ≤ 16 → 1 ≤ m.pointer ∧ m.pointer ≤ 16

theorem Link.Sends.refl (l : Link) : l.Sends l := ⟨⟨rfl, rfl⟩, rfl, le_rfl, le_rfl, ⟨rfl, rfl, rfl, rfl⟩, id⟩

theorem Link.sendFrom_sends (l : Link) (src : OutSource) : l.Sends (l.sendFrom src) := by
  cases src with
  | reply =>
    unfold Link.sendFrom
    dsimp only
    split
    · rename_i hr
      split
      · exact ⟨⟨rfl, rfl⟩, rfl, by simp [Link.send, hr], le_rfl, ⟨rfl, rfl, rfl, rfl⟩, id⟩
      · exact .refl l
    · exact .refl l
  | event =>
    unfold Link.sendFrom
    dsimp only
    split
    · rename_i he
      exact ⟨⟨rfl, rfl⟩, rfl, le_rfl, by simp [Link.send, he], ⟨rfl, rfl, rfl, rfl⟩, id⟩
    · exact .refl l
  | grant =>
    unfold Link.sendFrom
    dsimp only
    split
    · exact ⟨⟨rfl, rfl⟩, rfl, le_rfl, le_rfl, ⟨rfl, rfl, rfl, rfl⟩, id⟩
    · exact .refl l
  | progress =>
    unfold Link.sendFrom
    dsimp only
    split
    · exact ⟨⟨rfl, rfl⟩, rfl, le_rfl, le_rfl, ⟨rfl, rfl, rfl, rfl⟩, id⟩
    · exact .refl l

/-- The phase after one of the table's is one of the table's: 1 to 16. -/
theorem nextPhase_bounds (n : Nat) : 1 ≤ nextPhase n ∧ nextPhase n ≤ 16 := by
  unfold nextPhase
  split <;> omega

theorem Link.walkBy_sends (l : Link) (ready : OutSource → Bool) : l.Sends (l.walkBy ready) := by
  unfold Link.walkBy
  split
  · rename_i n src _
    obtain ⟨h1, h2, h3, h4, h5, _⟩ := l.sendFrom_sends src
    exact ⟨h1, h2, h3, h4, h5, fun _ => nextPhase_bounds n⟩
  · exact .refl l

theorem Link.outbound_sends (l : Link) : l.Sends l.outbound := by
  unfold Link.outbound
  split
  · exact .refl l
  split
  · exact l.walkBy_sends _
  split
  · exact l.sendFrom_sends _
  · exact l.walkBy_sends _

variable {w : Prop} {a s : State}

theorem State.Follows.received {l : Link} (h : a.Follows w s) (hl : s.link.Receives l) : a.Follows w (s.setLink l) := by
  obtain ⟨rest, ha, he, hb⟩ := hl
  rw [rest]
  refine h.setLink ⟨rfl, rfl⟩ rfl fun hs => ?_
  obtain ⟨h1, h2, h3, h4, h5, h6, h7, h8, h9⟩ := (s.linkRight_iff).mp hs
  exact (State.linkRight_iff _).mpr ⟨h1, h2, hb h3, he h4, ha h5, h6, h7, h8, h9⟩

theorem State.Follows.sent {l : Link} (h : a.Follows w s) (hl : s.link.Sends l) : a.Follows w (s.setLink l) := by
  obtain ⟨straps, phases, replies, events, ⟨kb, ke, ka, kp⟩, pointer⟩ := hl
  refine h.setLink straps (congrArg _ phases) fun hs => ?_
  obtain ⟨h1, h2, h3, h4, h5, h6, h7, h8, h9⟩ := (s.linkRight_iff).mp hs
  refine (State.linkRight_iff _).mpr ⟨replies.trans h1, events.trans h2, ?_, ?_, ?_, (pointer ⟨h6, h7⟩).1,
    (pointer ⟨h6, h7⟩).2, ?_, h9⟩
  · exact (congrArg List.length kb).trans_le h3
  · exact ke.trans_le h4
  · exact (congrArg List.length ka).trans_le h5
  · exact kp.trans_le h8

/-- A frame leaves its receive buffer. -/
theorem State.Follows.unbuffer {f : InFrame} {rest : List InFrame} (h : a.Follows w s)
    (hb : s.link.buffers = f :: rest) : a.Follows w (s.setLink { s.link with buffers := rest }) :=
  h.received ⟨rfl, id, id, fun hl => by
    rw [hb] at hl
    exact (Nat.le_succ _).trans hl⟩

/-! ## Decoding -/

/-- A request whose lists have the lengths that its body gives them. -/
def Request.Sized : Request → Prop
  | .configureMoveTable _ entries => entries.length = 32
  | .configureArbiter phases => phases.length = 16
  | _ => True

theorem settingOf_sized (b : List Byte) : (settingOf b).Sized := by
  unfold settingOf
  split <;> simp [Request.Sized]

theorem configureOf_sized (b : List Byte) : (configureOf b).Sized := by
  unfold configureOf
  dsimp only
  split
  · trivial
  split
  · trivial
  split
  · trivial
  · exact settingOf_sized b

/-- A decoded request whose lists have the lengths that its body gives them. -/
def Decoded.Sized : Decoded → Prop
  | .request r => r.Sized
  | _ => True

theorem withBody_sized {b : List Byte} {n : Nat} {q : Request} (hq : q.Sized) : (withBody b n q).Sized := by
  unfold withBody
  split
  · trivial
  · exact hq

theorem decodeRequest_sized (cls : Nat) (b : List Byte) : (decodeRequest cls b).Sized := by
  unfold decodeRequest
  split
  case h_30 => exact withBody_sized (configureOf_sized b)
  case h_9 | h_10 | h_11 | h_12 | h_13 | h_17 | h_18 | h_19 | h_20 | h_21 | h_23 | h_24 | h_25 | h_26 | h_27 | h_29 =>
    exact withBody_sized trivial
  all_goals trivial

theorem State.Follows.serve {src : Sender} {r : Request} (h : a.Follows w s) (hr : w → r.Sized) :
    a.Follows w (serve src r s).1 := by
  cases r with
  | openDesign => exact h.serveOpenDesign
  | designBlock body => exact h.serveDesignBlock
  | discardDesign => exact h.serveDiscardDesign
  | start => exact h.serveStart
  | resume => exact h.serveResume
  | stop => exact h.serveStop
  | step => exact h.serveStep
  | clearHalt => exact h.serveClearHalt
  | runToMark label => exact h.serveRunToMark
  | setMode mode => exact h.serveSetMode
  | headOn head => exact h.serveHeadOn
  | headOff head => exact h.serveHeadOff
  | speedCeiling rpm => exact h.serveSpeedCeiling
  | setOrigin => exact h.serveSetOrigin
  | homeFrame => exact h.serveHomeFrame
  | referenceShaft => exact h.serveReferenceShaft
  | moveFrame dx dy => exact h.serveMoveFrame
  | mapColour slot needles => exact h.serveMapColour
  | bobbinSet head count => exact h.serveBobbinSet
  | setPolicy policy => exact h.serveSetPolicy
  | repairDone head => exact h.serveRepairDone
  | sewGaps => exact h.serveSewGaps
  | abandonGap head => exact h.serveAbandonGap
  | back n => exact h.serveBack
  | forward n => exact h.serveForward
  | status selection => exact h.serveStatus
  | readHead head => exact h.serveReadHead
  | readGaps => exact h
  | reset mode => exact h.serveReset
  | configureMachine g => exact h.serveMachine
  | configureSpeedLimits g => exact h.serveSpeedLimits
  | configureMoveTable piece entries => exact h.serveMoveTable hr
  | configureThread g => exact h.serveThread
  | configurePacing g => exact h.servePacing
  | configureZone zone active xb kx yb ky => exact h.serveZone
  | configureArbiter phases => exact h.serveArbiter hr
  | configurePoll angle period => exact h.servePoll
  | configureProgress period => exact h.serveProgress
  | configurePolicy policy => exact h.serveSetPolicy
  | configureMode mode => exact h.serveSetMode
  | configureReadBack group number => exact h.serveReadBack
  | configureShort => exact h

theorem State.Follows.decodeBroadcast {f : InFrame} (h : a.Follows w s) : a.Follows w (s.decodeBroadcast f) := by
  unfold State.decodeBroadcast
  split
  · exact h.takeBoth fun _ ht => ht.serveStop
  · exact h.takeBoth fun _ ht => ht.serveReset
  · exact h

theorem State.Follows.decodeAddressed {f : InFrame} (h : a.Follows w s) (hr : s.link.replies.length < 4) :
    a.Follows w (s.decodeAddressed f) := by
  unfold State.decodeAddressed
  have reserved : a.Follows w (s.setLink (s.link.reserve f.tag)) := h.reserve hr
  dsimp only
  split
  · exact reserved.deliver
  · exact reserved.deliver
  · rename_i r hd
    have sized : r.Sized := (hd ▸ decodeRequest_sized f.cls f.body : (Decoded.request r).Sized)
    exact .ite reserved.deliver (reserved.serve fun _ => sized).deliver

end Line

end Sys2Proof.Machine

/-!
`exec` and `step` as a whole, and the invariants of capacities, scales and shapes (O2, O4 to O9, O11, O12).
-/

namespace Sys2Proof.Machine

set_option Elab.async false

/-! ## The commands whose meaning stands in `exec…` itself -/

section Events

variable {w : Prop} {a s : State}

theorem execRequestDecode_follows (h : a.Follows w s) : ∃ t, execRequestDecode s = .next t ∧ a.Follows w t := by
  refine ⟨_, rfl, ?_⟩
  split
  · exact h
  · rename_i f rest hb
    split
    · exact (h.unbuffer hb).decodeBroadcast
    · split
      · rename_i hr
        exact (h.unbuffer hb).decodeAddressed hr
      · exact h

theorem execIndexPulse_follows (h : a.Follows w s) : ∃ t, execIndexPulse s = .next t ∧ a.Follows w t :=
  ⟨_, rfl, .ite (.ite h.restartStall.indexFound.finish h.restartStall.setShaft)
    (.ite h.restartStall.indexCorrects h.restartStall.setShaft.stall.finish)⟩

theorem execShaftRestDeclared_follows (h : a.Follows w s) :
    ∃ t, execShaftRestDeclared s = .next t ∧ a.Follows w t := by
  refine ⟨_, rfl, .ite ?_ h⟩
  split
  case h_1 => exact h.stopRests.finish
  case h_2 => exact h.referencingRests.finish
  all_goals exact h

theorem execTravelSegmentComplete_follows (h : a.Follows w s) :
    ∃ t, execTravelSegmentComplete s = .next t ∧ a.Follows w t := by
  refine ⟨_, rfl, ?_⟩
  split
  · exact .ite h.completeSegment.finish h
  · exact h

theorem execHomeSensorChange_follows {axis : AxisName} {active : Bool} (h : a.Follows w s) :
    ∃ t, execHomeSensorChange axis active s = .next t ∧ a.Follows w t := by
  refine ⟨_, rfl, ?_⟩
  split
  · exact .ite h.setSensor.sensorSeen h.setSensor
  · exact h.setSensor

theorem execHomeBackoffDone_follows (h : a.Follows w s) :
    ∃ t, execHomeBackoffDone s = .next t ∧ a.Follows w t := by
  refine ⟨_, rfl, ?_⟩
  split
  · exact .ite h.homingTo h
  · exact h

theorem execHomingTimeout_follows (h : a.Follows w s) : ∃ t, execHomingTimeout s = .next t ∧ a.Follows w t := by
  refine ⟨_, rfl, ?_⟩
  split
  · exact .ite h h.endHoming.post.finish
  · exact h

theorem execHeadAnswer_follows {head : Nat} {checkOk : Bool} {record : StatusRecord} (h : a.Follows w s) :
    ∃ t, execHeadAnswer head checkOk record s = .next t ∧ a.Follows w t := by
  refine ⟨_, rfl, ?_⟩
  split
  · exact h
  · refine .ite h (.ite h.endTransaction.modLink.answered.finish (State.Follows.finish ?_))
    exact .ite h.endTransaction.storeRecord h.endTransaction

theorem execHeadAttemptTimeout_follows (h : a.Follows w s) :
    ∃ t, execHeadAttemptTimeout s = .next t ∧ a.Follows w t := by
  refine ⟨_, rfl, ?_⟩
  split
  · exact h
  · exact (State.Follows.ite h.timedOut h.endTransaction).finish

theorem moveTable_wf_length {src : Sender} {piece : Nat} {entries : List Nat}
    (h : (Instr.configureMoveTable src piece entries).wf = true) : entries.length = 32 := by
  simp only [Instr.wf, Bool.and_eq_true, beq_iff_eq] at h
  exact h.1.2

theorem arbiter_wf_length {src : Sender} {phases : List Nat}
    (h : (Instr.configureArbiter src phases).wf = true) : phases.length = 16 := by
  simp only [Instr.wf, Bool.and_eq_true, beq_iff_eq] at h
  exact h.1

end Events

/-! ## Every command -/

/-- Neither POWER_ON, which makes the state anew, nor ESTOP_ASSERT, which makes a run HALTED. -/
def goesOn : Instr → Bool
  | .powerOn .. => false
  | .estopAssert .. => false
  | _ => true

/-- What a command that goes on from its state keeps. -/
theorem exec_follows {w : Prop} {a s : State} {c : Instr} (hc : goesOn c = true) (hw : w → c.wf = true)
    (h : a.Follows w s) : ∃ t, exec c s = .next t ∧ a.Follows w t := by
  cases c with
  | powerOn rateStraps addressStraps hostReady estop homeX homeY => cases hc
  | frameClose bytes => exact ⟨_, rfl, h.received ((Link.receiveAll_receives _ _).trans (Link.flag_receives _))⟩
  | frameAbort bytes =>
    exact ⟨_, rfl, h.received (((Link.receiveAll_receives _ _).trans (Link.receive_receives _ _)).trans
      (Link.flag_receives _))⟩
  | requestDecode => exact execRequestDecode_follows h
  | openDesign src => exact ⟨_, rfl, h.takeRequest fun _ ht => ht.serveOpenDesign⟩
  | designBlock src body => exact ⟨_, rfl, h.takeRequest fun _ ht => ht.serveDesignBlock⟩
  | discardDesign src => exact ⟨_, rfl, h.takeRequest fun _ ht => ht.serveDiscardDesign⟩
  | start src => exact ⟨_, rfl, h.takeRequest fun _ ht => ht.serveStart⟩
  | resume src => exact ⟨_, rfl, h.takeRequest fun _ ht => ht.serveResume⟩
  | stop src => exact ⟨_, rfl, h.takeBoth fun _ ht => ht.serveStop⟩
  | step src => exact ⟨_, rfl, h.takeRequest fun _ ht => ht.serveStep⟩
  | clearHalt src => exact ⟨_, rfl, h.takeRequest fun _ ht => ht.serveClearHalt⟩
  | runToMark src label => exact ⟨_, rfl, h.takeRequest fun _ ht => ht.serveRunToMark⟩
  | setMode src mode => exact ⟨_, rfl, h.takeRequest fun _ ht => ht.serveSetMode⟩
  | headOn src head => exact ⟨_, rfl, h.takeRequest fun _ ht => ht.serveHeadOn⟩
  | headOff src head => exact ⟨_, rfl, h.takeRequest fun _ ht => ht.serveHeadOff⟩
  | speedCeiling src rpm => exact ⟨_, rfl, h.takeRequest fun _ ht => ht.serveSpeedCeiling⟩
  | setOrigin src => exact ⟨_, rfl, h.takeRequest fun _ ht => ht.serveSetOrigin⟩
  | homeFrame src => exact ⟨_, rfl, h.takeRequest fun _ ht => ht.serveHomeFrame⟩
  | referenceShaft src => exact ⟨_, rfl, h.takeRequest fun _ ht => ht.serveReferenceShaft⟩
  | moveFrame src dx dy => exact ⟨_, rfl, h.takeRequest fun _ ht => ht.serveMoveFrame⟩
  | mapColour src slot needles => exact ⟨_, rfl, h.takeRequest fun _ ht => ht.serveMapColour⟩
  | bobbinSet src head count => exact ⟨_, rfl, h.takeRequest fun _ ht => ht.serveBobbinSet⟩
  | setPolicy src policy => exact ⟨_, rfl, h.takeRequest fun _ ht => ht.serveSetPolicy⟩
  | repairDone src head => exact ⟨_, rfl, h.takeRequest fun _ ht => ht.serveRepairDone⟩
  | sewGaps src => exact ⟨_, rfl, h.takeRequest fun _ ht => ht.serveSewGaps⟩
  | abandonGap src head => exact ⟨_, rfl, h.takeRequest fun _ ht => ht.serveAbandonGap⟩
  | back src n => exact ⟨_, rfl, h.takeRequest fun _ ht => ht.serveBack⟩
  | forward src n => exact ⟨_, rfl, h.takeRequest fun _ ht => ht.serveForward⟩
  | status src selection => exact ⟨_, rfl, h.takeRequest fun _ ht => ht.serveStatus⟩
  | readHead src head => exact ⟨_, rfl, h.takeRequest fun _ ht => ht.serveReadHead⟩
  | readGaps src => exact ⟨_, rfl, h.takeRequest fun _ ht => ht⟩
  | reset src mode => exact ⟨_, rfl, h.takeBoth fun _ ht => ht.serveReset⟩
  | configureMachine src group => exact ⟨_, rfl, h.takeRequest fun _ ht => ht.serveMachine⟩
  | configureSpeedLimits src group => exact ⟨_, rfl, h.takeRequest fun _ ht => ht.serveSpeedLimits⟩
  | configureMoveTable src piece entries =>
    exact ⟨_, rfl, h.takeRequest fun _ ht => ht.serveMoveTable fun hx => moveTable_wf_length (hw hx)⟩
  | configureThread src group => exact ⟨_, rfl, h.takeRequest fun _ ht => ht.serveThread⟩
  | configurePacing src group => exact ⟨_, rfl, h.takeRequest fun _ ht => ht.servePacing⟩
  | configureZone src zone active xBase kx yBase ky => exact ⟨_, rfl, h.takeRequest fun _ ht => ht.serveZone⟩
  | configureArbiter src phases =>
    exact ⟨_, rfl, h.takeRequest fun _ ht => ht.serveArbiter fun hx => arbiter_wf_length (hw hx)⟩
  | configurePoll src angle period => exact ⟨_, rfl, h.takeRequest fun _ ht => ht.servePoll⟩
  | configureProgress src period => exact ⟨_, rfl, h.takeRequest fun _ ht => ht.serveProgress⟩
  | configurePolicy src policy => exact ⟨_, rfl, h.takeRequest fun _ ht => ht.serveSetPolicy⟩
  | configureMode src mode => exact ⟨_, rfl, h.takeRequest fun _ ht => ht.serveSetMode⟩
  | configureReadBack src group number => exact ⟨_, rfl, h.takeRequest fun _ ht => ht.serveReadBack⟩
  | outboundWalk => exact ⟨_, rfl, h.sent (Link.outbound_sends _)⟩
  | hostReadyChange level => exact ⟨_, rfl, h.setLink ⟨rfl, rfl⟩ rfl id⟩
  | encoderCount forward => exact ⟨_, rfl, State.Follows.ite h.countForward h.countReverse⟩
  | indexPulse => exact execIndexPulse_follows h
  | shaftRestDeclared => exact execShaftRestDeclared_follows h
  | stallTimerExpiry => exact ⟨_, rfl, State.Follows.ite h.stall.finish h⟩
  | estopAssert xSteps ySteps => cases hc
  | estopNegate => exact ⟨_, rfl, h.setShaft⟩
  | warningHoldExpiry => exact ⟨_, rfl, State.Follows.ite h.doing.finish h⟩
  | stitchMoveComplete => exact ⟨_, rfl, State.Follows.ite h.completeMove.finish h⟩
  | travelSegmentComplete => exact execTravelSegmentComplete_follows h
  | reseatComplete axis => exact ⟨_, rfl, State.Follows.ite h.completeReseat.finish h⟩
  | homeSensorChange axis active => exact execHomeSensorChange_follows h
  | homeBackoffDone => exact execHomeBackoffDone_follows h
  | homingTimeout => exact execHomingTimeout_follows h
  | headAnswer head checkOk record => exact execHeadAnswer_follows h
  | headAttemptTimeout => exact execHeadAttemptTimeout_follows h
  | restTimerExpiry => exact ⟨_, rfl, State.Follows.ite h.roundDue.setBusSame.finish h⟩
  | trimTimerExpiry head => exact ⟨_, rfl, h.trimExpired.finish⟩
  | caseTimerExpiry head => exact ⟨_, rfl, h.caseExpired.finish⟩
  | firstFlagAfterPowerOn bytes =>
    exact ⟨_, rfl, State.Follows.ite h (h.received ((Link.receiveAll_receives _ _).trans (Link.flag_receives _)))⟩

theorem State.Follows.meets_of_halted {w : Prop} {a t : State}
    (h : (a.setRun { a.run with state := .halted }).Follows w t) : a.Meets w t :=
  ⟨h.pending, h.straps, h.slots, h.link, h.gaps, h.steps, h.queue, h.shapes⟩

/-- A run becomes HALTED, which asks nothing of the run states when the state before is not asked to be out of it. -/
theorem State.Follows.enterHalt {w : Prop} {a s : State} (h : a.Follows w s) (ha : ¬ a.run.Awake) :
    a.Follows w s.enterHalt where
  pending := h.pending
  straps := h.straps
  slots := h.slots
  link := h.link
  gaps := h.gaps
  steps := h.steps
  queue := h.queue
  shapes := h.shapes
  awake := fun hr => absurd hr ha

theorem State.Follows.haltShaft {w : Prop} {a s : State} (h : a.Follows w s) : a.Follows w s.haltShaft :=
  h.brakeAtOnce.modLockout

theorem State.Follows.emergencyStop {w : Prop} {a s : State} {nx ny : Nat} (h : a.Follows w s)
    (ha : ¬ a.run.Awake) : a.Follows w (s.emergencyStop nx ny) :=
  (h.haltShaft.govAtRest.haltFrame.enterHalt ha).clearWork.post.pendingReset

/-- An emergency stop keeps every capacity, scale and shape. -/
theorem State.emergencyStop_finish_meets (w : Prop) (s : State) (nx ny : Nat) :
    s.Meets w (s.emergencyStop nx ny) ∧ s.Meets w (s.emergencyStop nx ny).finish := by
  have halted : (s.setRun { s.run with state := .halted }).Follows w s :=
    ⟨⟨rfl, ⟨rfl, rfl⟩, id, id, id, id, id, fun _ => id⟩, fun hr => absurd rfl hr.state⟩
  have stopped := halted.emergencyStop (nx := nx) (ny := ny) fun hr => absurd rfl hr.state
  exact ⟨stopped.meets_of_halted, stopped.finish.meets_of_halted⟩

theorem State.setEstop_meets (w : Prop) (s : State) (level : Bool) :
    s.Meets w (s.setShaft { s.shaft with estop := level }) :=
  (State.Follows.refl w s).setShaft.toMeets

theorem State.Meets.trans {w : Prop} {a s t : State} (h : a.Meets w s) (k : s.Meets w t) : a.Meets w t :=
  ⟨k.pending.trans h.pending, ⟨k.straps.1.trans h.straps.1, k.straps.2.trans h.straps.2⟩, k.slots ∘ h.slots,
    k.link ∘ h.link, k.gaps ∘ h.gaps, k.steps ∘ h.steps, k.queue ∘ h.queue, fun hw => k.shapes hw ∘ h.shapes hw⟩

theorem execEstopAssert_meets (w : Prop) (s : State) (nx ny : Nat) :
    ∃ t, execEstopAssert nx ny s = .next t ∧ s.Meets w t := by
  refine ⟨_, rfl, ?_⟩
  split
  · exact s.setEstop_meets w true
  · exact (s.setEstop_meets w true).trans (State.emergencyStop_finish_meets w _ nx ny).2

/-! ## Power-on -/

/-- Every invariant of capacities, scales and shapes. -/
structure State.Right (s : State) : Prop where
  slots : s.slotsRight = true
  link : s.linkRight = true
  gaps : s.gapsRight
  steps : s.stepsRight
  queue : s.queueRight = true
  shapes : s.shapesRight = true

theorem State.Meets.right {a s : State} (h : a.Meets True s) (ha : a.Right) : s.Right :=
  ⟨h.slots ha.slots, h.link ha.link, h.gaps ha.gaps, h.steps ha.steps, h.queue ha.queue, h.shapes trivial ha.shapes⟩

theorem State.atPowerOn_right (rate addr : Nat) (ready homeX homeY : Bool) (p : List Instr) (n : Nat) :
    (((State.atPowerOn rate addr ready homeX homeY).setPending p).setFree n).Right where
  slots := rfl
  link := rfl
  gaps := ⟨Nat.zero_le _, fun _ => ⟨Nat.zero_le _, Nat.zero_le _⟩⟩
  steps := ⟨⟨nofun, nofun⟩, ⟨nofun, nofun⟩⟩
  queue := rfl
  shapes := (State.shapesRight_iff _).mpr ⟨rfl, rfl, rfl, rfl, by simp [State.atPowerOn, defaultMap], fun row hrow => by
    obtain ⟨_, _, rfl⟩ := List.mem_map.mp hrow
    rfl, rfl, List.length_replicate, rfl, rfl⟩

/-- POWER_ON makes a right state with the straps read, and leaves the queue alone. -/
theorem execPowerOn_right (rate addr : Nat) (ready estop homeX homeY : Bool) (s : State) :
    ∃ t, execPowerOn rate addr ready estop homeX homeY s = .next t ∧ t.pending = s.pending ∧ t.Right ∧
      t.link.rateStraps = rate ∧ t.link.addressStraps = addr := by
  refine ⟨_, rfl, ?_⟩
  have right := State.atPowerOn_right rate addr ready homeX homeY s.pending s.free
  cases estop with
  | false => exact ⟨rfl, right, rfl, rfl⟩
  | true =>
    have met := (State.setEstop_meets True (((State.atPowerOn rate addr ready homeX homeY).setPending s.pending).setFree
      s.free) true).trans (State.emergencyStop_finish_meets True _ 0 0).1
    exact ⟨met.pending, met.right right, met.straps⟩

/-! ## Steps -/

/-- What a command does to a state: it makes one that meets what the state meets, or a right one. -/
theorem exec_meets (w : Prop) (c : Instr) (s : State) (hw : w → c.wf = true) :
    ∃ t, exec c s = .next t ∧ t.pending = s.pending ∧ (s.Meets w t ∨ t.Right) := by
  cases hc : goesOn c with
  | true =>
    obtain ⟨t, ht, h⟩ := exec_follows hc hw (.refl w s)
    exact ⟨t, ht, h.pending, .inl h.toMeets⟩
  | false =>
    cases c with
    | powerOn rate addr ready estop homeX homeY =>
      obtain ⟨t, ht, hp, hr, _⟩ := execPowerOn_right rate addr ready estop homeX homeY s
      exact ⟨t, ht, hp, .inr hr⟩
    | estopAssert nx ny =>
      obtain ⟨t, ht, h⟩ := execEstopAssert_meets w s nx ny
      exact ⟨t, ht, h.pending, .inl h⟩
    | _ => cases hc

/-- What a step does to a state; the queue of waiting commands is read by no invariant. -/
theorem step_meets {w : Prop} {s t : State} (hw : w → ∀ c ∈ s.pending, c.wf = true) (h : step s = .next t) :
    (∃ p, (s.setPending p).Meets w t) ∨ t.Right := by
  unfold step at h
  split at h
  · cases h
    exact .inl ⟨s.pending, (State.Follows.refl w s).toMeets⟩
  · rename_i c rest hp
    obtain ⟨t', ht', _, hm⟩ := exec_meets w c (s.setPending rest) fun hx => hw hx c (hp ▸ List.mem_cons_self ..)
    obtain rfl : t' = t := by
      rw [h] at ht'
      cases ht'
      rfl
    exact hm.imp (fun hm => ⟨rest, hm⟩) id

end Sys2Proof.Machine

namespace Sys2Proof.Machine

set_option Elab.async false

/-! ## The obligations -/

/-- Settles O2: each arm of `exec` answers a next state, and none of the operations touches the queue. -/
theorem everyCommandAnswersNext : Obligations.EveryCommandAnswersNext := by
  intro c s
  obtain ⟨t, ht, hp, _⟩ := exec_meets False c s nofun
  exact ⟨t, ht, hp⟩

/-- Settles O4, by the projection of what every command keeps. -/
theorem strapsReadOnlyAtPowerOn : Obligations.StrapsReadOnlyAtPowerOn := by
  intro c s t h
  cases hc : goesOn c with
  | true =>
    obtain ⟨t', ht', hf⟩ := exec_follows (w := False) hc nofun (.refl False s)
    cases h.symm.trans ht'
    refine ⟨fun _ _ _ _ _ _ e => ?_, fun _ => hf.straps⟩
    rw [e] at hc
    cases hc
  | false =>
    cases c with
    | powerOn rate addr ready estop homeX homeY =>
      obtain ⟨t', ht', _, _, hs⟩ := execPowerOn_right rate addr ready estop homeX homeY s
      cases h.symm.trans ht'
      refine ⟨fun _ _ _ _ _ _ e => ?_, fun hn => (hn _ _ _ _ _ _ rfl).elim⟩
      cases e
      exact hs
    | estopAssert nx ny =>
      obtain ⟨t', ht', hm⟩ := execEstopAssert_meets False s nx ny
      cases h.symm.trans ht'
      exact ⟨nofun, fun _ => hm.straps⟩
    | _ => cases hc

/-- Settles O5. -/
theorem slotsAndGrantsStayWithin32 : Obligations.SlotsAndGrantsStayWithin32 := fun _ _ hs h =>
  (step_meets (w := False) nofun h).elim (fun ⟨_, hm⟩ => hm.slots hs) State.Right.slots

/-- Settles O6. -/
theorem linkCapacitiesKept : Obligations.LinkCapacitiesKept := fun _ _ hs h =>
  (step_meets (w := False) nofun h).elim (fun ⟨_, hm⟩ => hm.link hs) State.Right.link

/-- Settles O7. -/
theorem gapTableBoundsKept : Obligations.GapTableBoundsKept := fun _ _ hs h =>
  (step_meets (w := False) nofun h).elim (fun ⟨_, hm⟩ => hm.gaps hs) State.Right.gaps

/-- Settles O8. -/
theorem stepCountFollowsPosition : Obligations.StepCountFollowsPosition := fun _ _ hs h =>
  (step_meets (w := False) nofun h).elim (fun ⟨_, hm⟩ => hm.steps hs) State.Right.steps

/-- Settles O9. -/
theorem headBusQueueBoundKept : Obligations.HeadBusQueueBoundKept := fun _ _ hs h =>
  (step_meets (w := False) nofun h).elim (fun ⟨_, hm⟩ => hm.queue hs) State.Right.queue

/-- Settles O11, under the premise that the commands are well formed. -/
theorem listShapesKept : Obligations.ListShapesKept := fun _ _ hw hs h =>
  (step_meets (w := True) (fun _ => hw) h).elim (fun ⟨_, hm⟩ => hm.shapes trivial hs) State.Right.shapes

/-- Settles O12: the state after reset is one power-on. -/
theorem resetMeetsTheInvariants : Obligations.ResetMeetsTheInvariants := by
  obtain ⟨slots, link, gaps, steps, queue, shapes⟩ := State.atPowerOn_right 0 0 false false false [] 0
  exact ⟨slots, link, gaps, steps, queue, ⟨nofun, nofun, nofun, nofun⟩, shapes⟩

end Sys2Proof.Machine

/-!
The operations that change nothing of the run but its head table: `Run.bare` is what they keep of it.
-/

namespace Sys2Proof.Machine

set_option Elab.async false

/-- The run without its head table. -/
def Run.bare (r : Run) : Run := { r with heads := [] }

@[simp] theorem Run.bare_heads (r : Run) (l : List HeadEntry) : ({ r with heads := l } : Run).bare = r.bare := rfl

@[simp] theorem foldl_runBare {β : Type} (f : State → β → State) (h : ∀ s b, (f s b).run.bare = s.run.bare)
    (l : List β) (s : State) : (l.foldl f s).run.bare = s.run.bare := foldl_keeps (fun s => s.run.bare) f h l s

/-- What reads the run without its heads reads the same of two runs with the same bare part. -/
theorem Run.of_bare {r q : Run} (h : r.bare = q.bare) : r = { q with heads := r.heads } := by
  cases r
  cases q
  simp_all [Run.bare]

@[simp] theorem State.modHead_bare (s : State) (h : Nat) (f : HeadEntry → HeadEntry) :
    (s.modHead h f).run.bare = s.run.bare := rfl

@[simp] theorem State.setHeadState_bare (s : State) (h : Nat) (new : HeadState) :
    (s.setHeadState h new).run.bare = s.run.bare := by
  unfold State.setHeadState
  dsimp only
  split
  · split
    · simp
    · split <;> simp
  · simp

@[simp] theorem State.notDelivered_bare (s : State) (c : BusCommand) : (s.notDelivered c).run.bare = s.run.bare := by
  unfold State.notDelivered
  dsimp only
  split <;> simp

@[simp] theorem State.issue_bare (s : State) (c : BusCommand) : (s.issue c).run.bare = s.run.bare := by
  unfold State.issue
  split
  · simp
  · dsimp only
    cases c.work.order? with
    | none => (repeat' split) <;> rfl
    | some o => (repeat' split) <;> rfl

@[simp] theorem State.issueLift_bare (s : State) (h : Nat) (becomes : HeadState) (forStart : Bool) :
    (s.issueLift h becomes forStart).run.bare = s.run.bare := s.issue_bare _

@[simp] theorem State.issueLower_bare (s : State) (h : Nat) (becomes : HeadState) (join forStart : Bool) :
    (s.issueLower h becomes join forStart).run.bare = s.run.bare := s.issue_bare _

@[simp] theorem State.purge_bare (s : State) (h : Nat) : (s.purge h).run.bare = s.run.bare := by
  simp [State.purge]

@[simp] theorem State.bringBack_bare (s : State) (h : Nat) : (s.bringBack h).run.bare = s.run.bare := by
  simp [State.bringBack]

@[simp] theorem State.resolveJoins_bare (s : State) : s.resolveJoins.run.bare = s.run.bare :=
  foldl_runBare _ (fun t h => by split <;> simp) _ s

@[simp] theorem State.engagedBy_bare (s : State) (h : Nat) (o : EngageOrder) :
    (s.engagedBy h o).run.bare = s.run.bare := by
  unfold State.engagedBy
  split
  · split
    · dsimp only
      split <;> simp
    · rfl
  · split <;> simp

@[simp] theorem State.takeOrder_bare (s : State) (h : Nat) (o : EngageOrder) :
    (s.takeOrder h o).run.bare = s.run.bare := by
  simp [State.takeOrder]

@[simp] theorem State.applyAcked_bare (s : State) : s.applyAcked.run.bare = s.run.bare :=
  foldl_runBare _ (fun t h => by split <;> simp) _ s

@[simp] theorem State.drop_bare (s : State) (h : Nat) (kind : FaultKind) : (s.drop h kind).run.bare = s.run.bare := by
  unfold State.drop
  dsimp only
  split
  · simp
  · split <;> simp

@[simp] theorem State.caseMoveFrom_bare (s : State) (h p : Nat) : (s.caseMoveFrom h p).run.bare = s.run.bare := by
  simp [State.caseMoveFrom]

@[simp] theorem State.leftIdle_bare (s : State) (h : Nat) : (s.leftIdle h).run.bare = s.run.bare := by
  unfold State.leftIdle
  split <;> simp

@[simp] theorem State.arrived_bare (s : State) (h : Nat) : (s.arrived h).run.bare = s.run.bare := by
  unfold State.arrived
  split <;> simp

@[simp] theorem State.takeNeedle_bare (s : State) (h : Nat) (r : StatusRecord) :
    (s.takeNeedle h r).run.bare = s.run.bare := by
  unfold State.takeNeedle
  split <;> simp

@[simp] theorem State.resync_bare (s : State) (h : Nat) (r : StatusRecord) :
    (s.resync h r).run.bare = s.run.bare := by
  unfold State.resync
  (repeat' split) <;> simp

end Sys2Proof.Machine

/-!
A HALTED run (O10): what the commands that it takes do to it. Most operations stop at the run state; the others change
neither the run but its head table, nor the shaft, nor the frame.
-/

namespace Sys2Proof.Machine

set_option Elab.async false

/-- A run that is HALTED as R95 leaves it. -/
structure State.Locked (s : State) : Prop where
  state : s.run.state = .halted
  activity : s.run.activity = .none
  haltReturn : s.run.haltReturn ≠ some .halted
  travelReturn : s.run.travelReturn ≠ some .halted
  passReturn : s.run.passReturn ≠ some .halted
  shaft : s.shaft.state = .unreferenced
  halt : s.shaft.lockout.halt = true
  travel : s.frame.travel = none
  homing : s.frame.homing = none

theorem State.Locked.haltRight {s : State} (h : s.Locked) : s.haltRight :=
  ⟨fun _ => ⟨h.halt, h.shaft, h.activity, h.travel, h.homing⟩, h.haltReturn, h.travelReturn, h.passReturn⟩

/-- Out of HALTED nothing more is asked than that no recorded state is HALTED. -/
theorem State.haltRight_of_awake {s : State} (h : s.run.Awake) : s.haltRight :=
  ⟨fun hs => absurd hs h.state, h.haltReturn, h.travelReturn, h.passReturn⟩

theorem State.locked_or_awake {s : State} (h : s.haltRight) : s.Locked ∨ s.run.Awake := by
  obtain ⟨locked, hh, ht, hp⟩ := h
  by_cases hs : s.run.state = .halted
  · obtain ⟨halt, shaft, activity, travel, homing⟩ := locked hs
    exact .inl ⟨hs, activity, hh, ht, hp, shaft, halt, travel, homing⟩
  · exact .inr ⟨hs, hh, ht, hp⟩

section Kept

variable {s t : State}

/-- What keeps the run but its heads, shaft state, Halt reason, travel and homing, keeps a HALTED run. -/
theorem State.Locked.of_same (h : s.Locked) (hr : t.run.bare = s.run.bare := by simp)
    (hs : t.shaft = s.shaft := by simp) (hf : t.frame = s.frame := by simp) : t.Locked := by
  have run := Run.of_bare hr
  exact ⟨run ▸ h.state, run ▸ h.activity, run ▸ h.haltReturn, run ▸ h.travelReturn, run ▸ h.passReturn,
    hs ▸ h.shaft, hs ▸ h.halt, hf ▸ h.travel, hf ▸ h.homing⟩

theorem State.Locked.ite {c : Prop} [Decidable c] (hs : s.Locked) (ht : t.Locked) : (if c then s else t).Locked := by
  split
  · exact hs
  · exact ht

theorem State.Locked.foldl {β : Type} {f : State → β → State} {l : List β} (h : s.Locked)
    (hf : ∀ t b, t.Locked → (f t b).Locked) : (l.foldl f s).Locked := by
  induction l generalizing s with
  | nil => exact h
  | cons b l ih => exact ih (hf s b h)

/-- Nothing of the run and the frame is due by itself in HALTED. -/
theorem State.Locked.quiet (h : s.Locked) : s.quiet = true := by
  simp [State.quiet, FrameDrive.homingHeld, h.state, h.activity, h.travel, h.homing]

theorem State.Locked.finish (h : s.Locked) : s.finish.Locked := by
  rw [finish_quiet s h.quiet]
  exact h.of_same

theorem State.Locked.stopOrder {c : StopCause} (h : s.Locked) : (s.stopOrder c).Locked := by
  simpa [State.stopOrder, h.state] using h

theorem State.Locked.endPatchIfEmpty (h : s.Locked) : s.endPatchIfEmpty.Locked := by
  simpa [State.endPatchIfEmpty, h.state] using h

theorem State.Locked.turning (h : s.Locked) : s.shaft.state.turning = false := by
  simp [h.shaft, ShaftState.turning]

end Kept

/-! ## Faults and repairs -/

section Faults

variable {s : State}

theorem State.Locked.hold {h : Nat} {kind : FaultKind} {c : StopCause} (hs : s.Locked) : (s.hold h kind c).Locked := by
  have held : (if kind = .lost then (s.setHandling h .held).setHeadState h .lost else s.setHandling h .held).Locked :=
    .ite hs.of_same hs.of_same
  exact held.stopOrder

theorem State.Locked.drop {h : Nat} {kind : FaultKind} (hs : s.Locked) : (s.drop h kind).Locked := hs.of_same

theorem State.Locked.dropOut {h : Nat} {kind : FaultKind} (hs : s.Locked) : (s.dropOut h kind).Locked := by
  have opened : ((s.openGapFor h).drop h kind).Locked := (hs.of_same (t := s.openGapFor h)).drop
  exact .ite hs.drop (.ite hs.hold (.ite hs.drop (.ite hs.hold (.ite hs.hold opened))))

/-- With the shaft still no jump point is placed. -/
theorem State.Locked.patchFault {h : Nat} (hs : s.Locked) : (s.patchFault h).Locked := by
  have deselected {p : Gap → Bool} {i : Nat} : (s.deselect p i).Locked := hs.of_same
  unfold State.patchFault
  split
  · dsimp only
    rw [deselected.turning]
    exact deselected
  · exact hs

theorem State.Locked.handleFault {h : Nat} {kind : FaultKind} (hs : s.Locked) : (s.handleFault h kind).Locked := by
  have posted : (s.post .headFault h kind.code).Locked := hs.of_same
  have marked {f : HeadWatch → HeadWatch} : (((s.post .headFault h kind.code).modWatch h f).handOver h).Locked :=
    posted.of_same
  unfold State.handleFault
  split
  · exact hs
  dsimp only
  split
  · have acted : ((s.post .headFault h kind.code).patchFault h).Locked := posted.patchFault
    exact .ite acted.of_same acted
  · split
    · exact marked.patchFault.hold
    · exact marked.patchFault.dropOut

theorem State.Locked.raiseFault {h : Nat} {kind : FaultKind} (hs : s.Locked) : (s.raiseFault h kind).Locked :=
  hs.handleFault.endPatchIfEmpty

theorem State.Locked.rejoin {h : Nat} (hs : s.Locked) : (s.rejoin h).Locked := by
  unfold State.rejoin
  split
  · exact hs.of_same
  · simp only [hs.state]
    exact hs.of_same

theorem State.Locked.afterRepair {h : Nat} {cleared : Option PendingFault} (hs : s.Locked) :
    (s.afterRepair h cleared).Locked := by
  unfold State.afterRepair
  split
  · exact hs
  · refine .ite hs.rejoin ?_
    split
    · exact .ite hs.rejoin hs.of_same
    · exact hs.rejoin
    all_goals exact hs

theorem State.Locked.repair {h : Nat} (hs : s.Locked) : (s.repair h).Locked := by
  have cleared {f : HeadWatch → HeadWatch} {v : Nat} :
      ((((s.modWatch h f).clearTension h).setFault h none).post .headRepaired h v).Locked := hs.of_same
  exact cleared.afterRepair.endPatchIfEmpty

end Faults

/-! ## Records and acknowledgements -/

section Records

variable {s : State}

theorem State.Locked.updateCountdown {h : Nat} {r : StatusRecord} (hs : s.Locked) : (s.updateCountdown h r).Locked := by
  have counted {f : HeadWatch → HeadWatch} : (s.modWatch h f).Locked := hs.of_same
  exact .ite hs (.ite counted.raiseFault counted)

theorem State.Locked.countBobbin {h : Nat} {r : StatusRecord} (hs : s.Locked) : (s.countBobbin h r).Locked := by
  have judged {f : HeadWatch → HeadWatch} : ((s.modWatch h f).judgeBobbin h).Locked := hs.of_same
  exact .ite (.ite judged.raiseFault judged) hs

theorem State.Locked.watchRecord {h : Nat} {r : StatusRecord} (hs : s.Locked) : (s.watchRecord h r).Locked := by
  have armed : (s.updateArmed h r).Locked := hs.of_same
  have engaged : (((s.updateArmed h r).updateCountdown h r).countBobbin h r).Locked := armed.updateCountdown.countBobbin
  have other : (s.countBobbin h r).Locked := hs.countBobbin
  exact .ite engaged.of_same other.of_same

theorem State.Locked.trimFailed {h : Nat} (hs : s.Locked) : (s.trimFailed h).Locked :=
  .ite hs.of_same (State.Locked.raiseFault hs.of_same)

theorem State.Locked.trimRecord {h : Nat} {r : StatusRecord} (hs : s.Locked) : (s.trimRecord h r).Locked := by
  unfold State.trimRecord
  refine .ite ?_ hs
  split
  · exact hs.of_same
  · exact hs.trimFailed
  · exact hs
  · exact hs

theorem State.Locked.caseFailed {h : Nat} (hs : s.Locked) : (s.caseFailed h).Locked :=
  .ite hs.of_same (State.Locked.raiseFault hs.of_same)

theorem State.Locked.caseMove {h : Nat} (hs : s.Locked) : (s.caseMove h).Locked := by
  unfold State.caseMove
  split
  · exact .ite hs.of_same hs.of_same
  · exact hs.caseFailed

theorem State.Locked.caseRecord {h : Nat} {r : StatusRecord} (hs : s.Locked) : (s.caseRecord h r).Locked := by
  unfold State.caseRecord
  refine .ite ?_ hs
  split
  · exact .ite hs.of_same hs.caseFailed
  · exact hs
  · exact hs.caseFailed

theorem State.Locked.clearedRecord {h : Nat} {r : StatusRecord} (hs : s.Locked) : (s.clearedRecord h r).Locked := by
  have again {f : HeadWork → HeadWork} : (s.modWork h f).Locked := hs.of_same
  unfold State.clearedRecord
  refine .ite ?_ again.caseFailed
  split
  · exact .ite hs.of_same hs.of_same
  · exact again.caseFailed

theorem State.Locked.changeRecord {h : Nat} {r : StatusRecord} {queued : Bool} (hs : s.Locked) :
    (s.changeRecord h r queued).Locked := by
  have read {f : HeadWork → HeadWork} : ((s.modWork h f).trimRecord h r).Locked :=
    State.Locked.trimRecord hs.of_same
  exact .ite (.ite read.clearedRecord read) read.caseRecord

theorem State.Locked.acceptRecord {h : Nat} {r : StatusRecord} {queued : Bool} (hs : s.Locked) :
    (s.acceptRecord h r queued).Locked := by
  have taken : ((s.storeRecord h r).takeNeedle h r).Locked := hs.of_same
  have watched : ((((s.storeRecord h r).takeNeedle h r).changeRecord h r queued).watchRecord h r).Locked :=
    taken.changeRecord.watchRecord
  unfold State.acceptRecord
  exact watched.of_same

theorem State.Locked.workAfterOrder {h : Nat} {o : EngageOrder} (hs : s.Locked) : (s.workAfterOrder h o).Locked := by
  unfold State.workAfterOrder
  split
  · exact .ite hs.of_same hs
  · exact .ite (.ite hs.of_same hs.caseMove) hs

theorem State.Locked.acknowledged {h : Nat} {x : BusWork} (hs : s.Locked) : (s.acknowledged h x).Locked := by
  unfold State.acknowledged
  split
  · exact .ite hs.of_same hs
  · exact .ite hs.of_same hs
  · rename_i o
    have taken : (s.takeOrder h o).Locked := hs.of_same
    exact .ite hs.of_same taken.workAfterOrder
  · exact hs
  · exact hs

theorem State.Locked.probeAnswered {h : Nat} {r : StatusRecord} (hs : s.Locked) : (s.probeAnswered h r).Locked := by
  have cleared : (s.clearLoss h).Locked := hs.of_same
  have accepted : ((s.clearLoss h).acceptRecord h r false).Locked := cleared.acceptRecord
  unfold State.probeAnswered
  exact .ite accepted accepted.repair

theorem State.Locked.answered {t : Transaction} {r : StatusRecord} (hs : s.Locked) : (s.answered t r).Locked := by
  unfold State.answered
  split
  · exact hs.acceptRecord
  · exact hs.acknowledged
  · exact hs.probeAnswered
  · exact hs.acceptRecord

theorem State.Locked.headLost {t : Transaction} (hs : s.Locked) : (s.headLost t).Locked := by
  have ended : s.endTransaction.Locked := hs.of_same
  have reported : (match t.kind.work? with
      | some x => s.endTransaction.notDelivered ⟨t.head, x⟩
      | none => s.endTransaction).Locked := by
    split
    · exact ended.of_same
    · exact ended
  have lost {u : State} (hu : u.Locked) : ((((u.purge t.head).setBus ((u.purge t.head).bus.passOver t.head)).modLink
      t.head (fun l => { l with lost := true, probe := false })).handOver t.head).Locked := hu.of_same
  exact (lost reported).raiseFault

theorem State.Locked.timedOut {t : Transaction} (hs : s.Locked) : (s.timedOut t).Locked := by
  have counted : (s.modLink t.head (fun l => { l with timeouts := l.timeouts + 1 })).Locked := hs.of_same
  exact .ite counted.of_same counted.headLost

end Records

end Sys2Proof.Machine

/-!
A HALTED run and the commands (O10): stall, RESET, the requests that are taken in every run state, the events.
-/

namespace Sys2Proof.Machine

set_option Elab.async false

/-! ## Shaft, frame and reset -/

section Blocks

variable {s t : State}

@[simp] theorem State.shaftTo_shaft (s : State) (u : ShaftState) :
    (s.shaftTo u).shaft = { s.shaft with state := u } := by
  unfold State.shaftTo
  dsimp only
  split
  · rfl
  · split <;> rfl

@[simp] theorem State.brakeAtOnce_shaft (s : State) : s.brakeAtOnce.shaft = { s.shaft with
    state := .unreferenced, referenced := false, speed := 0, hold := false, braked := false, stall := none
    hostReference := false } := by
  simp [State.brakeAtOnce]

/-- What keeps the run but its heads keeps a HALTED run when the other blocks are as R95 leaves them. -/
theorem State.Locked.of_blocks (h : s.Locked) (hr : t.run.bare = s.run.bare := by simp)
    (hs : t.shaft.state = .unreferenced) (hl : t.shaft.lockout.halt = true) (ht : t.frame.travel = none)
    (hh : t.frame.homing = none) : t.Locked := by
  have run := Run.of_bare hr
  exact ⟨run ▸ h.state, run ▸ h.activity, run ▸ h.haltReturn, run ▸ h.travelReturn, run ▸ h.passReturn, hs, hl, ht, hh⟩

theorem State.Locked.setShaft {u : Shaft} (h : s.Locked) (hs : u.state = s.shaft.state := by rfl)
    (hl : u.lockout.halt = s.shaft.lockout.halt := by rfl) : (s.setShaft u).Locked :=
  h.of_blocks rfl (hs.trans h.shaft) (hl.trans h.halt) h.travel h.homing

theorem State.Locked.setFrame {f : FrameDrive} (h : s.Locked) (ht : f.travel = s.frame.travel := by rfl)
    (hh : f.homing = s.frame.homing := by rfl) : (s.setFrame f).Locked :=
  h.of_blocks rfl h.shaft h.halt (ht.trans h.travel) (hh.trans h.homing)

theorem State.Locked.brakeAtOnce (h : s.Locked) : s.brakeAtOnce.Locked :=
  h.of_blocks (by simp) (by simp) (by simpa using h.halt) (by simpa using h.travel) (by simpa using h.homing)

theorem State.Locked.shaftImmediate (h : s.Locked) : s.shaftImmediate.Locked := h.brakeAtOnce.setShaft

theorem State.Locked.frameHalted (h : s.Locked) : s.frameHalted.Locked := by
  have halted {nx ny : Nat} : (s.setFrame (s.frame.halt nx ny)).Locked := h.of_blocks rfl h.shaft h.halt rfl rfl
  have counted {t : State} (ht : t.Locked) : t.tick.tick.Locked := ht.of_same
  exact .ite (counted halted) halted

theorem State.Locked.resetEffect {mode : Nat} {src : Sender} (h : s.Locked) : (s.resetEffect mode src).Locked := by
  have shaft : (if mode = 1 then s.shaftImmediate.frameHalted else s.shaftControlled).Locked :=
    .ite h.shaftImmediate.frameHalted h.setShaft
  have ended {t : State} (ht : t.Locked) :
      (t.endHoming.setFrame { t.endHoming.frame with origin := none, travel := none }).Locked :=
    ht.of_blocks rfl ht.shaft ht.halt rfl rfl
  have run {t : State} (ht : t.Locked) :
      (t.setRun { t.run.atReset with heads := t.run.heads.map HeadEntry.atReset }).Locked := by
    refine ⟨?_, rfl, ?_, nofun, nofun, ht.shaft, ht.halt, ht.travel, ht.homing⟩
    · simp [Run.atReset, resetRunState, ht.state]
    · simp only [State.setRun_run, Run.atReset, resetHaltReturn, ht.state, if_true]
      split
      · exact ht.haltReturn
      · nofun
  exact State.Locked.foldl ((run (ended shaft)).of_same rfl rfl rfl) fun _ _ hu => hu.of_same

theorem State.Locked.pendingReset (h : s.Locked) : s.pendingReset.Locked := by
  unfold State.pendingReset
  split
  · exact h.resetEffect
  · exact h

theorem State.Locked.resetIfDue (h : s.Locked) : s.resetIfDue.Locked := .ite h h.pendingReset

theorem State.Locked.stall (h : s.Locked) : s.stall.Locked := by
  have braked : (s.brakeAtOnce.modLockout (fun l =>
      { l with jump := false, late := false, rest := false, referencing := false })).Locked := h.brakeAtOnce.setShaft
  have applied {t : State} (ht : t.Locked) : t.govAtRest.applyAcked.Locked := ht.of_same
  have carried {t : State} (ht : t.Locked) : (t.setRun { t.run with carry := false }).Locked :=
    ⟨ht.state, ht.activity, ht.haltReturn, ht.travelReturn, ht.passReturn, ht.shaft, ht.halt, ht.travel, ht.homing⟩
  have reported {t : State} {host : Bool} (ht : t.Locked) : (t.stallReport host).Locked := by
    simpa [State.stallReport, ht.state] using ht
  exact (reported (carried (applied braked))).resetIfDue

end Blocks

end Sys2Proof.Machine

/-!
A HALTED run and the commands (O10): the requests and the events.
-/

namespace Sys2Proof.Machine

set_option Elab.async false

section Requests

variable {s : State}

/-- A request that is refused in HALTED leaves the state. -/
theorem State.Locked.of_refused {r : Served} (h : s.Locked) (hr : r = refuse s .busy) :
    r.1.haltRight := hr ▸ h.haltRight

theorem State.Locked.taken (h : s.Locked) : (Machine.taken s).1.haltRight := h.haltRight

theorem State.Locked.setLink {l : Link} (h : s.Locked) : (s.setLink l).Locked := h.of_same rfl rfl rfl

theorem State.Locked.settable (h : s.Locked) : s.settable = false := by simp [State.settable, h.state]

theorem State.Locked.configurable (h : s.Locked) : s.configurable = false := by simp [State.configurable, h.state]

theorem State.Locked.runRefused {modeRight : Bool} (h : s.Locked) : s.runRefused modeRight = some .busy := by
  simp [State.runRefused, h.state]

theorem State.Locked.serveDesignBlock {body : List Byte} (h : s.Locked) : (serveDesignBlock body s).1.Locked := by
  have taken {rs : List DesignRecord} : (s.takeBlock body rs).Locked := by
    have entered {t : State} {waited : Bool} (ht : t.Locked) : (t.enterAccepted waited).refreshWindow.tryResume.Locked := by
      have window : (t.enterAccepted waited).refreshWindow.Locked := ht.of_same
      simpa [State.tryResume, ht.state] using window
    exact (entered (h.of_same (t := (s.openWindowEnd.acceptBlock (blockSeq body) (blockLast body)
      (rs.map s.cfg.clampRecord)).pace))).finish
  unfold Machine.serveDesignBlock
  split
  · exact h
  · split
    · exact h
    · split
      · exact taken
      · exact h

theorem State.Locked.serveStop (h : s.Locked) : (serveStop s).1.Locked := by
  have stopped : s.stopHoming.stopOrder .host = s := by simp [State.stopHoming, h.homing, State.stopOrder, h.state]
  simpa [Machine.serveStop, stopped, h.activity, h.shaft, Machine.taken] using h.finish

/-- CLEAR HALT returns to the recorded state, which is not HALTED (R97), or is refused. -/
theorem State.Locked.serveClearHalt (h : s.Locked) : (serveClearHalt s).1.haltRight := by
  unfold Machine.serveClearHalt
  rw [if_pos h.state]
  split
  · exact h.haltRight
  · dsimp only
    have back : ((s.modLockout (fun l => { l with halt := false })).setRun { s.run with
        state := s.run.haltReturn.getD .idle, haltReturn := none }).run.Awake :=
      ⟨getD_ne_halted h.haltReturn nofun, nofun, h.travelReturn, h.passReturn⟩
    have joined {c : Prop} [Decidable c] {a t : State} (ht : a.Follows False t) :
        a.Follows False (if c then t.applyAcked.resolveJoins else t.applyAcked) :=
      .ite ht.applyAcked.resolveJoins ht.applyAcked
    have posted {c : Prop} [Decidable c] {a t : State} {v : Nat} (ht : a.Follows False t) :
        a.Follows False (if c then t.post .stopped 0 v else t) := .ite ht.post ht
    exact State.haltRight_of_awake ((posted (joined (.refl False _))).endPatchIfEmpty.finish.awake back)

theorem State.Locked.serveRepairDone {head : Nat} (h : s.Locked) : (serveRepairDone head s).1.Locked := by
  have probed : (s.modLink head HeadLink.askProbe).Locked := h.of_same
  unfold Machine.serveRepairDone
  split
  · exact h
  split
  · exact h
  split
  · exact probed.finish
  · exact h.repair.finish

theorem State.Locked.serveReset {src : Sender} {mode : Nat} (h : s.Locked) : (serveReset src mode s).1.Locked := by
  have waits : s.resetWaits = false := by simp [State.resetWaits, h.shaft, h.travel, ShaftState.turning]
  unfold Machine.serveReset
  split
  · exact h
  · simpa [waits] using h.resetEffect.finish

theorem State.Locked.serveMapColour {slot : Nat} {needles : List Nat} (h : s.Locked) :
    (Machine.serveMapColour slot needles s).1.haltRight := by
  have mapped : (s.mapNeedles slot needles).Locked := h.of_same
  unfold Machine.serveMapColour
  split
  · exact h.haltRight
  split
  · exact h.haltRight
  · exact mapped.taken

theorem State.Locked.serveBobbinSet {head count : Nat} (h : s.Locked) :
    (Machine.serveBobbinSet head count s).1.haltRight := by
  have counted : (s.setBobbin head count).Locked := h.of_same
  unfold Machine.serveBobbinSet
  split
  · exact counted.taken
  · exact h.haltRight

theorem State.Locked.serveStatus {selection : Nat} (h : s.Locked) :
    (Machine.serveStatus selection s).1.haltRight := by
  have cleared : (if groupSelected selection 5 then s.setLink { s.link with overflow := false } else s).Locked :=
    .ite h.setLink h
  exact (cleared.of_same rfl rfl rfl).haltRight

theorem State.Locked.serveReadHead {head : Nat} (h : s.Locked) :
    (Machine.serveReadHead head s).1.haltRight := by
  unfold Machine.serveReadHead
  split
  · exact (h.of_same (t := s.tick)).haltRight
  · exact h.haltRight

theorem State.Locked.serveThread {g : ThreadGroup} (h : s.Locked) :
    (Machine.serveThread g s).1.haltRight := by
  unfold Machine.serveThread
  split
  · exact (h.of_same rfl rfl rfl).haltRight
  · exact h.haltRight

theorem State.Locked.serveZone {zone active : Nat} {xb yb : Int} {kx ky : Nat} (h : s.Locked) :
    (Machine.serveZone zone active xb kx yb ky s).1.haltRight := by
  unfold Machine.serveZone
  dsimp only
  split
  · exact h.setFrame.haltRight
  · exact h.haltRight

theorem State.Locked.serveArbiter {phases : List Nat} (h : s.Locked) :
    (Machine.serveArbiter phases s).1.haltRight := by
  unfold Machine.serveArbiter
  split
  · exact (h.of_same rfl rfl rfl).haltRight
  · exact h.haltRight

theorem State.Locked.servePoll {angle period : Nat} (h : s.Locked) :
    (Machine.servePoll angle period s).1.haltRight := by
  unfold Machine.servePoll
  split
  · exact (h.of_same rfl rfl rfl).haltRight
  · exact h.haltRight

theorem State.Locked.serveReadBack {group : Nat} {number : Option Nat} (h : s.Locked) :
    (Machine.serveReadBack group number s).1.haltRight := by
  unfold Machine.serveReadBack
  split
  · split
    · exact h.haltRight
    · exact h.haltRight
  · exact h.haltRight

theorem State.Locked.serve {src : Sender} {r : Request} (h : s.Locked) : (serve src r s).1.haltRight := by
  cases r with
  | openDesign => exact h.of_refused (by simp [Machine.serve, serveOpenDesign, h.state])
  | designBlock body => exact h.serveDesignBlock.haltRight
  | discardDesign => exact h.of_refused (by simp [Machine.serve, serveDiscardDesign, h.state])
  | start => exact h.of_refused (by simp [Machine.serve, serveStart, h.runRefused])
  | resume => exact h.of_refused (by simp [Machine.serve, serveResume, h.runRefused])
  | stop => exact h.serveStop.haltRight
  | step => exact h.of_refused (by simp [Machine.serve, serveStep, h.runRefused])
  | clearHalt => exact h.serveClearHalt
  | runToMark label => exact h.of_refused (by simp [Machine.serve, serveRunToMark, h.runRefused])
  | setMode mode => exact h.of_refused (by simp [Machine.serve, serveSetMode, h.settable])
  | headOn head => exact h.of_refused (by simp [Machine.serve, serveHeadOn, h.settable])
  | headOff head => exact h.of_refused (by simp [Machine.serve, serveHeadOff, h.settable])
  | speedCeiling rpm => exact (h.of_same rfl rfl rfl).haltRight
  | setOrigin => exact h.of_refused (by simp [Machine.serve, serveSetOrigin, h.state])
  | homeFrame => exact h.of_refused (by simp [Machine.serve, serveHomeFrame, h.state])
  | referenceShaft => exact h.of_refused (by simp [Machine.serve, serveReferenceShaft, h.state])
  | moveFrame dx dy => exact h.of_refused (by simp [Machine.serve, serveMoveFrame, h.settable])
  | mapColour slot needles => exact h.serveMapColour
  | bobbinSet head count => exact h.serveBobbinSet
  | setPolicy policy => exact h.of_refused (by simp [Machine.serve, serveSetPolicy, h.settable])
  | repairDone head => exact h.serveRepairDone.haltRight
  | sewGaps => exact h.of_refused (by simp [Machine.serve, serveSewGaps, State.sewGapsCheck, h.state])
  | abandonGap head => exact h.of_refused (by simp [Machine.serve, serveAbandonGap, h.state])
  | back n => exact h.of_refused (by simp [Machine.serve, serveBack, State.backtrackRefused, h.state])
  | forward n => exact h.of_refused (by simp [Machine.serve, serveForward, State.backtrackRefused, h.state])
  | status selection => exact h.serveStatus
  | readHead head => exact h.serveReadHead
  | readGaps => exact h.haltRight
  | reset mode => exact h.serveReset.haltRight
  | configureMachine g => exact h.of_refused (by simp [Machine.serve, serveMachine, h.configurable])
  | configureSpeedLimits g => exact h.of_refused (by simp [Machine.serve, serveSpeedLimits, h.configurable])
  | configureMoveTable piece entries => exact h.of_refused (by simp [Machine.serve, serveMoveTable, h.configurable])
  | configureThread g => exact h.serveThread
  | configurePacing g => exact h.of_refused (by simp [Machine.serve, servePacing, h.configurable])
  | configureZone zone active xb kx yb ky => exact h.serveZone
  | configureArbiter phases => exact h.serveArbiter
  | configurePoll angle period => exact h.servePoll
  | configureProgress period => exact (h.of_same rfl rfl rfl).haltRight
  | configurePolicy policy => exact h.of_refused (by simp [Machine.serve, serveSetPolicy, h.settable])
  | configureMode mode => exact h.of_refused (by simp [Machine.serve, serveSetMode, h.settable])
  | configureReadBack group number => exact h.serveReadBack
  | configureShort => exact h.haltRight

/-- A reply is no part of what a HALTED run keeps. -/
theorem State.haltRight_deliver {r : Served} (h : r.1.haltRight) : (State.deliver r).haltRight := by
  unfold State.deliver
  split
  · exact h
  · exact h

theorem State.Locked.takeAddressed {tag : Byte} {owner : State → Served} (h : s.Locked)
    (ho : ∀ t : State, t.Locked → (owner t).1.haltRight) : (s.takeAddressed tag owner).haltRight := by
  have reserved : (s.setLink (s.link.reserve tag)).Locked := h.setLink
  unfold State.takeAddressed
  split
  · exact h.haltRight
  · dsimp only
    split
    · exact State.haltRight_deliver reserved.haltRight
    · exact State.haltRight_deliver (ho _ reserved)

theorem State.Locked.takeRequest {src : Sender} {owner : State → Served} (h : s.Locked)
    (ho : ∀ t : State, t.Locked → (owner t).1.haltRight) : (s.takeRequest src owner).haltRight := by
  cases src with
  | addressed tag => exact h.takeAddressed ho
  | broadcast => exact h.haltRight

theorem State.Locked.takeBoth {src : Sender} {owner : State → Served} (h : s.Locked)
    (ho : ∀ t : State, t.Locked → (owner t).1.haltRight) : (s.takeBoth src owner).haltRight := by
  cases src with
  | addressed tag => exact h.takeAddressed ho
  | broadcast =>
    unfold State.takeBoth
    dsimp only
    split
    · exact h.haltRight
    · exact ho s h

end Requests

/-! ## Events -/

section Events

variable {s : State}

theorem State.Locked.requestDecode (h : s.Locked) : ∃ t, execRequestDecode s = .next t ∧ t.haltRight := by
  have taken {rest : List InFrame} : (s.setLink { s.link with buffers := rest }).Locked := h.setLink
  refine ⟨_, rfl, ?_⟩
  split
  · exact h.haltRight
  split
  · unfold State.decodeBroadcast
    split
    · exact taken.takeBoth fun _ ht => ht.serveStop.haltRight
    · exact taken.takeBoth fun _ ht => ht.serveReset.haltRight
    · exact taken.haltRight
  split
  · rename_i f rest _ _ _
    have reserved : ((s.setLink { s.link with buffers := rest }).setLink
        ((s.setLink { s.link with buffers := rest }).link.reserve f.tag)).Locked := (taken (rest := rest)).setLink
    unfold State.decodeAddressed
    dsimp only
    split
    · exact State.haltRight_deliver reserved.haltRight
    · exact State.haltRight_deliver reserved.haltRight
    · split
      · exact State.haltRight_deliver reserved.haltRight
      · exact State.haltRight_deliver reserved.serve
  · exact h.haltRight

/-- An UNREFERENCED shaft reports no crossing. -/
theorem State.Locked.reports (h : s.Locked) : s.shaft.reports = false := by
  simp [Shaft.reports, h.turning]

theorem State.Locked.ite_of_not {c : Prop} [Decidable c] {t : State} (hn : ¬ c) (h : s.Locked) :
    (if c then t else s).Locked := (if_neg hn).symm ▸ h

theorem State.Locked.countForward (h : s.Locked) : s.countForward.Locked := by
  have turned {u : Shaft} {c : Prop} [Decidable c] (hs : u.state = s.shaft.state) (hl : u.lockout = s.shaft.lockout) :
      (if c then (s.setShaft u).newRevolution else s.setShaft u).Locked :=
    .ite (h.setShaft hs (hl ▸ rfl)).setShaft (h.setShaft hs (hl ▸ rfl))
  unfold State.countForward
  dsimp only
  have still := turned (c := (s.shaft.angle + 1) % 1024 = 0 ∧ s.shaft.wraps = 0) (u := { s.shaft with
    angle := (s.shaft.angle + 1) % 1024
    wraps := if (s.shaft.angle + 1) % 1024 = 0 then s.shaft.wraps - 1 else s.shaft.wraps }) rfl rfl
  exact still.ite_of_not (by simp [still.reports])

theorem State.Locked.indexCorrects (h : s.Locked) : s.indexCorrects.Locked := by
  have turned {u : Shaft} {c : Prop} [Decidable c] (hs : u.state = s.shaft.state) (hl : u.lockout = s.shaft.lockout) :
      (if c then (s.setShaft u).newRevolution else s.setShaft u).Locked :=
    .ite (h.setShaft hs (hl ▸ rfl)).setShaft (h.setShaft hs (hl ▸ rfl))
  unfold State.indexCorrects
  dsimp only
  have still := turned (c := 1020 ≤ s.shaft.angle ∧ s.shaft.wraps = 0) (u := { s.shaft with
    angle := 0, wraps := if 1020 ≤ s.shaft.angle then s.shaft.wraps - 1 else s.shaft.wraps }) rfl rfl
  exact still.ite_of_not (by simp [still.reports])

theorem State.Locked.indexPulse (h : s.Locked) : ∃ t, execIndexPulse s = .next t ∧ t.haltRight := by
  have restarted : s.restartStall.Locked := h.setShaft
  have zeroed : (s.restartStall.setShaft { s.restartStall.shaft with angle := 0, wraps := 0 }).Locked :=
    restarted.setShaft
  refine ⟨_, rfl, State.Locked.haltRight (.ite (.ite_of_not ?_ zeroed) (.ite restarted.indexCorrects zeroed.stall.finish))⟩
  simp [restarted.shaft]

theorem State.Locked.headAnswer {head : Nat} {checkOk : Bool} {record : StatusRecord} (h : s.Locked) :
    ∃ t, execHeadAnswer head checkOk record s = .next t ∧ t.haltRight := by
  have ended : s.endTransaction.Locked := h.of_same
  have counted {i : Nat} {f : HeadLink → HeadLink} : (s.endTransaction.modLink i f).Locked := ended.of_same
  refine ⟨_, rfl, State.Locked.haltRight ?_⟩
  split
  · exact h
  · exact .ite h (.ite counted.answered.finish (State.Locked.ite counted ended).finish)

theorem State.Locked.attemptTimeout (h : s.Locked) : ∃ t, execHeadAttemptTimeout s = .next t ∧ t.haltRight := by
  have ended : s.endTransaction.Locked := h.of_same
  refine ⟨_, rfl, State.Locked.haltRight ?_⟩
  split
  · exact h
  · exact (State.Locked.ite h.timedOut ended).finish

theorem State.Locked.restTimer (h : s.Locked) : ∃ t, execRestTimerExpiry s = .next t ∧ t.haltRight := by
  have due : s.roundDue.Locked := h.of_same
  have timed : (s.roundDue.setBus { s.roundDue.bus with restTimer := some s.roundDue.cfg.pollPeriod }).Locked :=
    due.of_same rfl rfl rfl
  exact ⟨_, rfl, State.Locked.haltRight (.ite timed.finish h)⟩

theorem State.Locked.modAxis {n : AxisName} {g : Axis → Axis} (h : s.Locked) : (s.modAxis n g).Locked := by
  cases n
  · exact h.setFrame
  · exact h.setFrame

theorem State.Locked.sensorChange {axis : AxisName} {active : Bool} (h : s.Locked) :
    ∃ t, execHomeSensorChange axis active s = .next t ∧ t.haltRight := by
  have read : (s.modAxis axis (fun x => { x with homeActive := active })).Locked := h.modAxis
  refine ⟨_, rfl, State.Locked.haltRight ?_⟩
  rw [read.homing]
  exact read

/-- Every command taken by a HALTED run: it stays HALTED as it was, or CLEAR HALT ends it. -/
theorem exec_locked {c : Instr} (hc : goesOn c = true) (h : s.Locked) :
    ∃ t, exec c s = .next t ∧ t.haltRight := by
  cases c with
  | powerOn rateStraps addressStraps hostReady estop homeX homeY => cases hc
  | frameClose bytes => exact ⟨_, rfl, (h.setLink).haltRight⟩
  | frameAbort bytes => exact ⟨_, rfl, (h.setLink).haltRight⟩
  | requestDecode => exact h.requestDecode
  | openDesign src => exact ⟨_, rfl, h.takeRequest fun _ ht => ht.serve (src := src) (r := .openDesign)⟩
  | designBlock src body => exact ⟨_, rfl, h.takeRequest fun _ ht => ht.serve (src := src) (r := .designBlock body)⟩
  | discardDesign src => exact ⟨_, rfl, h.takeRequest fun _ ht => ht.serve (src := src) (r := .discardDesign)⟩
  | start src => exact ⟨_, rfl, h.takeRequest fun _ ht => ht.serve (src := src) (r := .start)⟩
  | resume src => exact ⟨_, rfl, h.takeRequest fun _ ht => ht.serve (src := src) (r := .resume)⟩
  | stop src => exact ⟨_, rfl, h.takeBoth fun _ ht => ht.serveStop.haltRight⟩
  | step src => exact ⟨_, rfl, h.takeRequest fun _ ht => ht.serve (src := src) (r := .step)⟩
  | clearHalt src => exact ⟨_, rfl, h.takeRequest fun _ ht => ht.serve (src := src) (r := .clearHalt)⟩
  | runToMark src label => exact ⟨_, rfl, h.takeRequest fun _ ht => ht.serve (src := src) (r := .runToMark label)⟩
  | setMode src mode => exact ⟨_, rfl, h.takeRequest fun _ ht => ht.serve (src := src) (r := .setMode mode)⟩
  | headOn src head => exact ⟨_, rfl, h.takeRequest fun _ ht => ht.serve (src := src) (r := .headOn head)⟩
  | headOff src head => exact ⟨_, rfl, h.takeRequest fun _ ht => ht.serve (src := src) (r := .headOff head)⟩
  | speedCeiling src rpm => exact ⟨_, rfl, h.takeRequest fun _ ht => ht.serve (src := src) (r := .speedCeiling rpm)⟩
  | setOrigin src => exact ⟨_, rfl, h.takeRequest fun _ ht => ht.serve (src := src) (r := .setOrigin)⟩
  | homeFrame src => exact ⟨_, rfl, h.takeRequest fun _ ht => ht.serve (src := src) (r := .homeFrame)⟩
  | referenceShaft src => exact ⟨_, rfl, h.takeRequest fun _ ht => ht.serve (src := src) (r := .referenceShaft)⟩
  | moveFrame src dx dy => exact ⟨_, rfl, h.takeRequest fun _ ht => ht.serve (src := src) (r := .moveFrame dx dy)⟩
  | mapColour src slot needles =>
    exact ⟨_, rfl, h.takeRequest fun _ ht => ht.serve (src := src) (r := .mapColour slot needles)⟩
  | bobbinSet src head count =>
    exact ⟨_, rfl, h.takeRequest fun _ ht => ht.serve (src := src) (r := .bobbinSet head count)⟩
  | setPolicy src policy => exact ⟨_, rfl, h.takeRequest fun _ ht => ht.serve (src := src) (r := .setPolicy policy)⟩
  | repairDone src head => exact ⟨_, rfl, h.takeRequest fun _ ht => ht.serve (src := src) (r := .repairDone head)⟩
  | sewGaps src => exact ⟨_, rfl, h.takeRequest fun _ ht => ht.serve (src := src) (r := .sewGaps)⟩
  | abandonGap src head => exact ⟨_, rfl, h.takeRequest fun _ ht => ht.serve (src := src) (r := .abandonGap head)⟩
  | back src n => exact ⟨_, rfl, h.takeRequest fun _ ht => ht.serve (src := src) (r := .back n)⟩
  | forward src n => exact ⟨_, rfl, h.takeRequest fun _ ht => ht.serve (src := src) (r := .forward n)⟩
  | status src selection => exact ⟨_, rfl, h.takeRequest fun _ ht => ht.serve (src := src) (r := .status selection)⟩
  | readHead src head => exact ⟨_, rfl, h.takeRequest fun _ ht => ht.serve (src := src) (r := .readHead head)⟩
  | readGaps src => exact ⟨_, rfl, h.takeRequest fun _ ht => ht.serve (src := src) (r := .readGaps)⟩
  | reset src mode => exact ⟨_, rfl, h.takeBoth fun _ ht => ht.serveReset.haltRight⟩
  | configureMachine src group =>
    exact ⟨_, rfl, h.takeRequest fun _ ht => ht.serve (src := src) (r := .configureMachine group)⟩
  | configureSpeedLimits src group =>
    exact ⟨_, rfl, h.takeRequest fun _ ht => ht.serve (src := src) (r := .configureSpeedLimits group)⟩
  | configureMoveTable src piece entries =>
    exact ⟨_, rfl, h.takeRequest fun _ ht => ht.serve (src := src) (r := .configureMoveTable piece entries)⟩
  | configureThread src group =>
    exact ⟨_, rfl, h.takeRequest fun _ ht => ht.serve (src := src) (r := .configureThread group)⟩
  | configurePacing src group =>
    exact ⟨_, rfl, h.takeRequest fun _ ht => ht.serve (src := src) (r := .configurePacing group)⟩
  | configureZone src zone active xBase kx yBase ky =>
    exact ⟨_, rfl, h.takeRequest fun _ ht => ht.serve (src := src) (r := .configureZone zone active xBase kx yBase ky)⟩
  | configureArbiter src phases =>
    exact ⟨_, rfl, h.takeRequest fun _ ht => ht.serve (src := src) (r := .configureArbiter phases)⟩
  | configurePoll src angle period =>
    exact ⟨_, rfl, h.takeRequest fun _ ht => ht.serve (src := src) (r := .configurePoll angle period)⟩
  | configureProgress src period =>
    exact ⟨_, rfl, h.takeRequest fun _ ht => ht.serve (src := src) (r := .configureProgress period)⟩
  | configurePolicy src policy =>
    exact ⟨_, rfl, h.takeRequest fun _ ht => ht.serve (src := src) (r := .configurePolicy policy)⟩
  | configureMode src mode => exact ⟨_, rfl, h.takeRequest fun _ ht => ht.serve (src := src) (r := .configureMode mode)⟩
  | configureReadBack src group number =>
    exact ⟨_, rfl, h.takeRequest fun _ ht => ht.serve (src := src) (r := .configureReadBack group number)⟩
  | outboundWalk => exact ⟨_, rfl, (h.setLink).haltRight⟩
  | hostReadyChange level => exact ⟨_, rfl, (h.setLink).haltRight⟩
  | encoderCount forward => exact ⟨_, rfl, (State.Locked.ite h.countForward h.setShaft).haltRight⟩
  | indexPulse => exact h.indexPulse
  | shaftRestDeclared => exact ⟨s, by simp [exec, execShaftRestDeclared, h.shaft], h.haltRight⟩
  | stallTimerExpiry => exact ⟨_, rfl, (State.Locked.ite h.stall.finish h).haltRight⟩
  | estopAssert xSteps ySteps => cases hc
  | estopNegate => exact ⟨_, rfl, h.setShaft.haltRight⟩
  | warningHoldExpiry => exact ⟨s, by simp [exec, execWarningHoldExpiry, h.activity], h.haltRight⟩
  | stitchMoveComplete => exact ⟨_, rfl, (State.Locked.ite h.setFrame.finish h).haltRight⟩
  | travelSegmentComplete => exact ⟨s, by simp [exec, execTravelSegmentComplete, h.travel], h.haltRight⟩
  | reseatComplete axis => exact ⟨_, rfl, (State.Locked.ite h.modAxis.finish h).haltRight⟩
  | homeSensorChange axis active => exact h.sensorChange
  | homeBackoffDone => exact ⟨s, by simp [exec, execHomeBackoffDone, h.homing], h.haltRight⟩
  | homingTimeout => exact ⟨s, by simp [exec, execHomingTimeout, h.homing], h.haltRight⟩
  | headAnswer head checkOk record => exact h.headAnswer
  | headAttemptTimeout => exact h.attemptTimeout
  | restTimerExpiry => exact h.restTimer
  | trimTimerExpiry head => exact ⟨_, rfl, (State.Locked.ite h.trimFailed h).finish.haltRight⟩
  | caseTimerExpiry head => exact ⟨_, rfl, (State.Locked.ite h.caseFailed h).finish.haltRight⟩
  | firstFlagAfterPowerOn bytes => exact ⟨_, rfl, (State.Locked.ite h h.setLink).haltRight⟩

end Events

/-! ## The emergency stop -/

theorem State.haltPlan_ne_halted {s : State} (h : s.run.Awake) : s.haltPlan.1 ≠ .halted := by
  obtain ⟨hs, hh, _, _⟩ := h
  unfold State.haltPlan
  dsimp only
  split
  case h_11 => exact absurd ‹_› hs
  all_goals (repeat' split) <;> simp

theorem State.emergencyStop_locked {s : State} (nx ny : Nat) (h : s.run.Awake) : (s.emergencyStop nx ny).Locked := by
  have halted {t : State} (ht : t.run.Awake) (hf : t.frame.travel = none ∧ t.frame.homing = none)
      (hs : t.shaft.state = .unreferenced ∧ t.shaft.lockout.halt = true) : t.enterHalt.clearWork.Locked :=
    ⟨rfl, rfl, fun e => State.haltPlan_ne_halted ht (Option.some.inj e), nofun, ht.passReturn, hs.1, hs.2, hf.1, hf.2⟩
  have stopped : ((s.haltShaft.govAtRest.setFrame (s.haltShaft.govAtRest.frame.halt nx ny)).enterHalt.clearWork).Locked := by
    refine halted ?_ ⟨rfl, rfl⟩ ⟨?_, rfl⟩
    · simpa using h
    · simp [State.haltShaft, State.govAtRest, State.modLockout]
  have posted {t : State} {v : Nat} (ht : t.Locked) : (t.post .halted 0 v).Locked := ht.of_same
  exact (posted stopped).pendingReset

theorem execEstopAssert_haltRight {s : State} (nx ny : Nat) (h : s.haltRight) :
    ∃ t, execEstopAssert nx ny s = .next t ∧ t.haltRight := by
  refine ⟨_, rfl, ?_⟩
  split
  · exact h
  · rename_i hn
    obtain ⟨_, hh, ht, hp⟩ := h
    have awake : (s.setShaft { s.shaft with estop := true }).run.Awake := ⟨fun e => hn (.inr e), hh, ht, hp⟩
    exact (State.emergencyStop_locked nx ny awake).finish.haltRight

theorem execPowerOn_haltRight (rate addr : Nat) (ready estop homeX homeY : Bool) (s : State) :
    ∃ t, execPowerOn rate addr ready estop homeX homeY s = .next t ∧ t.haltRight := by
  have awake {u : Shaft} : ((((State.atPowerOn rate addr ready homeX homeY).setPending s.pending).setFree
      s.free).setShaft u).run.Awake := ⟨nofun, nofun, nofun, nofun⟩
  refine ⟨_, rfl, ?_⟩
  split
  · exact (State.emergencyStop_locked 0 0 awake).haltRight
  · exact ⟨nofun, nofun, nofun, nofun⟩

theorem exec_haltRight (c : Instr) {s : State} (h : s.haltRight) : ∃ t, exec c s = .next t ∧ t.haltRight := by
  cases hc : goesOn c with
  | true =>
    rcases State.locked_or_awake h with locked | awake
    · exact exec_locked hc locked
    · obtain ⟨t, ht, hf⟩ := exec_follows (w := False) hc nofun (.refl False s)
      exact ⟨t, ht, State.haltRight_of_awake (hf.awake awake)⟩
  | false =>
    cases c with
    | powerOn rate addr ready estop homeX homeY => exact execPowerOn_haltRight ..
    | estopAssert nx ny => exact execEstopAssert_haltRight nx ny h
    | _ => cases hc

/-- Settles O10. -/
theorem haltKeepsNeedlesLockedOut : Obligations.HaltKeepsNeedlesLockedOut := by
  intro s t hs h
  unfold step at h
  split at h
  · cases h
    exact hs
  · rename_i c rest _
    obtain ⟨t', ht', hr⟩ := exec_haltRight c (s := s.setPending rest) hs
    cases h.symm.trans ht'
    exact hr

end Sys2Proof.Machine

/-!
The machine as a whole, power-on, and the gate before every request (O1, O3, O13, O14, O21).
-/

namespace Sys2Proof.Machine

set_option Elab.async false

/-- Settles O1: both halves are the equations of `step`. -/
theorem stepRunsFrontCommand : Obligations.StepRunsFrontCommand :=
  ⟨fun _ _ _ => rfl, fun s h => by simp [step, h]⟩

/-! ## The gate -/

/-- Every command that a frame carries is handed to its owner by the gate: STOP and RESET also when broadcast. -/
theorem exec_of_sender {c : Instr} {src : Sender} (s : State) (h : c.sender? = some src) :
    ∃ owner, exec c s = .next (if c.actsOnBroadcast then s.takeBoth src owner else s.takeRequest src owner) := by
  cases c <;> cases h <;> exact ⟨_, rfl⟩

/-- Settles O3. -/
theorem requestsPassTheGate : Obligations.RequestsPassTheGate := by
  intro c s
  refine ⟨fun h ha => ?_, fun tag h => ?_⟩
  · obtain ⟨owner, he⟩ := exec_of_sender s h
    rw [he, ha]
    rfl
  · obtain ⟨owner, he⟩ := exec_of_sender s h
    have addressed : exec c s = .next (s.takeAddressed tag owner) := by
      rw [he]
      split <;> rfl
    exact ⟨fun hw => by rw [addressed, State.takeAddressed_waits s tag owner hw],
      fun h1 h2 h3 => by rw [addressed, State.takeAddressed_busy s tag owner h1 h2 h3]⟩

/-! ## Power-on -/

theorem defaultMap_mapAt {c : ThreadChange} (hc : c.map = defaultMap) {slot h : Nat} (hs : slot < 64) (h1 : 1 ≤ h)
    (h8 : h ≤ 8) : c.mapAt slot h = slot % 12 + 1 := by
  have row : c.map.getD slot [] = List.replicate 8 (slot % 12 + 1) := by simp [hc, defaultMap, hs]
  rw [ThreadChange.mapAt, row, List.getD_replicate _ (by omega)]

/-- Settles O13. -/
theorem powerOnValues : Obligations.PowerOnValues := by
  refine ⟨fun rate addr ready homeX homeY => ?_, rfl⟩
  have heads : ∀ h, 1 ≤ h → h ≤ 8 → ((State.atPowerOn rate addr ready homeX homeY).headAt h).needle = 0 ∧
      ((State.atPowerOn rate addr ready homeX homeY).headAt h).queued = none ∧
      ((State.atPowerOn rate addr ready homeX homeY).headAt h).acked = none := fun h h1 h8 => by
    interval_cases h <;> exact ⟨rfl, rfl, rfl⟩
  have off : ∀ h, 2 ≤ h → h ≤ 8 → ((State.atPowerOn rate addr ready homeX homeY).headAt h).state = .off :=
    fun h h2 h8 => by interval_cases h <;> rfl
  have zones : ∀ z ∈ (State.atPowerOn rate addr ready homeX homeY).frame.zones, z.fields.active = false := fun z hz =>
    (List.eq_of_mem_replicate hz) ▸ rfl
  refine ⟨?_, heads, rfl, off, ⟨rfl, rfl, rfl, rfl, rfl, rfl⟩, rfl, ⟨rfl, rfl, rfl, rfl, zones⟩, ⟨rfl, rfl, rfl, rfl, rfl⟩,
    ⟨rfl, rfl, rfl, rfl, rfl⟩, fun slot h hs h1 h8 => defaultMap_mapAt rfl hs h1 h8, ⟨rfl, rfl⟩, rfl, ⟨rfl, rfl, rfl⟩, ?_⟩
  · exact ⟨rfl, rfl, rfl, rfl, rfl, rfl, rfl, rfl, rfl, rfl, rfl, rfl, rfl, rfl, rfl, rfl, rfl, rfl, rfl, rfl, rfl, rfl⟩
  · exact ⟨rfl, rfl, rfl, rfl, rfl, rfl, rfl, rfl, rfl, rfl⟩

/-- Settles O14: with the input asserted the emergency stop acts on the power-on values. -/
theorem powerOnRuns : Obligations.PowerOnRuns := by
  intro rate addr ready estop homeX homeY s
  cases estop <;> rfl

/-! ## Message layouts -/

/-- Settles O21: each source's message, as it is sent. -/
theorem messageLayouts : Obligations.MessageLayouts := by
  intro l tag code data places e events g p
  refine ⟨fun h => ?_, fun h => ?_, fun h => ?_, fun h => ?_⟩
  all_goals
    simp only [Link.sendFrom, h]
    rfl

end Sys2Proof.Machine

/-!
Reception: escaping, the check of a frame, and the round trip (O15, O16, O17).
-/

namespace Sys2Proof.Machine

set_option Elab.async false

/-! ## Bytes into the frame being assembled (R159) -/

theorem Link.receive_of_unseen {l : Link} (h : l.flagSeen = false) (b : Byte) : l.receive b = l := by
  simp [Link.receive, h]

theorem Link.receive_escape {l : Link} (hf : l.flagSeen = true) (he : l.escaped = false) :
    l.receive escapeMark = { l with escaped := true } := by
  simp [Link.receive, hf, he]

theorem Link.receive_plain {l : Link} {b : Byte} (hf : l.flagSeen = true) (he : l.escaped = false)
    (hb : b ≠ escapeMark) : l.receive b = l.addByte b := by
  simp [Link.receive, hf, he, hb]

/-- A byte as it is sent comes in as itself: the escape turns bit 5 twice. -/
theorem Link.receive_escapeByte {l : Link} (b : Byte) (hf : l.flagSeen = true) (he : l.escaped = false) :
    (escapeByte b).foldl Link.receive l = l.addByte b := by
  unfold escapeByte
  split
  · rw [List.foldl_cons, Link.receive_escape hf he, List.foldl_cons, List.foldl_nil]
    simp [Link.receive, hf, Link.addByte]
  · rename_i hb
    exact Link.receive_plain hf he fun h => hb (.inr h)

/-- A content as it is sent joins what is assembled, cut off at 308 bytes (R160). -/
theorem Link.receive_escapeBytes (content : List Byte) {l : Link} (hf : l.flagSeen = true) (he : l.escaped = false)
    (hl : l.assembling.length ≤ 308) : (escapeBytes content).foldl Link.receive l =
      { l with assembling := (l.assembling ++ content).take 308 } := by
  induction content generalizing l with
  | nil => simp [escapeBytes, List.take_of_length_le hl]
  | cons b content ih =>
    have split : escapeBytes (b :: content) = escapeByte b ++ escapeBytes content := rfl
    rw [split, List.foldl_append, Link.receive_escapeByte b hf he]
    by_cases hroom : l.assembling.length < 308
    · have added : l.addByte b = { l with assembling := l.assembling ++ [b] } := by
        simp [Link.addByte, contentCut, hroom, he]
      rw [added, ih (l := { l with assembling := l.assembling ++ [b] }) hf he (by simpa using hroom)]
      simp
    · have added : l.addByte b = l := by
        simp [Link.addByte, contentCut, hroom, ← he]
      have full : 308 ≤ l.assembling.length := not_lt.mp hroom
      rw [added, ih hf he hl, List.take_append_of_le_length full, List.take_append_of_le_length full]

/-- Bytes other than the escape byte leave no escape open. -/
theorem Link.receive_plains_escaped {bytes : List Byte} (hb : ∀ b ∈ bytes, b ≠ escapeMark) {l : Link}
    (he : l.escaped = false) : (bytes.foldl Link.receive l).escaped = false := by
  induction bytes generalizing l with
  | nil => exact he
  | cons b bytes ih =>
    refine ih (fun c hc => hb c (List.mem_cons_of_mem _ hc)) ?_
    cases hf : l.flagSeen with
    | true => rw [Link.receive_plain hf he (hb b List.mem_cons_self)]; rfl
    | false => rwa [Link.receive_of_unseen hf]

theorem Link.receiveAll_of_unseen (bytes : List Byte) {l : Link} (h : l.flagSeen = false) :
    bytes.foldl Link.receive l = l := by
  induction bytes with
  | nil => rfl
  | cons b bytes ih => rw [List.foldl_cons, Link.receive_of_unseen h, ih]

/-- What reception changes is gone when a frame is opened, unless a check has been made. -/
theorem Link.opened_receiveAll (bytes : List Byte) (l : Link) : (bytes.foldl Link.receive l).opened = l.opened := by
  induction bytes generalizing l with
  | nil => rfl
  | cons b bytes ih =>
    rw [List.foldl_cons, ih]
    unfold Link.receive
    (repeat' split) <;> rfl

theorem Link.opened_of_opened {l : Link} (hf : l.flagSeen = true) (he : l.escaped = false) (ha : l.assembling = []) :
    l.opened = l := by
  cases l
  simp_all [Link.opened]

/-- The checks do not read what is assembled, and leave it. -/
theorem Link.check_assembling (l : Link) (x content : List Byte) :
    ({ l with assembling := x } : Link).check content = { l.check content with assembling := x } := by
  simp only [Link.check, Link.addressed, Link.ownAddress]
  (repeat' split) <;> rfl

/-- A check changes the error count and the buffers only. -/
theorem Link.check_keeps (l : Link) (content : List Byte) : (l.check content).flagSeen = l.flagSeen ∧
    (l.check content).escaped = l.escaped ∧ (l.check content).assembling = l.assembling := by
  unfold Link.check
  (repeat' split) <;> exact ⟨rfl, rfl, rfl⟩

/-- A FLAG that closes a frame. -/
theorem Link.flag_of_closing {l : Link} (hf : l.flagSeen = true) (he : l.escaped = false) (ha : l.assembling ≠ []) :
    l.flag = (l.check l.assembling).opened := by
  unfold Link.flag
  rw [if_neg (by simp [hf, he, ha])]

/-- A FLAG that closes no frame: the first one, one after an escape, one with nothing before it. -/
theorem Link.flag_of_opening {l : Link} (h : l.flagSeen = false ∨ l.escaped = true ∨ l.assembling = []) :
    l.flag = l.opened := by
  unfold Link.flag
  rw [if_pos (by rcases h with h | h | h <;> simp [h])]

/-- A content sent escaped and closed by a FLAG is checked, cut off at 308 bytes. -/
theorem exec_frameClose_escapeBytes {s : State} {content : List Byte} (hf : s.link.flagSeen = true)
    (he : s.link.escaped = false) (ha : s.link.assembling = []) (hc : content ≠ []) :
    exec (.frameClose (escapeBytes content)) s = .next (s.setLink (s.link.check (content.take 308))) := by
  have received : (escapeBytes content).foldl Link.receive s.link = { s.link with assembling := content.take 308 } := by
    rw [Link.receive_escapeBytes content hf he (by simp [ha]), ha, List.nil_append]
  show Host.Outcome.next (s.setLink ((escapeBytes content).foldl Link.receive s.link).flag) = _
  obtain ⟨kf, ke, ka⟩ := s.link.check_keeps (content.take 308)
  rw [received, Link.flag_of_closing (l := { s.link with assembling := content.take 308 }) hf he (by simpa using hc), Link.check_assembling]
  refine congrArg (fun l => Host.Outcome.next (s.setLink l)) ?_
  exact Link.opened_of_opened (kf.trans hf) (ke.trans he) (ka.trans ha)

/-! ## The checks (R160) -/

theorem sizeRight_iff (content : List Byte) : sizeRight content = true ↔
    7 ≤ content.length ∧ twoAt content 3 ≤ 300 ∧ content.length = 7 + twoAt content 3 := by
  simp [sizeRight, and_assoc]

theorem checkRight_iff (content : List Byte) : checkRight content = true ↔
    crcBytes (content.take (content.length - 2)) = content.drop (content.length - 2) := by
  simp [checkRight]

theorem Link.addressed_iff (l : Link) (content : List Byte) : l.addressed content = true ↔
    byteAt content 0 = 15 ∨ (l.addressStraps ≠ 15 ∧ byteAt content 0 = l.addressStraps) := by
  by_cases h : l.addressStraps = 15
  · simp [Link.addressed, Link.ownAddress, h]
  · simp [Link.addressed, Link.ownAddress, h, @eq_comm _ l.addressStraps]

theorem Link.check_of_wrong_size {l : Link} {content : List Byte} (h : sizeRight content = false) :
    l.check content = l.countError := by
  simp [Link.check, h]

theorem Link.check_of_wrong_word {l : Link} {content : List Byte} (hs : sizeRight content = true)
    (h : checkRight content = false) : l.check content = l.countError := by
  simp [Link.check, hs, h]

theorem Link.check_of_other_address {l : Link} {content : List Byte} (hs : sizeRight content = true)
    (hc : checkRight content = true) (h : l.addressed content = false) : l.check content = l := by
  simp [Link.check, hs, hc, h]

theorem Link.check_of_no_buffer {l : Link} {content : List Byte} (hs : sizeRight content = true)
    (hc : checkRight content = true) (ha : l.addressed content = true) (h : 2 ≤ l.buffers.length) :
    l.check content = l.countError := by
  simp [Link.check, hs, hc, ha, Config.receiveBuffers, h]

theorem Link.check_of_right {l : Link} {content : List Byte} (hs : sizeRight content = true)
    (hc : checkRight content = true) (ha : l.addressed content = true) (h : l.buffers.length < 2) :
    l.check content = { l with buffers := l.buffers ++ [frameOf content] } := by
  simp [Link.check, hs, hc, ha, Config.receiveBuffers, Nat.not_le.mpr h]

/-- A content of the right size is not cut off. -/
theorem take_of_sizeRight {content : List Byte} (h : sizeRight content = true) : content.take 308 = content := by
  obtain ⟨_, _, _⟩ := (sizeRight_iff content).mp h
  exact List.take_of_length_le (by omega)

/-- One byte more than the greatest content, kept of a longer one, fails the size check. -/
theorem sizeRight_take_of_long {content : List Byte} (h : 307 < content.length) : sizeRight (content.take 308) = false := by
  rw [Bool.eq_false_iff, ne_eq, sizeRight_iff, List.length_take]
  omega

/-- Settles O16: the frame comes to `Link.check`, whose outcomes are taken in order. -/
theorem frameChecksInOrder : Obligations.FrameChecksInOrder := by
  intro s content hf he ha hc
  dsimp only
  rw [exec_frameClose_escapeBytes hf he ha hc, ← sizeRight_iff, ← checkRight_iff, ← Link.addressed_iff]
  simp only [Bool.not_eq_true]
  refine ⟨fun h => ?_, fun hn h => ?_, fun hs h => ?_, fun hs hw h => ?_, fun hs hw hm h => ?_⟩
  · rw [Link.check_of_wrong_size (sizeRight_take_of_long h)]
    rfl
  · rw [List.take_of_length_le (by omega), Link.check_of_wrong_size h]
    rfl
  · rw [take_of_sizeRight hs, Link.check_of_wrong_word hs h]
    rfl
  · rw [take_of_sizeRight hs, Link.check_of_other_address hs hw h]
    rfl
  · rw [take_of_sizeRight hs, Link.check_of_no_buffer hs hw hm h]
    rfl

/-! ## The round trip (R159, R160, R170) -/

theorem byteAt_cons_zero (b : Byte) (l : List Byte) : byteAt (b :: l) 0 = b.toNat := rfl

theorem byteAt_cons_succ (b : Byte) (l : List Byte) (i : Nat) : byteAt (b :: l) (i + 1) = byteAt l i := rfl

/-- A two-byte number is read as it was written. -/
theorem twoAt_be2 {n : Nat} (h : n < 65536) (l : List Byte) : twoAt (be2 n ++ l) 0 = n := by
  simp only [be2, twoAt, List.cons_append, byteAt_cons_zero, byteAt_cons_succ, BitVec.toNat_ofNat]
  omega

section Content

variable (a cls : Nat) (tag : Byte) (body : List Byte)

/-- The content of a frame without its check word. -/
def frameHead : List Byte := be1 a ++ be1 cls ++ [tag] ++ be2 body.length ++ body

theorem frameContent_eq : frameContent a cls tag body = frameHead a cls tag body ++ crcBytes (frameHead a cls tag body) :=
  rfl

theorem frameHead_length : (frameHead a cls tag body).length = 5 + body.length := by
  simp [frameHead, be1, be2]
  omega

theorem frameContent_length : (frameContent a cls tag body).length = 7 + body.length := by
  rw [frameContent_eq, List.length_append, frameHead_length]
  simp [crcBytes, be2]
  omega

theorem frameContent_fields {a cls : Nat} (ha : a < 256) (hc : cls < 256) (hb : body.length ≤ 300) :
    byteAt (frameContent a cls tag body) 0 = a ∧ byteAt (frameContent a cls tag body) 1 = cls ∧
      (frameContent a cls tag body).getD 2 0 = tag ∧ twoAt (frameContent a cls tag body) 3 = body.length ∧
      (frameContent a cls tag body).drop 5 = body ++ crcBytes (frameHead a cls tag body) := by
  have shape : frameContent a cls tag body = BitVec.ofNat 8 a :: BitVec.ofNat 8 cls :: tag ::
      (be2 body.length ++ (body ++ crcBytes (frameHead a cls tag body))) := by
    simp [frameContent_eq, frameHead, be1, List.append_assoc]
  rw [shape]
  refine ⟨?_, ?_, rfl, ?_, rfl⟩
  · simpa [byteAt] using ha
  · simpa [byteAt] using hc
  · exact twoAt_be2 (by omega) (body ++ crcBytes (frameHead a cls tag body))

end Content

/-- Settles O15. -/
theorem frameRoundTrip : Obligations.FrameRoundTrip := by
  intro s a cls tag body hf he ha hroom hcls hbody haddr
  have haddr' : a < 256 := by omega
  obtain ⟨f0, f1, f2, f3, f5⟩ := frameContent_fields tag body haddr' hcls hbody
  have hlen := frameContent_length a cls tag body
  have size : sizeRight (frameContent a cls tag body) = true := by
    rw [sizeRight_iff, hlen, f3]
    omega
  have word : checkRight (frameContent a cls tag body) = true := by
    rw [checkRight_iff, hlen, frameContent_eq]
    have head : 7 + body.length - 2 = (frameHead a cls tag body).length := by rw [frameHead_length]; omega
    simp [head]
  have mine : s.link.addressed (frameContent a cls tag body) = true := by
    rw [Link.addressed_iff, f0]
    omega
  have nonempty : frameContent a cls tag body ≠ [] := by
    rw [← List.length_pos_iff, hlen]
    omega
  rw [exec_frameClose_escapeBytes hf he ha nonempty, take_of_sizeRight size, Link.check_of_right size word mine hroom]
  simp only [frameOf, f0, f1, f2, f3, f5, List.take_left]

/-! ## Aborts and waits (R159, R158, R164) -/

theorem Link.receive_escape_flag (l : Link) (he : l.escaped = false) : (l.receive escapeMark).flag = l.opened := by
  cases hf : l.flagSeen with
  | false => rw [Link.receive_of_unseen hf, Link.flag_of_opening (.inl hf)]
  | true =>
    rw [Link.receive_escape hf he, Link.flag_of_opening (.inr (.inl rfl))]
    rfl

/-- A content as it is sent leaves no escape open. -/
theorem Link.receive_escapeBytes_escaped (content : List Byte) {l : Link} (he : l.escaped = false) :
    ((escapeBytes content).foldl Link.receive l).escaped = false := by
  cases hf : l.flagSeen with
  | false => rwa [Link.receiveAll_of_unseen _ hf]
  | true =>
    induction content generalizing l with
    | nil => exact he
    | cons b content ih =>
      have split : escapeBytes (b :: content) = escapeByte b ++ escapeBytes content := rfl
      rw [split, List.foldl_append, Link.receive_escapeByte b hf he]
      exact ih rfl hf

/-- No frame is begun when no source is ready. -/
theorem Link.walkBy_of_none_ready {l : Link} {ready : OutSource → Bool} (h : ∀ src, ready src = false) :
    l.walkBy ready = l := by
  have none_found : l.walkOrder.find? (fun p => ready p.2) = none := List.find?_eq_none.mpr fun p _ => by simp [h]
  simp [Link.walkBy, none_found]

/-- Settles O17. -/
theorem lineOpensAbortsAndWaits : Obligations.LineOpensAbortsAndWaits := by
  intro s bytes level
  dsimp only
  have aborted {bs : List Byte} (he : (bs.foldl Link.receive s.link).escaped = false) :
      exec (.frameAbort bs) s = .next (s.setLink s.link.opened) := by
    show Host.Outcome.next (s.setLink ((bs.foldl Link.receive s.link).receive escapeMark).flag) = _
    rw [Link.receive_escape_flag _ he, Link.opened_receiveAll]
  refine ⟨fun he hb => aborted (Link.receive_plains_escaped hb he), fun he =>
    aborted (Link.receive_escapeBytes_escaped bytes he), fun hf => ?_, fun hf => ?_, fun hf he ha => ?_, rfl, fun hr => ?_,
    fun hs hr hn => ?_⟩
  · show Host.Outcome.next (if s.link.flagSeen then s else s.setLink (bytes.foldl Link.receive s.link).flag) = _
    rw [hf, Link.receiveAll_of_unseen bytes hf, Link.flag_of_opening (.inl hf)]
    rfl
  · show Host.Outcome.next (if s.link.flagSeen then s else _) = _
    rw [hf]
    rfl
  · show Host.Outcome.next (s.setLink s.link.flag) = _
    rw [Link.flag_of_opening (.inr (.inr ha)), Link.opened_of_opened hf he ha]
    rfl
  · show Host.Outcome.next (s.setLink s.link.outbound) = _
    simp [Link.outbound, hr]
  · have idle : s.link.outbound = s.link := by
      simp [Link.outbound, Link.ownAddress, hs, hr, Link.walk, Link.walkBy_of_none_ready hn]
    show Host.Outcome.next (s.setLink s.link.outbound) = _
    rw [idle]
    rfl

end Sys2Proof.Machine

/-!
Decoding (O18) and the walk of the phase table (O19, O20).
-/

namespace Sys2Proof.Machine

set_option Elab.async false

/-! ## Decoding (R161) -/

/-- The command of a request is its owner behind the gate. -/
theorem exec_command {src : Sender} {r : Request} {c : Instr} (s : State) (h : r.command src = some c) :
    exec c s = .next (if c.actsOnBroadcast then s.takeBoth src (serve src r) else s.takeRequest src (serve src r)) := by
  cases r <;> cases h <;> rfl

theorem exec_command_addressed {tag : Byte} {r : Request} {c : Instr} (s : State)
    (h : r.command (.addressed tag) = some c) :
    exec c s = .next (s.takeAddressed tag (serve (.addressed tag) r)) := by
  rw [exec_command s h]
  split <;> rfl

section Decode

variable {s : State} {f : InFrame} {rest : List InFrame}

theorem exec_requestDecode_broadcast (hb : s.link.buffers = f :: rest) (hf : f.broadcast = true) :
    exec .requestDecode s = .next ((s.setLink { s.link with buffers := rest }).decodeBroadcast f) := by
  simp [exec, execRequestDecode, hb, hf]

theorem exec_requestDecode_addressed (hb : s.link.buffers = f :: rest) (hf : f.broadcast = false)
    (hr : s.link.replies.length < 4) :
    exec .requestDecode s = .next ((s.setLink { s.link with buffers := rest }).decodeAddressed f) := by
  simp [exec, execRequestDecode, hb, hf, Config.replyPlaces, hr]

theorem exec_requestDecode_waits (hb : s.link.buffers = f :: rest) (hf : f.broadcast = false)
    (hr : 4 ≤ s.link.replies.length) : exec .requestDecode s = .next s := by
  simp [exec, execRequestDecode, hb, hf, Config.replyPlaces, Nat.not_lt.mpr hr]

/-- A refusal by the decoder itself. -/
theorem State.deliver_reserved_refuse (t : State) (tag : Byte) (c : ResultCode) :
    State.deliver (refuse (t.setLink (t.link.reserve tag)) c) = t.replied tag c [] := by
  unfold refuse
  rw [State.deliver_tail _ t.link.replies tag _ rfl]
  rfl

theorem State.decodeAddressed_request {r : Request} (hd : decodeRequest f.cls f.body = .request r)
    (ha : s.link.addressStraps ≠ 15) (hr : s.link.replies.length < 4) :
    s.decodeAddressed f = s.takeAddressed f.tag (serve (.addressed f.tag) r) := by
  have free : ¬ (s.link.ownAddress.isNone || decide (Config.replyPlaces ≤ s.link.replies.length)) = true := by
    simp [Link.ownAddress, ha, Config.replyPlaces, Nat.not_le.mpr hr]
  unfold State.decodeAddressed State.takeAddressed
  rw [if_neg free]
  dsimp only
  rw [hd]
  rfl

theorem State.decodeAddressed_unknown (hd : decodeRequest f.cls f.body = .unknown) :
    s.decodeAddressed f = s.replied f.tag .unknown [] := by
  simp [State.decodeAddressed, hd, State.deliver_reserved_refuse]

theorem State.decodeAddressed_short (hd : decodeRequest f.cls f.body = .short) :
    s.decodeAddressed f = s.replied f.tag .format [] := by
  simp [State.decodeAddressed, hd, State.deliver_reserved_refuse]

theorem decodeRequest_unknown {cls : Nat} (b : List Byte) (h : cls = 0 ∨ 30 < cls) :
    decodeRequest cls b = .unknown := by
  unfold decodeRequest
  split
  case h_31 => rfl
  all_goals omega

/-- The classes with a body, each with the length that it needs (Table 10-6). -/
theorem decodeRequest_short {cls n : Nat} {b : List Byte} (h : b.length < n)
    (hc : (cls, n) ∈ ([(9, 1), (10, 1), (11, 1), (12, 1), (13, 2), (17, 8), (18, 9), (19, 3), (20, 1), (21, 1),
      (23, 1), (24, 2), (25, 2), (26, 1), (27, 1), (29, 1), (30, 1)] : List (Nat × Nat))) :
    decodeRequest cls b = .short := by
  simp only [List.mem_cons, Prod.mk.injEq, List.not_mem_nil, or_false] at hc
  rcases hc with ⟨rfl, rfl⟩ | ⟨rfl, rfl⟩ | ⟨rfl, rfl⟩ | ⟨rfl, rfl⟩ | ⟨rfl, rfl⟩ | ⟨rfl, rfl⟩ | ⟨rfl, rfl⟩ | ⟨rfl, rfl⟩ |
    ⟨rfl, rfl⟩ | ⟨rfl, rfl⟩ | ⟨rfl, rfl⟩ | ⟨rfl, rfl⟩ | ⟨rfl, rfl⟩ | ⟨rfl, rfl⟩ | ⟨rfl, rfl⟩ | ⟨rfl, rfl⟩ | ⟨rfl, rfl⟩ <;>
    exact if_pos h

theorem State.decodeBroadcast_stop (hd : decodeRequest f.cls f.body = .request .stop) :
    s.decodeBroadcast f = s.takeBoth .broadcast serveStop := by
  simp [State.decodeBroadcast, hd]

theorem State.decodeBroadcast_reset {mode : Nat} (hd : decodeRequest f.cls f.body = .request (.reset mode)) :
    s.decodeBroadcast f = s.takeBoth .broadcast (serveReset .broadcast mode) := by
  simp [State.decodeBroadcast, hd]

/-- STOP and RESET, as decoded requests. -/
def Request.actsOnBroadcast : Request → Bool
  | .stop => true
  | .reset _ => true
  | _ => false

theorem withBody_request {b : List Byte} {n : Nat} {q r : Request} (h : withBody b n q = .request r) : r = q := by
  unfold withBody at h
  split at h
  · cases h
  · exact (Decoded.request.inj h).symm

theorem settingOf_actsOnBroadcast (b : List Byte) : (settingOf b).actsOnBroadcast = false := by
  unfold settingOf
  split <;> rfl

theorem configureOf_actsOnBroadcast (b : List Byte) : (configureOf b).actsOnBroadcast = false := by
  unfold configureOf
  dsimp only
  split
  · rfl
  split
  · rfl
  split
  · rfl
  · exact settingOf_actsOnBroadcast b

/-- STOP is class 6 and RESET is class 29. -/
theorem decodeRequest_actsOnBroadcast {cls : Nat} {b : List Byte} {r : Request}
    (h : decodeRequest cls b = .request r) (ha : r.actsOnBroadcast = true) : cls = 6 ∨ cls = 29 := by
  unfold decodeRequest at h
  split at h
  case h_6 => exact .inl rfl
  case h_29 => exact .inr rfl
  case h_30 => simp [withBody_request h, configureOf_actsOnBroadcast] at ha
  case h_9 | h_10 | h_11 | h_12 | h_13 | h_17 | h_18 | h_19 | h_20 | h_21 | h_23 | h_24 | h_25 | h_26 | h_27 =>
    cases withBody_request h
    cases ha
  case h_31 => cases h
  all_goals
    cases h
    cases ha

/-- A broadcast frame of a class other than STOP and RESET is dropped. -/
theorem State.decodeBroadcast_dropped (h6 : f.cls ≠ 6) (h29 : f.cls ≠ 29) : s.decodeBroadcast f = s := by
  unfold State.decodeBroadcast
  split
  · exact absurd (decodeRequest_actsOnBroadcast ‹_› rfl) (by simp [h6, h29])
  · exact absurd (decodeRequest_actsOnBroadcast ‹_› rfl) (by simp [h6, h29])
  · rfl

end Decode

/-- Settles O18. -/
theorem decoderHandsOnOrAnswers : Obligations.DecoderHandsOnOrAnswers := by
  refine ⟨fun s f rest r c hb hd => ⟨fun hf ha hr hc => ?_, fun hf hc hact => ?_⟩, fun s f rest hb =>
    ⟨fun hf hr => exec_requestDecode_waits hb hf hr, fun hf hr hc => ?_, fun hf hr hm => ?_, fun hf h6 h29 => ?_⟩⟩
  · refine ⟨_, exec_requestDecode_addressed hb hf hr, ?_⟩
    rw [exec_command_addressed _ hc,
      State.decodeAddressed_request (s := s.setLink { s.link with buffers := rest }) hd ha hr]
  · refine ⟨_, exec_requestDecode_broadcast hb hf, ?_⟩
    rw [exec_command _ hc, hact]
    cases r with
    | stop =>
      rw [State.decodeBroadcast_stop hd]
      rfl
    | reset mode =>
      rw [State.decodeBroadcast_reset hd]
      rfl
    | configureShort => cases hc
    | _ => cases hc; cases hact
  · rw [exec_requestDecode_addressed hb hf hr, State.decodeAddressed_unknown (decodeRequest_unknown _ hc)]
  · obtain ⟨p, hp, hk⟩ := List.mem_flatMap.mp hm
    obtain ⟨k, hk, e⟩ := List.mem_map.mp hk
    obtain ⟨hcls, hlen⟩ := Prod.mk.inj e
    have short : f.body.length < p.2 := hlen ▸ List.mem_range.mp hk
    have known : decodeRequest f.cls f.body = .short := hcls ▸ decodeRequest_short short hp
    rw [exec_requestDecode_addressed hb hf hr, State.decodeAddressed_short known]
  · rw [exec_requestDecode_broadcast hb hf, State.decodeBroadcast_dropped h6 h29]

/-! ## The walk (R164) -/

/-- The source of the phase that a walk comes to after passing over `k` others. -/
def Link.phaseAfter (l : Link) (k : Nat) : Option OutSource := l.phases[(l.pointer - 1 + k) % 16]?

/-- A phase table of 16 with the pointer on one of its phases. -/
structure Link.Table (l : Link) : Prop where
  length : l.phases.length = 16
  low : 1 ≤ l.pointer
  high : l.pointer ≤ 16

section Walk

variable {l : Link}

theorem Link.numbered_getElem? (l : Link) (hl : l.phases.length = 16) (i : Nat) :
    (((List.range l.phases.length).map (· + 1)).zip l.phases)[i]? = (l.phases[i]?).map (fun src => (i + 1, src)) := by
  by_cases hi : i < 16
  · simp [hl, hi, List.getElem_zip]
  · simp [hl, not_lt.mp hi]

theorem Link.walkOrder_getElem? (h : l.Table) {k : Nat} (hk : k < 16) :
    l.walkOrder[k]? = (l.phaseAfter k).map (fun src => ((l.pointer - 1 + k) % 16 + 1, src)) := by
  obtain ⟨hl, h1, h16⟩ := h
  unfold Link.walkOrder Link.phaseAfter
  dsimp only
  by_cases hr : k < 16 - (l.pointer - 1)
  · have hm : (l.pointer - 1 + k) % 16 = l.pointer - 1 + k := Nat.mod_eq_of_lt (by omega)
    rw [List.getElem?_append_left (by simp [hl]; omega), List.getElem?_drop, hm, Link.numbered_getElem? l hl]
  · have hm : (l.pointer - 1 + k) % 16 = k - (16 - (l.pointer - 1)) := by omega
    rw [List.getElem?_append_right (by simp [hl]; omega)]
    simp only [List.length_drop, List.length_zip, List.length_map, List.length_range, hl, Nat.min_self]
    rw [List.getElem?_take_of_lt (by omega), hm, ← Link.numbered_getElem? l hl, hl]

theorem nextPhase_eq {p k : Nat} (h1 : 1 ≤ p) : nextPhase ((p - 1 + k) % 16 + 1) = (p + k) % 16 + 1 := by
  unfold nextPhase
  split <;> omega

/-- A walk serves the first ready phase from the pointer on (R164). -/
theorem Link.walkBy_of_first {ready : OutSource → Bool} (h : l.Table) {k : Nat} {src : OutSource} (hk : k < 16)
    (hs : l.phaseAfter k = some src) (hr : ready src = true)
    (hf : ∀ j other, j < k → l.phaseAfter j = some other → ready other = false) :
    l.walkBy ready = { l.sendFrom src with pointer := (l.pointer + k) % 16 + 1 } := by
  have found : l.walkOrder.find? (fun p => ready p.2) = some ((l.pointer - 1 + k) % 16 + 1, src) := by
    have at_k : l.walkOrder[k]? = some ((l.pointer - 1 + k) % 16 + 1, src) := by
      rw [Link.walkOrder_getElem? h hk, hs]
      rfl
    obtain ⟨inside, e⟩ := List.getElem?_eq_some_iff.mp at_k
    refine List.find?_eq_some_iff_getElem.mpr ⟨hr, k, inside, e, fun j hj => ?_⟩
    have at_j := Link.walkOrder_getElem? h (hj.trans hk)
    rw [List.getElem?_eq_getElem (hj.trans inside)] at at_j
    obtain ⟨other, ho, eo⟩ := Option.map_eq_some_iff.mp at_j.symm
    simp [← eo, hf j other hj ho]
  rw [Link.walkBy, found]
  dsimp only
  rw [nextPhase_eq h.low]

/-- With a ready phase ahead, the walk serves one no further off. -/
theorem Link.exists_first_ready {ready : OutSource → Bool} {d : Nat} {src : OutSource} (hs : l.phaseAfter d = some src)
    (hr : ready src = true) : ∃ k other, k ≤ d ∧ l.phaseAfter k = some other ∧ ready other = true ∧
      ∀ j o, j < k → l.phaseAfter j = some o → ready o = false := by
  classical
  have some_ready : ∃ k, ∃ other, l.phaseAfter k = some other ∧ ready other = true := ⟨d, src, hs, hr⟩
  obtain ⟨other, ho, hro⟩ := Nat.find_spec some_ready
  refine ⟨Nat.find some_ready, other, Nat.find_min' some_ready ⟨src, hs, hr⟩, ho, hro, fun j o hj hjo => ?_⟩
  have not_ready := Nat.find_min some_ready hj
  rw [Bool.eq_false_iff]
  exact fun hro' => not_ready ⟨o, hjo, hro'⟩

/-- Every phase of the table lies at most 15 phases ahead of the pointer. -/
theorem Link.exists_phaseAfter (h : l.Table) {src : OutSource} (hs : src ∈ l.phases) :
    ∃ d, d < 16 ∧ l.phaseAfter d = some src := by
  obtain ⟨hl, h1, h16⟩ := h
  obtain ⟨i, hi, e⟩ := List.getElem_of_mem hs
  refine ⟨(i + 16 - (l.pointer - 1)) % 16, Nat.mod_lt _ (by decide), ?_⟩
  have there : (l.pointer - 1 + (i + 16 - (l.pointer - 1)) % 16) % 16 = i := by omega
  rw [Link.phaseAfter, there, List.getElem?_eq_getElem hi, e]

/-! ## What a frame sends -/

theorem Link.outbound_named (hh : l.hostReady = true) (ha : l.addressStraps ≠ 15) (hr : l.replyFirst = false) :
    l.outbound = l.walk := by
  simp [Link.outbound, hh, Link.ownAddress, ha, hr]

theorem Link.outbound_unnamed (hh : l.hostReady = true) (ha : l.addressStraps = 15) : l.outbound = l.walkUnnamed := by
  simp [Link.outbound, hh, Link.ownAddress, ha]

theorem Link.outbound_replyFirst (hh : l.hostReady = true) (ha : l.addressStraps ≠ 15) (hr : l.replyFirst = true) :
    l.outbound = l.sendFrom .reply := by
  simp [Link.outbound, hh, Link.ownAddress, ha, hr]

theorem Link.readyUnnamed_iff (l : Link) (src : OutSource) : l.readyUnnamed src = true ↔
    src = .event ∧ ∃ e, l.events.head? = some e ∧ e.kind = .resetDone := by
  simp [Link.readyUnnamed, Option.any_eq_true]

end Walk

/-- Settles O19. -/
theorem walkServesFirstReadyPhase : Obligations.WalkServesFirstReadyPhase := by
  intro s hh
  dsimp only
  have sent {l : Link} (e : s.link.outbound = l) : exec .outboundWalk s = .next (s.setLink l) := e ▸ rfl
  refine ⟨fun ha hr ht k src hk hs hready hf => ?_, fun ha hr tag code data places hq => ?_, fun ha => ⟨fun hn => ?_,
    fun e he hk ht k hk16 hs hf => ?_⟩⟩
  · refine sent ?_
    rw [Link.outbound_named hh ha hr]
    exact Link.walkBy_of_first ⟨ht.1, ht.2.1, ht.2.2⟩ hk hs hready hf
  · refine sent ?_
    rw [Link.outbound_replyFirst hh ha hr, Link.sendFrom, hq]
    rfl
  · have none_ready : ∀ src, s.link.readyUnnamed src = false := fun src => by
      rw [Bool.eq_false_iff, ne_eq, Link.readyUnnamed_iff]
      exact fun ⟨_, e, he, hk⟩ => hn e he hk
    refine sent (l := s.link) ?_
    rw [Link.outbound_unnamed hh ha]
    exact Link.walkBy_of_none_ready none_ready
  · have ready : s.link.readyUnnamed .event = true := (s.link.readyUnnamed_iff _).mpr ⟨rfl, e, he, hk⟩
    refine sent ?_
    rw [Link.outbound_unnamed hh ha]
    refine Link.walkBy_of_first ⟨ht.1, ht.2.1, ht.2.2⟩ hk16 hs ready fun j other hj ho => ?_
    rw [Bool.eq_false_iff, ne_eq, Link.readyUnnamed_iff]
    rintro ⟨rfl, _⟩
    exact hf j hj ho

/-- A source that stays ready and stands `d` phases ahead is served within `d` further frames: each frame that serves
another one brings it nearer. -/
theorem served_within {l : Nat → Link} {src : OutSource}
    (hup : ∀ n, (l n).hostReady = true ∧ (l n).addressStraps ≠ 15 ∧ (l n).replyFirst = false ∧ (l n).ready src = true)
    (hnext : ∀ n, (l (n + 1)).phases = (l n).phases ∧ (l (n + 1)).pointer = (l n).outbound.pointer) (d : Nat) :
    ∀ n, d < 16 → (l n).Table → (l n).phaseAfter d = some src →
      ∃ m p, m ≤ n + d ∧ (l m).outbound = { (l m).sendFrom src with pointer := p } := by
  induction d using Nat.strong_induction_on with
  | _ d ih =>
    intro n hd ht hs
    obtain ⟨hh, ha, hr, hready⟩ := hup n
    obtain ⟨k, other, hkd, hk, hrk, hf⟩ := Link.exists_first_ready hs hready
    have sent : (l n).outbound = { (l n).sendFrom other with pointer := ((l n).pointer + k) % 16 + 1 } := by
      rw [Link.outbound_named hh ha hr]
      exact Link.walkBy_of_first ht (hkd.trans_lt hd) hk hrk hf
    by_cases hsame : other = src
    · subst hsame
      exact ⟨n, _, Nat.le_add_right .., sent⟩
    · have nearer : k < d := lt_of_le_of_ne hkd fun e => hsame (Option.some.inj ((e ▸ hk).symm.trans hs))
      have pointer : (l (n + 1)).pointer = ((l n).pointer + k) % 16 + 1 := by rw [(hnext n).2, sent]
      have table : (l (n + 1)).Table := ⟨(congrArg _ (hnext n).1).trans ht.length, by omega, by omega⟩
      have phase : (l (n + 1)).phaseAfter (d - k - 1) = some src := by
        have := ht.low
        have index : ((l (n + 1)).pointer - 1 + (d - k - 1)) % 16 = ((l n).pointer - 1 + d) % 16 := by omega
        rw [Link.phaseAfter, (hnext n).1, index]
        exact hs
      obtain ⟨m, p, hm, served⟩ := ih (d - k - 1) (by omega) (n + 1) (by omega) table phase
      exact ⟨m, p, by omega, served⟩

/-- Settles O20. -/
theorem sourceServedWithin16Frames : Obligations.SourceServedWithin16Frames := by
  intro l src hl hs h1 h16 hup hnext
  obtain ⟨d, hd, hp⟩ := Link.exists_phaseAfter ⟨hl, h1, h16⟩ hs
  obtain ⟨m, p, hm, served⟩ := served_within hup hnext d 0 hd ⟨hl, h1, h16⟩ hp
  exact ⟨m, p, by omega, served⟩

end Sys2Proof.Machine

/-!
PROOF. The Design Store's evaluations and its block form (section 2): pacing and release (O26), and when a body has the
form of a block (O24).
-/

namespace Sys2Proof.Machine
set_option Elab.async false

/-! ## Pacing and release -/

@[simp] theorem State.pace_slots (s : State) : s.pace.store.slots = s.store.slots := by
  unfold State.pace
  dsimp only
  split_ifs <;> rfl

theorem State.release_slots (s : State) :
    s.release.store.slots = s.store.slots.map (fun sl => if s.releasable sl then Slot.empty else sl) := by
  unfold State.release
  split
  next => rw [State.pace_slots]; rfl
  next hnone =>
    refine ((List.map_congr_left fun sl hmem => ?_).trans (List.map_id _)).symm
    have : ¬ s.releasable sl = true := fun h => hnone (List.any_eq_true.2 ⟨sl, hmem, h⟩)
    simp [this]

theorem rangesMeet_iff (a b c d : Nat) : rangesMeet a b c d = true ↔ ∃ j, a ≤ j ∧ j < b ∧ c ≤ j ∧ j < d := by
  unfold rangesMeet
  rw [decide_eq_true_iff]
  constructor
  · intro h
    exact ⟨max a c, by omega, by omega, by omega, by omega⟩
  · rintro ⟨j, ha, hb, hc, hd⟩
    omega

/-- R44 record by record: a slot is held when one of its records is. -/
theorem State.slotHeld_iff (s : State) (sl : Slot) :
    s.slotHeld sl = true ↔ ∃ j, sl.firstIndex ≤ j ∧ j < sl.firstIndex + sl.records.length ∧
      ((s.run.mainCursor - s.cfg.pacing.retain ≤ j ∧ j < s.run.mainCursor) ∨
        ∃ g ∈ s.gaps, g.start ≤ j ∧ j < g.stop.getD s.run.mainCursor) := by
  unfold State.slotHeld
  simp only [Bool.or_eq_true, List.any_eq_true, rangesMeet_iff, Gap.stopAt]
  constructor
  · rintro (⟨j, ha, hb, hc, hd⟩ | ⟨g, hg, j, ha, hb, hc, hd⟩)
    · exact ⟨j, ha, hb, .inl ⟨hc, hd⟩⟩
    · exact ⟨j, ha, hb, .inr ⟨g, hg, hc, hd⟩⟩
  · rintro ⟨j, ha, hb, ⟨hc, hd⟩ | ⟨g, hg, hc, hd⟩⟩
    · exact .inl ⟨j, ha, hb, hc, hd⟩
    · exact .inr ⟨g, hg, j, ha, hb, hc, hd⟩

/-- Settles O26: a pacing evaluation by its definition, a release evaluation slot by slot. -/
theorem pacingAndRelease : Obligations.PacingAndRelease := by
  unfold Obligations.PacingAndRelease
  refine ⟨fun s _ => ⟨rfl, fun h => ?_, fun hopen hn => ?_⟩, fun s i sl hsl => ?_⟩
  · unfold State.pace
    split
    next hopen => exact if_pos (h.resolve_left (not_not_intro hopen))
    next => rfl
  · unfold State.pace
    rw [if_pos hopen]
    exact if_neg hn
  · have hslot : s.release.store.slots[i]? = some (if s.releasable sl then Slot.empty else sl) := by
      rw [State.release_slots, List.getElem?_map, hsl]; rfl
    have hheld := s.slotHeld_iff sl
    refine ⟨fun hret hfree => ?_, fun hkept => ?_⟩
    · have hnot : s.slotHeld sl = false := by
        rw [Bool.eq_false_iff, Ne, hheld]
        rintro ⟨j, ha, hb, hj⟩
        exact hfree j ha hb hj
      rw [hslot, if_pos]
      simp [State.releasable, hret, hnot]
    · rw [hslot, if_neg]
      intro hrel
      obtain ⟨hret, hnot⟩ : sl.state = .retained ∧ s.slotHeld sl = false := by
        simpa [State.releasable] using hrel
      rcases hkept with hstate | hmeets
      · exact hstate hret
      · rw [hheld.2 hmeets] at hnot
        cases hnot

/-! ## The form of a block -/

theorem asSigned_byte (x : Byte) :
    asSigned 256 x.toNat = if x.toNat < 128 then (x.toNat : Int) else (x.toNat : Int) - 256 := by
  have : 2 * x.toNat < 256 ↔ x.toNat < 128 := by omega
  unfold asSigned
  simp only [this]
  rfl

theorem recordsOf_eq_some_iff (rs : List DesignRecord) : ∀ l : List Byte,
    recordsOf l = some rs ↔ l.length = 3 * rs.length ∧
      ∀ i, i < rs.length → recordOf (l.getD (3 * i) 0) (l.getD (3 * i + 1) 0) (l.getD (3 * i + 2) 0) = rs[i]? := by
  induction rs with
  | nil =>
    intro l
    match l with
    | [] => simp [recordsOf]
    | [_] => simp [recordsOf]
    | [_, _] => simp [recordsOf]
    | a :: b :: c :: rest =>
      simp only [recordsOf]
      split <;> simp
  | cons r rs ih =>
    intro l
    match l with
    | [] => simp [recordsOf]
    | [_] => simp [recordsOf]; omega
    | [_, _] => simp [recordsOf]; omega
    | a :: b :: c :: rest =>
      have hcons : recordsOf (a :: b :: c :: rest) = some (r :: rs) ↔
          recordOf a b c = some r ∧ recordsOf rest = some rs := by
        simp only [recordsOf]
        split
        next r' rs' hr hrs => simp [hr, hrs]
        next hnone =>
          simp only [reduceCtorEq, false_iff]
          rintro ⟨hr, hrs⟩
          exact hnone r rs hr hrs
      rw [hcons, ih]
      constructor
      · rintro ⟨hr, hlen, hall⟩
        refine ⟨by simp only [List.length_cons] at *; omega, fun i hi => ?_⟩
        cases i with
        | zero => simpa using hr
        | succ i => simpa [Nat.mul_add] using hall i (by simpa using hi)
      · rintro ⟨hlen, hall⟩
        refine ⟨by simpa using hall 0 (by simp), by simp only [List.length_cons] at *; omega, fun i hi => ?_⟩
        simpa [Nat.mul_add] using hall (i + 1) (by simpa using hi)

/-- R34's END rule, index by index. -/
theorem endRecordRight_iff (last : Bool) (rs : List DesignRecord) (hne : rs ≠ []) :
    endRecordRight last rs = true ↔ ∀ i, i < rs.length → (rs[i]? = some .finish ↔ last = true ∧ i + 1 = rs.length) := by
  obtain ⟨front, r, rfl⟩ : ∃ front r, rs = front ++ [r] := ⟨_, _, (List.dropLast_append_getLast hne).symm⟩
  have hfront : DesignRecord.finish ∉ front ↔ ∀ i, i < front.length → front[i]? ≠ some .finish := by
    rw [List.mem_iff_getElem?]
    constructor
    · intro h i _ hi
      exact h ⟨i, hi⟩
    · rintro h ⟨i, hi⟩
      exact h i (List.getElem?_eq_some_iff.1 hi).1 hi
  cases last with
  | true =>
    have : endRecordRight true (front ++ [r]) = true ↔ r = .finish ∧ .finish ∉ front := by
      simp [endRecordRight]
    rw [this, hfront]
    constructor
    · rintro ⟨rfl, hf⟩ i hi
      rw [List.length_append, List.length_singleton] at hi
      rcases Nat.lt_succ_iff_lt_or_eq.1 hi with hlt | rfl
      · simp only [List.getElem?_append_left hlt, hf i hlt, List.length_append, List.length_singleton,
          false_iff, true_and]
        omega
      · simp
    · intro h
      refine ⟨?_, fun i hi heq => ?_⟩
      · simpa using h front.length (by simp)
      · have := (h i (by simp; omega)).1 (by rw [List.getElem?_append_left hi]; exact heq)
        simp at this
        omega
  | false =>
    have : endRecordRight false (front ++ [r]) = true ↔ .finish ∉ front ++ [r] := by
      simp [endRecordRight]
    rw [this, List.mem_iff_getElem?]
    constructor
    · intro h i _
      simp only [Bool.false_eq_true, false_and, iff_false]
      exact fun hi => h ⟨i, hi⟩
    · rintro h ⟨i, hi⟩
      simpa using (h i (List.getElem?_eq_some_iff.1 hi).1).1 hi

theorem blockForm_eq_some_iff (body : List Byte) (rs : List DesignRecord) :
    blockForm body = some rs ↔ blockRecords body = some rs ∧ endRecordRight (blockLast body) rs = true := by
  unfold blockForm
  cases blockRecords body with
  | none => simp
  | some rs' =>
    dsimp only
    split
    next h =>
      constructor
      · rintro ⟨rfl⟩
        exact ⟨rfl, h⟩
      · rintro ⟨⟨rfl⟩, _⟩
        rfl
    next h =>
      refine ⟨nofun, ?_⟩
      rintro ⟨⟨rfl⟩, hend⟩
      exact absurd hend h

theorem blockRecords_eq_some_iff (body : List Byte) (rs : List DesignRecord) :
    blockRecords body = some rs ↔
      1 ≤ rs.length ∧ rs.length ≤ 96 ∧ byteAt body 3 = rs.length ∧ body.length = 4 + 3 * rs.length ∧
      ∀ i, i < rs.length →
        recordOf (body.getD (4 + 3 * i) 0) (body.getD (5 + 3 * i) 0) (body.getD (6 + 3 * i) 0) = rs[i]? := by
  have hget : ∀ n, (body.drop 4).getD n 0 = body.getD (4 + n) 0 := fun n => by
    simp [List.getD_eq_getElem?_getD]
  have hidx : ∀ i, 4 + (3 * i + 1) = 5 + 3 * i ∧ 4 + (3 * i + 2) = 6 + 3 * i := fun i => by omega
  unfold blockRecords
  dsimp only
  split
  next h =>
    rw [recordsOf_eq_some_iff]
    simp only [hget, (hidx _).1, (hidx _).2, List.length_drop]
    constructor
    · rintro ⟨hcount, hall⟩
      exact ⟨by omega, by omega, by omega, by omega, hall⟩
    · rintro ⟨_, _, _, hbody, hall⟩
      exact ⟨by omega, hall⟩
  next h =>
    refine ⟨nofun, ?_⟩
    rintro ⟨hlow, hhigh, hcount, hbody, _⟩
    exact absurd (by omega) h

/-- Settles O24: each record kind by its row of Table 10-7, and a body's form by its records, one by one. -/
theorem designBlockForm : Obligations.DesignBlockForm := by
  unfold Obligations.DesignBlockForm
  refine ⟨fun kind b c => ?_, fun body rs _ => ?_⟩
  · have hmotion : ∀ x : Byte, asSigned 256 x.toNat = -128 ↔ x.toNat = 128 := fun x => by
      have := x.isLt
      rw [asSigned_byte]
      split <;> omega
    refine ⟨fun h => ?_, fun h => ?_, fun h => ?_, fun h => ?_, fun h => ?_, fun h => ?_, fun h => ?_, fun h => ?_,
      fun h => ?_⟩
    all_goals unfold recordOf
    · simp only [h, hmotion]
      simp only [asSigned_byte]
    · simp only [h, hmotion]
      simp only [asSigned_byte]
    · simp only [h]
    · simp only [h]
    · simp only [h, Nat.mul_comm]
    · simp only [h]
    · simp only [h]
    · simp only [h]
    · split
      case h_9 => rfl
      all_goals omega
  · rw [blockForm_eq_some_iff, blockRecords_eq_some_iff]
    have hlast : blockLast body = true ↔ byteAt body 2 % 2 = 1 := by simp [blockLast]
    constructor
    · rintro ⟨⟨hlow, hhigh, hcount, hbody, hall⟩, hend⟩
      rw [endRecordRight_iff _ _ (List.ne_nil_of_length_pos hlow)] at hend
      exact ⟨hlow, hhigh, hcount, hbody, hall, by simpa only [hlast] using hend⟩
    · rintro ⟨hlow, hhigh, hcount, hbody, hall, hend⟩
      refine ⟨⟨hlow, hhigh, hcount, hbody, hall⟩, ?_⟩
      rw [endRecordRight_iff _ _ (List.ne_nil_of_length_pos hlow)]
      simpa only [hlast] using hend

end Sys2Proof.Machine

/-!
PROOF. What the host reads (section 10): the read-outs (O42) and STATUS (O41). First how an owner's answer with data
passes the gate.
-/

namespace Sys2Proof.Machine
set_option Elab.async false

/-! ## A request answered with data -/

/-- An owner that leaves the reply queue alone, and answers, leaves the state it made with the answer written behind the
queue. -/
theorem State.takeAddressed_answered (s t : State) (tag : Byte) (owner : State → Served) (code : ResultCode)
    (data : List Byte) (h : s.hears = true) (hl : t.link.replies = s.link.replies)
    (ho : owner (s.setLink (s.link.reserve tag)) = (t.setLink (t.link.reserve tag), some ⟨code, data⟩)) :
    s.takeAddressed tag owner = t.replied tag code data := by
  have hr : (t.setLink (t.link.reserve tag)).link.replies = s.link.replies ++ [⟨tag, none⟩] := by
    rw [← hl]; rfl
  rw [State.takeAddressed_served s _ tag owner ⟨code, data⟩ h ho hr, ← hl]
  rfl

theorem validHead_iff (h : Nat) : validHead h = true ↔ 1 ≤ h ∧ h ≤ 8 := by simp [validHead]

/-! ## READ HEAD, READ GAPS and the read-backs -/

/-- The handling byte of a head: one byte, and that of the fault when one is pending (log 7). -/
def handlingOf (f : Option PendingFault) (free : Nat) : Byte :=
  match f with
  | some p => match p.handling with | .held => 0#8 | .dropped => 1#8
  | none => BitVec.ofNat 8 (free % 256)

theorem handlingByte_eq (f : Option PendingFault) (free : Nat) : handlingByte f free = [handlingOf f free] := by
  match f with
  | none => rfl
  | some ⟨_, .held⟩ => rfl
  | some ⟨_, .dropped⟩ => rfl

theorem handlingOf_of_fault {f : Option PendingFault} {p : PendingFault} (free : Nat) (h : f = some p) :
    handlingOf f free = (match p.handling with | .held => 0#8 | .dropped => 1#8) := by
  subst h
  rfl

theorem serveReadHead_of_valid (s : State) {h : Nat} (hv : validHead h = true) :
    serveReadHead h s = (s.tick, some ⟨.ok, s.readHeadData h⟩) := if_pos hv

theorem serveReadHead_of_not_valid (s : State) {h : Nat} (hv : validHead h = false) :
    serveReadHead h s = refuse s .range := if_neg (by simp [hv])

theorem exec_readHead_taken (s : State) (tag : Byte) {h : Nat} (hh : s.hears = true) (hv : validHead h = true) :
    exec (.readHead (.addressed tag) h) s =
      .next ((s.setFree (s.free + 1)).replied tag .ok (s.readHeadData h)) :=
  congrArg _ (State.takeAddressed_answered s (s.setFree (s.free + 1)) tag _ .ok _ hh rfl
    (serveReadHead_of_valid _ hv))

theorem exec_readHead_refused (s : State) (tag : Byte) {h : Nat} (hh : s.hears = true) (hv : validHead h = false) :
    exec (.readHead (.addressed tag) h) s = .next (s.replied tag .range []) :=
  congrArg _ (State.takeAddressed_refused s tag _ .range hh (serveReadHead_of_not_valid _ hv))

/-- A read-back that finds its contents answers them. -/
theorem exec_readBack_found (s : State) (tag : Byte) {group : Nat} {number : Option Nat} {data : List Byte}
    (hh : s.hears = true) (hfit : readBackFits group number = true) (hb : s.readBack group number = some data) :
    exec (.configureReadBack (.addressed tag) group number) s = .next (s.replied tag .ok data) := by
  refine congrArg _ (State.takeAddressed_answered s s tag _ .ok data hh rfl ?_)
  have hb' : (s.setLink (s.link.reserve tag)).readBack group number = some data := hb
  unfold serveReadBack
  rw [if_pos hfit, hb']

/-- A read-back of a group, piece or zone out of range is answered RANGE. -/
theorem exec_readBack_range (s : State) (tag : Byte) {group : Nat} {number : Option Nat} (hh : s.hears = true)
    (hfit : readBackFits group number = true) (hb : s.readBack group number = none) :
    exec (.configureReadBack (.addressed tag) group number) s = .next (s.replied tag .range []) := by
  refine congrArg _ (State.takeAddressed_refused s tag _ .range hh ?_)
  have hb' : (s.setLink (s.link.reserve tag)).readBack group number = none := hb
  unfold serveReadBack
  rw [if_pos hfit, hb']

/-- A read-back of another length is answered FORMAT. -/
theorem exec_readBack_format (s : State) (tag : Byte) {group : Nat} {number : Option Nat} (hh : s.hears = true)
    (hfit : readBackFits group number = false) :
    exec (.configureReadBack (.addressed tag) group number) s = .next (s.replied tag .format []) := by
  refine congrArg _ (State.takeAddressed_refused s tag _ .format hh ?_)
  unfold serveReadBack
  rw [if_neg (by simp [hfit])]

/-- Groups with a number are those of 3 and 6. -/
theorem readBackFits_iff {group : Nat} (number : Option Nat) (hlow : 1 ≤ group) (hhigh : group ≤ 11) :
    readBackFits group number = true ↔ (number.isSome = true ↔ group = 3 ∨ group = 6) := by
  have h0 : (group == 0) = false := by simp; omega
  have h11 : decide (11 < group) = false := by simp; omega
  have hlen : readBackLength group = 2 ↔ group = 3 ∨ group = 6 := by
    unfold readBackLength
    split
    next h => simp [h]
    next h => simp [h]
  unfold readBackFits
  rw [h0, h11, Bool.false_or, Bool.false_or, beq_iff_eq, Bool.eq_iff_iff, beq_iff_eq, hlen]

theorem readBackFits_of_no_group {group : Nat} (number : Option Nat) (h : group = 0 ∨ 11 < group) :
    readBackFits group number = true := by
  rcases h with rfl | h
  · rfl
  · simp [readBackFits, h]

theorem State.readBack_of_no_group (s : State) {group : Nat} (number : Option Nat) (h : group = 0 ∨ 11 < group) :
    s.readBack group number = none := by
  match group, h with
  | 0, _ => rfl
  | n + 12, _ => rfl

/-- Settles O42: READ HEAD by the head's range, READ GAPS as it stands, and a read-back by its group's row. -/
theorem readoutsAnswerTheirData : Obligations.ReadoutsAnswerTheirData := by
  intro s tag hh flag
  refine ⟨fun h => ⟨fun hbad => ?_, fun hlow hhigh => ?_⟩, ?_, fun group number => ?_⟩
  · refine exec_readHead_refused s tag hh ?_
    rw [Bool.eq_false_iff, Ne, validHead_iff]
    omega
  · refine ⟨handlingOf (s.watchAt h).fault (Config.freeNat s.free), fun f hf => handlingOf_of_fault _ hf, ?_⟩
    rw [exec_readHead_taken s tag hh ((validHead_iff h).2 ⟨hlow, hhigh⟩), ← handlingByte_eq]
    refine congrArg (fun data => Host.Outcome.next (State.replied (s.setFree (s.free + 1)) tag .ok data)) ?_
    simp only [State.readHeadData, recordBytes, engageCode, flagByte, flag]
    cases (s.linkAt h).record <;> rfl
  · exact congrArg _ (State.takeAddressed_answered s s tag _ .ok _ hh rfl rfl)
  · refine ⟨?_, ?_, ?_, ?_, ?_, ?_, ?_, ?_, ?_, ?_, ?_, ?_, ?_⟩
    case refine_3 =>
      rintro p rfl rfl
      split
      next h => exact exec_readBack_found s tag hh rfl (if_pos h)
      next h => exact exec_readBack_range s tag hh rfl (if_neg h)
    case refine_6 =>
      rintro n rfl rfl
      refine ⟨fun hbad => exec_readBack_range s tag hh rfl (if_neg ?_), fun z hlow hhigh hz => ?_⟩
      · show ¬(1 ≤ n ∧ n ≤ 4)
        omega
      · have hb : s.readBack 6 (some n) = some (zoneReadBack n z) := by
          show (if 1 ≤ n ∧ n ≤ 4 then (s.frame.zones[n - 1]?).map (zoneReadBack n) else none) = _
          rw [if_pos ⟨hlow, hhigh⟩, hz]
          rfl
        rw [exec_readBack_found s tag hh rfl hb]
        unfold zoneReadBack
        cases z.waiting <;> rfl
    case refine_12 =>
      intro hlow hhigh hnum _
      refine exec_readBack_format s tag hh ?_
      rw [Bool.eq_false_iff, Ne, readBackFits_iff number hlow hhigh, ← hnum]
      cases number <;> simp
    case refine_13 =>
      intro h
      exact exec_readBack_range s tag hh (readBackFits_of_no_group number h) (s.readBack_of_no_group number h)
    all_goals
      rintro rfl rfl
      exact exec_readBack_found s tag hh rfl rfl

/-! ## STATUS -/

theorem groupSelected_iff {selection : Nat} (n : Nat) (h : selection < 256) :
    groupSelected selection n = true ↔ if selection = 0 then n = 0 else selection / 2 ^ n % 2 = 1 := by
  unfold groupSelected
  rw [Nat.mod_eq_of_lt h]
  split <;> simp

theorem groupBytes_eq {selection : Nat} (n : Nat) (b : List Byte) (h : selection < 256) :
    groupBytes selection n b =
      if (if selection = 0 then n = 0 else selection / 2 ^ n % 2 = 1) then b else [] := by
  unfold groupBytes
  simp only [groupSelected_iff n h]

/-- A part of a move's steps lies between none of them and all of them. -/
theorem AxisMove.signed_between (m : AxisMove) {n : Nat} (h : n ≤ m.steps.natAbs) :
    min 0 m.steps ≤ m.signed n ∧ m.signed n ≤ max 0 m.steps := by
  unfold AxisMove.signed
  split <;> omega

/-- R83: the step count read at rest is the axis's own; during a move whose length is known it lies between the
beginning and the end of the move. -/
theorem Axis.stepsRead_between (a : Axis) (free : Nat) : (a.move = none → a.stepsRead free = a.steps) ∧
    ∀ m, a.move = some m → m.kind ≠ .homing → m.issued ≤ m.steps.natAbs →
      min a.steps (a.steps + m.steps) ≤ a.stepsRead free ∧ a.stepsRead free ≤ max a.steps (a.steps + m.steps) := by
  refine ⟨fun h => by simp [Axis.stepsRead, h], fun m hm hkind hissued => ?_⟩
  have hread : a.stepsRead free = a.steps + m.signed (max m.issued (free % (m.steps.natAbs + 1))) := by
    unfold Axis.stepsRead
    rw [hm]
    dsimp only
    cases hk : m.kind <;> simp_all
  have hmod : free % (m.steps.natAbs + 1) < m.steps.natAbs + 1 := Nat.mod_lt _ (by omega)
  have hsigned := m.signed_between (n := max m.issued (free % (m.steps.natAbs + 1))) (by omega)
  omega

/-- The four origin bytes of FRAME: those of the origin, or free ones before it is set (log 7). -/
def State.originFields (s : State) (freeX freeY : Nat) : List Byte :=
  match s.frame.origin with
  | some o => sbe2 o.x ++ sbe2 o.y
  | none => be2 (freeX % 65536) ++ be2 (freeY % 65536)

theorem State.originBytes_eq (s : State) (freeX freeY : Nat) :
    s.originBytes freeX freeY = flagByte s.frame.origin.isSome ++ s.originFields freeX freeY := by
  unfold State.originBytes State.originFields
  cases s.frame.origin with
  | none => exact List.append_assoc _ _ _
  | some o => exact List.append_assoc _ _ _

theorem State.originFields_length (s : State) (freeX freeY : Nat) : (s.originFields freeX freeY).length = 4 := by
  unfold State.originFields
  cases s.frame.origin <;> rfl

theorem State.originFields_of_set {s : State} {o : Point} (freeX freeY : Nat) (h : s.frame.origin = some o) :
    s.originFields freeX freeY = sbe2 o.x ++ sbe2 o.y := by simp [State.originFields, h]

/-- STATUS on the state with a reply place reserved. -/
theorem serveStatus_reserved (s : State) (tag : Byte) (selection : Nat) (h : selection < 256) :
    let cleared := if selection / 32 % 2 = 1 then s.setLink { s.link with overflow := false } else s
    let t := cleared.setFree (s.free + 16)
    serveStatus selection (s.setLink (s.link.reserve tag)) =
      (t.setLink (t.link.reserve tag), some ⟨.ok, s.statusData selection⟩) := by
  have hfaults : groupSelected selection 5 = true ↔ selection / 32 % 2 = 1 := by
    rw [groupSelected_iff 5 h]
    split <;> simp_all
  dsimp only
  unfold serveStatus
  by_cases hsel : selection / 32 % 2 = 1
  · rw [if_pos hsel, if_pos (hfaults.2 hsel)]
    rfl
  · rw [if_neg hsel, if_neg (mt hfaults.1 hsel)]
    rfl

/-- Settles O41: the groups one by one, each free value bounded as the manual bounds it. -/
theorem statusAnswersTheSelectedGroups : Obligations.StatusAnswersTheSelectedGroups := by
  intro s tag selection hh hsel pick flag run speed store heads stepsRead cleared
  let f := fun n => Config.freeNat (s.free + n)
  refine ⟨s.frame.x.stepsRead (f 0), s.frame.y.stepsRead (f 1), s.originFields (f 2) (f 3),
    fun h => handlingOf (s.watchAt h).fault (f (4 + h)), s.frame.x.stepsRead_between _, s.frame.y.stepsRead_between _,
    s.originFields_length _ _, fun o ho => State.originFields_of_set _ _ ho,
    fun h p hp => handlingOf_of_fault _ hp, ?_⟩
  have hreplies : (cleared.setFree (s.free + 16)).link.replies = s.link.replies := by
    show (if _ then _ else s : State).link.replies = _
    split <;> rfl
  have hexec : exec (.status (.addressed tag) selection) s =
      .next ((cleared.setFree (s.free + 16)).replied tag .ok (s.statusData selection)) :=
    congrArg _ (State.takeAddressed_answered s _ tag _ .ok _ hh hreplies (serveStatus_reserved s tag selection hsel))
  have hframe : s.statusFrame = sbe2 s.frame.x.pos ++ sbe4 (s.frame.x.stepsRead (f 0)) ++ flag s.frame.x.referenced ++
      sbe2 s.frame.y.pos ++ sbe4 (s.frame.y.stepsRead (f 1)) ++ flag s.frame.y.referenced ++
      flag s.frame.origin.isSome ++ s.originFields (f 2) (f 3) := by
    unfold State.statusFrame
    dsimp only
    rw [State.originBytes_eq]
    simp only [Axis.bytes, List.append_assoc]
    rfl
  have hfaults : s.statusFaults 4 = headNumbers.flatMap (fun h => be1 (faultCode (s.watchAt h).fault) ++
      [handlingOf (s.watchAt h).fault (f (4 + h))]) ++ flag s.link.overflow := by
    unfold State.statusFaults
    simp only [handlingByte_eq]
    rfl
  have hstore : s.statusStore = store := by
    simp only [store, State.statusStore, List.flatMap_cons, List.flatMap_nil, List.append_nil, List.append_assoc]
    rfl
  rw [hexec, ← hframe, ← hfaults, ← hstore]
  unfold State.statusData
  iterate 8 rw [groupBytes_eq _ _ hsel]
  rfl

end Sys2Proof.Machine

/-!
PROOF. The groups that need no cross-check of another block, and SET POLICY (section 11; O46). With them the tool for
requests whose work does not look at the reply queue: an operation that commutes with replacing the reply queue keeps
it, and passes the gate as it is.
-/

namespace Sys2Proof.Machine
set_option Elab.async false

/-! ## Work that does not look at the reply queue -/

/-- The state with another reply queue. -/
def State.withReplies (s : State) (rs : List ReplyPlace) : State := s.setLink { s.link with replies := rs }

@[simp] theorem State.withReplies_run (s : State) (rs : List ReplyPlace) : (s.withReplies rs).run = s.run := rfl
@[simp] theorem State.withReplies_gov (s : State) (rs : List ReplyPlace) : (s.withReplies rs).gov = s.gov := rfl
@[simp] theorem State.withReplies_frame (s : State) (rs : List ReplyPlace) : (s.withReplies rs).frame = s.frame := rfl
@[simp] theorem State.withReplies_shaft (s : State) (rs : List ReplyPlace) : (s.withReplies rs).shaft = s.shaft := rfl
@[simp] theorem State.withReplies_bus (s : State) (rs : List ReplyPlace) : (s.withReplies rs).bus = s.bus := rfl
@[simp] theorem State.withReplies_change (s : State) (rs : List ReplyPlace) : (s.withReplies rs).change = s.change := rfl
@[simp] theorem State.withReplies_monitor (s : State) (rs : List ReplyPlace) : (s.withReplies rs).monitor = s.monitor := rfl
@[simp] theorem State.withReplies_gaps (s : State) (rs : List ReplyPlace) : (s.withReplies rs).gaps = s.gaps := rfl
@[simp] theorem State.withReplies_store (s : State) (rs : List ReplyPlace) : (s.withReplies rs).store = s.store := rfl
@[simp] theorem State.withReplies_cfg (s : State) (rs : List ReplyPlace) : (s.withReplies rs).cfg = s.cfg := rfl
@[simp] theorem State.withReplies_free (s : State) (rs : List ReplyPlace) : (s.withReplies rs).free = s.free := rfl
@[simp] theorem State.withReplies_pending (s : State) (rs : List ReplyPlace) : (s.withReplies rs).pending = s.pending := rfl

theorem State.withReplies_self (s : State) : s.withReplies s.link.replies = s := rfl

theorem State.ite_withReplies (c : Prop) [Decidable c] (s t : State) (rs : List ReplyPlace) :
    (if c then s else t).withReplies rs = if c then s.withReplies rs else t.withReplies rs :=
  apply_ite (State.withReplies · rs) c s t

/-- An operation that commutes with replacing the reply queue keeps it. -/
theorem State.replies_kept_of_commutes {f : State → State}
    (hf : ∀ (s : State) (rs : List ReplyPlace), f (s.withReplies rs) = (f s).withReplies rs) (s : State) :
    (f s).link.replies = s.link.replies := by
  have h := hf s s.link.replies
  rw [s.withReplies_self] at h
  rw [h]
  rfl

/-- A request whose owner does work that commutes with replacing the reply queue. -/
theorem State.takeAddressed_of_commutes (s : State) (tag : Byte) (owner : State → Served) (f : State → State)
    (code : ResultCode) (data : List Byte) (h : s.hears = true)
    (hf : ∀ (s : State) (rs : List ReplyPlace), f (s.withReplies rs) = (f s).withReplies rs)
    (ho : owner (s.setLink (s.link.reserve tag)) =
      (f (s.withReplies (s.link.replies ++ [⟨tag, none⟩])), some ⟨code, data⟩)) :
    s.takeAddressed tag owner = (f s).replied tag code data := by
  have hr := State.replies_kept_of_commutes hf s
  refine State.takeAddressed_answered s (f s) tag owner code data h hr ?_
  rw [ho, hf, ← hr]
  rfl

theorem State.pace_withReplies (s : State) (rs : List ReplyPlace) : (s.withReplies rs).pace = s.pace.withReplies rs := by
  unfold State.pace
  simp only [State.ite_withReplies]
  rfl

theorem State.release_withReplies (s : State) (rs : List ReplyPlace) :
    (s.withReplies rs).release = s.release.withReplies rs := by
  have hslots : (s.withReplies rs).releaseSlots = s.releaseSlots.withReplies rs := rfl
  have hany : (s.withReplies rs).store.slots.any (s.withReplies rs).releasable = s.store.slots.any s.releasable := rfl
  unfold State.release
  rw [hany]
  split
  next => rw [hslots, State.pace_withReplies]
  next => rfl

/-! ## The groups -/

theorem threadRight_iff (g : ThreadGroup) : threadRight g = true ↔
    2 ≤ g.breakB ∧ g.breakB ≤ 31 ∧ g.tensionHigh ≤ 255 ∧ g.tensionLow < g.tensionHigh ∧ 1 ≤ g.upper ∧
      g.upper ≤ 31 ∧ g.lower ≤ 30 ∧ g.lower < g.upper ∧ 50 ≤ g.derate ∧ g.derate ≤ 100 ∧ g.warnLevel ≤ 65535 ∧
      g.overlap ≤ 15 := by
  simp only [threadRight, Bool.and_eq_true, within_iff, decide_eq_true_eq]
  omega

theorem pacingRight_iff (g : PacingGroup) : pacingRight g = true ↔
    96 ≤ g.low ∧ g.high ≤ 3072 ∧ g.low < g.high ∧ g.retain ≤ 2000 := by
  simp only [pacingRight, Bool.and_eq_true, within_iff, decide_eq_true_eq]
  omega

theorem isPosition_iff (v : Int) : isPosition v = true ↔ -32000 ≤ v ∧ v ≤ 32000 := by
  unfold isPosition withinInt
  rw [Bool.and_eq_true, decide_eq_true_iff, decide_eq_true_iff]
  rfl

theorem zoneRight_iff (z : ZoneFields) : zoneRight z = true ↔
    4 ≤ z.kx ∧ z.kx ≤ 14 ∧ 4 ≤ z.ky ∧ z.ky ≤ 14 ∧ -32000 ≤ z.xBase ∧ z.xBase ≤ 32000 ∧ -32000 ≤ z.yBase ∧
      z.yBase ≤ 32000 ∧ (2 ^ z.kx : Int) ∣ z.xBase ∧ (2 ^ z.ky : Int) ∣ z.yBase := by
  simp only [zoneRight, Bool.and_eq_true, within_iff, isPosition_iff, beq_iff_eq, Int.dvd_iff_emod_eq_zero, and_assoc]

theorem ShaftState.turning_iff (k : ShaftState) :
    k.turning = true ↔ k = .referencing ∨ k = .running ∨ k = .stopping := by
  cases k <;> decide

theorem sourceOf_eq_some_iff (n : Nat) (o : OutSource) : sourceOf n = some o ↔ o.code = n := by
  match n with
  | 0 => cases o <;> decide
  | 1 => cases o <;> decide
  | 2 => cases o <;> decide
  | 3 => cases o <;> decide
  | n + 4 => cases o <;> simp [sourceOf, OutSource.code]

theorem mapM_sourceOf_eq_some_iff (codes : List Nat) (table : List OutSource) :
    codes.mapM sourceOf = some table ↔ table.map OutSource.code = codes := by
  induction codes generalizing table with
  | nil => simp [eq_comm]
  | cons n codes ih =>
    simp only [List.mapM_cons, Option.bind_eq_bind, Option.bind_eq_some_iff, Option.pure_def, Option.some.injEq, ih,
      sourceOf_eq_some_iff]
    constructor
    · rintro ⟨o, rfl, rest, rfl, rfl⟩
      rfl
    · intro h
      obtain ⟨o, rest, rfl, ho, hrest⟩ := List.map_eq_cons_iff.1 h
      exact ⟨o, ho, rest, hrest, rfl⟩

/-- R164: a phase table is taken when its codes are sources, each with a phase. -/
theorem phasesOf_eq_some_iff (codes : List Nat) (table : List OutSource) :
    phasesOf codes = some table ↔
      table.map OutSource.code = codes ∧ 0 ∈ codes ∧ 1 ∈ codes ∧ 2 ∈ codes ∧ 3 ∈ codes := by
  have hmem : ∀ (o : OutSource) (l : List OutSource), o ∈ l ↔ o.code ∈ l.map OutSource.code := fun o l => by
    refine ⟨List.mem_map_of_mem, fun h => ?_⟩
    obtain ⟨o', ho', hcode⟩ := List.mem_map.1 h
    have : o' = o := by
      have h1 := (sourceOf_eq_some_iff o.code o').2 hcode
      have h2 := (sourceOf_eq_some_iff o.code o).2 rfl
      exact Option.some.inj (h1.symm.trans h2)
    exact this ▸ ho'
  unfold phasesOf
  cases hm : codes.mapM sourceOf with
  | none =>
    refine ⟨nofun, fun ⟨h, _⟩ => ?_⟩
    rw [(mapM_sourceOf_eq_some_iff codes table).2 h] at hm
    cases hm
  | some l =>
    have hl := (mapM_sourceOf_eq_some_iff codes l).1 hm
    have hall : (l.contains .reply && l.contains .event && l.contains .grant && l.contains .progress) = true ↔
        0 ∈ codes ∧ 1 ∈ codes ∧ 2 ∈ codes ∧ 3 ∈ codes := by
      simp only [Bool.and_eq_true, List.contains_iff_mem, and_assoc]
      rw [hmem .reply, hmem .event, hmem .grant, hmem .progress, hl]
      rfl
    dsimp only
    split
    next h =>
      rw [Option.some.injEq]
      constructor
      · rintro rfl
        exact ⟨hl, hall.1 h⟩
      · rintro ⟨htable, _⟩
        have := (mapM_sourceOf_eq_some_iff codes table).2 htable
        exact Option.some.inj (hm.symm.trans this)
    next h =>
      refine ⟨nofun, fun ⟨_, hmems⟩ => absurd (hall.2 hmems) h⟩

theorem policyOf_eq_none_of_one_lt {policy : Nat} (h : 1 < policy) : policyOf policy = none := by
  match policy, h with
  | _ + 2, _ => rfl

theorem serveSetPolicy_of_not_settable (policy : Nat) {s : State} (h : s.settable = false) :
    serveSetPolicy policy s = refuse s .busy := by
  simp [serveSetPolicy, h]

theorem serveSetPolicy_of_code {s : State} {policy : Nat} {p : Policy} (h : s.settable = true)
    (hp : policyOf policy = some p) : serveSetPolicy policy s = taken (s.setMonitor { s.monitor with policy := p }) := by
  simp [serveSetPolicy, h, hp]

theorem serveSetPolicy_of_no_code {s : State} {policy : Nat} (h : s.settable = true) (hp : policyOf policy = none) :
    serveSetPolicy policy s = refuse s .range := by
  simp [serveSetPolicy, h, hp]

theorem servePacing_of_not_configurable (g : PacingGroup) {s : State} (h : s.configurable = false) :
    servePacing g s = refuse s .busy := by
  simp [servePacing, h]

theorem servePacing_of_not_right {g : PacingGroup} {s : State} (h : s.configurable = true) (hr : pacingRight g = false) :
    servePacing g s = refuse s .range := by
  simp [servePacing, h, hr]

theorem servePacing_of_right {g : PacingGroup} {s : State} (h : s.configurable = true) (hr : pacingRight g = true) :
    servePacing g s = taken (if s.cfg.pacing.retain = g.retain then s.setCfg { s.cfg with pacing := g }
      else (s.setCfg { s.cfg with pacing := g }).release) := by
  simp [servePacing, h, hr]

theorem exec_configureThread_right (s : State) (tag : Byte) {g : ThreadGroup} (hh : s.hears = true)
    (hr : threadRight g = true) :
    exec (.configureThread (.addressed tag) g) s = .next ((s.setCfg { s.cfg with thread := g }).replied tag .ok []) :=
  congrArg _ (State.takeAddressed_answered s (s.setCfg { s.cfg with thread := g }) tag _ .ok [] hh rfl
    ((if_pos hr).trans rfl))

theorem exec_configureThread_wrong (s : State) (tag : Byte) {g : ThreadGroup} (hh : s.hears = true)
    (hr : ¬ threadRight g = true) : exec (.configureThread (.addressed tag) g) s = .next (s.replied tag .range []) :=
  congrArg _ (State.takeAddressed_refused s tag _ .range hh (if_neg hr))

theorem exec_configurePacing_released (s : State) (tag : Byte) {g : PacingGroup} (hh : s.hears = true)
    (hopen : s.configurable = true) (hr : pacingRight g = true) (hne : g.retain ≠ s.cfg.pacing.retain) :
    exec (.configurePacing (.addressed tag) g) s =
      .next ((s.setCfg { s.cfg with pacing := g }).release.replied tag .ok []) := by
  refine congrArg _ (State.takeAddressed_of_commutes s tag _ (fun t => (t.setCfg { t.cfg with pacing := g }).release)
    .ok [] hh (fun t rs => ?_) ?_)
  · exact State.release_withReplies (t.setCfg { t.cfg with pacing := g }) rs
  · rw [servePacing_of_right (s := s.setLink (s.link.reserve tag)) hopen hr]
    exact congrArg taken (if_neg fun h => hne h.symm)

theorem exec_configurePacing_kept (s : State) (tag : Byte) {g : PacingGroup} (hh : s.hears = true)
    (hopen : s.configurable = true) (hr : pacingRight g = true) (heq : g.retain = s.cfg.pacing.retain) :
    exec (.configurePacing (.addressed tag) g) s = .next ((s.setCfg { s.cfg with pacing := g }).replied tag .ok []) := by
  refine congrArg _ (State.takeAddressed_answered s (s.setCfg { s.cfg with pacing := g }) tag _ .ok [] hh rfl ?_)
  rw [servePacing_of_right (s := s.setLink (s.link.reserve tag)) hopen hr]
  exact congrArg taken (if_pos heq.symm)

/-- Settles O46: each group by its range, the ones with a run state by that first. -/
theorem otherGroupsTaken : Obligations.OtherGroupsTaken := by
  intro s tag hh
  refine ⟨?thread, ?pacing, ?policy, ?zone, ?arbiter, ?poll, ?progress⟩
  case thread =>
    intro g run right
    have hright : right ↔ threadRight g = true := (threadRight_iff g).symm
    rw [hright]
    exact ⟨exec_configureThread_wrong s tag hh, exec_configureThread_right s tag hh⟩
  case pacing =>
    intro g run open_ right taken
    have hopen : open_ ↔ s.configurable = true := s.configurable_iff.symm
    have hright : right ↔ pacingRight g = true := (pacingRight_iff g).symm
    rw [hopen, hright]
    refine ⟨fun hbusy => ?_, fun hop hbad => ?_, fun hop hr =>
      ⟨exec_configurePacing_kept s tag hh hop hr, exec_configurePacing_released s tag hh hop hr⟩⟩
    · exact congrArg _ (State.takeAddressed_refused s tag _ .busy hh
        (servePacing_of_not_configurable g (Bool.eq_false_iff.2 hbusy)))
    · exact congrArg _ (State.takeAddressed_refused s tag _ .range hh
        (servePacing_of_not_right (s := s.setLink _) hop (Bool.eq_false_iff.2 hbad)))
  case policy =>
    intro policy both
    have both_of {t : State} (ht : s.takeAddressed tag (serveSetPolicy policy) = t) : both t :=
      ⟨congrArg _ ht, congrArg _ ht⟩
    refine ⟨fun hidle hpaused => ?_, fun hs => ?_⟩
    · refine both_of (State.takeAddressed_refused s tag _ .busy hh (serveSetPolicy_of_not_settable policy ?_))
      rw [State.settable_setLink, Bool.eq_false_iff, Ne, State.settable_iff]
      exact not_or.mpr ⟨hidle, hpaused⟩
    · have h : s.settable = true := s.settable_iff.mpr hs
      have taken_as {p : Policy} (hp : policyOf policy = some p) :
          both ((s.setMonitor { s.monitor with policy := p }).replied tag .ok []) :=
        both_of (State.takeAddressed_taken s (s.setMonitor { s.monitor with policy := p }) tag _ hh rfl
          (serveSetPolicy_of_code (s := s.setLink _) h hp))
      refine ⟨?_, ?_, fun hp => both_of (State.takeAddressed_refused s tag _ .range hh
        (serveSetPolicy_of_no_code (s := s.setLink _) h (policyOf_eq_none_of_one_lt hp)))⟩
      · rintro rfl; exact taken_as rfl
      · rintro rfl; exact taken_as rfl
  case zone =>
    intro zone active xb kx yb ky run right fields turning
    have hright : right ↔ 1 ≤ zone ∧ zone ≤ 4 ∧ active ≤ 1 ∧ zoneRight fields = true := by
      rw [zoneRight_iff]
    rw [hright]
    refine ⟨fun hbad => congrArg _ (State.takeAddressed_refused s tag _ .range hh (if_neg hbad)), fun hr => ?_⟩
    have hturning : ∀ z : Zone, z.request s.shaft.state.turning fields =
        if turning then { z with waiting := some fields } else ⟨fields, none⟩ := fun z => by
      unfold Zone.request
      simp only [ShaftState.turning_iff]
      rfl
    simp only [← hturning]
    exact congrArg _ (State.takeAddressed_answered s (s.setFrame _) tag _ .ok [] hh rfl ((if_pos hr).trans rfl))
  case arbiter =>
    intro phases run
    refine ⟨fun hbad => ?_, fun table htable h0 h1 h2 h3 => ?_⟩
    · have hnone : phasesOf phases = none := by
        rw [Option.eq_none_iff_forall_ne_some]
        intro table htable
        obtain ⟨hcodes, h0, h1, h2, h3⟩ := (phasesOf_eq_some_iff phases table).1 htable
        rcases hbad with ⟨n, hn, hbig⟩ | hbad | hbad | hbad | hbad
        · rw [← hcodes] at hn
          obtain ⟨o, _, rfl⟩ := List.mem_map.1 hn
          cases o <;> simp [OutSource.code] at hbig
        · exact hbad h0
        · exact hbad h1
        · exact hbad h2
        · exact hbad h3
      refine congrArg _ (State.takeAddressed_refused s tag _ .range hh ?_)
      unfold serveArbiter
      rw [hnone]
    · have hsome := (phasesOf_eq_some_iff phases table).2 ⟨htable, h0, h1, h2, h3⟩
      refine congrArg _ (State.takeAddressed_answered s (s.setLink { s.link with phases := table }) tag _ .ok [] hh
        rfl ?_)
      unfold serveArbiter
      rw [hsome]
      rfl
  case poll =>
    intro angle period run
    refine ⟨fun hbad => congrArg _ (State.takeAddressed_refused s tag _ .range hh (if_neg (by omega))),
      fun ha hlow hhigh => ?_⟩
    exact congrArg _ (State.takeAddressed_answered s
      (s.setCfg { s.cfg with pollAngle := angle, pollPeriod := period }) tag _ .ok [] hh rfl
      ((if_pos ⟨ha, hlow, hhigh⟩).trans rfl))
  case progress =>
    intro period run at_
    have hserve : ∀ (p : Nat) (code : ResultCode), min period 1000 = p → (if period ≤ 1000 then .ok else .clamped) = code →
        run = .next ((at_ p).replied tag code []) := by
      rintro _ _ rfl rfl
      exact congrArg _ (State.takeAddressed_answered s (at_ (min period 1000)) tag _ _ [] hh rfl rfl)
    exact ⟨fun h => hserve _ _ (Nat.min_eq_left h) (if_pos h),
      fun h => hserve _ _ (Nat.min_eq_right h.le) (if_neg (Nat.not_le.2 h))⟩

end Sys2Proof.Machine

/-!
PROOF. START, RESUME, STEP and RUN TO MARK (section 1.4 and 1.6; O27, O28). The four owners ask the same question,
`State.runRefused`, and begin the same start.
-/

namespace Sys2Proof.Machine
set_option Elab.async false

/-! ## What a start asks for -/

@[simp] theorem State.startRefused_setLink (s : State) (l : Link) : (s.setLink l).startRefused = s.startRefused := rfl

@[simp] theorem State.resumeRefused_setLink (s : State) (l : Link) : (s.setLink l).resumeRefused = s.resumeRefused := rfl

@[simp] theorem State.runRefused_setLink (s : State) (l : Link) (modeRight : Bool) :
    (s.setLink l).runRefused modeRight = s.runRefused modeRight := rfl

theorem FrameDrive.referenced_iff (f : FrameDrive) :
    f.referenced = true ↔ f.x.referenced = true ∧ f.y.referenced = true := by simp [FrameDrive.referenced]

section Conditions

variable {s : State}

theorem State.startRefused_of_no_data (h : s.store.design = .absent ∨ s.store.recordAt 0 = none) :
    s.startRefused = some .noData := if_pos h

theorem State.startRefused_of_unreferenced (hdata : ¬(s.store.design = .absent ∨ s.store.recordAt 0 = none))
    (h : s.frame.x.referenced = false ∨ s.frame.y.referenced = false ∨ s.shaft.referenced = false) :
    s.startRefused = some .notReferenced := by
  unfold State.startRefused
  rw [if_neg hdata, if_pos]
  rcases h with h | h | h <;> simp [FrameDrive.referenced, h]

/-- The last three conditions, with a design and everything referenced. -/
theorem State.startRefused_of_referenced (hdata : ¬(s.store.design = .absent ∨ s.store.recordAt 0 = none))
    (hx : s.frame.x.referenced = true) (hy : s.frame.y.referenced = true) (hs : s.shaft.referenced = true) :
    s.startRefused = if s.heldFault then some .faultPending else if !s.anyAble then some .notConfigured
      else if s.outOfBounds s.cursor then some .range else none := by
  unfold State.startRefused
  rw [if_neg hdata, if_neg]
  simp [FrameDrive.referenced, hx, hy, hs]

theorem State.resumeRefused_of_fault (h : s.heldFault = true) : s.resumeRefused = some .faultPending := if_pos h

theorem State.resumeRefused_of_unreferenced (hf : s.heldFault = false)
    (h : s.frame.x.referenced = false ∨ s.frame.y.referenced = false) : s.resumeRefused = some .notReferenced := by
  unfold State.resumeRefused
  rw [if_neg (Bool.eq_false_iff.1 hf), if_pos]
  rcases h with h | h <;> simp [FrameDrive.referenced, h]

/-- The last three conditions, with no held fault and the frame referenced. -/
theorem State.resumeRefused_of_referenced (hf : s.heldFault = false) (hx : s.frame.x.referenced = true)
    (hy : s.frame.y.referenced = true) :
    s.resumeRefused = if !s.dataAtCursor then some .noData else if !s.anyAble then some .notConfigured
      else if s.outOfBounds s.cursor then some .range else none := by
  unfold State.resumeRefused
  rw [if_neg (Bool.eq_false_iff.1 hf), if_neg]
  simp [FrameDrive.referenced, hx, hy]

/-- The conditions of R12 in their order, for whatever answer a refusal gives. -/
theorem State.startRefused_in_order {answer : ResultCode → Prop} (h : ∀ c, s.startRefused = some c → answer c) :
    (s.store.design = .absent ∨ s.store.recordAt 0 = none → answer .noData) ∧
    (s.store.design ≠ .absent → s.store.recordAt 0 ≠ none →
      (s.frame.x.referenced = false ∨ s.frame.y.referenced = false ∨ s.shaft.referenced = false → answer .notReferenced) ∧
      (s.frame.x.referenced = true → s.frame.y.referenced = true → s.shaft.referenced = true →
        (s.heldFault = true → answer .faultPending) ∧
        (s.heldFault = false → s.anyAble = false → answer .notConfigured) ∧
        (s.heldFault = false → s.anyAble = true → s.outOfBounds s.cursor = true → answer .range))) := by
  refine ⟨fun hd => h _ (State.startRefused_of_no_data hd), fun hd hr => ?_⟩
  have hdata := not_or.2 ⟨hd, hr⟩
  refine ⟨fun hu => h _ (State.startRefused_of_unreferenced hdata hu), fun hx hy hs => ?_⟩
  have hlast := State.startRefused_of_referenced hdata hx hy hs
  refine ⟨fun hf => h _ ?_, fun hf ha => h _ ?_, fun hf ha hb => h _ ?_⟩
  · simp [hlast, hf]
  · simp [hlast, hf, ha]
  · simp [hlast, hf, ha, hb]

/-- The conditions of R13 in their order, for whatever answer a refusal gives. -/
theorem State.resumeRefused_in_order {answer : ResultCode → Prop} (h : ∀ c, s.resumeRefused = some c → answer c) :
    (s.heldFault = true → answer .faultPending) ∧
    (s.heldFault = false →
      (s.frame.x.referenced = false ∨ s.frame.y.referenced = false → answer .notReferenced) ∧
      (s.frame.x.referenced = true → s.frame.y.referenced = true →
        (s.dataAtCursor = false → answer .noData) ∧
        (s.dataAtCursor = true → s.anyAble = false → answer .notConfigured) ∧
        (s.dataAtCursor = true → s.anyAble = true → s.outOfBounds s.cursor = true → answer .range))) := by
  refine ⟨fun hf => h _ (State.resumeRefused_of_fault hf), fun hf =>
    ⟨fun hu => h _ (State.resumeRefused_of_unreferenced hf hu), fun hx hy => ?_⟩⟩
  have hlast := State.resumeRefused_of_referenced hf hx hy
  refine ⟨fun hd => h _ ?_, fun hd ha => h _ ?_, fun hd ha hb => h _ ?_⟩
  · simp [hlast, hd]
  · simp [hlast, hd, ha]
  · simp [hlast, hd, ha, hb]

theorem State.runRefused_of_unconfigured (modeRight : Bool) (h : s.run.state = .unconfigured) :
    s.runRefused modeRight = some .notConfigured := if_pos h

theorem State.runRefused_of_idle (modeRight : Bool) (h : s.run.state = .idle) :
    s.runRefused modeRight = if modeRight then s.startRefused else some .busy := by
  simp [State.runRefused, h]

theorem State.runRefused_of_paused (modeRight : Bool) (h : s.run.state = .paused) :
    s.runRefused modeRight = if modeRight then s.resumeRefused else some .busy := by
  simp [State.runRefused, h]

theorem State.runRefused_elsewhere (modeRight : Bool) (hu : s.run.state ≠ .unconfigured) (hi : s.run.state ≠ .idle)
    (hp : s.run.state ≠ .paused) : s.runRefused modeRight = some .busy := by
  simp [State.runRefused, hu, hi, hp]

end Conditions

/-! ## The owners behind the gate -/

section Owners

variable {s : State} (tag : Byte) (hh : s.hears = true)
include hh

theorem exec_start_refused {c : ResultCode} (h : s.runRefused (s.run.mode != .single) = some c) :
    exec (.start (.addressed tag)) s = .next (s.replied tag c []) := by
  refine congrArg _ (State.takeAddressed_refused s tag _ c hh ?_)
  unfold serveStart
  rw [State.runRefused_setLink, State.setLink_run, h]

theorem exec_runToMark_refused (label : Nat) {c : ResultCode} (h : s.runRefused (s.run.mode != .single) = some c) :
    exec (.runToMark (.addressed tag) label) s = .next (s.replied tag c []) := by
  refine congrArg _ (State.takeAddressed_refused s tag _ c hh ?_)
  unfold serveRunToMark
  rw [State.runRefused_setLink, State.setLink_run, h]

theorem exec_step_refused {c : ResultCode} (h : s.runRefused (s.run.mode == .single) = some c) :
    exec (.step (.addressed tag)) s = .next (s.replied tag c []) := by
  refine congrArg _ (State.takeAddressed_refused s tag _ c hh ?_)
  unfold serveStep
  rw [State.runRefused_setLink, State.setLink_run, h]

theorem exec_resume_refused {c : ResultCode} (hi : s.run.state ≠ .idle)
    (h : s.runRefused (s.run.mode != .single) = some c) :
    exec (.resume (.addressed tag)) s = .next (s.replied tag c []) := by
  refine congrArg _ (State.takeAddressed_refused s tag _ c hh ?_)
  unfold serveResume
  rw [State.runRefused_setLink, State.setLink_run, h, if_neg hi]

theorem exec_resume_of_idle (hi : s.run.state = .idle) :
    exec (.resume (.addressed tag)) s = .next (s.replied tag .busy []) :=
  congrArg _ (State.takeAddressed_refused s tag _ .busy hh (if_pos hi))

end Owners

/-! ## The start that they begin -/

@[simp] theorem State.beginStart_setLink (s : State) (l : Link) (value : Nat) (step keep : Bool) :
    (s.setLink l).beginStart value step keep = (s.beginStart value step keep).setLink l := by
  unfold State.beginStart
  by_cases hi : s.run.state = .idle <;> simp only [State.setLink_run, hi, if_true, if_false] <;> rfl

@[simp] theorem State.beginStart_link (s : State) (value : Nat) (step keep : Bool) :
    (s.beginStart value step keep).link = s.link := by
  unfold State.beginStart
  split <;> rfl

theorem State.beginStart_eq (s : State) (value : Nat) (step keep : Bool) :
    s.beginStart value step keep =
      (if s.run.state = .idle then s.setFrame { s.frame with origin := some s.originPos } else s).setRun { s.run with
        state := .arming, cause := none, startReturn := some s.run.state, warning := true, activity := .hold
        startValue := value, stepping := step, stepDone := false, keepTieIn := keep
        patchDone := if s.run.pass = .patch then s.run.patchCursor else none } := by
  unfold State.beginStart
  split <;> rfl

section Taken

variable {s : State} (tag : Byte) (hh : s.hears = true)
include hh

theorem exec_start_taken (h : s.runRefused (s.run.mode != .single) = none) :
    exec (.start (.addressed tag)) s = .next ((s.beginStart s.startedValue false false).replied tag .ok []) := by
  refine congrArg _ (State.takeAddressed_taken s _ tag _ hh (State.beginStart_link s _ _ _) ?_)
  unfold serveStart
  rw [State.runRefused_setLink, State.setLink_run, h, ← State.beginStart_setLink]
  rfl

theorem exec_resume_taken (hi : s.run.state ≠ .idle) (h : s.runRefused (s.run.mode != .single) = none) :
    exec (.resume (.addressed tag)) s = .next ((s.beginStart 2 false false).replied tag .ok []) := by
  refine congrArg _ (State.takeAddressed_taken s _ tag _ hh (State.beginStart_link s _ _ _) ?_)
  unfold serveResume
  rw [State.runRefused_setLink, State.setLink_run, h, if_neg hi, ← State.beginStart_setLink]

theorem exec_step_taken (h : s.runRefused (s.run.mode == .single) = none) :
    exec (.step (.addressed tag)) s =
      .next ((s.beginStart 3 true (s.run.state == .paused && s.run.cause == some .step)).replied tag .ok []) := by
  refine congrArg _ (State.takeAddressed_taken s _ tag _ hh (State.beginStart_link s _ _ _) ?_)
  unfold serveStep
  rw [State.runRefused_setLink, State.setLink_run, h, ← State.beginStart_setLink]

theorem exec_runToMark_taken (label : Nat) (h : s.runRefused (s.run.mode != .single) = none) :
    exec (.runToMark (.addressed tag) label) s =
      .next (((s.setRun { s.run with mark := some label }).beginStart s.startedValue false false).replied tag .ok []) := by
  refine congrArg _ (State.takeAddressed_taken s _ tag _ hh
    (State.beginStart_link (s.setRun { s.run with mark := some label }) _ _ _) ?_)
  unfold serveRunToMark
  rw [State.runRefused_setLink, State.setLink_run, h, ← State.beginStart_setLink]
  rfl

end Taken

/-- Settles O27: from either state that a start is taken in, each request begins the start with its own value and
marks. -/
theorem startsArmTheRun : Obligations.StartsArmTheRun := by
  intro s tag label hh hfrom fixed armed value
  have hrefused : ∀ modeRight, modeRight = true → s.runRefused modeRight = none := by
    rintro _ rfl
    rcases hfrom with ⟨hi, hr⟩ | ⟨hp, hr⟩
    · exact (State.runRefused_of_idle true hi).trans hr
    · exact (State.runRefused_of_paused true hp).trans hr
  have hbegin : ∀ v step keep, (s.beginStart v step keep).replied tag .ok [] = armed s.run.mark v step keep :=
    fun v step keep => by
    rw [State.beginStart_eq]
    rfl
  have hmark : ((s.setRun { s.run with mark := some label }).beginStart s.startedValue false false).replied tag .ok [] =
      armed (some label) value false false := by
    rw [State.beginStart_eq]
    by_cases hi : s.run.state = .idle
    · simp only [armed, fixed, State.setRun_run, hi, if_true]
      rfl
    · simp only [armed, fixed, State.setRun_run, hi, if_false]
      rfl
  refine ⟨fun hm => ?_, fun hm => ?_⟩
  · have hr := hrefused (s.run.mode != .single) (by simp [hm])
    refine ⟨?_, fun hp => ?_, fun _ => ?_⟩
    · rw [exec_start_taken tag hh hr, hbegin]
      rfl
    · rw [exec_resume_taken tag hh (by simp [hp]) hr, hbegin]
    · rw [exec_runToMark_taken tag hh label hr, hmark]
  · rw [exec_step_taken tag hh (hrefused _ (by simp [hm])), hbegin]

/-! ## Able heads -/

/-- R116: a pending entry is read in place of the map entry. -/
theorem ThreadChange.needle_ne_zero_iff (c : ThreadChange) (slot h : Nat) :
    c.needle slot h ≠ 0 ↔ (match c.waiting.find? (fun p => p.slot == slot && p.head == h) with
      | some p => p.needle ≠ 0
      | none => c.mapAt slot h ≠ 0) := by
  unfold ThreadChange.needle ThreadChange.waitingFor
  cases c.waiting.find? (fun p => p.slot == slot && p.head == h) <;> exact Iff.rfl

theorem State.ableFor_iff_of_main (s : State) (slot h : Nat) (hp : s.run.pass = .main) :
    s.ableFor slot h = true ↔
      ((s.headAt h).state = .idle ∨ (s.headAt h).state = .sewing ∨ (s.headAt h).state = .resting) ∧
      (s.watchAt h).fault = none ∧ s.change.needle slot h ≠ 0 := by
  unfold State.ableFor
  cases (s.headAt h).state <;> simp [hp]

/-- Settles O28: the mode and the run state give the question, and its first condition that fails the answer. -/
theorem startConditionsInOrder : Obligations.StartConditionsInOrder := by
  intro s tag label hh all step resume fromIdle fromPaused
  have hall : ∀ c, s.runRefused (s.run.mode != .single) = some c → all c := fun c h =>
    ⟨exec_start_refused tag hh h, exec_runToMark_refused tag hh label h⟩
  have hstep : ∀ c, s.runRefused (s.run.mode == .single) = some c → step c := fun c h => exec_step_refused tag hh h
  have hresume : ∀ c, s.run.state ≠ .idle → s.runRefused (s.run.mode != .single) = some c → resume c :=
    fun c hi h => exec_resume_refused tag hh hi h
  refine ⟨fun hu => ?unconfigured, fun hu hi hp => ?elsewhere, fun hu hp => ?resume, fun hs => ?mode, fun hi => ?idle,
    fun hp => ?paused, fun h hmain => ?able⟩
  case unconfigured =>
    have hr := fun m => State.runRefused_of_unconfigured (s := s) m hu
    exact ⟨hall _ (hr _), hstep _ (hr _), hresume _ (by simp [hu]) (hr _)⟩
  case elsewhere =>
    have hr := fun m => State.runRefused_elsewhere (s := s) m hu hi hp
    exact ⟨hall _ (hr _), hstep _ (hr _)⟩
  case resume =>
    by_cases hi : s.run.state = .idle
    · exact exec_resume_of_idle tag hh hi
    · exact hresume _ hi (State.runRefused_elsewhere _ hu hi hp)
  case mode =>
    have hr : s.runRefused false = some .busy := by
      rcases hs with hi | hp
      · exact State.runRefused_of_idle false hi
      · exact State.runRefused_of_paused false hp
    refine ⟨fun hm => ?_, fun hm => hstep _ (by rw [beq_false_of_ne hm, hr])⟩
    have hr' : s.runRefused (s.run.mode != .single) = some .busy := by rw [hm]; exact hr
    refine ⟨hall _ hr', ?_⟩
    by_cases hi : s.run.state = .idle
    · exact exec_resume_of_idle tag hh hi
    · exact hresume _ hi hr'
  case idle =>
    have hr := State.runRefused_of_idle (s := s) true hi
    exact ⟨fun hm => State.startRefused_in_order fun c hc => hall c (by rw [bne_iff_ne.2 hm]; exact hr.trans hc),
      fun hm => State.startRefused_in_order fun c hc => hstep c (by rw [hm]; exact hr.trans hc)⟩
  case paused =>
    have hr := State.runRefused_of_paused (s := s) true hp
    refine ⟨fun hm => State.resumeRefused_in_order (answer := fun c => all c ∧ resume c) fun c hc => ?_,
      fun hm => State.resumeRefused_in_order fun c hc => hstep c (by rw [hm]; exact hr.trans hc)⟩
    have hc' : s.runRefused (s.run.mode != .single) = some c := by rw [bne_iff_ne.2 hm]; exact hr.trans hc
    exact ⟨hall c hc', hresume c (by simp [hp]) hc'⟩
  case able =>
    have hcursor : s.colourNow = (s.stampAt s.run.mainCursor).colour := by
      simp [State.colourNow, State.cursor, hmain]
    unfold State.able
    rw [hcursor]
    exact (State.ableFor_iff_of_main s _ h hmain).trans
      (and_congr Iff.rfl (and_congr Iff.rfl (ThreadChange.needle_ne_zero_iff _ _ _)))

end Sys2Proof.Machine

/-!
PROOF. The requests that move frame and shaft outside a run (sections 3.5, 4.5 to 4.7, 5.5; O33, O34, O35), with the
tool for a command that ends after one or two steps due by themselves.
-/

namespace Sys2Proof.Machine
set_option Elab.async false

/-! ## The end of a command, step by step -/

theorem State.settle_of_step {s t : State} (n : Nat) (h : s.advance = some t) :
    State.settle (n + 1) s = State.settle n t := by
  simp only [State.settle, h]

theorem State.settle_of_none {s : State} (n : Nat) (h : s.advance = none) : State.settle n s = s := by
  cases n <;> simp [State.settle, h]

/-- Nothing is due: the head bus goes on. -/
theorem State.finish_of_none {s : State} (h : s.advance = none) : s.finish = s.pump := by
  rw [State.finish, State.settle_of_none _ h]

/-- One step is due, and none after it. -/
theorem State.finish_of_one {s t : State} (h : s.advance = some t) (ht : t.advance = none) : s.finish = t.pump := by
  rw [State.finish, settleSteps, State.settle_of_step 262143 h, State.settle_of_none _ ht]

/-- Two steps are due, and none after them. -/
theorem State.finish_of_two {s t u : State} (h : s.advance = some t) (ht : t.advance = some u) (hu : u.advance = none) :
    s.finish = u.pump := by
  rw [State.finish, settleSteps, State.settle_of_step 262143 h, State.settle_of_step 262142 ht,
    State.settle_of_none _ hu]

theorem State.pump_link (s : State) : s.pump.link = s.link := by simp

theorem State.pump_withReplies (s : State) (rs : List ReplyPlace) :
    (s.withReplies rs).pump = s.pump.withReplies rs := by
  unfold State.withReplies
  rw [State.pump_setLink, State.pump_link]

/-- A request whose owner's work ends on the head bus alone: `t` is the state before the bus goes on, made by an
operation that leaves the reply queue alone. -/
theorem State.takeAddressed_pumped (s t : State) (tag : Byte) (owner : State → Served) (code : ResultCode)
    (data : List Byte) (h : s.hears = true) (hl : t.link.replies = s.link.replies)
    (ho : owner (s.setLink (s.link.reserve tag)) =
      ((t.setLink (t.link.reserve tag)).pump, some ⟨code, data⟩)) :
    s.takeAddressed tag owner = t.pump.replied tag code data := by
  refine State.takeAddressed_answered s t.pump tag owner code data h (by rw [State.pump_link, hl]) ?_
  rw [ho, State.pump_setLink, State.pump_link]

/-! ## Ceiling, origin and the judgement of a motion record -/

theorem inField_iff (m : MachineGroup) (p : Point) :
    inField m p = true ↔ m.xLow ≤ p.x ∧ p.x ≤ m.xHigh ∧ m.yLow ≤ p.y ∧ p.y ≤ m.yHigh := by
  simp [inField, and_assoc]

/-- A number has the quotient of a multiple of the divisor when it lies in the interval that the multiple begins. -/
theorem Int.ediv_eq_ediv_iff_of_emod_eq_zero {a b n : Int} (hn : 0 < n) (hb : b % n = 0) :
    a / n = b / n ↔ b ≤ a ∧ a < b + n := by
  obtain ⟨q, rfl⟩ := Int.dvd_of_emod_eq_zero hb
  rw [Int.mul_ediv_cancel_left _ hn.ne', Int.ediv_eq_iff_of_pos hn]
  constructor <;> rintro ⟨h1, h2⟩ <;> constructor <;> nlinarith

theorem inZone_iff {z : ZoneFields} (p : Point) (hx : z.xBase % (2 ^ z.kx : Int) = 0)
    (hy : z.yBase % (2 ^ z.ky : Int) = 0) :
    inZone z p = true ↔ z.active = true ∧ z.xBase ≤ p.x ∧ p.x < z.xBase + (2 ^ z.kx : Int) ∧
      z.yBase ≤ p.y ∧ p.y < z.yBase + (2 ^ z.ky : Int) := by
  unfold inZone
  rw [Bool.and_eq_true, Bool.and_eq_true, beq_iff_eq, beq_iff_eq,
    Int.ediv_eq_ediv_iff_of_emod_eq_zero (by positivity) hx, Int.ediv_eq_ediv_iff_of_emod_eq_zero (by positivity) hy]
  simp only [and_assoc]

/-- A record that neither pass makes a stop point is judged by itself. -/
theorem State.stopKindAt_of_record {s : State} {i : Nat} {r : DesignRecord} (hr : s.store.recordAt i = some r)
    (hmain : s.run.pass = .main → s.run.point ≠ some i) (hpatch : s.run.pass = .patch → s.patchStop i = false) :
    s.stopKindAt i = s.recordStop i r := by
  unfold State.stopKindAt
  rw [if_neg (fun h => by simp [hpatch h.1] at h), if_neg (fun h => hmain h.1 h.2), hr]

theorem exec_speedCeiling (s : State) (tag : Byte) (rpm : Nat) (hh : s.hears = true) :
    exec (.speedCeiling (.addressed tag) rpm) s =
      .next ((s.setGov { s.gov with ceiling := clampSpeed s.cfg.speeds rpm }).replied tag
        (if clampSpeed s.cfg.speeds rpm = rpm then .ok else .clamped) []) :=
  congrArg _ (State.takeAddressed_answered s (s.setGov { s.gov with ceiling := clampSpeed s.cfg.speeds rpm }) tag _ _ []
    hh rfl rfl)

section Origin

variable {s : State}

theorem serveSetOrigin_of_not_idle (h : s.run.state ≠ .idle) : serveSetOrigin s = refuse s .busy := if_pos h

theorem serveSetOrigin_of_not_referenced (hi : s.run.state = .idle) (h : ¬ s.frame.referenced = true) :
    serveSetOrigin s = refuse s .notReferenced := by
  simp [serveSetOrigin, hi, h]

theorem serveSetOrigin_of_referenced (hi : s.run.state = .idle) (h : s.frame.referenced = true) :
    serveSetOrigin s = taken (s.setFrame { s.frame with origin := some s.frame.pos }) := by
  simp [serveSetOrigin, hi, h]

end Origin

theorem FrameDrive.not_referenced_of_or {f : FrameDrive} (h : f.x.referenced = false ∨ f.y.referenced = false) :
    ¬ f.referenced = true := by
  rw [f.referenced_iff]
  rcases h with h | h <;> simp [h]

/-- Settles O33: a motion record by its target, the ceiling by its clamp, the origin by run state and reference. -/
theorem speedCeilingAndOrigin : Obligations.SpeedCeilingAndOrigin := by
  refine ⟨fun s i dx dy jump => ?judge, fun s tag rpm hh hspeeds => ?requests⟩
  case judge =>
    intro m o x y outside wide guarded hrec hbases hmain hpatch
    have hjudge : s.stopKindAt i = s.judgeMotion i dx dy (!jump) := by
      rw [State.stopKindAt_of_record hrec hmain hpatch]
      cases jump <;> rfl
    let target := (s.framePosAt i).add ⟨dx, dy⟩
    have hout : outside ↔ ¬ inField m target = true := by
      rw [inField_iff]
      show (x < m.xLow ∨ m.xHigh < x ∨ y < m.yLow ∨ m.yHigh < y) ↔
        ¬ (m.xLow ≤ x ∧ x ≤ m.xHigh ∧ m.yLow ≤ y ∧ y ≤ m.yHigh)
      omega
    have hguarded : guarded ↔ s.frame.zones.any (fun z => inZone z.fields target) = true := by
      rw [List.any_eq_true]
      refine exists_congr fun z => and_congr_right fun hz => ?_
      rw [inZone_iff target (hbases z hz).1 (hbases z hz).2]
      rfl
    rw [hjudge, hout, hguarded]
    unfold State.judgeMotion
    refine ⟨fun h => ?_, fun h hj hg => ?_, fun h hg => ?_⟩
    · exact if_pos (by simpa using h)
    · rw [if_neg (by simpa using h), if_pos]
      simp only [hj, Bool.not_false, Bool.true_and]
      exact hg
    · rw [if_neg (by simpa using h), if_neg]
      rw [Bool.and_eq_true]
      rintro ⟨hj, hz⟩
      rcases hg with rfl | hg
      · simp at hj
      · exact hg hz
  case requests =>
    intro ceiling origin at_
    have hceil : ∀ v code, clampSpeed s.cfg.speeds rpm = v → (if v = rpm then .ok else .clamped) = code →
        ceiling = .next ((at_ v).replied tag code []) := by
      rintro _ _ rfl rfl
      exact exec_speedCeiling s tag rpm hh
    have hclamp := clampSpeed_eq_ite hspeeds rpm
    refine ⟨fun hlow hhigh => ?_, fun hlow => ?_, fun hhigh => ?_, fun hi => ?_, fun hi => ⟨fun hr => ?_, fun hx hy => ?_⟩⟩
    · refine hceil _ _ ?_ (if_pos rfl)
      rw [hclamp, if_neg (by omega), if_neg (by omega)]
    · refine hceil _ _ ?_ (if_neg (by omega))
      rw [hclamp, if_pos hlow]
    · refine hceil _ _ ?_ (if_neg (by omega))
      rw [hclamp, if_neg (by omega), if_pos hhigh]
    · exact congrArg _ (State.takeAddressed_refused s tag _ .busy hh (serveSetOrigin_of_not_idle (s := s.setLink _) hi))
    · exact congrArg _ (State.takeAddressed_refused s tag _ .notReferenced hh
        (serveSetOrigin_of_not_referenced (s := s.setLink _) hi (FrameDrive.not_referenced_of_or hr)))
    · exact congrArg _ (State.takeAddressed_taken s (s.setFrame _) tag _ hh rfl
        (serveSetOrigin_of_referenced (s := s.setLink _) hi (s.frame.referenced_iff.2 ⟨hx, hy⟩)))

end Sys2Proof.Machine

/-!
PROOF. HOME FRAME and REFERENCE SHAFT (O34) and MOVE FRAME (O35).
-/

namespace Sys2Proof.Machine
set_option Elab.async false

/-! ## A state with nothing due -/

theorem State.quiet_iff (s : State) : s.quiet = true ↔ s.run.activity = .none ∧ s.run.state ≠ .running ∧
    s.run.state ≠ .stopping ∧ s.frame.travel = none ∧ s.frame.homingHeld = true := by
  simp only [State.quiet, Bool.and_eq_true, beq_iff_eq, bne_iff_ne, ne_eq, Option.isNone_iff_eq_none, and_assoc]

/-- The Run Controller carries nothing out, and does not look at the cursor. -/
theorem State.advanceActivity_of_idle {s : State} (ha : s.run.activity = .none) (hr : s.run.state ≠ .running)
    (hs : s.run.state ≠ .stopping) : s.advanceActivity = none := by
  simp [State.advanceActivity, ha, hr, hs]

theorem State.advance_of_homing {s : State} {hm : Homing} (ht : s.frame.travel = none) (hh : s.frame.homing = some hm)
    (hp : hm.phase ≠ .waiting) : s.advance = s.advanceActivity := by
  unfold State.advance
  rw [ht, hh]
  exact if_neg hp

theorem State.advance_of_homing_waiting {s : State} {hm : Homing} (ht : s.frame.travel = none)
    (hh : s.frame.homing = some hm) (hp : hm.phase = .waiting) (hst : s.frame.stitch = none) :
    s.advance = some (s.beginHoming hm.axis) := by
  unfold State.advance
  rw [ht, hh]
  dsimp only
  rw [if_pos hp, hst]
  rfl

/-- A shaft that does not turn for a run, before and after, moves no rest timer. -/
theorem State.shaftTo_of_not_polling {s : State} {t : ShaftState} (ht : t.pollsByAngle = false)
    (hs : s.shaft.state.pollsByAngle = false) : s.shaftTo t = s.setShaft { s.shaft with state := t } := by
  unfold State.shaftTo
  simp only [ht, hs, Bool.false_eq_true, if_false]

/-! ## HOME FRAME -/

section Homing

variable {s : State}

theorem serveHomeFrame_of_not_configured (h : s.run.state = .unconfigured) (hm : s.cfg.machineSet = false) :
    serveHomeFrame s = refuse s .notConfigured := if_pos ⟨h, hm⟩

theorem serveHomeFrame_of_elsewhere (hu : s.run.state ≠ .unconfigured) (hi : s.run.state ≠ .idle)
    (hp : s.run.state ≠ .paused) : serveHomeFrame s = refuse s .busy := by
  simp [serveHomeFrame, hu, hi, hp]

theorem serveHomeFrame_of_taken (hopen : s.run.state = .idle ∨ s.run.state = .paused ∨
    (s.run.state = .unconfigured ∧ s.cfg.machineSet = true)) :
    serveHomeFrame s = if s.frame.homing.isSome ∨ s.shaft.state = .referencing then refuse s .busy
      else taken s.startHoming.finish := by
  unfold serveHomeFrame
  rcases hopen with h | h | ⟨h, hm⟩
  · simp [h]
  · simp [h]
  · simp [h, hm]

theorem serveHomeFrame_of_busy (hopen : s.run.state = .idle ∨ s.run.state = .paused ∨
    (s.run.state = .unconfigured ∧ s.cfg.machineSet = true))
    (h : s.frame.homing ≠ none ∨ s.shaft.state = .referencing) : serveHomeFrame s = refuse s .busy :=
  (serveHomeFrame_of_taken hopen).trans (if_pos (h.imp Option.isSome_iff_ne_none.2 id))

theorem serveHomeFrame_of_free (hopen : s.run.state = .idle ∨ s.run.state = .paused ∨
    (s.run.state = .unconfigured ∧ s.cfg.machineSet = true))
    (hnone : s.frame.homing = none) (href : s.shaft.state ≠ .referencing) :
    serveHomeFrame s = taken s.startHoming.finish :=
  (serveHomeFrame_of_taken hopen).trans (if_neg (by simp [hnone, href]))

/-- A homing that need not wait for a stitch move begins with X at once. -/
theorem State.finish_startHoming (hq : s.quiet = true) (hst : s.frame.stitch = none) :
    s.startHoming.finish = (s.startHoming.beginHoming .x).pump := by
  obtain ⟨hact, hrun, hstop, htravel, -⟩ := s.quiet_iff.1 hq
  have hbegins : s.startHoming.advance = some (s.startHoming.beginHoming .x) :=
    State.advance_of_homing_waiting (hm := ⟨.x, .waiting⟩) htravel rfl rfl hst
  refine State.finish_of_one hbegins ?_
  have hunder : (s.startHoming.beginHoming .x).frame.homing =
      some ⟨.x, if s.frame.x.homeActive then .away else .down⟩ := rfl
  have hphase : (if s.frame.x.homeActive then HomingPhase.away else .down) ≠ .waiting := by split <;> nofun
  exact (State.advance_of_homing (s := s.startHoming.beginHoming .x) htravel hunder hphase).trans (State.advanceActivity_of_idle hact hrun hstop)

end Homing

/-! ## REFERENCE SHAFT -/

section Referencing

variable {s : State}

theorem serveReferenceShaft_of_not_configured (h : s.run.state = .unconfigured) (hm : s.cfg.speedsSet = false) :
    serveReferenceShaft s = refuse s .notConfigured := if_pos ⟨h, hm⟩

theorem serveReferenceShaft_of_elsewhere (hu : s.run.state ≠ .unconfigured) (hi : s.run.state ≠ .idle)
    (hp : s.run.state ≠ .paused) (hf : s.run.state ≠ .finished) : serveReferenceShaft s = refuse s .busy := by
  simp [serveReferenceShaft, hu, hi, hp, hf]

theorem serveReferenceShaft_of_open (hopen : s.run.state = .idle ∨ s.run.state = .paused ∨ s.run.state = .finished ∨
    (s.run.state = .unconfigured ∧ s.cfg.speedsSet = true)) :
    serveReferenceShaft s = if s.shaft.state = .referencing ∨ s.frame.travel.isSome ∨ s.frame.homing.isSome
      then refuse s .busy else taken (s.beginReferencing true) := by
  unfold serveReferenceShaft
  rcases hopen with h | h | h | ⟨h, hm⟩
  · simp [h]
  · simp [h]
  · simp [h]
  · simp [h, hm]

theorem serveReferenceShaft_of_busy (hopen : s.run.state = .idle ∨ s.run.state = .paused ∨ s.run.state = .finished ∨
    (s.run.state = .unconfigured ∧ s.cfg.speedsSet = true))
    (h : s.shaft.state = .referencing ∨ s.frame.travel ≠ none ∨ s.frame.homing ≠ none) :
    serveReferenceShaft s = refuse s .busy :=
  (serveReferenceShaft_of_open hopen).trans
    (if_pos (h.imp id (Or.imp Option.isSome_iff_ne_none.2 Option.isSome_iff_ne_none.2)))

theorem serveReferenceShaft_of_free (hopen : s.run.state = .idle ∨ s.run.state = .paused ∨ s.run.state = .finished ∨
    (s.run.state = .unconfigured ∧ s.cfg.speedsSet = true))
    (h : s.shaft.state ≠ .referencing) (ht : s.frame.travel = none) (hm : s.frame.homing = none) :
    serveReferenceShaft s = taken (s.beginReferencing true) :=
  (serveReferenceShaft_of_open hopen).trans (if_neg (by simp [h, ht, hm]))

/-- The shaft as a referencing turns it from rest (R93). -/
def State.referencingShaft (s : State) (byHost : Bool) : Shaft :=
  { s.shaft with
    state := .referencing, referenced := false, speed := s.cfg.speeds.crawl, hold := false, braked := false
    stall := some (120000 / s.cfg.speeds.crawl), lockout := { s.shaft.lockout with referencing := true }, wraps := 0
    openAngle := s.cfg.speeds.openAngle, closeAngle := s.cfg.speeds.closeAngle, hostReference := byHost }

theorem State.beginReferencing_of_not_polling (byHost : Bool) (h : s.shaft.state.pollsByAngle = false) :
    s.beginReferencing byHost = s.setShaft (s.referencingShaft byHost) := by
  unfold State.beginReferencing State.driveAtCrawl
  refine (State.shaftTo_of_not_polling rfl ?_).trans rfl
  exact h

end Referencing

/-- Settles O34: each request by its run states, its exclusions, and what it begins. -/
theorem homingAndReferencingBegin : Obligations.HomingAndReferencingBegin := by
  intro s tag hh
  refine ⟨?homing, ?referencing⟩
  case homing =>
    intro run open_
    refine ⟨fun hu hm => ?_, fun hu hi hp => ?_, fun hop hbusy => ?_, fun hop hnone href hq hst => ?_⟩
    · exact congrArg _ (State.takeAddressed_refused s tag _ .notConfigured hh
        (serveHomeFrame_of_not_configured (s := s.setLink _) hu hm))
    · exact congrArg _ (State.takeAddressed_refused s tag _ .busy hh
        (serveHomeFrame_of_elsewhere (s := s.setLink _) hu hi hp))
    · exact congrArg _ (State.takeAddressed_refused s tag _ .busy hh
        (serveHomeFrame_of_busy (s := s.setLink _) hop hbusy))
    · let begun := (s.startHoming).beginHoming .x
      have howner : serveHomeFrame (s.setLink (s.link.reserve tag)) =
          ((begun.setLink (begun.link.reserve tag)).pump, some ⟨.ok, []⟩) := by
        rw [serveHomeFrame_of_free (s := s.setLink (s.link.reserve tag)) hop hnone href,
          State.finish_startHoming (s := s.setLink (s.link.reserve tag)) hq hst]
        rfl
      exact congrArg _ (State.takeAddressed_pumped s begun tag _ .ok [] hh rfl howner)
  case referencing =>
    intro run open_ turning
    refine ⟨fun hu hm => ?_, fun hu hi hp hf => ?_, fun hop hbusy => ?_, fun hop hstill htravel hhoming =>
      ⟨?_, rfl, rfl⟩⟩
    · exact congrArg _ (State.takeAddressed_refused s tag _ .notConfigured hh
        (serveReferenceShaft_of_not_configured (s := s.setLink _) hu hm))
    · exact congrArg _ (State.takeAddressed_refused s tag _ .busy hh
        (serveReferenceShaft_of_elsewhere (s := s.setLink _) hu hi hp hf))
    · exact congrArg _ (State.takeAddressed_refused s tag _ .busy hh
        (serveReferenceShaft_of_busy (s := s.setLink _) hop hbusy))
    · have hpoll : s.shaft.state.pollsByAngle = false := by
        rcases hstill with h | h | h <;> rw [h] <;> rfl
      have href : s.shaft.state ≠ .referencing := by
        rcases hstill with h | h | h <;> rw [h] <;> nofun
      refine congrArg _ (State.takeAddressed_taken s (s.setShaft turning) tag _ hh rfl ?_)
      rw [serveReferenceShaft_of_free (s := s.setLink (s.link.reserve tag)) hop href htravel hhoming,
        State.beginReferencing_of_not_polling (s := s.setLink (s.link.reserve tag)) true hpoll]
      rfl

end Sys2Proof.Machine

/-!
PROOF. MOVE FRAME (O35): a travel's first leg and its first segment, or its end at once.
-/

namespace Sys2Proof.Machine
set_option Elab.async false

/-! ## What a travel's end leaves alone -/

theorem State.hears_iff (s : State) : s.hears = true ↔
    s.link.addressStraps ≠ 15 ∧ s.link.replies.length < 4 ∧ s.link.resetBy = none := by
  simp [State.hears, and_assoc]

theorem Link.post_reserve (l : Link) (tag : Byte) (e : Event) : (l.reserve tag).post e = (l.post e).reserve tag := by
  unfold Link.post
  split <;> split
  · rfl
  · contradiction
  · contradiction
  · rfl

@[simp] theorem Link.post_replies (l : Link) (e : Event) : (l.post e).replies = l.replies := by
  unfold Link.post
  split <;> rfl

theorem State.joinsWaiting_eq_false_iff (s : State) :
    s.joinsWaiting = false ↔ ∀ h ∈ headNumbers, (s.watchAt h).joining = false := by
  simp [State.joinsWaiting, List.any_eq_false]

/-- With no head waiting to join there is none to resolve. -/
theorem State.resolveJoins_of_none {s : State} (h : s.joinsWaiting = false) : s.resolveJoins = s := by
  have hnone := s.joinsWaiting_eq_false_iff.1 h
  unfold State.resolveJoins
  generalize headNumbers = heads at hnone
  induction heads with
  | nil => rfl
  | cons x rest ih =>
    rw [List.foldl_cons, if_neg (by simp [hnone x (List.mem_cons_self ..)])]
    exact ih fun h hh => hnone h (List.mem_cons_of_mem _ hh)

theorem State.patchOver_eq_not_passGoesOn (s : State) : s.patchOver = !s.passGoesOn := by
  unfold State.patchOver State.passGoesOn
  cases s.run.pass <;> simp

theorem State.endPatchIfEmpty_of_goesOn {s : State} (h : s.passGoesOn = true) : s.endPatchIfEmpty = s := by
  unfold State.endPatchIfEmpty
  rw [if_neg]
  simp [State.patchOver_eq_not_passGoesOn, h]

theorem State.endPatchIfOver_of_goesOn {s : State} (h : s.passGoesOn = true) : s.endPatchIfOver = s := by
  unfold State.endPatchIfOver
  rw [if_neg]
  simp [State.patchOver_eq_not_passGoesOn, h]

theorem State.endPatchIfEmpty_of_idle {s : State} (h : s.run.state = .idle) : s.endPatchIfEmpty = s := by
  unfold State.endPatchIfEmpty
  rw [h]
  split <;> rfl

/-! ## A travel from a frame at rest -/

theorem State.advance_of_travel {s : State} {v : Travel} (h : s.frame.travel = some v) :
    s.advance = s.advanceTravel v := by
  unfold State.advance
  rw [h]

theorem State.advance_of_still {s : State} (ht : s.frame.travel = none) (hh : s.frame.homing = none) :
    s.advance = s.advanceActivity := by
  unfold State.advance
  rw [ht, hh]

/-- A travel waits for its segment in flight. -/
theorem State.advanceTravel_of_segment (s : State) {v : Travel} (h : v.index.isSome = true) :
    s.advanceTravel v = none := by
  unfold State.advanceTravel
  rw [if_pos (by simp [h])]

/-- No move in flight and both axes on the path. -/
def State.frameAtRest (s : State) : Prop :=
  s.frame.stitch = none ∧ s.frame.x.move = none ∧ s.frame.y.move = none ∧
    s.frame.x.offPath = none ∧ s.frame.y.offPath = none

/-- The next step of a travel on the path with no move in flight and no stop asked for. -/
theorem State.advanceTravel_of_atRest {s : State} {v : Travel} (h : s.frameAtRest) (hi : v.index = none)
    (hs : v.stopAsked = false) :
    s.advanceTravel v = if v.made < v.count then some (s.beginSegment v)
      else match v.legs with
        | p :: rest => some (s.beginLeg v p rest)
        | [] => some (s.endTravel false) := by
  obtain ⟨hst, hx, hy, hox, hoy⟩ := h
  unfold State.advanceTravel
  simp only [hst, hx, hy, hox, hoy, hi, hs, Option.isSome_none, Bool.or_self, Bool.false_eq_true, if_false] <;> rfl

/-- A travel from rest takes its first leg. -/
theorem State.hostTravel_advance (s : State) {target : Point} {rest : List Point} (h : s.frameAtRest) :
    (s.hostTravel (target :: rest)).advance =
      some ((s.hostTravel (target :: rest)).beginLeg
        ⟨target :: rest, s.frame.pos, ⟨0, 0⟩, 0, 0, none, false⟩ target rest) := by
  rw [State.advance_of_travel rfl, State.advanceTravel_of_atRest (s := s.hostTravel (target :: rest)) h rfl rfl]
  rfl

/-- The leg that a travel of MOVE FRAME is on once it has begun. -/
def State.firstLeg (s : State) (target : Point) : Travel :=
  ⟨[], s.frame.pos, target.sub s.frame.pos, segmentCount (target.sub s.frame.pos), 0, none, false⟩

theorem State.beginLeg_frame (s : State) (target : Point) :
    ((s.hostTravel [target]).beginLeg ⟨[target], s.frame.pos, ⟨0, 0⟩, 0, 0, none, false⟩ target []).frame.travel =
      some (s.firstLeg target) := rfl

theorem segmentCount_pos {d : Point} (h : d.x ≠ 0 ∨ d.y ≠ 0) : 0 < segmentCount d := by
  unfold segmentCount moveIndex
  omega

/-- A travel of MOVE FRAME that moves the frame: its first segment is begun. -/
theorem State.finish_hostTravel_moving {s : State} {target : Point} (h : s.frameAtRest)
    (hd : (target.sub s.frame.pos).x ≠ 0 ∨ (target.sub s.frame.pos).y ≠ 0) :
    (s.hostTravel [target]).finish = ((s.hostTravel [target]).beginSegment (s.firstLeg target)).pump := by
  let leg := (s.hostTravel [target]).beginLeg ⟨[target], s.frame.pos, ⟨0, 0⟩, 0, 0, none, false⟩ target []
  have hsegment : leg.advance = some (leg.beginSegment (s.firstLeg target)) := by
    rw [State.advance_of_travel (s.beginLeg_frame target), State.advanceTravel_of_atRest (s := leg) h rfl rfl]
    exact if_pos (segmentCount_pos hd)
  have hwaits : (leg.beginSegment (s.firstLeg target)).advance = none := by
    rw [State.advance_of_travel rfl]
    exact State.advanceTravel_of_segment _ rfl
  exact State.finish_of_two (s.hostTravel_advance h) hsegment hwaits

/-- A travel of MOVE FRAME that does not move the frame ends at once. -/
theorem State.finish_hostTravel_ended {s : State} {target : Point} (h : s.frameAtRest)
    (hd : target.sub s.frame.pos = ⟨0, 0⟩) (hended : ((s.hostTravel [target]).endTravel false).advance = none) :
    (s.hostTravel [target]).finish = ((s.hostTravel [target]).endTravel false).pump := by
  let leg := (s.hostTravel [target]).beginLeg ⟨[target], s.frame.pos, ⟨0, 0⟩, 0, 0, none, false⟩ target []
  have hcount : (s.firstLeg target).count = 0 := by
    show segmentCount (target.sub s.frame.pos) = 0
    rw [hd]
    rfl
  have hend : leg.advance = some (leg.endTravel false) := by
    rw [State.advance_of_travel (s.beginLeg_frame target), State.advanceTravel_of_atRest (s := leg) h rfl rfl,
      if_neg (by rw [hcount]; exact Nat.not_lt_zero _)]
    rfl
  exact State.finish_of_two (s.hostTravel_advance h) hend hended

/-- The end of a travel that the host asked for, back in a state whose joins and pass need nothing. -/
theorem State.endTravel_of_host {s : State} (hreset : s.link.resetBy = none) (ha : s.run.activity = .hostTravel)
    (hj : s.joinsWaiting = false) (hp : s.run.travelReturn = some .idle ∨ s.passGoesOn = true) (stopped : Bool) :
    s.endTravel stopped = (((s.setFrame { s.frame with travel := none }).modLockout
      (fun l => { l with travel := false })).setRun { s.run with
        state := s.run.travelReturn.getD .idle, travelReturn := none, activity := .none }).post .travelDone 0
        (if stopped then 1 else 0) := by
  unfold State.endTravel
  dsimp only
  rw [if_neg (by simp [State.modLockout, hreset])]
  have hact : ((s.setFrame { s.frame with travel := none }).modLockout fun l => { l with travel := false }).run =
      s.run := rfl
  rw [hact, ha]
  dsimp only
  generalize hb : s.run.travelReturn.getD .idle = back
  have hskip : ∀ t : State, t.joinsWaiting = false → (if back = .paused then t.resolveJoins else t) = t :=
    fun t ht => by rw [State.resolveJoins_of_none ht, ite_self]
  rw [hskip]
  swap
  · exact hj
  rcases hp with hp | hp
  · refine State.endPatchIfEmpty_of_idle ?_
    rw [hp] at hb
    exact hb.symm
  · exact State.endPatchIfEmpty_of_goesOn hp

theorem State.advance_of_quiet_parts {s : State} (ha : s.run.activity = .none) (hr : s.run.state ≠ .running)
    (hs : s.run.state ≠ .stopping) (ht : s.frame.travel = none) (hh : s.frame.homingHeld = true) : s.advance = none :=
  s.advance_quiet (s.quiet_iff.2 ⟨ha, hr, hs, ht, hh⟩)

/-- A travel of MOVE FRAME by nothing, from a state with nothing due. -/
theorem State.finish_hostTravel_none {s : State} {target : Point} (hreset : s.link.resetBy = none)
    (hq : s.quiet = true) (h : s.frameAtRest) (hj : s.joinsWaiting = false)
    (hp : s.run.state = .idle ∨ s.passGoesOn = true) (hd : target.sub s.frame.pos = ⟨0, 0⟩) :
    (s.hostTravel [target]).finish = (((s.setRun { s.run with travelReturn := none }).modLockout
      (fun l => { l with travel := false })).post .travelDone 0 0).pump := by
  obtain ⟨hact, hrun, hstop, htravel, hhoming⟩ := s.quiet_iff.1 hq
  have hframe : { s.frame with travel := none } = s.frame := by
    calc { s.frame with travel := none } = { s.frame with travel := s.frame.travel } := by rw [htravel]
      _ = s.frame := rfl
  have hsame : { s.run with travelReturn := none, activity := .none } = { s.run with travelReturn := none } := by
    rw [← hact]
  have hend : (s.hostTravel [target]).endTravel false = ((s.setRun { s.run with travelReturn := none }).modLockout
      (fun l => { l with travel := false })).post .travelDone 0 0 := by
    rw [State.endTravel_of_host (s := s.hostTravel [target]) hreset rfl hj (hp.imp (congrArg some) id), ← hsame]
    conv_rhs => rw [← s.setFrame_self, ← hframe]
    rfl
  rw [State.finish_hostTravel_ended h hd, hend]
  rw [hend]
  exact State.advance_of_quiet_parts hact hrun hstop htravel hhoming

theorem State.firstLeg_segmentEnd (s : State) {target d : Point} (h : target.sub s.frame.pos = d) :
    ((s.firstLeg target).segmentEnd 1).sub s.frame.pos = ⟨d.x / segmentCount d, d.y / segmentCount d⟩ := by
  subst h
  unfold Travel.segmentEnd State.firstLeg Point.add Point.sub
  simp

/-- Settles O35: the refusals in their order, then the travel that begins, or ends at once. -/
theorem moveFrameBeginsItsTravel : Obligations.MoveFrameBeginsItsTravel := by
  intro s tag dx dy hh run target m inside index n begun
  have htarget : target = s.frame.pos.add ⟨dx, dy⟩ := rfl
  have hserve : ∀ l : Link, serveMoveFrame dx dy (s.setLink l) =
      if !s.settable || s.shaft.state == .referencing then refuse (s.setLink l) .busy
      else if !s.frame.referenced then refuse (s.setLink l) .notReferenced
      else if !(inField s.cfg.machine target) then refuse (s.setLink l) .range
      else taken ((s.setLink l).hostTravel [target]).finish := fun _ => rfl
  refine ⟨fun hi hp => ?_, fun hs => ⟨fun href => ?_, fun href => ⟨fun hunref => ?_, fun hx hy =>
    ⟨fun hout => ?_, fun hin hq hj hst hmx hmy hox hoy => ?_⟩⟩⟩⟩
  · refine congrArg _ (State.takeAddressed_refused s tag _ .busy hh ?_)
    rw [hserve, if_pos]
    simp [State.settable, hi, hp]
  · refine congrArg _ (State.takeAddressed_refused s tag _ .busy hh ?_)
    rw [hserve, if_pos (by simp [href])]
  · refine congrArg _ (State.takeAddressed_refused s tag _ .notReferenced hh ?_)
    rw [hserve, if_neg (by simp [s.settable_iff.2 hs, href]),
      if_pos (by simpa using FrameDrive.not_referenced_of_or hunref)]
  all_goals have href' : s.frame.referenced = true := s.frame.referenced_iff.2 ⟨hx, hy⟩
  · refine congrArg _ (State.takeAddressed_refused s tag _ .range hh ?_)
    rw [hserve, if_neg (by simp [s.settable_iff.2 hs, href]), if_neg (by simp [href']), if_pos]
    rw [Bool.not_eq_true', Bool.eq_false_iff, Ne, inField_iff]
    exact hout
  · have hfield : inField s.cfg.machine target = true := (inField_iff _ _).2 hin
    have htaken : ∀ l : Link, serveMoveFrame dx dy (s.setLink l) = taken ((s.setLink l).hostTravel [target]).finish :=
      fun l => by
        rw [hserve, if_neg (by simp [s.settable_iff.2 hs, href]), if_neg (by simp [href']), if_neg (by simp [hfield])]
    have hshift : target.sub s.frame.pos = ⟨dx, dy⟩ := by
      show (⟨s.frame.x.pos + dx - s.frame.x.pos, s.frame.y.pos + dy - s.frame.y.pos⟩ : Point) = _
      rw [add_sub_cancel_left, add_sub_cancel_left]
    have hrest : s.frameAtRest := ⟨hst, hmx, hmy, hox, hoy⟩
    refine ⟨fun hdx hdy hover => ?_, fun hd => ?_⟩
    · subst hdx hdy
      let t := ((s.setRun { s.run with travelReturn := none }).modLockout
        (fun l => { l with travel := false })).post .travelDone 0 0
      have howner : serveMoveFrame 0 0 (s.setLink (s.link.reserve tag)) =
          ((t.setLink (t.link.reserve tag)).pump, some ⟨.ok, []⟩) := by
        rw [htaken, State.finish_hostTravel_none (s := s.setLink (s.link.reserve tag)) (s.hears_iff.1 hh).2.2 hq hrest hj
          hover hshift]
        have hpost : t.link.reserve tag = (s.link.reserve tag).post ⟨.travelDone, 0, index, 0⟩ :=
          (Link.post_reserve _ _ _).symm
        rw [hpost]
        rfl
      exact congrArg _ (State.takeAddressed_pumped s t tag _ .ok [] hh (Link.post_replies _ _) howner)
    · have hmoving : ∀ l : Link, ((s.setLink l).hostTravel [target]).finish =
          (((s.hostTravel [target]).beginSegment (s.firstLeg target)).setLink l).pump := fun l =>
        State.finish_hostTravel_moving (s := s.setLink l) hrest (by rw [State.setLink_frame, hshift]; exact hd)
      let t := (s.hostTravel [target]).beginSegment (s.firstLeg target)
      have howner : serveMoveFrame dx dy (s.setLink (s.link.reserve tag)) =
          ((t.setLink (t.link.reserve tag)).pump, some ⟨.ok, []⟩) := by
        rw [htaken, hmoving]
        rfl
      have hsegment : ((s.firstLeg target).segmentEnd 1).sub s.frame.pos = ⟨dx / n, dy / n⟩ :=
        s.firstLeg_segmentEnd hshift
      have ht : t = ((s.setRun { s.run with
          state := .travelling, travelReturn := some s.run.state, activity := .hostTravel }).setShaft { s.shaft with
          lockout := { s.shaft.lockout with travel := true } }).setFrame { s.frame with
            x := begun s.frame.x m.kX (dx / n), y := begun s.frame.y m.kY (dy / n)
            travel := some ⟨[], ⟨s.frame.x.pos, s.frame.y.pos⟩, ⟨dx, dy⟩, n, 0,
              some (max (dx / n).natAbs (dy / n).natAbs), false⟩ } := by
        show State.beginSegment _ _ = _
        unfold State.beginSegment
        have hfirst : ((s.firstLeg target).segmentEnd ((s.firstLeg target).made + 1)).sub
            (s.hostTravel [target]).frame.pos = ⟨dx / n, dy / n⟩ := hsegment
        rw [hfirst]
        have hleg : s.firstLeg target = ⟨[], s.frame.pos, ⟨dx, dy⟩, n, 0, none, false⟩ := by
          unfold State.firstLeg
          rw [hshift]
          rfl
        rw [hleg]
        rfl
      rw [← ht]
      exact congrArg _ (State.takeAddressed_pumped s t tag _ .ok [] hh rfl howner)

end Sys2Proof.Machine

/-!
PROOF. MAP COLOUR and BOBBIN SET (sections 7.2 and 8.3; O36). MAP COLOUR is eight needles, each of which changes what
the map and the pending entries say of its own head and slot, and of no other.
-/

namespace Sys2Proof.Machine
set_option Elab.async false

/-! ## One needle -/

/-- The map has its 64 rows of eight needles. -/
def ThreadChange.Wide (c : ThreadChange) : Prop := c.map.length = 64 ∧ ∀ row ∈ c.map, row.length = 8

theorem ThreadChange.Wide.write {c : ThreadChange} (hc : c.Wide) (slot h needle : Nat) :
    (c.write slot h needle).Wide := by
  have hrows := (c.write_lengths slot h needle).2
  refine ⟨?_, fun row hrow => ?_⟩
  · rw [← List.length_map (f := List.length), hrows, List.length_map, hc.1]
  · have hmem : row.length ∈ (c.write slot h needle).map.map List.length := List.mem_map_of_mem hrow
    rw [hrows] at hmem
    obtain ⟨old, hold, heq⟩ := List.mem_map.1 hmem
    rw [← heq, hc.2 old hold]

theorem ThreadChange.mapAt_write_same {c : ThreadChange} (hc : c.Wide) {slot h : Nat} (needle : Nat) (hs : slot ≤ 63)
    (hlow : 1 ≤ h) (hhigh : h ≤ 8) : (c.write slot h needle).mapAt slot h = needle := by
  have hin : slot < c.map.length := by rw [hc.1]; omega
  have hrow : (c.map[slot]).length = 8 := hc.2 _ (List.getElem_mem hin)
  have hhead : h - 1 < (c.map[slot]).length := by omega
  unfold ThreadChange.mapAt ThreadChange.write
  simp [List.getD_eq_getElem?_getD, hin, hhead]

theorem ThreadChange.mapAt_write_other (c : ThreadChange) {slot h slot' h' : Nat} (needle : Nat)
    (hne : slot' ≠ slot ∨ h' - 1 ≠ h - 1) : (c.write slot h needle).mapAt slot' h' = c.mapAt slot' h' := by
  unfold ThreadChange.mapAt ThreadChange.write
  simp only [List.getD_eq_getElem?_getD, List.getElem?_modify]
  by_cases hs : slot = slot'
  · subst hs
    have hh : ¬ h - 1 = h' - 1 := by
      rcases hne with h1 | h1
      · exact absurd rfl h1
      · exact fun e => h1 e.symm
    cases c.map[slot]? with
    | none => simp
    | some row => simp [hh]
  · cases c.map[slot']? <;> simp [hs]

theorem ThreadChange.waitingFor_pend_same (c : ThreadChange) (slot h needle : Nat) :
    (c.pend slot h needle).waitingFor slot h = if c.mapAt slot h = needle then none else some needle := by
  have hothers : ∀ l : List PendingNeedle, (l.filter (fun p => !(p.slot == slot && p.head == h))).find?
      (fun p => p.slot == slot && p.head == h) = none := fun l => by
    rw [List.find?_eq_none]
    intro p hp
    simpa [imp_iff_not_or] using List.of_mem_filter hp
  unfold ThreadChange.pend ThreadChange.waitingFor
  dsimp only
  split
  · rw [hothers]; rfl
  · rw [List.find?_append, hothers]; simp

theorem ThreadChange.waitingFor_pend_other (c : ThreadChange) {slot h slot' h' : Nat} (needle : Nat)
    (hne : slot' ≠ slot ∨ h' ≠ h) : (c.pend slot h needle).waitingFor slot' h' = c.waitingFor slot' h' := by
  have hkept : ∀ l : List PendingNeedle, (l.filter (fun p => !(p.slot == slot && p.head == h))).find?
      (fun p => p.slot == slot' && p.head == h') = l.find? (fun p => p.slot == slot' && p.head == h') := fun l => by
    rw [List.find?_filter]
    congr 1
    funext p
    by_cases hp : (p.slot == slot' && p.head == h') = true
    · have : p.slot = slot' ∧ p.head = h' := by simpa using hp
      obtain ⟨rfl, rfl⟩ := this
      rcases hne with h1 | h1 <;> simp [h1]
    · simp [Bool.eq_false_iff.2 hp]
  have hnew : ((⟨slot, h, needle⟩ : PendingNeedle).slot == slot' && (⟨slot, h, needle⟩ : PendingNeedle).head == h') =
      false := by
    simp only [Bool.and_eq_false_iff, beq_eq_false_iff_ne]
    exact hne.imp Ne.symm Ne.symm
  unfold ThreadChange.pend ThreadChange.waitingFor
  dsimp only
  split
  · rw [hkept]
  · rw [List.find?_append, hkept, List.find?_singleton, hnew]
    simp

/-! ## The eight needles -/

/-- What MAP COLOUR does to the Thread Change Unit for one head. -/
def State.needleStep (s : State) (slot : Nat) (needles : List Nat) (c : ThreadChange) (h : Nat) : ThreadChange :=
  if s.engagedHead h && s.sewsFor h == slot then c.pend slot h (needles.getD (h - 1) 0)
  else c.write slot h (needles.getD (h - 1) 0)

theorem State.mapNeedles_eq (s : State) (slot : Nat) (needles : List Nat) :
    s.mapNeedles slot needles = s.setChange (headNumbers.foldl (s.needleStep slot needles) s.change) := by
  have hfold : ∀ (heads : List Nat) (c : ThreadChange),
      heads.foldl (fun t h => t.mapNeedle slot h (needles.getD (h - 1) 0)) (s.setChange c) =
        s.setChange (heads.foldl (s.needleStep slot needles) c) := by
    intro heads
    induction heads with
    | nil => exact fun _ => rfl
    | cons x rest ih =>
      intro c
      have hstep : (s.setChange c).mapNeedle slot x (needles.getD (x - 1) 0) =
          s.setChange (s.needleStep slot needles c x) := by
        have hwho : ((s.setChange c).engagedHead x && (s.setChange c).sewsFor x == slot) =
            (s.engagedHead x && s.sewsFor x == slot) := rfl
        unfold State.mapNeedle State.needleStep
        rw [hwho]
        split <;> rfl
      rw [List.foldl_cons, List.foldl_cons, hstep, ih]
  exact hfold headNumbers s.change

/-- The same map entries and pending entries for head `h`. -/
def ThreadChange.SameFor (c d : ThreadChange) (h : Nat) : Prop :=
  ∀ slot, c.mapAt slot h = d.mapAt slot h ∧ c.waitingFor slot h = d.waitingFor slot h

/-- Apart from the map and the pending entries nothing changes. -/
def ThreadChange.SameWork (c d : ThreadChange) : Prop :=
  c.work = d.work ∧ c.newSlot = d.newSlot ∧ c.casing = d.casing ∧ c.heads = d.heads

section Step

variable (s : State) {slot : Nat} (needles : List Nat) {c : ThreadChange} {h : Nat}

theorem State.needleStep_work : (s.needleStep slot needles c h).SameWork c := by
  unfold State.needleStep
  split <;> exact ⟨rfl, rfl, rfl, rfl⟩

theorem State.needleStep_wide (hc : c.Wide) : (s.needleStep slot needles c h).Wide := by
  unfold State.needleStep
  split
  · exact hc
  · exact hc.write _ _ _

theorem State.needleStep_other {h' : Nat} (hlow : 1 ≤ h) (hlow' : 1 ≤ h') (hne : h' ≠ h) :
    (s.needleStep slot needles c h).SameFor c h' := by
  intro slot'
  unfold State.needleStep
  split
  · exact ⟨rfl, ThreadChange.waitingFor_pend_other c _ (.inr hne)⟩
  · exact ⟨ThreadChange.mapAt_write_other c _ (.inr (by omega)), rfl⟩

/-- What one needle does for its own head, read from what the head had before. -/
theorem State.needleStep_same {before : ThreadChange} {needle : Nat} (hc : c.Wide) (hb : c.SameFor before h)
    (hs : slot ≤ 63) (hlow : 1 ≤ h) (hhigh : h ≤ 8) (hn : needles[h - 1]? = some needle) :
    let d := s.needleStep slot needles c h
    (∀ other, other ≠ slot → d.mapAt other h = before.mapAt other h ∧ d.waitingFor other h = before.waitingFor other h) ∧
    (s.engagedHead h = true ∧ s.sewsFor h = slot → d.mapAt slot h = before.mapAt slot h ∧
      d.waitingFor slot h = if before.mapAt slot h = needle then none else some needle) ∧
    (¬(s.engagedHead h = true ∧ s.sewsFor h = slot) → d.mapAt slot h = needle ∧
      d.waitingFor slot h = before.waitingFor slot h) := by
  have hget : needles.getD (h - 1) 0 = needle := by simp [List.getD_eq_getElem?_getD, hn]
  have hcond : (s.engagedHead h && s.sewsFor h == slot) = true ↔ s.engagedHead h = true ∧ s.sewsFor h = slot := by
    simp
  dsimp only
  unfold State.needleStep
  rw [hget]
  by_cases hw : s.engagedHead h = true ∧ s.sewsFor h = slot
  · rw [if_pos (hcond.2 hw)]
    refine ⟨fun other hne => ⟨(hb other).1, ?_⟩, fun _ => ⟨(hb slot).1, ?_⟩, fun hn => absurd hw hn⟩
    · rw [ThreadChange.waitingFor_pend_other c _ (.inl hne), (hb other).2]
    · rw [ThreadChange.waitingFor_pend_same, (hb slot).1]
  · rw [if_neg (mt hcond.1 hw)]
    refine ⟨fun other hne => ⟨?_, (hb other).2⟩, fun hn => absurd hn hw, fun _ => ⟨?_, (hb slot).2⟩⟩
    · rw [ThreadChange.mapAt_write_other c _ (.inl hne), (hb other).1]
    · exact ThreadChange.mapAt_write_same hc _ hs hlow hhigh

end Step

/-- Needles of other heads change nothing for this one. -/
theorem State.needleSteps_other (s : State) {slot : Nat} (needles : List Nat) {h : Nat} (hlow : 1 ≤ h)
    (heads : List Nat) (hheads : ∀ x ∈ heads, 1 ≤ x ∧ x ≠ h) (c : ThreadChange) :
    (heads.foldl (s.needleStep slot needles) c).SameFor c h := by
  induction heads generalizing c with
  | nil => exact fun _ => ⟨rfl, rfl⟩
  | cons x rest ih =>
    obtain ⟨hx, hne⟩ := hheads x (List.mem_cons_self ..)
    intro slot'
    have hrest := ih (fun y hy => hheads y (List.mem_cons_of_mem _ hy)) (s.needleStep slot needles c x) slot'
    have hstep := s.needleStep_other needles (c := c) (slot := slot) hx hlow hne.symm slot'
    exact ⟨hrest.1.trans hstep.1, hrest.2.trans hstep.2⟩

theorem State.needleSteps_kept (s : State) {slot : Nat} (needles : List Nat) (heads : List Nat) (c : ThreadChange)
    (hc : c.Wide) : (heads.foldl (s.needleStep slot needles) c).Wide ∧
      (heads.foldl (s.needleStep slot needles) c).SameWork c := by
  induction heads generalizing c with
  | nil => exact ⟨hc, rfl, rfl, rfl, rfl⟩
  | cons x rest ih =>
    obtain ⟨hwide, hwork, hnew, hcasing, hheads⟩ := ih _ (s.needleStep_wide needles (slot := slot) (h := x) hc)
    obtain ⟨hwork', hnew', hcasing', hheads'⟩ := s.needleStep_work needles (slot := slot) (c := c) (h := x)
    exact ⟨hwide, hwork.trans hwork', hnew.trans hnew', hcasing.trans hcasing', hheads.trans hheads'⟩

/-- The head numbers around one of them. -/
theorem headNumbers_split {h : Nat} (hlow : 1 ≤ h) (hhigh : h ≤ 8) :
    ∃ front back, headNumbers = front ++ h :: back ∧ (∀ x ∈ front, 1 ≤ x ∧ x ≠ h) ∧ ∀ x ∈ back, 1 ≤ x ∧ x ≠ h := by
  refine ⟨headNumbers.take (h - 1), headNumbers.drop h, ?_, ?_, ?_⟩ <;> revert h <;> decide

/-! ## The two requests -/

theorem serveMapColour_of_changing {s : State} (slot : Nat) (needles : List Nat) (h : s.run.state = .changing) :
    serveMapColour slot needles s = refuse s .busy := if_pos h

theorem serveMapColour_of_out_of_range {s : State} {slot : Nat} {needles : List Nat} (h : s.run.state ≠ .changing)
    (hr : 63 < slot ∨ ∃ n ∈ needles, 12 < n) : serveMapColour slot needles s = refuse s .range := by
  unfold serveMapColour
  rw [if_neg h, if_pos]
  simpa [List.any_eq_true] using hr

theorem serveMapColour_of_right {s : State} {slot : Nat} {needles : List Nat} (h : s.run.state ≠ .changing)
    (hs : slot ≤ 63) (hn : ∀ n ∈ needles, n ≤ 12) :
    serveMapColour slot needles s = taken (s.mapNeedles slot needles) := by
  unfold serveMapColour
  rw [if_neg h, if_neg]
  rw [List.any_eq_true]
  rintro (h63 | ⟨n, hmem, h12⟩)
  · omega
  · have := hn n hmem
    simp at h12
    omega

/-- A bobbin set to a count, with the warn level judged (R133). -/
theorem State.setBobbin_eq (s : State) {h count : Nat} (hshape : s.monitor.heads.length = 8) (hlow : 1 ≤ h)
    (hhigh : h ≤ 8) :
    let low := decide (0 < count ∧ count ≤ s.cfg.thread.warnLevel)
    s.setBobbin h count = (s.setMonitor { s.monitor with heads := s.monitor.heads.modify (h - 1) (fun w =>
      { w with bobbin := count, countLow := low, sensorLow := false }) }).setLink
        (if low then s.link.post ⟨.bobbinLow, h, s.cursor, 1⟩ else s.link) := by
  dsimp only
  have hin : h - 1 < s.monitor.heads.length := by omega
  have hwatch : (s.modWatch h (fun w => { w with bobbin := count, countLow := false, sensorLow := false })).watchAt h =
      { s.watchAt h with bobbin := count, countLow := false, sensorLow := false } := by
    simp [State.watchAt, State.modWatch, List.getD_eq_getElem?_getD, hin]
  unfold State.setBobbin
  dsimp only
  by_cases hc : 0 < count
  · unfold State.judgeBobbin
    rw [if_pos hc, hwatch]
    dsimp only
    by_cases hw : count ≤ s.cfg.thread.warnLevel
    · rw [if_pos ⟨hw, rfl⟩]
      simp only [hc, hw, and_self, decide_true, if_true]
      unfold State.modWatch
      simp only [State.post_keeps, State.setMonitor_monitor, List.modify_modify_eq]
      rfl
    · rw [if_neg (fun e => hw e.1)]
      simp only [hw, and_false, decide_false, Bool.false_eq_true, if_false]
      rfl
  · rw [if_neg hc]
    simp only [hc, false_and, decide_false, Bool.false_eq_true, if_false]
    rfl

/-- Settles O36: MAP COLOUR head by head, BOBBIN SET by its count. -/
theorem mapColourAndBobbinSet : Obligations.MapColourAndBobbinSet := by
  intro s tag hh hshapes
  obtain ⟨-, hmonitor, -, -, hmap, hrows, -⟩ := s.shapesRight_iff.1 hshapes
  refine ⟨fun slot needles _ => ?map, fun head count => ?bobbin⟩
  case map =>
    refine ⟨fun hc => ?_, fun hc hr => ?_, fun hc hs hn => ?_⟩
    · exact congrArg _ (State.takeAddressed_refused s tag _ .busy hh (serveMapColour_of_changing (s := s.setLink _) _ _ hc))
    · exact congrArg _ (State.takeAddressed_refused s tag _ .range hh
        (serveMapColour_of_out_of_range (s := s.setLink _) hc hr))
    · let c := headNumbers.foldl (s.needleStep slot needles) s.change
      have howner : serveMapColour slot needles (s.setLink (s.link.reserve tag)) =
          taken ((s.setChange c).setLink (s.link.reserve tag)) := by
        rw [serveMapColour_of_right (s := s.setLink (s.link.reserve tag)) hc hs hn, State.mapNeedles_eq]
        rfl
      have hwide : s.change.Wide := ⟨hmap, hrows⟩
      obtain ⟨hwork, hnew, hcasing, hheads⟩ := (s.needleSteps_kept (slot := slot) needles headNumbers _ hwide).2
      refine ⟨c, congrArg _ (State.takeAddressed_taken s (s.setChange c) tag _ hh rfl howner), hwork, hnew, hcasing,
        hheads, fun h needle hlow hhigh hneedle => ?_⟩
      obtain ⟨front, back, hsplit, hfront, hback⟩ := headNumbers_split hlow hhigh
      let before := front.foldl (s.needleStep slot needles) s.change
      have hc : c = back.foldl (s.needleStep slot needles) (s.needleStep slot needles before h) := by
        show headNumbers.foldl _ _ = _
        rw [hsplit, List.foldl_append, List.foldl_cons]
      have hafter : c.SameFor (s.needleStep slot needles before h) h := by
        rw [hc]
        exact s.needleSteps_other needles hlow back hback _
      obtain ⟨hothers, hengaged, hfree⟩ := s.needleStep_same needles
        (s.needleSteps_kept needles front _ hwide).1 (s.needleSteps_other needles hlow front hfront _) hs hlow hhigh hneedle
      refine ⟨fun other hne => ?_, fun hw => ?_, fun hw => ?_⟩
      · rw [(hafter other).1, (hafter other).2]
        exact hothers other hne
      · rw [(hafter slot).1, (hafter slot).2]
        exact hengaged hw
      · rw [(hafter slot).1, (hafter slot).2]
        exact hfree hw
  case bobbin =>
    intro run low index
    refine ⟨fun hbad => ?_, fun hlow hhigh => ?_⟩
    · refine congrArg _ (State.takeAddressed_refused s tag _ .range hh (if_neg ?_))
      rw [validHead_iff]
      omega
    · let t := (s.setMonitor { s.monitor with heads := s.monitor.heads.modify (head - 1) (fun w =>
          { w with bobbin := count, countLow := low, sensorLow := false }) }).setLink
          (if low then s.link.post ⟨.bobbinLow, head, index, 1⟩ else s.link)
      have hreplies : t.link.replies = s.link.replies := by
        show (if low then s.link.post ⟨.bobbinLow, head, index, 1⟩ else s.link).replies = _
        split
        · exact Link.post_replies _ _
        · rfl
      have hreserve : t.link.reserve tag =
          if low then (s.link.reserve tag).post ⟨.bobbinLow, head, index, 1⟩ else s.link.reserve tag := by
        show (if low then s.link.post ⟨.bobbinLow, head, index, 1⟩ else s.link).reserve tag = _
        split
        · exact (Link.post_reserve _ _ _).symm
        · rfl
      have howner : serveBobbinSet head count (s.setLink (s.link.reserve tag)) =
          (t.setLink (t.link.reserve tag), some ⟨.ok, []⟩) := by
        unfold serveBobbinSet
        rw [if_pos ((validHead_iff head).2 ⟨hlow, hhigh⟩),
          State.setBobbin_eq (s.setLink (s.link.reserve tag)) hmonitor hlow hhigh, hreserve]
        rfl
      exact congrArg _ (State.takeAddressed_answered s t tag _ .ok [] hh hreplies howner)

end Sys2Proof.Machine

/-!
PROOF. Rules of the state's operations on one head (sections 1.7, 6.4, 7.2, 8.4, 9.1): what an item of a head, the gap
table or the event queue reads after a change of one head's items, of its state, of its gap, or after a command for it
is issued.
-/

namespace Sys2Proof.Machine
set_option Elab.async false

/-! ## Items of one head -/

section Items

variable (s : State) {h j : Nat}

theorem getD_modify_same {α : Type} [Inhabited α] (l : List α) (i : Nat) (f : α → α) (h : i < l.length) :
    (l.modify i f).getD i default = f (l.getD i default) := by
  simp [List.getD_eq_getElem?_getD, h]

theorem getD_modify_other {α : Type} [Inhabited α] (l : List α) {i j : Nat} (f : α → α) (h : i ≠ j) :
    (l.modify i f).getD j default = l.getD j default := by
  simp [List.getD_eq_getElem?_getD, h]

theorem State.headAt_modHead_same (f : HeadEntry → HeadEntry) (hin : h - 1 < s.run.heads.length) :
    (s.modHead h f).headAt h = f (s.headAt h) := getD_modify_same _ _ f hin

theorem State.headAt_modHead_other (f : HeadEntry → HeadEntry) (hne : h - 1 ≠ j - 1) :
    (s.modHead h f).headAt j = s.headAt j := getD_modify_other _ f hne

theorem State.watchAt_modWatch_same (f : HeadWatch → HeadWatch) (hin : h - 1 < s.monitor.heads.length) :
    (s.modWatch h f).watchAt h = f (s.watchAt h) := getD_modify_same _ _ f hin

theorem State.watchAt_modWatch_other (f : HeadWatch → HeadWatch) (hne : h - 1 ≠ j - 1) :
    (s.modWatch h f).watchAt j = s.watchAt j := getD_modify_other _ f hne

theorem State.workAt_modWork_same (f : HeadWork → HeadWork) (hin : h - 1 < s.change.heads.length) :
    (s.modWork h f).workAt h = f (s.workAt h) := getD_modify_same _ _ f hin

theorem State.workAt_modWork_other (f : HeadWork → HeadWork) (hne : h - 1 ≠ j - 1) :
    (s.modWork h f).workAt j = s.workAt j := getD_modify_other _ f hne

theorem State.linkAt_modLink_same (f : HeadLink → HeadLink) (hin : h - 1 < s.bus.heads.length) :
    (s.modLink h f).linkAt h = f (s.linkAt h) := getD_modify_same _ _ f hin

theorem State.linkAt_modLink_other (f : HeadLink → HeadLink) (hne : h - 1 ≠ j - 1) :
    (s.modLink h f).linkAt j = s.linkAt j := getD_modify_other _ f hne

end Items

/-- The items of a head are those of its list: a state with the same list has the same items. -/
theorem State.headAt_congr {s t : State} (h : t.run.heads = s.run.heads) (j : Nat) : t.headAt j = s.headAt j := by
  unfold State.headAt
  rw [h]

theorem State.watchAt_congr {s t : State} (h : t.monitor.heads = s.monitor.heads) (j : Nat) :
    t.watchAt j = s.watchAt j := by
  unfold State.watchAt
  rw [h]

theorem State.workAt_congr {s t : State} (h : t.change.heads = s.change.heads) (j : Nat) : t.workAt j = s.workAt j := by
  unfold State.workAt
  rw [h]

theorem State.linkAt_congr {s t : State} (h : t.bus.heads = s.bus.heads) (j : Nat) : t.linkAt j = s.linkAt j := by
  unfold State.linkAt
  rw [h]

/-- Two head numbers of a machine stand at different places. -/
theorem pred_ne_pred {h j : Nat} (hh : 1 ≤ h) (hj : 1 ≤ j) (hne : j ≠ h) : h - 1 ≠ j - 1 := by omega

/-! ## A head's state -/

section HeadState

variable (s : State) (h : Nat) (new : HeadState)

/-- A head that leaves the needles for one of these loses its tension state (R135). -/
def HeadState.calms (new : HeadState) : Bool := new == .dropped || new == .lost || new == .off

theorem State.setHeadState_eq : s.setHeadState h new =
    (let t := s.modHead h (fun e => { e with state := new })
     if s.engagedHead h then
      (if new.engaged then t.writePending h
      else if new.calms then ((t.writePending h).modWatch h (fun w => { w with armed := false })).clearTension h
      else (t.writePending h).modWatch h (fun w => { w with armed := false }))
     else t) := rfl

theorem State.clearTension_run : (s.clearTension h).run = s.run := by simp

@[simp] theorem State.setHeadState_run :
    (s.setHeadState h new).run = (s.modHead h (fun e => { e with state := new })).run := by
  rw [State.setHeadState_eq]
  dsimp only
  split_ifs <;> simp

@[simp] theorem State.setHeadState_gaps : (s.setHeadState h new).gaps = s.gaps := by simp

@[simp] theorem State.setHeadState_bus : (s.setHeadState h new).bus = s.bus := by simp

theorem State.headAt_setHeadState_same (hin : h - 1 < s.run.heads.length) :
    (s.setHeadState h new).headAt h = { s.headAt h with state := new } := by
  rw [State.headAt_congr (congrArg Run.heads (s.setHeadState_run h new)), State.headAt_modHead_same _ _ hin]

theorem State.headAt_setHeadState_other {j : Nat} (hne : h - 1 ≠ j - 1) :
    (s.setHeadState h new).headAt j = s.headAt j := by
  rw [State.headAt_congr (congrArg Run.heads (s.setHeadState_run h new)), State.headAt_modHead_other _ _ hne]

/-! ## Tension -/

theorem State.clearTension_eq : s.clearTension h =
    (let t := s.modWatch h (fun w => { w with excursion := 0, warn := false })
     if (s.watchAt h).warn then (t.post .tensionClear h 0).setWarnCount (s.monitor.warnCount - 1) else t) := rfl

theorem State.clearTension_heads :
    (s.clearTension h).monitor.heads = (s.modWatch h (fun w => { w with excursion := 0, warn := false })).monitor.heads := by
  rw [State.clearTension_eq]
  dsimp only
  split <;> rfl

theorem State.clearTension_warnCount : (s.clearTension h).monitor.warnCount =
    if (s.watchAt h).warn then s.monitor.warnCount - 1 else s.monitor.warnCount := by
  rw [State.clearTension_eq]
  dsimp only
  split <;> rfl

theorem State.clearTension_gov : (s.clearTension h).gov =
    if (s.watchAt h).warn then { s.gov with derate := s.monitor.warnCount - 1 != 0 } else s.gov := by
  rw [State.clearTension_eq]
  dsimp only
  split <;> rfl

theorem State.clearTension_link : (s.clearTension h).link =
    if (s.watchAt h).warn then s.link.post ⟨.tensionClear, h, s.cursor, 0⟩ else s.link := by
  rw [State.clearTension_eq]
  dsimp only
  split <;> rfl

/-! ## What a change of state does to the Thread Monitor -/

/-- The head's items after it leaves the needles. -/
def HeadWatch.left (w : HeadWatch) (new : HeadState) : HeadWatch :=
  if new.engaged then w
  else if new.calms then { w with armed := false, excursion := 0, warn := false }
  else { w with armed := false }

/-- A change of state that ends the WARN state of the head. -/
def State.calmsHead : Bool := s.engagedHead h && !new.engaged && new.calms && (s.watchAt h).warn

theorem State.setHeadState_heads : (s.setHeadState h new).monitor.heads =
    if s.engagedHead h then s.monitor.heads.modify (h - 1) (fun w => w.left new) else s.monitor.heads := by
  rw [State.setHeadState_eq]
  unfold HeadWatch.left
  dsimp only
  split_ifs
  · exact (List.modify_id ..).symm
  · rw [State.clearTension_heads]
    simp only [State.modWatch, State.setMonitor_monitor, List.modify_modify_eq]
    rfl
  · rfl
  · rfl

theorem State.watchAt_setHeadState_same (hin : h - 1 < s.monitor.heads.length) :
    (s.setHeadState h new).watchAt h = if s.engagedHead h then (s.watchAt h).left new else s.watchAt h := by
  unfold State.watchAt
  rw [State.setHeadState_heads]
  split
  · exact getD_modify_same _ _ _ hin
  · rfl

theorem State.watchAt_setHeadState_other {j : Nat} (hne : h - 1 ≠ j - 1) :
    (s.setHeadState h new).watchAt j = s.watchAt j := by
  unfold State.watchAt
  rw [State.setHeadState_heads]
  split
  · exact getD_modify_other _ _ hne
  · rfl

/-- The state that a head leaving the needles is in before its tension is cleared. -/
def State.leaving : State :=
  ((s.modHead h (fun e => { e with state := new })).writePending h).modWatch h (fun w => { w with armed := false })

theorem State.leaving_warn : ((s.leaving h new).watchAt h).warn = (s.watchAt h).warn := by
  unfold State.leaving State.watchAt State.modWatch
  simp only [State.setMonitor_monitor, State.writePending_keeps, State.modHead_keeps, List.getD_eq_getElem?_getD,
    List.getElem?_modify_eq]
  cases s.monitor.heads[h - 1]? <;> rfl

theorem State.leaving_warnCount : (s.leaving h new).monitor.warnCount = s.monitor.warnCount := by
  simp [State.leaving, State.modWatch]

theorem State.leaving_gov : (s.leaving h new).gov = s.gov := by simp [State.leaving]

theorem State.leaving_link : (s.leaving h new).link = s.link := by simp [State.leaving]

theorem State.leaving_cursor : (s.leaving h new).cursor = s.cursor := by
  unfold State.cursor State.leaving
  simp [State.modHead]

/-- Only a head that leaves the needles for a state which ends its tension has more changed than its own items. -/
theorem State.setHeadState_cases : s.setHeadState h new =
    if s.engagedHead h = true ∧ new.engaged = false ∧ new.calms = true then (s.leaving h new).clearTension h
    else if s.engagedHead h = true ∧ new.engaged = false then s.leaving h new
    else if s.engagedHead h = true then (s.modHead h (fun e => { e with state := new })).writePending h
    else s.modHead h (fun e => { e with state := new }) := by
  rw [State.setHeadState_eq]
  cases s.engagedHead h <;> cases new.engaged <;> cases new.calms <;> rfl

theorem State.calmsHead_iff : s.calmsHead h new = true ↔
    (s.engagedHead h = true ∧ new.engaged = false ∧ new.calms = true) ∧ (s.watchAt h).warn = true := by
  simp [State.calmsHead, and_assoc]

theorem State.setHeadState_warnCount : (s.setHeadState h new).monitor.warnCount =
    if s.calmsHead h new then s.monitor.warnCount - 1 else s.monitor.warnCount := by
  rw [State.setHeadState_cases]
  split
  next hall =>
    simp [State.calmsHead_iff, hall, State.clearTension_warnCount, State.leaving_warn, State.leaving_warnCount]
  next hsome =>
    rw [if_neg (mt (fun hc => ((s.calmsHead_iff h new).1 hc).1) hsome)]
    split_ifs <;> simp [State.leaving_warnCount]

theorem State.setHeadState_gov : (s.setHeadState h new).gov =
    if s.calmsHead h new then { s.gov with derate := s.monitor.warnCount - 1 != 0 } else s.gov := by
  rw [State.setHeadState_cases]
  split
  next hall =>
    simp [State.calmsHead_iff, hall, State.clearTension_gov, State.leaving_warn, State.leaving_warnCount, State.leaving_gov]
  next hsome =>
    rw [if_neg (mt (fun hc => ((s.calmsHead_iff h new).1 hc).1) hsome)]
    split_ifs <;> simp [State.leaving_gov]

theorem State.setHeadState_link : (s.setHeadState h new).link =
    if s.calmsHead h new then s.link.post ⟨.tensionClear, h, s.cursor, 0⟩ else s.link := by
  rw [State.setHeadState_cases]
  split
  next hall =>
    simp [State.calmsHead_iff, hall, State.clearTension_link, State.leaving_warn, State.leaving_link, State.leaving_cursor]
  next hsome =>
    rw [if_neg (mt (fun hc => ((s.calmsHead_iff h new).1 hc).1) hsome)]
    split_ifs <;> simp [State.leaving_link]

end HeadState

end Sys2Proof.Machine

/-!
PROOF. Rules of the gap table's closing and of the head bus: what a command's issue and the beginning of a transaction
leave, and that a command once issued stays on its way (sections 6.4, 9.1).
-/

namespace Sys2Proof.Machine
set_option Elab.async false

/-! ## Pacing and release leave the queues of the Link Interface alone -/

/-- The same Link Interface but for the grant not yet sent. -/
def Link.SameButGrant (l m : Link) : Prop := ∃ g, l = { m with grant := g }

theorem State.pace_link (s : State) : s.pace.link.SameButGrant s.link := by
  unfold State.pace
  dsimp only
  split_ifs
  · exact ⟨_, rfl⟩
  · exact ⟨_, rfl⟩
  · exact ⟨_, rfl⟩

theorem State.release_link (s : State) : s.release.link.SameButGrant s.link := by
  unfold State.release
  split
  · exact State.pace_link s.releaseSlots
  · exact ⟨_, rfl⟩

theorem Link.SameButGrant.events {l m : Link} (h : l.SameButGrant m) : l.events = m.events := by
  obtain ⟨g, rfl⟩ := h
  rfl

theorem Link.SameButGrant.overflow {l m : Link} (h : l.SameButGrant m) : l.overflow = m.overflow := by
  obtain ⟨g, rfl⟩ := h
  rfl

theorem Link.SameButGrant.replies {l m : Link} (h : l.SameButGrant m) : l.replies = m.replies := by
  obtain ⟨g, rfl⟩ := h
  rfl

theorem Link.SameButGrant.resetBy {l m : Link} (h : l.SameButGrant m) : l.resetBy = m.resetBy := by
  obtain ⟨g, rfl⟩ := h
  rfl

/-! ## Closing a head's gap -/

section Gap

variable (s : State) (h : Nat)

/-- The gaps with the OPEN one of a head closed at an index, or removed when it holds nothing (R148). -/
def closedGaps (gaps : List Gap) (h c : Nat) : List Gap :=
  match gaps.find? (fun g => g.head == h && g.state == .opened) with
  | none => gaps
  | some g => if g.start < c
    then gaps.map (fun x => if x.head == h && x.state == .opened then { x with stop := some c, state := .closed } else x)
    else gaps.filter (fun x => !(x.head == h && x.state == .opened))

/-- GAP CLOSED for the OPEN gap of a head, if it has one. -/
def Link.postClosed (l : Link) (gaps : List Gap) (h c : Nat) : Link :=
  match gaps.find? (fun g => g.head == h && g.state == .opened) with
  | none => l
  | some g => l.post ⟨.gapClosed, h, c, c - g.start⟩

theorem State.closeGap_gaps : (s.closeGap h).gaps = closedGaps s.gaps h s.run.mainCursor := by
  unfold State.closeGap State.openGap closedGaps
  cases s.gaps.find? (fun g => g.head == h && g.state == .opened) with
  | none => rfl
  | some g => simp

theorem State.closeGap_link :
    (s.closeGap h).link.SameButGrant (s.link.postClosed s.gaps h s.run.mainCursor) := by
  unfold State.closeGap State.openGap Link.postClosed
  cases s.gaps.find? (fun g => g.head == h && g.state == .opened) with
  | none => exact ⟨_, rfl⟩
  | some g => exact State.release_link _

end Gap

/-! ## Issuing a command -/

section Issue

variable (s : State) (c : BusCommand)

/-- A command for a head that is not lost finds its place (R104). -/
theorem State.issue_outstanding (hl : (s.linkAt c.head).lost = false) :
    (s.issue c).bus.outstanding (fun d => d == c) = true := by
  unfold State.issue
  rw [if_neg (by simp [hl])]
  dsimp only
  generalize (match c.work.order? with
    | some o => s.modHead c.head (fun e => { e with queued := some o.cmd })
    | none => s) = t
  have hany : ∀ l : List BusCommand, l.any (fun d => d.engages c.head) = true →
      (replaceEngage c l).any (fun d => d == c) = true := fun l hl => by
    obtain ⟨d, hd, he⟩ := List.any_eq_true.1 hl
    exact List.any_eq_true.2 ⟨c, List.mem_map.2 ⟨d, hd, if_pos he⟩, beq_self_eq_true c⟩
  unfold Bus.outstanding
  split_ifs with hr hq
  · rw [Bool.and_eq_true, List.any_append, Bool.or_eq_true] at hr
    rcases hr.2 with h1 | h1
    · simp [hany _ h1]
    · simp [hany _ h1]
  · simp
  · simp

/-- An engagement command for a head that is not lost is noted in the head table (R25). -/
theorem State.issue_run (hl : (s.linkAt c.head).lost = false) : (s.issue c).run =
    (match c.work.order? with
      | some o => (s.modHead c.head (fun e => { e with queued := some o.cmd })).run
      | none => s.run) := by
  unfold State.issue
  rw [if_neg (by simp [hl])]
  dsimp only
  cases c.work.order? <;> (dsimp only; split_ifs <;> rfl)

theorem State.issue_monitor : (s.issue c).monitor = s.monitor := by simp

/-- The head bus after a command is issued: its heads' items stay, and so do round and transaction. -/
theorem State.issue_busHeads : (s.issue c).bus.heads = s.bus.heads := by
  unfold State.issue State.notDelivered State.handOver
  dsimp only
  cases c.work.order? <;> dsimp only <;> split_ifs <;> rfl

end Issue

section IssueLift

variable (s : State) {h : Nat} (becomes : HeadState) (forStart : Bool)

theorem State.issueLift_run (hl : (s.linkAt h).lost = false) :
    (s.issueLift h becomes forStart).run = (s.modHead h (fun e => { e with queued := some .lift })).run :=
  s.issue_run ⟨h, _⟩ hl

theorem State.headAt_issueLift_same (hl : (s.linkAt h).lost = false) (hin : h - 1 < s.run.heads.length) :
    (s.issueLift h becomes forStart).headAt h = { s.headAt h with queued := some .lift } := by
  rw [State.headAt_congr (congrArg Run.heads (s.issueLift_run becomes forStart hl)), State.headAt_modHead_same _ _ hin]

theorem State.headAt_issueLift_other {j : Nat} (hl : (s.linkAt h).lost = false) (hne : h - 1 ≠ j - 1) :
    (s.issueLift h becomes forStart).headAt j = s.headAt j := by
  rw [State.headAt_congr (congrArg Run.heads (s.issueLift_run becomes forStart hl)), State.headAt_modHead_other _ _ hne]

theorem State.issueLift_onItsWay (hl : (s.linkAt h).lost = false) (hin : h - 1 < s.run.heads.length) :
    (s.issueLift h becomes false).liftOnItsWay h becomes = true := by
  unfold State.liftOnItsWay
  rw [State.headAt_issueLift_same s becomes false hl hin, Bool.and_eq_true]
  exact ⟨rfl, s.issue_outstanding ⟨h, .engage ⟨.lift, becomes, false, false⟩⟩ hl⟩

end IssueLift

/-! ## The next transaction -/

theorem Bus.outstanding_iff (b : Bus) (p : BusCommand → Bool) : b.outstanding p = true ↔
    (∃ c ∈ b.queue, p c = true) ∨ (∃ c ∈ b.held, p c = true) ∨
      ∃ t w, b.inFlight = some t ∧ t.kind = .command w ∧ p ⟨t.head, w⟩ = true := by
  unfold Bus.outstanding
  rw [Bool.or_eq_true, Bool.or_eq_true, List.any_eq_true, List.any_eq_true, or_assoc]
  refine or_congr Iff.rfl (or_congr Iff.rfl ?_)
  cases b.inFlight with
  | none => simp
  | some t =>
    cases hk : t.kind with
    | command w => simp [TransactionKind.work?, hk]
    | probe => simp [TransactionKind.work?, hk]
    | roundPoll => simp [TransactionKind.work?, hk]

/-- Refilling the queue loses no command. -/
theorem Bus.mem_refill (b : Bus) {c : BusCommand} (h : c ∈ b.queue ∨ c ∈ b.held) :
    c ∈ b.refill.queue ∨ c ∈ b.refill.held := by
  unfold Bus.refill
  dsimp only
  rcases h with h | h
  · exact .inl (List.mem_append_left _ h)
  · rw [← List.take_append_drop (Config.queuePlaces - b.queue.length) b.held, List.mem_append] at h
    exact h.imp (List.mem_append_right _) id

/-- The beginning of a transaction takes no command off its way (R105). -/
theorem State.pump_outstanding {s : State} {p : BusCommand → Bool} (h : s.bus.outstanding p = true) :
    s.pump.bus.outstanding p = true := by
  unfold State.pump
  by_cases hf : s.bus.inFlight.isSome = true
  · rwa [if_pos hf]
  · rw [if_neg hf]
    rw [Bus.outstanding_iff] at h
    have hidle : ∀ t, s.bus.inFlight ≠ some t := fun t ht => hf (by rw [ht]; rfl)
    cases hq : s.bus.queue with
    | cons c rest =>
      have hkept : ∀ d, d = c ∨ d ∈ rest ∨ d ∈ s.bus.held → p d = true →
          (((s.setBus { s.bus with queue := rest }.refill).beginTransaction (.command c.work) c.head).bus).outstanding p =
            true := fun d hd hp => by
        rw [Bus.outstanding_iff]
        rcases hd with rfl | hd
        · exact .inr (.inr ⟨_, d.work, rfl, rfl, hp⟩)
        · have hmem := Bus.mem_refill { s.bus with queue := rest } hd
          exact hmem.imp (fun h => ⟨d, h, hp⟩) (fun h => .inl ⟨d, h, hp⟩)
      rcases h with ⟨d, hd, hp⟩ | ⟨d, hd, hp⟩ | ⟨t, _, ht, _⟩
      · rw [hq] at hd
        exact hkept d ((List.mem_cons.1 hd).imp id .inl) hp
      · exact hkept d (.inr (.inr hd)) hp
      · exact absurd ht (hidle t)
    | nil =>
      have hheld : ∃ d ∈ s.bus.held, p d = true := by
        rcases h with ⟨d, hd, _⟩ | hd | ⟨t, _, ht, _⟩
        · rw [hq] at hd
          cases hd
        · exact hd
        · exact absurd ht (hidle t)
      dsimp only
      split
      · exact (Bus.outstanding_iff _ _).2 (.inr (.inl hheld))
      · split
        · exact (Bus.outstanding_iff _ _).2 (.inr (.inl hheld))
        · split <;> exact (Bus.outstanding_iff _ _).2 (.inr (.inl hheld))

theorem State.pump_liftOnItsWay {s : State} {h : Nat} {becomes : HeadState} (hl : s.liftOnItsWay h becomes = true) :
    s.pump.liftOnItsWay h becomes = true := by
  unfold State.liftOnItsWay at hl ⊢
  rw [Bool.and_eq_true] at hl ⊢
  refine ⟨?_, State.pump_outstanding hl.2⟩
  rw [State.headAt_congr (s := s) (by simp)]
  exact hl.1

/-- A change of a head's bus items that keeps one of them. -/
theorem State.linkAt_modLink_keeps {α : Type} (s : State) (h j : Nat) (f : HeadLink → HeadLink) (field : HeadLink → α)
    (hf : ∀ l, field (f l) = field l) : field ((s.modLink h f).linkAt j) = field (s.linkAt j) := by
  by_cases hne : h - 1 = j - 1
  · unfold State.linkAt State.modLink
    simp only [State.setBus_bus, List.getD_eq_getElem?_getD, hne, List.getElem?_modify_eq]
    cases s.bus.heads[j - 1]? with
    | none => rfl
    | some l => exact hf l
  · rw [State.linkAt_modLink_other s f hne]

/-- A transaction begun leaves the loss and the record of every head. -/
theorem State.linkAt_pump {α : Type} (s : State) (j : Nat) (field : HeadLink → α)
    (hf : ∀ (l : HeadLink) (m : Mark), field { l with nextMark := m } = field l)
    (ht : ∀ l : HeadLink, field { l with timeouts := 0 } = field l) : field (s.pump.linkAt j) = field (s.linkAt j) := by
  have hbegin : ∀ (t : State) kind h, field ((t.beginTransaction kind h).linkAt j) = field (t.linkAt j) := fun t kind h => by
    refine Eq.trans (congrArg field (State.linkAt_congr ?_ j))
      (t.linkAt_modLink_keeps h j (fun l => { l with nextMark := (t.linkAt h).nextMark.after }) field fun l => hf l _)
    rfl
  unfold State.pump
  split
  · rfl
  · split
    · exact hbegin _ _ _
    · split
      · rw [hbegin]
        exact s.linkAt_modLink_keeps _ j _ field ht
      · split
        · rfl
        · split
          · rfl
          · exact hbegin _ _ _

theorem State.linkAt_pump_lost (s : State) (j : Nat) : (s.pump.linkAt j).lost = (s.linkAt j).lost :=
  s.linkAt_pump j HeadLink.lost (fun _ _ => rfl) (fun _ => rfl)

end Sys2Proof.Machine

/-!
PROOF. HEAD ON and HEAD OFF (section 1.7; O31).
-/

namespace Sys2Proof.Machine
set_option Elab.async false

/-! ## HEAD ON -/

section HeadOn

variable {s : State} {h : Nat}

theorem serveHeadOn_of_not_settable (hs : s.settable = false) : serveHeadOn h s = refuse s .busy := by
  simp [serveHeadOn, hs]

theorem serveHeadOn_of_out_of_range (hs : s.settable = true) (hr : h = 0 ∨ 8 < h ∨ s.cfg.machine.headCount < h) :
    serveHeadOn h s = refuse s .range := by
  have : ¬ (validHead h && decide (h ≤ s.cfg.machine.headCount)) = true := by
    rw [Bool.and_eq_true, validHead_iff, decide_eq_true_iff]
    omega
  simp only [serveHeadOn, hs, Bool.not_true, Bool.false_eq_true, if_false, this]

theorem serveHeadOn_of_right (hs : s.settable = true) (hlow : 1 ≤ h) (hhigh : h ≤ 8)
    (hc : h ≤ s.cfg.machine.headCount) : serveHeadOn h s = taken (s.headOnEffect h).finish := by
  have : (validHead h && decide (h ≤ s.cfg.machine.headCount)) = true := by
    rw [Bool.and_eq_true, validHead_iff, decide_eq_true_iff]
    omega
  simp only [serveHeadOn, hs, Bool.not_true, Bool.false_eq_true, if_false, this, if_true]

theorem serveHeadOff_of_not_settable (hs : s.settable = false) : serveHeadOff h s = refuse s .busy := by
  simp [serveHeadOff, hs]

theorem serveHeadOff_of_out_of_range (hs : s.settable = true) (hr : h = 0 ∨ 8 < h) :
    serveHeadOff h s = refuse s .range := by
  have : ¬ validHead h = true := by
    rw [validHead_iff]
    omega
  simp only [serveHeadOff, hs, Bool.not_true, Bool.false_eq_true, if_false, this]

theorem serveHeadOff_of_right (hs : s.settable = true) (hlow : 1 ≤ h) (hhigh : h ≤ 8) :
    serveHeadOff h s = taken (s.headOffEffect h).finish := by
  simp only [serveHeadOff, hs, Bool.not_true, Bool.false_eq_true, if_false, (validHead_iff h).2 ⟨hlow, hhigh⟩, if_true]

/-- A state that agrees on what the sequences look at has nothing due either. -/
theorem State.quiet_congr {s t : State} (ha : t.run.activity = s.run.activity) (hr : t.run.state = s.run.state)
    (hf : t.frame = s.frame) : t.quiet = s.quiet := by
  unfold State.quiet
  rw [ha, hr, hf]

theorem State.headOnEffect_of_on (hon : (s.headAt h).state ≠ .off) : s.headOnEffect h = s := if_neg hon

/-- An OFF head switched on (R24, R100, R110, R132). -/
theorem State.headOnEffect_of_off (hoff : (s.headAt h).state = .off) : s.headOnEffect h =
    ((s.setRun { s.run with heads := s.run.heads.modify (h - 1) (fun e => { e with state := .idle }) }).setBus { s.bus with
      heads := s.bus.heads.modify (h - 1) (fun l =>
        { l with lost := false, timeouts := 0, probe := false, nextMark := .fresh }) }).setMonitor { s.monitor with
      heads := s.monitor.heads.modify (h - 1) (fun w => { w with countdown := s.cfg.thread.breakB }) } :=
  if_pos hoff

/-! ## HEAD OFF -/

/-- The head switched off, but for its gap and its LIFT. -/
def State.headOffItems (s : State) (h : Nat) : State :=
  let t := (s.setHeadState h .off).modWatch h (fun w => { w with fault := none, joining := false })
  (t.setBus (t.bus.passOver h)).clearLoss h

theorem State.headOffEffect_of_off (hoff : (s.headAt h).state = .off) : s.headOffEffect h = s := if_pos hoff

theorem State.headOffEffect_of_main (hon : (s.headAt h).state ≠ .off) (hp : s.run.pass = .main) :
    s.headOffEffect h = if s.engagedHead h then ((s.headOffItems h).closeGap h).issueLift h .off false
      else (s.headOffItems h).closeGap h := by
  have hpass : ∀ t : State, t.run.pass = .main → ¬ t.run.pass = .patch := fun t ht => by simp [ht]
  have hclosed : ((s.headOffItems h).closeGap h).run.pass = .main := by
    simp [State.headOffItems, State.modHead, hp]
  have hbare : ∀ (t u : State), t.run.bare = u.run.bare → u.run.pass = .main → t.run.pass = .main := fun t u hb hu => by
    have := congrArg Run.pass hb
    exact this.trans hu
  unfold State.headOffEffect
  rw [if_neg hon]
  dsimp only
  split
  · exact if_neg (hpass _ (hbare _ _ (State.issueLift_bare _ _ _ _) hclosed))
  · exact if_neg (hpass _ hclosed)

end HeadOn

section HeadOffFacts

variable (s : State) {h : Nat}

theorem State.headOffItems_run : (s.headOffItems h).run = (s.modHead h (fun e => { e with state := .off })).run :=
  s.setHeadState_run h .off

theorem State.headOffItems_gaps : (s.headOffItems h).gaps = s.gaps := s.setHeadState_gaps h .off

theorem State.headOffItems_link : (s.headOffItems h).link =
    if s.engagedHead h && (s.watchAt h).warn then s.link.post ⟨.tensionClear, h, s.cursor, 0⟩ else s.link := by
  have hcalms : s.calmsHead h .off = (s.engagedHead h && (s.watchAt h).warn) := by
    simp [State.calmsHead, HeadState.calms, HeadState.engaged]
  rw [← hcalms]
  exact s.setHeadState_link h .off

theorem State.headOffItems_gov : (s.headOffItems h).gov = if s.engagedHead h && (s.watchAt h).warn
    then { s.gov with derate := decide (1 < s.monitor.warnCount) } else s.gov := by
  have hcalms : s.calmsHead h .off = (s.engagedHead h && (s.watchAt h).warn) := by
    simp [State.calmsHead, HeadState.calms, HeadState.engaged]
  have hderate : decide (1 < s.monitor.warnCount) = (s.monitor.warnCount - 1 != 0) := by
    rw [Bool.eq_iff_iff, decide_eq_true_iff, bne_iff_ne]
    omega
  rw [hderate, ← hcalms]
  exact s.setHeadState_gov h .off

theorem State.headOffItems_warnCount : (s.headOffItems h).monitor.warnCount = if s.engagedHead h && (s.watchAt h).warn
    then s.monitor.warnCount - 1 else s.monitor.warnCount := by
  have hcalms : s.calmsHead h .off = (s.engagedHead h && (s.watchAt h).warn) := by
    simp [State.calmsHead, HeadState.calms, HeadState.engaged]
  rw [← hcalms]
  exact s.setHeadState_warnCount h .off

theorem State.watchAt_headOffItems_same (hin : h - 1 < s.monitor.heads.length) : (s.headOffItems h).watchAt h =
    if s.engagedHead h then { s.watchAt h with
      fault := none, joining := false, armed := false, excursion := 0, warn := false }
    else { s.watchAt h with fault := none, joining := false } := by
  have hin' : h - 1 < (s.setHeadState h .off).monitor.heads.length := by
    rw [State.setHeadState_heads]
    split
    · rwa [List.length_modify]
    · exact hin
  refine ((s.setHeadState h .off).watchAt_modWatch_same _ hin').trans ?_
  rw [State.watchAt_setHeadState_same s h .off hin]
  split <;> rfl

theorem State.watchAt_headOffItems_other {j : Nat} (hne : h - 1 ≠ j - 1) : (s.headOffItems h).watchAt j = s.watchAt j :=
  ((s.setHeadState h .off).watchAt_modWatch_other _ hne).trans (s.watchAt_setHeadState_other h .off hne)

theorem State.linkAt_headOffItems_lost (hin : h - 1 < s.bus.heads.length) : ((s.headOffItems h).linkAt h).lost = false := by
  have hin' : h - 1 < (s.setHeadState h .off).bus.heads.length := by rwa [State.setHeadState_bus]
  exact congrArg HeadLink.lost (State.linkAt_modLink_same (State.setBus _ _) _ hin')

/-- The state that HEAD OFF leaves in the main pass. -/
theorem State.headOffEffect_run (hon : (s.headAt h).state ≠ .off) (hp : s.run.pass = .main)
    (hin : h - 1 < s.bus.heads.length) : (s.headOffEffect h).run = (s.modHead h (fun e =>
      { e with state := .off, queued := if s.engagedHead h then some .lift else e.queued })).run := by
  have hlost : (((s.headOffItems h).closeGap h).linkAt h).lost = false := by
    rw [State.linkAt_congr (s := s.headOffItems h) (by simp)]
    exact s.linkAt_headOffItems_lost hin
  have hrun : ((s.headOffItems h).closeGap h).run = (s.modHead h (fun e => { e with state := .off })).run := by
    rw [(State.closeGap_keeps _ _).1, State.headOffItems_run]
  rw [State.headOffEffect_of_main hon hp]
  split
  · rw [State.issueLift_run _ _ _ hlost]
    unfold State.modHead
    rw [State.setRun_run, hrun]
    simp only [State.modHead, State.setRun_run, List.modify_modify_eq]
    rfl
  · exact hrun

/-- Outside the run's head table HEAD OFF leaves what the change of items and the gap's closing leave. -/
theorem State.headOffEffect_main_blocks (hon : (s.headAt h).state ≠ .off) (hp : s.run.pass = .main) :
    (s.headOffEffect h).monitor = (s.headOffItems h).monitor ∧ (s.headOffEffect h).gov = (s.headOffItems h).gov ∧
    (s.headOffEffect h).gaps = closedGaps s.gaps h s.run.mainCursor ∧ (s.headOffEffect h).frame = s.frame ∧
    (s.headOffEffect h).shaft = s.shaft ∧ (s.headOffEffect h).cfg = s.cfg ∧
    (s.headOffEffect h).bus.heads = (s.headOffItems h).bus.heads ∧
    (s.headOffEffect h).link.SameButGrant ((s.headOffItems h).link.postClosed s.gaps h s.run.mainCursor) := by
  have hmain : (s.headOffItems h).run.mainCursor = s.run.mainCursor := by rw [State.headOffItems_run]; rfl
  have hframe : (s.headOffItems h).frame = s.frame := by simp [State.headOffItems]
  have hshaft : (s.headOffItems h).shaft = s.shaft := by simp [State.headOffItems]
  have hcfg : (s.headOffItems h).cfg = s.cfg := by simp [State.headOffItems]
  have hgaps := State.closeGap_gaps (s.headOffItems h) h
  have hlink := State.closeGap_link (s.headOffItems h) h
  rw [hmain, State.headOffItems_gaps] at hgaps hlink
  rw [State.headOffEffect_of_main hon hp]
  split
  · have hbus : (((s.headOffItems h).closeGap h).issueLift h .off false).bus.heads = (s.headOffItems h).bus.heads :=
      (State.issue_busHeads _ _).trans (by simp)
    refine ⟨by simp, by simp, by simpa using hgaps, by simp [hframe], by simp [hshaft], by simp [hcfg], hbus, ?_⟩
    simpa using hlink
  · exact ⟨by simp, by simp, hgaps, by simp [hframe], by simp [hshaft], by simp [hcfg], by simp, hlink⟩

theorem State.headOffEffect_lift (hon : (s.headAt h).state ≠ .off) (hp : s.run.pass = .main)
    (hin : h - 1 < s.bus.heads.length) (hrun : h - 1 < s.run.heads.length) (he : s.engagedHead h = true) :
    (s.headOffEffect h).liftOnItsWay h .off = true := by
  have hlost : (((s.headOffItems h).closeGap h).linkAt h).lost = false := by
    rw [State.linkAt_congr (s := s.headOffItems h) (by simp)]
    exact s.linkAt_headOffItems_lost hin
  have hhead : h - 1 < ((s.headOffItems h).closeGap h).run.heads.length := by
    rw [(State.closeGap_keeps _ _).1, State.headOffItems_run]
    simpa [State.modHead] using hrun
  rw [State.headOffEffect_of_main hon hp, if_pos he]
  exact State.issueLift_onItsWay _ _ hlost hhead

end HeadOffFacts

/-- Events posted alike to two Link Interfaces that differ in their replies alone. -/
theorem Link.postClosed_reserve (l : Link) (tag : Byte) (gaps : List Gap) (h c : Nat) :
    (l.reserve tag).postClosed gaps h c = (l.postClosed gaps h c).reserve tag := by
  unfold Link.postClosed
  split
  · rfl
  · exact Link.post_reserve _ _ _

theorem Link.ite_post_reserve (b : Prop) [Decidable b] (l : Link) (tag : Byte) (e : Event) :
    (if b then (l.reserve tag).post e else l.reserve tag) = (if b then l.post e else l).reserve tag := by
  split
  · exact Link.post_reserve _ _ _
  · rfl

/-- The state that a request leaves when its owner's work ends on the head bus: its blocks but the replies. -/
theorem State.takeAddressed_existential (s u : State) (tag : Byte) (owner : State → Served) (code : ResultCode)
    (data : List Byte) (h : s.hears = true) (hr : u.link.replies = s.link.replies ++ [⟨tag, none⟩])
    (ho : owner (s.setLink (s.link.reserve tag)) = (u, some ⟨code, data⟩)) :
    s.takeAddressed tag owner = u.setLink { u.link with replies := s.link.replies ++ [⟨tag, some ⟨code, data⟩⟩] } :=
  State.takeAddressed_served s u tag owner ⟨code, data⟩ h ho hr

theorem exec_headOff_addressed (s : State) (tag : Byte) (h : Nat) :
    exec (.headOff (.addressed tag) h) s = .next (s.takeAddressed tag (serveHeadOff h)) := rfl

/-- What HEAD OFF leaves, on the state with a reply place reserved. -/
theorem exec_headOff_of_main (s : State) (tag : Byte) {h : Nat} (hh : s.hears = true)
    (hs : s.settable = true) (hq : s.quiet = true) (hlow : 1 ≤ h) (hhigh : h ≤ 8)
    (hon : (s.headAt h).state ≠ .off) (hp : s.run.pass = .main) (hbus : h - 1 < s.bus.heads.length) :
    let u := (s.setLink (s.link.reserve tag)).headOffEffect h
    u.link.replies = s.link.replies ++ [⟨tag, none⟩] ∧
    exec (.headOff (.addressed tag) h) s = .next (u.pump.setLink { u.link with
      replies := s.link.replies ++ [⟨tag, some ⟨.ok, []⟩⟩] }) := by
  intro u
  let r := s.setLink (s.link.reserve tag)
  obtain ⟨-, -, -, hframe, -, -, -, hlink⟩ := r.headOffEffect_main_blocks (h := h) hon hp
  have hrun := r.headOffEffect_run (h := h) hon hp hbus
  have hreplies : u.link.replies = s.link.replies ++ [⟨tag, none⟩] := by
    rw [hlink.replies]
    have hitems : (r.headOffItems h).link.replies = s.link.replies ++ [⟨tag, none⟩] := by
      rw [State.headOffItems_link]
      split
      · exact Link.post_replies _ _
      · rfl
    unfold Link.postClosed
    split
    · exact hitems
    · exact (Link.post_replies _ _).trans hitems
  have hquiet : u.quiet = true := by
    rw [State.quiet_congr (s := r) ((congrArg Run.activity hrun).trans rfl) ((congrArg Run.state hrun).trans rfl) hframe]
    exact hq
  have hserve : serveHeadOff h r = (u.pump, some ⟨.ok, []⟩) := by
    rw [serveHeadOff_of_right (s := r) hs hlow hhigh, State.finish_quiet _ hquiet]
    rfl
  refine ⟨hreplies, (exec_headOff_addressed s tag h).trans (congrArg _ ?_)⟩
  rw [State.takeAddressed_existential s u.pump tag _ .ok [] hh (by rw [State.pump_link, hreplies]) hserve,
    State.pump_link]

/-- Settles O31: HEAD ON by the head's state, HEAD OFF by its items, its gap and its LIFT. -/
theorem headOnAndHeadOff : Obligations.HeadOnAndHeadOff := by
  intro s tag h hh c warned calmed isOpen closed told
  have hsettable : (s.run.state = .idle ∨ s.run.state = .paused) → s.settable = true := s.settable_iff.2
  have hunsettable : s.run.state ≠ .idle → s.run.state ≠ .paused → s.settable = false := fun hi hp => by
    rw [Bool.eq_false_iff, Ne, State.settable_iff]
    exact not_or.mpr ⟨hi, hp⟩
  refine ⟨?on, ?off⟩
  case on =>
    intro run
    refine ⟨fun hi hp => ?_, fun hs => ⟨fun hr => ?_, fun hq hlow hhigh hc => ⟨fun hon => ?_, fun hoff => ?_⟩⟩⟩
    · exact congrArg _ (State.takeAddressed_refused s tag _ .busy hh
        (serveHeadOn_of_not_settable (s := s.setLink _) (hunsettable hi hp)))
    · exact congrArg _ (State.takeAddressed_refused s tag _ .range hh
        (serveHeadOn_of_out_of_range (s := s.setLink _) (hsettable hs) hr))
    · refine congrArg _ (State.takeAddressed_pumped s s tag _ .ok [] hh rfl ?_)
      rw [serveHeadOn_of_right (s := s.setLink (s.link.reserve tag)) (hsettable hs) hlow hhigh hc,
        State.headOnEffect_of_on (s := s.setLink (s.link.reserve tag)) hon, State.finish_quiet (s.setLink (s.link.reserve tag)) hq]
      rfl
    · let t := s.headOnEffect h
      have ht := State.headOnEffect_of_off hoff
      have hreserved : (s.setLink (s.link.reserve tag)).headOnEffect h = t.setLink (s.link.reserve tag) := by
        rw [State.headOnEffect_of_off (s := s.setLink (s.link.reserve tag)) hoff]
        show _ = (s.headOnEffect h).setLink _
        rw [ht]
        rfl
      have hquiet : (t.setLink (s.link.reserve tag)).quiet = true := by
        show (s.headOnEffect h).quiet = true
        rw [ht]
        exact hq
      have hlink : t.link = s.link := by
        show (s.headOnEffect h).link = _
        rw [ht]
        rfl
      rw [← ht]
      refine congrArg _ (State.takeAddressed_pumped s t tag _ .ok [] hh (congrArg Link.replies hlink) ?_)
      rw [serveHeadOn_of_right (s := s.setLink (s.link.reserve tag)) (hsettable hs) hlow hhigh hc, hreserved,
        State.finish_quiet _ hquiet, hlink]
      rfl
  case off =>
    intro run
    refine ⟨fun hi hp => ?_, fun hs => ⟨fun hr => ?_, fun hq hlow hhigh hruns hmons hbuses =>
      ⟨fun hoff => ?_, fun hon hp => ?_⟩⟩⟩
    · exact congrArg _ (State.takeAddressed_refused s tag _ .busy hh
        (serveHeadOff_of_not_settable (s := s.setLink _) (hunsettable hi hp)))
    · exact congrArg _ (State.takeAddressed_refused s tag _ .range hh
        (serveHeadOff_of_out_of_range (s := s.setLink _) (hsettable hs) hr))
    · refine congrArg _ (State.takeAddressed_pumped s s tag _ .ok [] hh rfl ?_)
      rw [serveHeadOff_of_right (s := s.setLink (s.link.reserve tag)) (hsettable hs) hlow hhigh,
        State.headOffEffect_of_off (s := s.setLink (s.link.reserve tag)) hoff, State.finish_quiet (s.setLink (s.link.reserve tag)) hq]
      rfl
    · let r := s.setLink (s.link.reserve tag)
      let u := r.headOffEffect h
      have hrunin : h - 1 < s.run.heads.length := by omega
      have hmonin : h - 1 < s.monitor.heads.length := by omega
      have hbusin : h - 1 < s.bus.heads.length := by omega
      obtain ⟨hreplies, hexec⟩ := exec_headOff_of_main s tag hh (hsettable hs) hq hlow hhigh hon hp hbusin
      obtain ⟨hmon, hgov, hgaps, hframe, hshaft, hcfg, hheads, hlink⟩ := r.headOffEffect_main_blocks (h := h) hon hp
      have hurun : u.run = (r.modHead h _).run := r.headOffEffect_run (h := h) hon hp hbusin
      have hcursor : s.cursor = c := by simp [State.cursor, hp, c]
      have hcalmed : (r.headOffItems h).link = calmed.reserve tag := by
        rw [State.headOffItems_link]
        show (if warned = true then (s.link.reserve tag).post ⟨.tensionClear, h, s.cursor, 0⟩ else _) = _
        rw [hcursor]
        exact Link.ite_post_reserve _ _ _ _
      have htold : (r.headOffItems h).link.postClosed r.gaps h r.run.mainCursor = told.reserve tag := by
        rw [hcalmed, Link.postClosed_reserve]
        rfl
      refine ⟨_, hexec, ?_, ?_, ?_, ?_, ?_, ?_, ?_, ?_, ?_, rfl, ?_, ?_, ?_, ?_, ?_, ?_⟩
      · show (u.pump.headAt h).state = _
        rw [State.headAt_congr (s := r.modHead h _) (by rw [State.pump_keeps u |>.1, hurun]),
          State.headAt_modHead_same r _ hrunin]
      · show u.pump.watchAt h = _
        rw [State.watchAt_congr (s := r.headOffItems h) (by rw [← hmon]; simp [u]),
          State.watchAt_headOffItems_same r hmonin]
        rfl
      · show u.pump.monitor.warnCount = _
        rw [show u.pump.monitor = (r.headOffItems h).monitor by rw [← hmon]; simp [u], State.headOffItems_warnCount]
        rfl
      · show u.pump.gov = _
        rw [show u.pump.gov = (r.headOffItems h).gov by rw [← hgov]; simp [u], State.headOffItems_gov]
        rfl
      · show (u.pump.linkAt h).lost = _
        rw [State.linkAt_pump_lost, State.linkAt_congr (s := r.headOffItems h) hheads]
        exact r.linkAt_headOffItems_lost hbusin
      · show u.pump.gaps = _
        rw [show u.pump.gaps = closedGaps r.gaps h r.run.mainCursor by rw [← hgaps]; simp [u]]
        rfl
      · show u.link.events = _
        rw [hlink.events, htold]
        rfl
      · show u.link.overflow = _
        rw [hlink.overflow, htold]
        rfl
      · intro he
        exact State.pump_liftOnItsWay (r.headOffEffect_lift hon hp hbusin hrunin he)
      · show u.pump.run.state = _
        rw [(State.pump_keeps u).1, hurun]
        rfl
      · show u.pump.run.mainCursor = _
        rw [(State.pump_keeps u).1, hurun]
        rfl
      · show u.pump.frame = _
        rw [show u.pump.frame = u.frame by simp, hframe]
        rfl
      · show u.pump.shaft = _
        rw [show u.pump.shaft = u.shaft by simp, hshaft]
        rfl
      · show u.pump.cfg = _
        rw [show u.pump.cfg = u.cfg by simp, hcfg]
        rfl
      · intro j hne hjlow hjhigh
        have hplace := pred_ne_pred hlow hjlow hne
        refine ⟨?_, ?_⟩
        · show u.pump.headAt j = _
          rw [State.headAt_congr (s := r.modHead h _) (by rw [State.pump_keeps u |>.1, hurun]),
            State.headAt_modHead_other r _ hplace]
          rfl
        · show u.pump.watchAt j = _
          rw [State.watchAt_congr (s := r.headOffItems h) (by rw [← hmon]; simp [u]),
            State.watchAt_headOffItems_other r hplace]
          rfl

end Sys2Proof.Machine

/-!
PROOF. Operations that commute with replacing the reply queue: what a request does is the same whatever stands there.
-/

namespace Sys2Proof.Machine
set_option Elab.async false

section Commutes

variable (s : State) (rs : List ReplyPlace)

theorem foldl_withReplies {β : Type} {f : State → β → State}
    (hf : ∀ (s : State) (rs : List ReplyPlace) (b : β), f (s.withReplies rs) b = (f s b).withReplies rs) (l : List β) :
    ∀ s : State, l.foldl f (s.withReplies rs) = (l.foldl f s).withReplies rs := by
  induction l with
  | nil => exact fun _ => rfl
  | cons b rest ih => exact fun s => (congrArg (rest.foldl f) (hf s rs b)).trans (ih _)

theorem Link.post_withReplies (l : Link) (e : Event) :
    ({ l with replies := rs } : Link).post e = { l.post e with replies := rs } := by
  unfold Link.post
  dsimp only
  by_cases h : l.events.length < Config.eventPlaces
  · rw [if_pos h, if_pos h]
  · rw [if_neg h, if_neg h]

theorem State.postAt_withReplies (kind : EventKind) (head index value : Nat) :
    (s.withReplies rs).postAt kind head index value = (s.postAt kind head index value).withReplies rs :=
  congrArg s.setLink (Link.post_withReplies rs s.link _)

theorem State.post_withReplies (kind : EventKind) (head value : Nat) :
    (s.withReplies rs).post kind head value = (s.post kind head value).withReplies rs :=
  State.postAt_withReplies s rs kind head s.cursor value

theorem State.writePendings_withReplies : (s.withReplies rs).writePendings = s.writePendings.withReplies rs :=
  foldl_withReplies rs (fun _ _ _ => rfl) headNumbers s

theorem State.clearTension_withReplies (h : Nat) :
    (s.withReplies rs).clearTension h = (s.clearTension h).withReplies rs := by
  have hwatch : (s.withReplies rs).modWatch h (fun w => { w with excursion := 0, warn := false }) =
      (s.modWatch h (fun w => { w with excursion := 0, warn := false })).withReplies rs := rfl
  rw [State.clearTension_eq, State.clearTension_eq, hwatch]
  dsimp only
  rw [State.post_withReplies, State.ite_withReplies]
  rfl

theorem State.setHeadState_withReplies (h : Nat) (new : HeadState) :
    (s.withReplies rs).setHeadState h new = (s.setHeadState h new).withReplies rs := by
  have hleaving : (s.withReplies rs).leaving h new = (s.leaving h new).withReplies rs := rfl
  rw [State.setHeadState_cases, State.setHeadState_cases, hleaving, State.clearTension_withReplies]
  simp only [State.ite_withReplies]
  rfl

theorem State.handOver_withReplies (h : Nat) : (s.withReplies rs).handOver h = (s.handOver h).withReplies rs := by
  unfold State.handOver
  rw [State.ite_withReplies]
  rfl

theorem State.notDelivered_withReplies (c : BusCommand) :
    (s.withReplies rs).notDelivered c = (s.notDelivered c).withReplies rs := by
  unfold State.notDelivered
  rw [State.handOver_withReplies]
  dsimp only
  rw [State.ite_withReplies]
  rfl

theorem State.issue_withReplies (c : BusCommand) : (s.withReplies rs).issue c = (s.issue c).withReplies rs := by
  unfold State.issue
  rw [State.notDelivered_withReplies]
  cases c.work.order? with
  | none =>
    simp only [State.ite_withReplies]
    rfl
  | some o =>
    simp only [State.ite_withReplies]
    rfl

theorem State.issueLift_withReplies (h : Nat) (becomes : HeadState) (forStart : Bool) :
    (s.withReplies rs).issueLift h becomes forStart = (s.issueLift h becomes forStart).withReplies rs :=
  s.issue_withReplies rs _

theorem State.closeGap_withReplies (h : Nat) : (s.withReplies rs).closeGap h = (s.closeGap h).withReplies rs := by
  have hopen : (s.withReplies rs).openGap h = s.openGap h := rfl
  unfold State.closeGap
  rw [hopen]
  cases s.openGap h with
  | none => rfl
  | some g =>
    dsimp only
    rw [← State.release_withReplies, ← State.postAt_withReplies]
    rfl

theorem State.bringBack_withReplies (h : Nat) : (s.withReplies rs).bringBack h = (s.bringBack h).withReplies rs := by
  unfold State.bringBack
  rw [← State.closeGap_withReplies, ← State.setHeadState_withReplies]
  rfl

theorem State.resolveJoins_withReplies : (s.withReplies rs).resolveJoins = s.resolveJoins.withReplies rs := by
  refine foldl_withReplies rs (fun s rs h => ?_) headNumbers s
  rw [State.ite_withReplies, ← State.bringBack_withReplies]
  rfl

theorem State.liftHead_withReplies (h : Nat) : (s.withReplies rs).liftHead h = (s.liftHead h).withReplies rs := by
  unfold State.liftHead
  rw [State.issueLift_withReplies, State.setHeadState_withReplies]
  simp only [State.ite_withReplies]
  rfl

theorem State.liftAll_withReplies : (s.withReplies rs).liftAll = s.liftAll.withReplies rs :=
  foldl_withReplies rs (fun s rs h => s.liftHead_withReplies rs h) headNumbers s

theorem State.endPatch_withReplies : (s.withReplies rs).endPatch = s.endPatch.withReplies rs := by
  unfold State.endPatch
  dsimp only
  rw [State.post_withReplies, ← State.liftAll_withReplies, ← State.resolveJoins_withReplies,
    ← State.writePendings_withReplies, ← State.release_withReplies]
  rfl

end Commutes

end Sys2Proof.Machine

/-!
PROOF. CLEAR HALT (section 5.7; O32).
-/

namespace Sys2Proof.Machine
set_option Elab.async false

/-- With no order waiting for the next crossing none takes effect. -/
theorem State.applyAcked_of_none {s : State} (h : ∀ h ∈ headNumbers, (s.headAt h).acked = none) : s.applyAcked = s := by
  unfold State.applyAcked
  generalize headNumbers = heads at h
  induction heads with
  | nil => rfl
  | cons x rest ih =>
    rw [List.foldl_cons, h x (List.mem_cons_self ..)]
    exact ih fun h' hh => h h' (List.mem_cons_of_mem _ hh)

theorem mem_headNumbers (h : Nat) : h ∈ headNumbers ↔ 1 ≤ h ∧ h ≤ 8 := by
  simp only [headNumbers, List.mem_cons, List.not_mem_nil, or_false]
  omega

/-- Outside PAUSED a pass with no gap left ends with the work under way, which is none. -/
theorem State.endPatchIfEmpty_of_not_paused {s : State} (ha : s.run.activity = .none) (hp : s.run.state ≠ .paused) :
    s.endPatchIfEmpty = s := by
  unfold State.endPatchIfEmpty
  rw [ha]
  split
  · split
    case h_1 hs => exact absurd hs hp
    case h_3 => exact if_neg (by simp)
    all_goals rfl
  · rfl

theorem State.endPatchIfEmpty_of_over {s : State} (hp : s.run.state = .paused) (h : s.passGoesOn = false) :
    s.endPatchIfEmpty = s.endPatch := by
  unfold State.endPatchIfEmpty
  rw [if_pos (by rw [State.patchOver_eq_not_passGoesOn, h]; rfl), hp]

/-- What two runs with the same bare part have in common. -/
theorem Run.fields_of_bare {r q : Run} (h : r.bare = q.bare) :
    r.state = q.state ∧ r.activity = q.activity ∧ r.pass = q.pass ∧ r.cause = q.cause ∧
      r.mainCursor = q.mainCursor ∧ r.patchCursor = q.patchCursor := by
  rw [Run.of_bare h]
  exact ⟨rfl, rfl, rfl, rfl, rfl, rfl⟩

theorem State.liftHead_bare (s : State) (h : Nat) : (s.liftHead h).run.bare = s.run.bare := by
  unfold State.liftHead
  split_ifs <;> simp

/-- The run at the end of a patch pass, but for its heads (R154). -/
theorem State.endPatch_bare (s : State) : s.endPatch.run.bare = Run.bare { s.run.ended with
    state := s.run.passReturn.getD .paused, pass := .main, patchCursor := none, cause := none, passReturn := none
    patchDone := none, patchSewn := 0 } := by
  have hrelease : ∀ t : State, (t.refreshSlots.release.writePendings).run = t.run := fun t => by simp
  unfold State.endPatch State.liftAll
  dsimp only
  rw [foldl_runBare _ State.liftHead_bare, State.resolveJoins_bare, hrelease]
  simp

/-- The end of a patch pass leaves nothing due, when it returns to a state at rest. -/
theorem State.endPatch_quiet {s : State} {back : RunState} (hb : s.run.passReturn = some back)
    (hr : back ≠ .running) (hs : back ≠ .stopping) (ht : s.frame.travel = none)
    (hh : s.frame.homingHeld = true) : s.endPatch.quiet = true := by
  obtain ⟨hstate, hact, -⟩ := Run.fields_of_bare s.endPatch_bare
  have hback : s.run.passReturn.getD .paused = back := by rw [hb]; rfl
  rw [State.quiet_iff, hstate, hact, show s.endPatch.frame = s.frame by simp]
  dsimp only [Run.ended]
  rw [hback]
  exact ⟨rfl, hr, hs, ht, hh⟩

@[simp] theorem State.quiet_withReplies (s : State) (rs : List ReplyPlace) : (s.withReplies rs).quiet = s.quiet := rfl

section ClearHalt

variable {s : State}

theorem serveClearHalt_of_not_halted (h : s.run.state ≠ .halted) : serveClearHalt s = taken s := if_neg h

theorem serveClearHalt_of_estop (h : s.run.state = .halted) (he : s.shaft.estop = true) :
    serveClearHalt s = refuse s .busy := by
  simp [serveClearHalt, h, he]

/-- The run returned as recorded (R97), but for what follows a pass that is over. -/
def State.returned (s : State) (back : RunState) : State :=
  let t := (s.modLockout (fun l => { l with halt := false })).setRun { s.run with state := back, haltReturn := none }
  if back = .paused ∧ s.run.cause = some .estop then t.post .stopped 0 StopCause.estop.code else t

theorem State.returned_withReplies (back : RunState) (rs : List ReplyPlace) :
    (s.withReplies rs).returned back = (s.returned back).withReplies rs := by
  unfold State.returned
  dsimp only
  rw [State.ite_withReplies, ← State.post_withReplies]
  rfl

theorem State.returned_blocks (back : RunState) :
    (s.returned back).run = { s.run with state := back, haltReturn := none } ∧ (s.returned back).frame = s.frame ∧
      (s.returned back).gaps = s.gaps := by
  unfold State.returned
  dsimp only
  split
  · exact ⟨rfl, rfl, rfl⟩
  · exact ⟨rfl, rfl, rfl⟩

theorem serveClearHalt_of_halted {back : RunState} (h : s.run.state = .halted) (he : s.shaft.estop = false)
    (hb : s.run.haltReturn = some back) (hj : s.joinsWaiting = false)
    (hacked : ∀ h, 1 ≤ h → h ≤ 8 → (s.headAt h).acked = none) :
    serveClearHalt s = taken ((s.returned back).endPatchIfEmpty).finish := by
  let t := (s.modLockout (fun l => { l with halt := false })).setRun { s.run with state := back, haltReturn := none }
  have happly : t.applyAcked = t := State.applyAcked_of_none fun j hj =>
    hacked j ((mem_headNumbers j).1 hj).1 ((mem_headNumbers j).1 hj).2
  have hresolve : (if back = .paused then t.resolveJoins else t) = t := by
    rw [State.resolveJoins_of_none (s := t) hj, ite_self]
  have hback : s.run.haltReturn.getD .idle = back := by rw [hb]; rfl
  have hserve : serveClearHalt s = (let back := s.run.haltReturn.getD .idle
      let t := ((s.modLockout (fun l => { l with halt := false })).setRun
        { s.run with state := back, haltReturn := none }).applyAcked
      let v := if back = .paused then t.resolveJoins else t
      taken (if back = .paused ∧ v.run.cause = some .estop then v.post .stopped 0 StopCause.estop.code
        else v).endPatchIfEmpty.finish) := by
    unfold serveClearHalt
    rw [if_pos h, if_neg (by simp [he])]
    rfl
  rw [hserve, hback]
  dsimp only
  rw [happly, hresolve]
  rfl

end ClearHalt

theorem exec_clearHalt_addressed (s : State) (tag : Byte) :
    exec (.clearHalt (.addressed tag)) s = .next (s.takeAddressed tag serveClearHalt) := rfl

/-- Settles O32: the refusals, then the run returned, with the end of a pass that is over. -/
theorem clearHaltReturns : Obligations.ClearHaltReturns := by
  intro s tag back hh run index
  refine ⟨fun h => ?_, fun h he => ?_, fun h he hb hj hacked hq hrunning hstopping => ?_⟩
  · exact congrArg _ (State.takeAddressed_taken s s tag _ hh rfl (serveClearHalt_of_not_halted (s := s.setLink _) h))
  · exact congrArg _ (State.takeAddressed_refused s tag _ .busy hh (serveClearHalt_of_estop (s := s.setLink _) h he))
  · intro t u
    obtain ⟨hact, -, -, htravel, hhoming⟩ := s.quiet_iff.1 hq
    have hserve : ∀ rs, serveClearHalt (s.withReplies rs) =
        taken ((s.returned back).withReplies rs).endPatchIfEmpty.finish := fun rs => by
      rw [serveClearHalt_of_halted (s := s.withReplies rs) h he hb hj hacked, State.returned_withReplies]
    have hu : u = s.returned back := rfl
    obtain ⟨hrun, hframe, hgaps⟩ := State.returned_blocks (s := s) back
    have hstate : (s.returned back).run.state = back := by rw [hrun]
    have hactivity : (s.returned back).run.activity = .none := by rw [hrun]; exact hact
    have hquiet : (s.returned back).quiet = true := by
      rw [State.quiet_iff, hstate, hactivity, hframe]
      exact ⟨rfl, hrunning, hstopping, htravel, hhoming⟩
    have hgoesOn : (s.returned back).passGoesOn = s.passGoesOn := by
      unfold State.passGoesOn State.patchLeft
      rw [hrun, hgaps]
    have hreplies : ∀ f : State → State, (∀ (s : State) rs, f (s.withReplies rs) = (f s).withReplies rs) →
        (f (s.returned back)).link.replies = s.link.replies := fun f hf =>
      (State.replies_kept_of_commutes hf _).trans
        (State.replies_kept_of_commutes (f := (State.returned · back)) (fun s rs => State.returned_withReplies back rs) s)
    have hanswer : ∀ f : State → State, (∀ (s : State) rs, f (s.withReplies rs) = (f s).withReplies rs) →
        (∀ rs, ((s.returned back).withReplies rs).endPatchIfEmpty.finish = (f (s.returned back)).withReplies rs) →
        run = .next ((f (s.returned back)).replied tag .ok []) := fun f hf hfin => by
      refine (exec_clearHalt_addressed s tag).trans (congrArg _ (State.takeAddressed_answered s _ tag _ .ok [] hh
        (hreplies f hf) ?_))
      rw [show s.setLink (s.link.reserve tag) = s.withReplies (s.link.replies ++ [⟨tag, none⟩]) from rfl, hserve, hfin,
        ← hreplies f hf]
      rfl
    rw [hu]
    refine ⟨fun hgoes => hanswer State.pump State.pump_withReplies fun rs => ?_, fun hp hover hreturn =>
      hanswer (fun s => s.endPatch.pump) (fun s rs => by rw [State.endPatch_withReplies, State.pump_withReplies])
        fun rs => ?_⟩
    · have hkept : ((s.returned back).withReplies rs).endPatchIfEmpty = (s.returned back).withReplies rs := by
        rcases hgoes with hne | hgoes
        · exact State.endPatchIfEmpty_of_not_paused hactivity (by rw [State.withReplies_run, hstate]; exact hne)
        · exact State.endPatchIfEmpty_of_goesOn (hgoesOn.trans hgoes)
      rw [hkept, State.finish_quiet ((s.returned back).withReplies rs)
        ((State.quiet_withReplies _ rs).trans hquiet), State.pump_withReplies]
    · have hpass : (s.returned back).run.passReturn = s.run.passReturn := by rw [hrun]
      have htravel' : (s.returned back).frame.travel = none := by rw [hframe]; exact htravel
      have hhoming' : (s.returned back).frame.homingHeld = true := by rw [hframe]; exact hhoming
      have hends : (s.returned back).endPatch.quiet = true := by
        rcases hreturn with hr | hr
        · exact State.endPatch_quiet (hpass.trans hr) RunState.noConfusion RunState.noConfusion htravel' hhoming'
        · exact State.endPatch_quiet (hpass.trans hr) RunState.noConfusion RunState.noConfusion htravel' hhoming'
      rw [State.endPatchIfEmpty_of_over (s := (s.returned back).withReplies rs) (hstate.trans hp)
        (hgoesOn.trans hover), State.endPatch_withReplies, State.finish_quiet ((s.returned back).endPatch.withReplies rs)
          ((State.quiet_withReplies _ rs).trans hends),
        State.pump_withReplies]

end Sys2Proof.Machine

/-!
PROOF. A stall (section 5.6; O51), with the entry to PAUSED that it shares with other stops.
-/

namespace Sys2Proof.Machine
set_option Elab.async false

/-! ## The entry to PAUSED, where nothing waits for it -/

theorem State.toPaused_eq {s : State} (hj : s.joinsWaiting = false) (hp : s.passGoesOn = true) :
    s.toPaused = (s.setRun { s.run.ended with state := .paused }).setLink
      (s.link.post ⟨.stopped, 0, s.cursor, causeCode s.run.cause⟩) := by
  have hresolve : ((s.setRun s.run.ended).enter .paused).resolveJoins = (s.setRun s.run.ended).enter .paused :=
    State.resolveJoins_of_none hj
  unfold State.toPaused
  dsimp only
  rw [hresolve]
  exact State.endPatchIfOver_of_goesOn hp

/-- A cause recorded is kept (R3). -/
theorem State.recordCause_eq (s : State) (c : StopCause) :
    s.recordCause c = s.setRun { s.run with cause := some (s.run.cause.getD c) } := by
  unfold State.recordCause
  cases hc : s.run.cause with
  | none => rfl
  | some d =>
    show s = s.setRun { s.run with cause := some d }
    rw [← hc]
    rfl

theorem State.pauseFor_eq {s : State} (c : StopCause) (hj : s.joinsWaiting = false) (hp : s.passGoesOn = true) :
    s.pauseFor c = (s.setRun { s.run.ended with state := .paused, cause := some (s.run.cause.getD c) }).setLink
      (s.link.post ⟨.stopped, 0, s.cursor, (s.run.cause.getD c).code⟩) := by
  unfold State.pauseFor
  rw [State.recordCause_eq]
  exact State.toPaused_eq (s := s.setRun { s.run with cause := some (s.run.cause.getD c) }) hj hp

/-! ## A stall -/

theorem State.resetIfDue_of_none {s : State} (h : s.link.resetBy = none) : s.resetIfDue = s := by
  unfold State.resetIfDue State.pendingReset
  rw [h]
  split <;> rfl

theorem State.ackedNone_iff (s : State) (h : s.ackedNone = true) : ∀ j ∈ headNumbers, (s.headAt j).acked = none := by
  intro j _
  unfold State.headAt
  rw [List.getD_eq_getElem?_getD]
  cases hj : s.run.heads[j - 1]? with
  | none => rfl
  | some e =>
    have := List.all_eq_true.1 h e (List.mem_of_getElem? hj)
    simpa using this

/-- A shaft that turned for a run starts the rest timer as it leaves off; any other moves none (R108). -/
theorem State.shaftTo_rest {s : State} {t : ShaftState} (ht : t.pollsByAngle = false) : s.shaftTo t =
    (s.setShaft { s.shaft with state := t }).setBus
      (if s.shaft.state.pollsByAngle then { s.bus with restTimer := some s.cfg.pollPeriod } else s.bus) := by
  unfold State.shaftTo
  rw [ht]
  dsimp only
  rw [if_neg Bool.false_ne_true]
  split <;> rfl

/-- The shaft braked at once by a stall (R94). -/
def Shaft.stalled (u : Shaft) : Shaft :=
  { u with
    state := .unreferenced, referenced := false, speed := 0, hold := false, braked := false, stall := none
    hostReference := false
    lockout := { u.lockout with jump := false, late := false, rest := false, referencing := false } }

/-- What a stall does before the Run Controller hears of it. -/
def State.stalled (s : State) : State :=
  (((s.setShaft s.shaft.stalled).setBus
    (if s.shaft.state.pollsByAngle then { s.bus with restTimer := some s.cfg.pollPeriod } else s.bus)).setGov
      { s.gov with last := none, bound := none }).setRun { s.run with carry := false }

@[simp] theorem Link.post_resetBy (l : Link) (e : Event) : (l.post e).resetBy = l.resetBy := by
  unfold Link.post
  split <;> rfl

theorem State.stall_eq {s : State} (ha : s.ackedNone = true)
    (hr : (s.stalled.stallReport s.shaft.hostReference).link.resetBy = none) :
    s.stall = s.stalled.stallReport s.shaft.hostReference := by
  have hbraked : (s.brakeAtOnce.modLockout (fun l =>
      { l with jump := false, late := false, rest := false, referencing := false })).govAtRest =
      ((s.setShaft s.shaft.stalled).setBus (if s.shaft.state.pollsByAngle
        then { s.bus with restTimer := some s.cfg.pollPeriod } else s.bus)).setGov
        { s.gov with last := none, bound := none } := by
    unfold State.brakeAtOnce
    rw [State.shaftTo_rest (t := .unreferenced) rfl]
    rfl
  have hacked : ∀ t : State, t.run = s.run → t.applyAcked = t := fun t ht =>
    State.applyAcked_of_none fun j hj => by
      rw [State.headAt_congr (s := s) (congrArg Run.heads ht)]
      exact s.ackedNone_iff ha j hj
  unfold State.stall
  dsimp only
  rw [hbraked, hacked]
  swap
  · rfl
  exact State.resetIfDue_of_none hr

/-- A stall that pauses the run, with the head bus going on. -/
def State.stallPaused (s : State) : State :=
  (s.stalled.setRun { s.run.ended with state := .paused, cause := some (s.run.cause.getD .stall) }).setLink
    (s.link.post ⟨.stopped, 0, s.cursor, (s.run.cause.getD .stall).code⟩)

theorem State.stalled_pauseFor {s : State} (hj : s.joinsWaiting = false) (hp : s.passGoesOn = true) :
    s.stalled.pauseFor .stall = s.stallPaused :=
  State.pauseFor_eq (s := s.stalled) .stall hj hp

section Stall

variable {s : State} (hr : s.link.resetBy = none) (ha : s.ackedNone = true) (hj : s.joinsWaiting = false)
  (ht : s.frame.travel = none) (hh : s.frame.homing = none)
include hr ha hj ht hh

/-- A stall that the run answers by a pause: nothing is due after it. -/
theorem State.stall_finish_paused (hp : s.passGoesOn = true)
    (hreport : s.stalled.stallReport s.shaft.hostReference = s.stalled.pauseFor .stall) :
    s.stall.finish = s.stallPaused.pump := by
  rw [State.stalled_pauseFor hj hp] at hreport
  have hreset : s.stallPaused.link.resetBy = none := (Link.post_resetBy _ _).trans hr
  have hhomes : s.stallPaused.frame.homingHeld = true := by
    show FrameDrive.homingHeld s.frame = true
    unfold FrameDrive.homingHeld
    rw [hh]
  rw [State.stall_eq ha (by rw [hreport]; exact hreset), hreport]
  exact State.finish_quiet _ (s.stallPaused.quiet_iff.2 ⟨rfl, RunState.noConfusion, RunState.noConfusion, ht, hhomes⟩)

end Stall

/-- A stall of a referencing that the host asked for, in a state at rest. -/
theorem State.stall_finish_posted {s : State} (hr : s.link.resetBy = none) (ha : s.ackedNone = true)
    (ht : s.frame.travel = none) (hh : s.frame.homing = none) (hact : s.run.activity = .none) (hrun : s.run.state ≠ .running)
    (hstop : s.run.state ≠ .stopping)
    (hreport : s.stalled.stallReport s.shaft.hostReference =
      s.stalled.postAt .stopped 0 s.run.mainCursor StopCause.stall.code) :
    s.stall.finish = (s.stalled.setLink (s.link.post ⟨.stopped, 0, s.run.mainCursor, 11⟩)).pump := by
  have hhomes : s.frame.homingHeld = true := by
    unfold FrameDrive.homingHeld
    rw [hh]
  rw [State.stall_eq ha (by rw [hreport]; exact (Link.post_resetBy _ _).trans hr), hreport]
  exact State.finish_quiet _ ((State.quiet_iff _).2 ⟨hact, hrun, hstop, ht, hhomes⟩)



theorem exec_stallTimerExpiry (s : State) :
    exec .stallTimerExpiry s = .next (if s.shaft.stall.isSome then s.stall.finish else s) := rfl

theorem exec_stallTimerExpiry_of_running {s : State} (h : s.shaft.stall ≠ none) :
    exec .stallTimerExpiry s = .next s.stall.finish := by
  rw [exec_stallTimerExpiry, if_pos (Option.isSome_iff_ne_none.2 h)]

theorem exec_indexPulse (s : State) : exec .indexPulse s =
    .next (if !s.restartStall.shaft.referenced then
        (if s.restartStall.shaft.state = .referencing then s.restartStall.indexFound.finish
          else s.restartStall.setShaft { s.restartStall.shaft with angle := 0, wraps := 0 })
      else if indexRight s.shaft.angle then s.restartStall.indexCorrects
      else (s.restartStall.setShaft { s.restartStall.shaft with angle := 0, wraps := 0 }).stall.finish) := rfl

/-- An index too far away is a stall, the angle set to 0 (R84). -/
theorem exec_indexPulse_of_far {s : State} (href : s.shaft.referenced = true) (hlow : 4 < s.shaft.angle)
    (hhigh : s.shaft.angle < 1020) : exec .indexPulse s =
      .next ((s.restartStall.setShaft { s.restartStall.shaft with angle := 0, wraps := 0 }).stall.finish) := by
  have hright : ¬ indexRight s.shaft.angle = true := by
    simp only [indexRight, Bool.or_eq_true, decide_eq_true_iff]
    omega
  have hnot : ¬ (!s.restartStall.shaft.referenced) = true := by
    simp [State.restartStall, href]
  rw [exec_indexPulse, if_neg hnot, if_neg hright]

/-- A run that no sequence occupies ends with its activity as it was. -/
theorem Run.ended_of_idle {r : Run} (h : r.activity = .none) : r.ended = { r with
    carry := false, stepping := false, stepDone := false, keepTieIn := false, point := none, startReturn := none
    travelReturn := none, warning := false } := by
  cases r
  subst h
  rfl

theorem State.stallReport_pauses {s : State} {host : Bool} (h : s.run.state = .running ∨ s.run.state = .stopping ∨
    (s.run.state = .arming ∧ (s.run.activity = .referencing ∨ (s.run.activity = .dueTravel ∧ host = true)))) :
    s.stallReport host = s.pauseFor .stall := by
  unfold State.stallReport
  rcases h with h | h | ⟨h, hact⟩
  · rw [h]
  · rw [h]
  · rw [h]
    exact if_pos hact

theorem State.stallReport_posts {s : State} (h : s.run.state = .idle ∨ s.run.state = .paused ∨ s.run.state = .finished) :
    s.stallReport true = s.postAt .stopped 0 s.run.mainCursor StopCause.stall.code := by
  unfold State.stallReport
  rcases h with h | h | h <;> rw [h] <;> rfl

/-- Settles O51: the pause of a run that sews or starts, and the report of a referencing asked for by the host. -/
theorem stallBrakesTheShaft : Obligations.StallBrakesTheShaft := by
  intro s hr ha hj ht hh braked paused sewing
  have hsewn : ∀ u : Shaft, u.state = s.shaft.state → sewing → (s.setShaft u).stall.finish = paused u :=
    fun u hu ⟨hrun, hshaft, hp, hact⟩ => by
      have hpolls : (s.setShaft u).shaft.state.pollsByAngle = true := by
        show u.state.pollsByAngle = true
        rw [hu]
        rcases hshaft with h | h <;> rw [h] <;> rfl
      rw [State.stall_finish_paused (s := s.setShaft u) hr ha hj ht hh hp
        (State.stallReport_pauses (hrun.imp id Or.inl))]
      unfold State.stallPaused State.stalled
      rw [if_pos hpolls, Run.ended_of_idle (r := (s.setShaft u).run) hact]
      rfl
  refine ⟨fun h => ?_, fun h hsew => ?_, fun href hlow hhigh hsew => ?_, fun h hrun hact hshaft hp => ?_,
    fun h hrun hact hshaft hhost => ?_⟩
  · rw [exec_stallTimerExpiry, h]
    rfl
  · rw [exec_stallTimerExpiry_of_running h]
    exact congrArg _ (hsewn s.shaft rfl hsew)
  · rw [exec_indexPulse_of_far href hlow hhigh]
    exact congrArg _ (hsewn { s.restartStall.shaft with angle := 0, wraps := 0 } rfl hsew)
  · rw [exec_stallTimerExpiry_of_running h,
      State.stall_finish_paused hr ha hj ht hh hp (State.stallReport_pauses (.inr (.inr ⟨hrun, hact⟩)))]
    unfold State.stallPaused State.stalled
    rw [hshaft]
    rfl
  · have hruns : s.run.state ≠ .running ∧ s.run.state ≠ .stopping := by
      rcases hrun with h | h | h <;> rw [h] <;> exact ⟨RunState.noConfusion, RunState.noConfusion⟩
    rw [exec_stallTimerExpiry_of_running h, State.stall_finish_posted hr ha ht hh hact hruns.1 hruns.2
      (by rw [hhost]; exact State.stallReport_posts hrun)]
    unfold State.stalled
    rw [hshaft]
    rfl

end Sys2Proof.Machine

/-!
PROOF. The completion of a stitch move (section 4.3; O53), with the next step of a state where no sequence is under
way.
-/

namespace Sys2Proof.Machine
set_option Elab.async false

/-! ## The next step with no sequence under way -/

theorem State.calm_iff (s : State) :
    s.calm = true ↔ s.run.activity = .none ∧ s.frame.travel = none ∧ s.frame.homing = none := by
  simp [State.calm, and_assoc]

theorem State.advance_of_calm {s : State} (h : s.calm = true) :
    s.advance = if s.run.state = .running ∨ s.run.state = .stopping then s.advanceRun else none := by
  obtain ⟨hact, ht, hh⟩ := s.calm_iff.1 h
  rw [State.advance_of_still ht hh]
  unfold State.advanceActivity
  rw [hact]

/-- Nothing is due by itself while the shaft turns, nor where it is not referenced. -/
theorem State.advance_of_turning {s : State} (h : s.calm = true) (hs : s.shaft.state = .running ∨
    s.shaft.state = .stopping ∨ s.shaft.state = .unreferenced ∨ s.shaft.state = .referencing) : s.advance = none := by
  have hrun : s.advanceRun = none := by
    unfold State.advanceRun
    rcases hs with h | h | h | h <;> rw [h] <;> split <;> rfl
  rw [State.advance_of_calm h, hrun, ite_self]

/-- The record whose move from rest has completed starts the shaft (R87). -/
theorem State.advance_of_carry {s : State} (h : s.calm = true) (hrun : s.run.state = .running)
    (hstitch : s.frame.stitch = none) (hshaft : s.shaft.state = .atRest) (hcarry : s.run.carry = true)
    (hbus : s.bus.startOutstanding = false) : s.advance = some s.startShaft := by
  rw [State.advance_of_calm h, if_pos (.inl hrun)]
  unfold State.advanceRun
  rw [hstitch, hshaft, hcarry, hbus]
  rfl

/-- A held shaft goes on when its move has completed (R90). -/
theorem State.advance_of_holding {s : State} (h : s.calm = true)
    (hrun : s.run.state = .running ∨ s.run.state = .stopping)
    (hstitch : s.frame.stitch = none) (hshaft : s.shaft.state = .holding) : s.advance = some s.restartHold := by
  rw [State.advance_of_calm h, if_pos hrun]
  unfold State.advanceRun
  rw [hstitch, hshaft]
  rfl

/-! ## The obligation -/

theorem exec_stitchMoveComplete (s : State) :
    exec .stitchMoveComplete s = .next (if s.frame.stitch.isSome then s.completeMove.finish else s) := rfl

theorem exec_stitchMoveComplete_of_moving {s : State} (h : s.frame.stitch ≠ none) :
    exec .stitchMoveComplete s = .next s.completeMove.finish := by
  rw [exec_stitchMoveComplete, if_pos (Option.isSome_iff_ne_none.2 h)]

/-- Settles O53: by the shaft state, with what is due once the move is made. -/
theorem stitchMoveCompletes : Obligations.StitchMoveCompletes := by
  intro s run made done started restarted
  have hdone : s.completeMove = done := rfl
  refine ⟨fun h => ?_, fun h hc => ?_⟩
  · show exec .stitchMoveComplete s = .next s
    rw [exec_stitchMoveComplete, h]
    rfl
  have hrun : run = .next done.finish := (exec_stitchMoveComplete_of_moving h).trans (by rw [hdone])
  rw [hrun]
  have hcalm : done.calm = true := hc
  refine ⟨fun hs => ?_, fun hs => ?_, fun hs hr hcarry hbus => ?_, fun hs hr => ?_⟩
  · rw [State.finish_of_none (State.advance_of_turning hcalm (hs.imp id Or.inl))]
  · rw [State.finish_of_none (State.advance_of_turning hcalm (.inr (.inr (.inl hs))))]
  · have hnext : done.startShaft.advance = none :=
      State.advance_of_turning (s := done.startShaft) hc (.inl rfl)
    rw [State.finish_of_one (State.advance_of_carry hcalm hr rfl hs hcarry hbus) hnext]
    rfl
  · have hnext : done.restartHold.advance = none :=
      State.advance_of_turning (s := done.restartHold) hc (.inl rfl)
    rw [State.finish_of_one (State.advance_of_holding hcalm hr rfl hs) hnext]
    rfl

end Sys2Proof.Machine

/-!
PROOF. The events of a homing (section 4.7; O55).
-/

namespace Sys2Proof.Machine
set_option Elab.async false

/-- The new level of an axis' home sensor. -/
def State.sensorLevel (s : State) (a : AxisName) (active : Bool) : State :=
  s.modAxis a (fun x => { x with homeActive := active })

theorem State.sensorLevel_homing (s : State) (a : AxisName) (active : Bool) :
    (s.sensorLevel a active).frame.homing = s.frame.homing := by
  cases a <;> rfl

section Sensor

variable {s : State} {a : AxisName} {active : Bool}

theorem exec_homeSensorChange_of_none (h : s.frame.homing = none) :
    exec (.homeSensorChange a active) s = .next (s.sensorLevel a active) := by
  show Host.Outcome.next (match (s.sensorLevel a active).frame.homing with
    | some hm => if hm.axis = a then (s.sensorLevel a active).sensorSeen hm active else s.sensorLevel a active
    | none => s.sensorLevel a active) = _
  rw [State.sensorLevel_homing, h]

theorem exec_homeSensorChange_of_some {hm : Homing} (h : s.frame.homing = some hm) :
    exec (.homeSensorChange a active) s = .next (if hm.axis = a then (s.sensorLevel a active).sensorSeen hm active
      else s.sensorLevel a active) := by
  show Host.Outcome.next (match (s.sensorLevel a active).frame.homing with
    | some hm => if hm.axis = a then (s.sensorLevel a active).sensorSeen hm active else s.sensorLevel a active
    | none => s.sensorLevel a active) = _
  rw [State.sensorLevel_homing, h]

/-- Only an axis driven off its sensor, or down to it, is looked at. -/
theorem State.sensorSeen_of_unread {t : State} {hm : Homing} (h : hm.phase = .waiting ∨ hm.phase = .backoff ∨
    (hm.phase = .away ∧ active = true) ∨ (hm.phase = .down ∧ active = false)) : t.sensorSeen hm active = t := by
  unfold State.sensorSeen
  rcases h with h | h | ⟨h, rfl⟩ | ⟨h, rfl⟩ <;> rw [h] <;> rfl

theorem exec_homeSensorChange_of_unread (h : ∀ hm, s.frame.homing = some hm → hm.axis ≠ a ∨ hm.phase = .waiting ∨
    hm.phase = .backoff ∨ (hm.phase = .away ∧ active = true) ∨ (hm.phase = .down ∧ active = false)) :
    exec (.homeSensorChange a active) s = .next (s.sensorLevel a active) := by
  cases hh : s.frame.homing with
  | none => exact exec_homeSensorChange_of_none hh
  | some hm =>
    rw [exec_homeSensorChange_of_some hh]
    by_cases ha : hm.axis = a
    · rw [if_pos ha, State.sensorSeen_of_unread ((h hm hh).resolve_left (fun h => h ha))]
    · rw [if_neg ha]

/-- The sensor that the homing of its axis reads. -/
theorem exec_homeSensorChange_of_read {p : HomingPhase} (h : s.frame.homing = some ⟨a, p⟩) :
    exec (.homeSensorChange a active) s = .next ((s.sensorLevel a active).sensorSeen ⟨a, p⟩ active) := by
  rw [exec_homeSensorChange_of_some h, if_pos rfl]

end Sensor

/-! ## The sensor reached on the way down -/

section Homed

variable {s : State} (hq : s.quiet = true)
include hq

/-- The X axis is homed, and the Y axis begins. -/
theorem State.finish_homedX (active : Bool) :
    ((s.sensorLevel .x active).axisHomed .x).finish = ((s.sensorLevel .x active).axisHomed .x).pump := by
  obtain ⟨hact, hrun, hstop, htravel, -⟩ := s.quiet_iff.1 hq
  have hphase : (if s.frame.y.homeActive then HomingPhase.away else .down) ≠ .waiting := by split <;> nofun
  refine State.finish_of_none ?_
  rw [State.advance_of_homing (s := (s.sensorLevel .x active).axisHomed .x) (hm := ⟨.y, _⟩) htravel rfl hphase]
  exact State.advanceActivity_of_idle hact hrun hstop

/-- A homing that is over leaves nothing due. -/
theorem State.finish_homingOver {t : State} (hrun : t.run = s.run) (htravel : t.frame.travel = s.frame.travel)
    (hhoming : t.frame.homing = none) : t.finish = t.pump := by
  obtain ⟨hact, hrunning, hstop, hts, -⟩ := s.quiet_iff.1 hq
  refine State.finish_quiet _ (t.quiet_iff.2 ⟨hrun ▸ hact, hrun ▸ hrunning, hrun ▸ hstop, htravel.trans hts, ?_⟩)
  unfold FrameDrive.homingHeld
  rw [hhoming]

end Homed

theorem exec_homeBackoffDone (s : State) : exec .homeBackoffDone s = .next (match s.frame.homing with
    | some hm => if hm.phase = .backoff then s.homingTo hm .down false else s
    | none => s) := rfl

theorem exec_homingTimeout (s : State) : exec .homingTimeout s = .next (match s.frame.homing with
    | some hm => if hm.phase = .waiting then s else (s.endHoming.post .homeFailed 0 (axisNumber hm.axis)).finish
    | none => s) := rfl

/-- Settles O55: by the phase of the homing, for either axis. -/
theorem homingFollowsTheSensor : Obligations.HomingFollowsTheSensor := by
  intro s a active hq sensor m set stopped released number home
  refine ⟨fun h => ?_, fun h hactive => ?_, fun ha h hactive => ?_, fun ha h hactive => ?_, fun h => ?_, fun h => ?_,
    fun h => ?_, fun hm h hp => ?_⟩
  · refine (exec_homeSensorChange_of_unread h).trans ?_
    cases a <;> rfl
  · refine (exec_homeSensorChange_of_read h).trans ?_
    subst hactive
    cases a <;> rfl
  · subst ha hactive
    exact (exec_homeSensorChange_of_read h).trans (congrArg _ (State.finish_homedX hq true))
  · subst ha hactive
    exact (exec_homeSensorChange_of_read h).trans (congrArg _
      (State.finish_homingOver (t := (s.sensorLevel .y true).axisHomed .y) hq rfl rfl rfl))
  · rw [exec_homeBackoffDone]
    cases hh : s.frame.homing with
    | none => rfl
    | some hm => exact congrArg _ (if_neg (h hm hh))
  · rw [exec_homeBackoffDone, h]
    cases a <;> rfl
  · rw [exec_homingTimeout]
    cases hh : s.frame.homing with
    | none => rfl
    | some hm => exact congrArg _ (if_pos (h hm hh))
  · rw [exec_homingTimeout, h]
    dsimp only
    rw [if_neg hp, State.finish_homingOver (t := s.endHoming.post .homeFailed 0 (axisNumber hm.axis)) hq rfl rfl rfl]
    obtain ⟨axis, phase⟩ := hm
    cases axis <;> rfl

end Sys2Proof.Machine

/-!
PROOF. The emergency stop (section 5.7; O52).
-/

namespace Sys2Proof.Machine
set_option Elab.async false

/-! ## The head bus goes on by itself -/

theorem State.beginTransaction_bus_congr {s t : State} (hb : t.bus = s.bus) (kind : TransactionKind) (h : Nat) :
    (t.beginTransaction kind h).bus = (s.beginTransaction kind h).bus := by
  cases s
  cases t
  dsimp only at hb
  subst hb
  rfl

theorem State.modLink_bus_congr {s t : State} (hb : t.bus = s.bus) (h : Nat) (f : HeadLink → HeadLink) :
    (t.modLink h f).bus = (s.modLink h f).bus := by
  cases s
  cases t
  dsimp only at hb
  subst hb
  rfl

/-- What the head bus begins next depends on the bus and on the heads that a round polls alone (R105, R107). -/
theorem State.pump_bus_of_due {s t : State} (hb : t.bus = s.bus) (hdue : ∀ h, t.pollDue h = s.pollDue h) :
    t.pump.bus = s.pump.bus := by
  have hlink : ∀ h, t.linkAt h = s.linkAt h := State.linkAt_congr (congrArg Bus.heads hb)
  have hpassed : t.passedOver = s.passedOver := by
    funext r h
    simp only [State.passedOver, hdue]
  unfold State.pump
  rw [hpassed, hb]
  simp only [hlink]
  split
  · exact hb
  · split
    · rfl
    · split
      · exact State.beginTransaction_bus_congr (State.modLink_bus_congr hb _ _) _ _
      · split
        · exact hb
        · split <;> rfl

theorem State.pump_bus_congr {s t : State} (hb : t.bus = s.bus) (hh : t.run.heads = s.run.heads) :
    t.pump.bus = s.pump.bus :=
  State.pump_bus_of_due hb fun h => by
    unfold State.pollDue
    rw [State.headAt_congr hh, State.linkAt_congr (congrArg Bus.heads hb)]

/-! ## An axis halted mid-move (R82) -/

theorem AxisMove.seen_of_between {m : AxisMove} {n : Nat} (hlow : m.issued ≤ n) (hhigh : n ≤ m.steps.natAbs) :
    m.seen n = n := by
  unfold AxisMove.seen
  omega

theorem Axis.halt_of_none {a : Axis} (n k : Nat) (h : a.move = none) : a.halt n k = a := by
  unfold Axis.halt
  rw [h]

/-- What a halt keeps of an axis, and that the steps issued by then are counted. -/
theorem Axis.halt_keeps (a : Axis) (n k : Nat) : (a.halt n k).pos = a.pos ∧
    (a.halt n k).referenced = a.referenced ∧ (a.halt n k).residue = a.residue ∧ (a.halt n k).move = none ∧
    (a.move = none → a.halt n k = a) ∧
    (∀ m, a.move = some m → m.kind ≠ .homing →
      (m.kind = .stitch ∨ m.kind = .segment → (a.halt n k).offPath ≠ none) ∧
      (m.kind = .reseat → (a.halt n k).offPath = a.offPath) ∧
      (m.issued ≤ n → n ≤ m.steps.natAbs →
        (a.halt n k).steps = a.steps + (if 0 ≤ m.steps then (n : Int) else -n))) := by
  cases hm : a.move with
  | none =>
    rw [Axis.halt_of_none n k hm]
    exact ⟨rfl, rfl, rfl, hm, fun _ => rfl, nofun⟩
  | some m =>
    have hsteps : m.issued ≤ n → n ≤ m.steps.natAbs → a.steps + m.signed (m.seen n) =
        a.steps + (if 0 ≤ m.steps then (n : Int) else -n) := fun hlow hhigh => by
      rw [AxisMove.seen_of_between hlow hhigh]
      rfl
    refine ⟨?_, ?_, ?_, ?_, nofun, fun v hv hne => ?_⟩
    case refine_5 =>
      obtain rfl : m = v := Option.some.inj hv
      unfold Axis.halt
      rw [hm]
      cases hk : m.kind with
      | homing => exact absurd hk hne
      | reseat => simp only [hk, reduceCtorEq, or_self, false_implies, true_and, forall_const]; exact hsteps
      | stitch => simpa only [hk, reduceCtorEq, ne_eq, not_false_eq_true, or_false, forall_const, false_implies, true_and] using hsteps
      | segment => simpa only [hk, reduceCtorEq, ne_eq, not_false_eq_true, or_true, forall_const, false_implies, true_and] using hsteps
    all_goals
      unfold Axis.halt
      rw [hm]
      obtain ⟨kind, delta, steps, issued⟩ := m
      cases kind <;> rfl

/-! ## The halt -/

/-- The machine halted, no CONTROLLED RESET in progress. -/
def State.halted (s : State) (nx ny : Nat) : State :=
  (((s.haltShaft.govAtRest.setFrame (s.frame.halt nx ny)).enterHalt.clearWork).post .halted 0
    (haltedValue s.enterHalt.run))

theorem State.haltShaft_eq (s : State) : s.haltShaft = (s.setShaft { s.shaft with
      state := .unreferenced, referenced := false, speed := 0, hold := false, braked := false, stall := none
      hostReference := false
      lockout := ⟨false, false, s.shaft.lockout.rest, false, false, false, true⟩ }).setBus
    (if s.shaft.state.pollsByAngle then { s.bus with restTimer := some s.cfg.pollPeriod } else s.bus) := by
  unfold State.haltShaft State.brakeAtOnce
  rw [State.shaftTo_rest (t := .unreferenced) rfl]
  rfl

theorem State.emergencyStop_eq {s : State} (nx ny : Nat) (hr : s.link.resetBy = none) :
    s.emergencyStop nx ny = s.halted nx ny := by
  have hreset : (s.halted nx ny).link.resetBy = none := by
    unfold State.halted
    rw [State.haltShaft_eq]
    exact (Link.post_resetBy _ _).trans hr
  have hdone : (s.halted nx ny).pendingReset = s.halted nx ny := by
    unfold State.pendingReset
    rw [hreset]
  refine Eq.trans ?_ hdone
  unfold State.emergencyStop State.halted
  rw [State.haltShaft_eq]
  rfl

theorem exec_estopAssert (s : State) (nx ny : Nat) : exec (.estopAssert nx ny) s =
    .next (if s.shaft.estop = true ∨ s.run.state = .halted then s.setShaft { s.shaft with estop := true }
      else ((s.setShaft { s.shaft with estop := true }).emergencyStop nx ny).finish) := rfl

/-- A halted machine has nothing due. -/
theorem State.finish_halted (s : State) (nx ny : Nat) : (s.halted nx ny).finish = (s.halted nx ny).pump := by
  refine State.finish_quiet _ ?_
  unfold State.halted
  rw [State.haltShaft_eq]
  rfl

theorem State.halted_run (s : State) (nx ny : Nat) : (s.halted nx ny).run =
    { s.run.ended with state := .halted, haltReturn := some s.haltPlan.1, cause := s.haltPlan.2 } := by
  unfold State.halted
  rw [State.haltShaft_eq]
  rfl

/-! ### Where a halted run returns (R96) -/

section Plan

variable {s : State}

theorem State.haltPlan_of_rest (h : s.run.state = .unconfigured ∨ s.run.state = .idle ∨ s.run.state = .finished ∨
    s.run.state = .paused) : s.haltPlan = (s.run.state, s.run.cause) := by
  unfold State.haltPlan
  rcases h with h | h | h | h <;> rw [h]

theorem State.haltPlan_of_sewing (h : s.run.state = .running ∨ s.run.state = .stopping ∨ s.run.state = .waiting) :
    s.haltPlan = (.paused, some .estop) := by
  unfold State.haltPlan
  rcases h with h | h | h <;> rw [h]

theorem State.haltPlan_of_start (h : s.run.state = .arming ∨
    (s.run.state = .changing ∧ s.run.activity.starting = true) ∨
    (s.run.state = .travelling ∧ s.run.activity = .returnTravel)) :
    s.haltPlan = if s.run.startReturn = some .idle then (.idle, none) else (.paused, some .estop) := by
  unfold State.haltPlan
  rcases h with h | ⟨h, ha⟩ | ⟨h, ha⟩ <;> rw [h]
  · dsimp only
    rw [if_pos ha]
  · dsimp only
    rw [ha]

theorem State.haltPlan_of_work (h : (s.run.state = .changing ∧ s.run.activity.starting = false) ∨
    (s.run.state = .travelling ∧ s.run.activity = .patchTravel)) : s.haltPlan = (.paused, some .estop) := by
  unfold State.haltPlan
  rcases h with ⟨h, ha⟩ | ⟨h, ha⟩ <;> rw [h]
  · dsimp only
    rw [ha]
    rfl
  · dsimp only
    rw [ha]

theorem State.haltPlan_of_hostTravel (h : s.run.state = .travelling) (ha : s.run.activity = .hostTravel) :
    s.haltPlan = if s.run.travelReturn = some .paused then (.paused, s.run.cause) else (.idle, none) := by
  unfold State.haltPlan
  rw [h]
  dsimp only
  rw [ha]

end Plan

/-- The rest timer starts as a shaft that turned for a run leaves off (R108). -/
theorem Bus.restTimer_ite (b : Bus) (v : Option Nat) (t : ShaftState) :
    (if t.pollsByAngle then { b with restTimer := v } else b) =
      { b with restTimer := if t = .running ∨ t = .stopping then v else b.restTimer } := by
  cases t <;> rfl

/-- Settles O52: the state after the halt, block by block. -/
theorem emergencyStopHalts : Obligations.EmergencyStopHalts := by
  intro s nx ny u run starting halted
  refine ⟨rfl, fun h => (exec_estopAssert s nx ny).trans (by rw [if_pos h]), fun hes hstate hr => ?_⟩
  let v := s.setShaft { s.shaft with estop := true }
  have hrun : run = .next (v.halted nx ny).pump := by
    refine (exec_estopAssert s nx ny).trans ?_
    rw [if_neg (by simp [hstate, show s.shaft.estop = false from hes]),
      State.emergencyStop_eq nx ny (s := s.setShaft { s.shaft with estop := true }) hr, State.finish_halted]
  have hplan : (v.halted nx ny).pump.run.haltReturn = some s.haltPlan.1 ∧
      (v.halted nx ny).pump.run.cause = s.haltPlan.2 := by
    rw [(State.pump_keeps _).1, State.halted_run]
    exact ⟨rfl, rfl⟩
  have hbus : (v.halted nx ny).pump.bus = ((s.setBus { s.bus with
      restTimer := if u.state = .running ∨ u.state = .stopping then some s.cfg.pollPeriod
        else s.bus.restTimer }).pump).bus := by
    refine State.pump_bus_congr ?_ (by rw [State.halted_run]; rfl)
    unfold State.halted
    rw [State.haltShaft_eq]
    exact Bus.restTimer_ite s.bus (some s.cfg.pollPeriod) s.shaft.state
  refine ⟨_, hrun, ?_⟩
  obtain ⟨hreturn, hcause⟩ := hplan
  obtain ⟨hr1, hr2, hr3, hr4, hr5, hr6, hr7, hr8, hr9, hr10, -, -⟩ := State.pump_keeps (v.halted nx ny)
  rw [hreturn, hcause, hbus, hr1, hr2, hr3, hr4, hr5, hr6, hr7, hr8, hr9, hr10]
  unfold State.halted
  rw [State.haltShaft_eq]
  refine ⟨rfl, Axis.halt_keeps _ _ _, Axis.halt_keeps _ _ _, rfl, rfl, rfl, rfl, rfl, rfl, rfl, rfl, rfl, rfl, rfl, rfl,
    fun h => ?_, fun h => ?_, fun h => ?_, fun h => ?_, fun h ha => ?_, rfl, rfl, rfl, rfl, rfl, rfl, rfl, rfl, rfl⟩
  · rw [State.haltPlan_of_rest h]
    exact ⟨rfl, rfl⟩
  · rw [State.haltPlan_of_sewing h]
    exact ⟨rfl, rfl⟩
  · rw [State.haltPlan_of_start h]
    exact ⟨fun hi => by rw [if_pos hi]; exact ⟨rfl, rfl⟩, fun hi => by rw [if_neg hi]; exact ⟨rfl, rfl⟩⟩
  · rw [State.haltPlan_of_work h]
    exact ⟨rfl, rfl⟩
  · rw [State.haltPlan_of_hostTravel h ha]
    exact ⟨fun hi => by rw [if_pos hi]; exact ⟨rfl, rfl⟩, fun hi => by rw [if_neg hi]; exact ⟨rfl, rfl⟩⟩

end Sys2Proof.Machine

/-!
PROOF. A fault raised in the main pass, the time-outs of the head bus and its rest timer (sections 6.3, 6.5, 6.6, 8.5;
O58).
-/

namespace Sys2Proof.Machine
set_option Elab.async false

/-! ## A fault raised in the main pass (R137) -/

section Fault

variable {s : State} {h : Nat} {kind : FaultKind}

theorem State.patchFault_of_main (hp : s.run.pass = .main) : s.patchFault h = s := by
  unfold State.patchFault
  rw [hp]
  rfl

theorem State.endPatchIfEmpty_of_main (hp : s.run.pass = .main) : s.endPatchIfEmpty = s :=
  State.endPatchIfEmpty_of_goesOn (by rw [State.passGoesOn, hp]; rfl)

/-- What every new fault does before its handling (R137). -/
def State.faultNoted (s : State) (h : Nat) (kind : FaultKind) : State :=
  ((s.post .headFault h kind.code).modWatch h (fun w =>
    { w with armed := false, joining := false, fault := some ⟨kind, .held⟩ })).handOver h

@[simp] theorem State.faultNoted_run : (s.faultNoted h kind).run = s.run := by
  simp [State.faultNoted]

@[simp] theorem State.faultNoted_keeps : (s.faultNoted h kind).frame = s.frame ∧ (s.faultNoted h kind).shaft = s.shaft ∧
    (s.faultNoted h kind).bus = s.bus ∧ (s.faultNoted h kind).gov = s.gov ∧ (s.faultNoted h kind).cfg = s.cfg ∧
    (s.faultNoted h kind).gaps = s.gaps ∧ (s.faultNoted h kind).store = s.store ∧
    (s.faultNoted h kind).link = s.link.post ⟨.headFault, h, s.cursor, kind.code⟩ := by
  simp only [State.faultNoted, State.handOver_keeps]
  exact ⟨rfl, rfl, rfl, rfl, rfl, rfl, rfl, rfl⟩

theorem State.faultNoted_heads : (s.faultNoted h kind).monitor.heads = s.monitor.heads.modify (h - 1) (fun w =>
    { w with armed := false, joining := false, fault := some ⟨kind, .held⟩ }) := by
  simp only [State.faultNoted, State.handOver_keeps]
  rfl

theorem State.faultNoted_policy : (s.faultNoted h kind).monitor.policy = s.monitor.policy := by
  simp only [State.faultNoted, State.handOver_keeps]
  rfl

theorem State.handleFault_of_new (hp : s.run.pass = .main) (hoff : (s.headAt h).state ≠ .off)
    (hnone : (s.watchAt h).fault = none) : s.handleFault h kind = match s.monitor.policy with
      | .stopAll => (s.faultNoted h kind).hold h kind .fault
      | .dropOut => (s.faultNoted h kind).dropOut h kind := by
  unfold State.handleFault
  rw [if_neg hoff, hnone]
  dsimp only
  rw [if_neg (by simp), ← State.faultNoted, State.patchFault_of_main (State.faultNoted_run.symm ▸ hp),
    State.faultNoted_policy] <;> cases s.monitor.policy <;> rfl

/-- Outside a run every fault is HELD (R138, R139). -/
theorem State.handleFault_of_idle (hp : s.run.pass = .main) (hidle : s.run.state = .idle)
    (hoff : (s.headAt h).state ≠ .off) (hnone : (s.watchAt h).fault = none) :
    s.handleFault h kind = (s.faultNoted h kind).hold h kind .fault := by
  have hout : (s.faultNoted h kind).inRun = false := by
    unfold State.inRun
    rw [State.faultNoted_run, hidle]
  have hmain : (s.faultNoted h kind).run.pass ≠ .patch := by
    rw [State.faultNoted_run, hp]
    exact Pass.noConfusion
  rw [State.handleFault_of_new hp hoff hnone]
  cases s.monitor.policy with
  | stopAll => rfl
  | dropOut =>
    show (s.faultNoted h kind).dropOut h kind = _
    unfold State.dropOut
    rw [if_neg hmain, hout]
    rfl

theorem State.stopOrder_of_idle {c : StopCause} (hidle : s.run.state = .idle) : s.stopOrder c = s := by
  unfold State.stopOrder
  rw [hidle]

theorem State.watchAt_setHandling_same (g : Handling) (hin : h - 1 < s.monitor.heads.length) :
    (s.setHandling h g).watchAt h =
      { s.watchAt h with fault := (s.watchAt h).fault.map (fun f => { f with handling := g }) } :=
  State.watchAt_modWatch_same _ _ hin

theorem HeadWatch.left_fault (w : HeadWatch) (new : HeadState) : (w.left new).fault = w.fault := by
  unfold HeadWatch.left
  split_ifs <;> rfl

end Fault

/-! ## The queue without a head's commands (R110) -/

theorem State.purge_bus (s : State) (h : Nat) : (s.purge h).bus = Bus.refill { s.bus with
    queue := s.bus.queue.filter (fun c => c.head != h), held := s.bus.held.filter (fun c => c.head != h) } := by
  unfold State.purge
  dsimp only
  rw [foldl_keeps (fun t => t.bus) _ (fun t c => (t.notDelivered_keeps c).2.2.2.2.1)]
  rfl

theorem Bus.refill_subset (b : Bus) {c : BusCommand} (h : c ∈ b.refill.queue ++ b.refill.held) :
    c ∈ b.queue ++ b.held := by
  unfold Bus.refill at h
  simp only [List.mem_append] at h ⊢
  rcases h with (h | h) | h
  · exact .inl h
  · exact .inr (List.mem_of_mem_take h)
  · exact .inr (List.mem_of_mem_drop h)

/-- The bus going on takes commands, and adds none. -/
theorem State.pump_subset (s : State) {c : BusCommand} (h : c ∈ s.pump.bus.queue ++ s.pump.bus.held) :
    c ∈ s.bus.queue ++ s.bus.held := by
  unfold State.pump at h
  split at h
  · exact h
  · split at h
    next front rest hq =>
      rw [hq]
      exact List.mem_cons_of_mem _ (Bus.refill_subset { s.bus with queue := rest } h)
    · split at h
      · exact h
      · split at h
        · exact h
        · split at h <;> exact h

theorem State.headAt_notDelivered_state (s : State) (c : BusCommand) (j : Nat) :
    ((s.notDelivered c).headAt j).state = (s.headAt j).state := by
  have hkeep : ∀ t : State, t.run = s.run → ∀ f : HeadEntry → HeadEntry, (∀ e, (f e).state = e.state) →
      ((t.modHead c.head f).headAt j).state = (s.headAt j).state := fun t ht f hf => by
    have ht' : t.headAt j = s.headAt j := State.headAt_congr (congrArg Run.heads ht) j
    rw [← ht']
    by_cases hj : c.head - 1 = j - 1
    · unfold State.headAt State.modHead
      simp only [State.setRun_run, List.getD_eq_getElem?_getD, hj, List.getElem?_modify_eq]
      cases t.run.heads[j - 1]? with
      | none => rfl
      | some e => exact hf e
    · rw [State.headAt_modHead_other _ _ hj]
  unfold State.notDelivered
  dsimp only
  split
  · exact hkeep _ (State.handOver_keeps s c.head).1 _ fun e => rfl
  · rw [State.headAt_congr (congrArg Run.heads (State.handOver_keeps s c.head).1)]

theorem State.notDelivered_headsLength (s : State) (c : BusCommand) :
    (s.notDelivered c).run.heads.length = s.run.heads.length := by
  unfold State.notDelivered
  dsimp only
  split
  · simp [State.modHead]
  · simp

theorem State.headAt_purge_state (s : State) (h j : Nat) : ((s.purge h).headAt j).state = (s.headAt j).state :=
  foldl_keeps (fun t => (t.headAt j).state) State.notDelivered (fun t c => t.headAt_notDelivered_state c j) _ _

theorem State.purge_headsLength (s : State) (h : Nat) : (s.purge h).run.heads.length = s.run.heads.length :=
  foldl_keeps (fun t => t.run.heads.length) State.notDelivered State.notDelivered_headsLength _ _

/-! ## The loss of a head (R110) -/

/-- A lost head, before its fault is raised. -/
def State.cutOff (s : State) (t : Transaction) : State :=
  let u := match t.kind.work? with
    | some w => s.endTransaction.notDelivered ⟨t.head, w⟩
    | none => s.endTransaction
  (((u.purge t.head).setBus ((u.purge t.head).bus.passOver t.head)).modLink t.head
    (fun l => { l with lost := true, probe := false })).handOver t.head

theorem State.headLost_eq (s : State) (t : Transaction) : s.headLost t = (s.cutOff t).raiseFault t.head .lost := by
  unfold State.headLost State.cutOff
  cases t.kind.work? <;> rfl

/-- The state in which the queue is purged. -/
def State.dropped (s : State) (t : Transaction) : State :=
  match t.kind.work? with
  | some w => s.endTransaction.notDelivered ⟨t.head, w⟩
  | none => s.endTransaction

theorem State.dropped_keeps (s : State) (t : Transaction) : (s.dropped t).frame = s.frame ∧
    (s.dropped t).shaft = s.shaft ∧ (s.dropped t).monitor = s.monitor ∧ (s.dropped t).link = s.link ∧
    (s.dropped t).cfg = s.cfg ∧ (s.dropped t).bus = s.endTransaction.bus ∧ (s.dropped t).run.bare = s.run.bare ∧
    (s.dropped t).run.heads.length = s.run.heads.length ∧
    ∀ j, ((s.dropped t).headAt j).state = (s.headAt j).state := by
  unfold State.dropped
  cases t.kind.work? with
  | none => exact ⟨rfl, rfl, rfl, rfl, rfl, rfl, rfl, rfl, fun _ => rfl⟩
  | some w =>
    have hk := s.endTransaction.notDelivered_keeps ⟨t.head, w⟩
    exact ⟨hk.2.2.1, hk.2.2.2.1, hk.2.2.2.2.2.1, hk.2.2.2.2.2.2.2.1, hk.2.2.2.2.2.2.2.2.1, hk.2.2.2.2.1,
      State.notDelivered_bare _ _, State.notDelivered_headsLength _ _, State.headAt_notDelivered_state _ _⟩

theorem State.cutOff_keeps (s : State) (t : Transaction) : (s.cutOff t).frame = s.frame ∧
    (s.cutOff t).shaft = s.shaft ∧ (s.cutOff t).monitor = s.monitor ∧ (s.cutOff t).link = s.link ∧
    (s.cutOff t).run.bare = s.run.bare ∧ (s.cutOff t).run.heads.length = s.run.heads.length ∧
    ∀ j, ((s.cutOff t).headAt j).state = (s.headAt j).state := by
  obtain ⟨hframe, hshaft, hmonitor, hlink, -, -, hrun, hlen, hstate⟩ := s.dropped_keeps t
  have hcut : (s.cutOff t).run = ((s.dropped t).purge t.head).run := by
    unfold State.cutOff
    rw [(State.handOver_keeps _ _).1]
    rfl
  refine ⟨?_, ?_, ?_, ?_, ?_, ?_, fun j => ?_⟩
  · rw [← hframe]
    simp [State.cutOff, State.dropped]
  · rw [← hshaft]
    simp [State.cutOff, State.dropped]
  · rw [← hmonitor]
    simp [State.cutOff, State.dropped]
  · rw [← hlink]
    simp [State.cutOff, State.dropped]
  · rw [hcut, State.purge_bare, hrun]
  · rw [hcut, State.purge_headsLength, hlen]
  · rw [State.headAt_congr (congrArg Run.heads hcut), State.headAt_purge_state, hstate]

theorem State.cutOff_bus (s : State) (t : Transaction) : (s.cutOff t).bus =
    (((((s.dropped t).purge t.head).bus.passOver t.head)) |> fun b =>
      { b with heads := s.bus.heads.modify (t.head - 1) (fun l => { l with lost := true, probe := false }) }) := by
  have hheads : ((s.dropped t).purge t.head).bus.heads = s.bus.heads := by
    rw [State.purge_bus, (s.dropped_keeps t).2.2.2.2.2.1]
    rfl
  unfold State.cutOff
  rw [(State.handOver_keeps _ _).2.2.2.2.2.1, ← hheads]
  rfl

/-- None of the lost head's commands is left. -/
theorem State.cutOff_gone (s : State) (t : Transaction) :
    ∀ c ∈ (s.cutOff t).bus.queue ++ (s.cutOff t).bus.held, c.head ≠ t.head := by
  intro c hc
  rw [State.cutOff_bus] at hc
  have hpurged := hc
  change c ∈ ((s.dropped t).purge t.head).bus.queue ++ ((s.dropped t).purge t.head).bus.held at hpurged
  rw [State.purge_bus] at hpurged
  have := Bus.refill_subset _ hpurged
  simp only [List.mem_append, List.mem_filter, bne_iff_ne] at this
  rcases this with h | h <;> exact h.2

end Sys2Proof.Machine

/-!
PROOF. The time-outs of the head bus and its rest timer (sections 6.3, 6.5, 6.6; O58).
-/

namespace Sys2Proof.Machine
set_option Elab.async false

theorem exec_headAttemptTimeout (s : State) : exec .headAttemptTimeout s = .next (match s.bus.inFlight with
    | none => s
    | some t => (if t.reported then s.timedOut t else s.endTransaction).finish) := rfl

theorem exec_restTimerExpiry (s : State) : exec .restTimerExpiry s = .next (if s.bus.restTimer.isSome then
      (s.roundDue.setBus { s.roundDue.bus with restTimer := some s.roundDue.cfg.pollPeriod }).finish
    else s) := rfl

theorem Link.post_events_of_room (l : Link) (e : Event) (h : l.events.length < 32) :
    (l.post e).events = l.events ++ [e] := by
  unfold Link.post
  rw [if_pos (by exact h)]

theorem Link.prefix_post (l : Link) (e : Event) : l.events <+: (l.post e).events := by
  unfold Link.post
  split
  · exact List.prefix_append _ _
  · exact List.prefix_refl _

/-- A transaction begun sets the run count of no head but the one it probes. -/
theorem State.linkAt_pump_timeouts {s : State} {j : Nat} (hj : 1 ≤ j) (hprobe : (s.linkAt j).probe = false) :
    (s.pump.linkAt j).timeouts = (s.linkAt j).timeouts := by
  have hbegin : ∀ (t : State) kind h, ((t.beginTransaction kind h).linkAt j).timeouts = (t.linkAt j).timeouts :=
    fun t kind h => t.linkAt_modLink_keeps h j (fun l => { l with nextMark := (t.linkAt h).nextMark.after })
      HeadLink.timeouts fun _ => rfl
  unfold State.pump
  split
  · rfl
  · split
    · exact hbegin _ _ _
    · split
      next h hfound =>
        have hne : h - 1 ≠ j - 1 := by
          have hp := List.find?_some hfound
          refine pred_ne_pred ((mem_headNumbers _).1 (List.mem_of_find?_eq_some hfound)).1 hj fun hjh => ?_
          rw [← hjh, hprobe] at hp
          cases hp
        rw [hbegin, State.linkAt_modLink_other _ _ hne]
      next =>
        split
        · rfl
        · split
          · rfl
          · exact hbegin _ _ _

/-! ## The third time-out -/

section Loss

variable {s : State} {t : Transaction} (hshapes : s.shapesRight = true) (hlow : 1 ≤ t.head) (hhigh : t.head ≤ 8)
include hshapes hlow hhigh

theorem State.timeouts_modLink :
    ((s.modLink t.head (fun l => { l with timeouts := l.timeouts + 1 })).linkAt t.head).timeouts =
      (s.linkAt t.head).timeouts + 1 := by
  obtain ⟨-, -, hbus, -⟩ := s.shapesRight_iff.1 hshapes
  rw [State.linkAt_modLink_same _ _ (by omega)]

theorem State.timedOut_retries (h : (s.linkAt t.head).timeouts < 2) : s.timedOut t = s.setBus { s.bus with
    heads := s.bus.heads.modify (t.head - 1) (fun l => { l with timeouts := l.timeouts + 1 })
    inFlight := some { t with attempt := t.attempt + 1, mark := if t.mark = .two then .two else .one } } := by
  have hmark : t.mark.retry = if t.mark = .two then Mark.two else .one := by
    cases t.mark <;> rfl
  unfold State.timedOut
  dsimp only
  rw [State.timeouts_modLink hshapes hlow hhigh, if_pos (by omega), hmark]
  rfl

theorem State.timedOut_loses (h : 2 ≤ (s.linkAt t.head).timeouts) : s.timedOut t =
    ((s.modLink t.head (fun l => { l with timeouts := l.timeouts + 1 })).cutOff t).raiseFault t.head .lost := by
  unfold State.timedOut
  dsimp only
  rw [State.timeouts_modLink hshapes hlow hhigh, if_neg (by omega), State.headLost_eq]

end Loss

/-- The loss of a head of an IDLE machine (R110, R140). -/
theorem State.cutOff_raised {s : State} {t : Transaction} (hoff : (s.headAt t.head).state ≠ .off) (hnone : (s.watchAt t.head).fault = none)
    (hidle : s.run.state = .idle) (hmain : s.run.pass = .main) : (s.cutOff t).raiseFault t.head .lost =
      (((s.cutOff t).faultNoted t.head .lost).setHandling t.head .held).setHeadState t.head .lost := by
  obtain ⟨-, -, hmonitor, -, hrun, -, hstate⟩ := s.cutOff_keeps t
  obtain ⟨hst, -, hpass, -⟩ := Run.fields_of_bare hrun
  have hhold : ((s.cutOff t).faultNoted t.head .lost).hold t.head .lost .fault =
      (((s.cutOff t).faultNoted t.head .lost).setHandling t.head .held).setHeadState t.head .lost := by
    refine State.stopOrder_of_idle (s := (((s.cutOff t).faultNoted t.head .lost).setHandling t.head .held).setHeadState
      t.head .lost) ?_
    rw [(Run.fields_of_bare (State.setHeadState_bare _ _ _)).1, (State.setHandling_keeps _ _ _).1, State.faultNoted_run,
      hst, hidle]
  unfold State.raiseFault
  rw [State.handleFault_of_idle (hpass.trans hmain) (hst.trans hidle) (by rw [hstate]; exact hoff)
    (by rw [State.watchAt_congr (congrArg Monitor.heads hmonitor)]; exact hnone), hhold]
  refine State.endPatchIfEmpty_of_idle ?_
  rw [(Run.fields_of_bare (State.setHeadState_bare _ _ _)).1, (State.setHandling_keeps _ _ _).1, State.faultNoted_run,
    hst, hidle]

/-- What is seen of a head of an IDLE machine that is lost. -/
theorem State.loss_seen {s : State} {t : Transaction} (hshapes : s.shapesRight = true) (hlow : 1 ≤ t.head)
    (hhigh : t.head ≤ 8) (hquiet : s.quiet = true) (hidle : s.run.state = .idle) (u : State)
    (hu : u = (((s.cutOff t).faultNoted t.head .lost).setHandling t.head .held).setHeadState t.head .lost) :
    u.quiet = true ∧ (u.linkAt t.head).lost = true ∧ (u.linkAt t.head).probe = false ∧
      (u.linkAt t.head).timeouts = (s.linkAt t.head).timeouts ∧ (u.headAt t.head).state = .lost ∧
      (u.watchAt t.head).fault = some ⟨.lost, .held⟩ ∧ (∀ c ∈ u.bus.queue ++ u.bus.held, c.head ≠ t.head) ∧
      u.run.state = .idle ∧ u.frame = s.frame ∧ u.shaft = s.shaft ∧
      (s.link.events.length < 32 → s.link.events ++ [⟨.headFault, t.head, s.cursor, 5⟩] <+: u.link.events) := by
  obtain ⟨hheads, hwatches, hbuses, -⟩ := s.shapesRight_iff.1 hshapes
  obtain ⟨hact, hrunning, hstop, htravel, hhome⟩ := s.quiet_iff.1 hquiet
  obtain ⟨hframe, hshaft, hmonitor, hlink, hrun, hlen, hstate⟩ := s.cutOff_keeps t
  obtain ⟨hnframe, hnshaft, hnbus, -, -, -, -, hnlink⟩ :=
    State.faultNoted_keeps (s := s.cutOff t) (h := t.head) (kind := .lost)
  have hubare : u.run.bare = s.run.bare := by
    rw [hu, State.setHeadState_bare, (State.setHandling_keeps _ _ _).1, State.faultNoted_run, hrun]
  have huframe : u.frame = s.frame := by
    rw [hu]
    simp only [State.setHeadState_keeps, State.setHandling_keeps, hnframe, hframe]
  have hushaft : u.shaft = s.shaft := by
    rw [hu]
    simp only [State.setHeadState_keeps, State.setHandling_keeps, hnshaft, hshaft]
  have hubus : u.bus = (s.cutOff t).bus := by
    rw [hu, State.setHeadState_bus]
    simp only [State.setHandling_keeps, hnbus]
  have hlinkAt : u.linkAt t.head = { s.linkAt t.head with lost := true, probe := false } := by
    unfold State.linkAt
    rw [hubus, State.cutOff_bus]
    exact getD_modify_same _ _ _ (by omega)
  obtain ⟨hustate, huact, -⟩ := Run.fields_of_bare hubare
  refine ⟨?_, by rw [hlinkAt], by rw [hlinkAt], by rw [hlinkAt], ?_, ?_, ?_, hustate.trans hidle, huframe, hushaft,
    fun hroom => ?_⟩
  · rw [State.quiet_iff, hustate, huact, huframe]
    exact ⟨hact, hrunning, hstop, htravel, hhome⟩
  · rw [hu, State.headAt_setHeadState_same]
    simp only [State.setHandling_keeps, State.faultNoted_run, hlen]
    omega
  · have hin : t.head - 1 < ((s.cutOff t).faultNoted t.head .lost).monitor.heads.length := by
      rw [State.faultNoted_heads, List.length_modify, hmonitor]
      omega
    have hfault : ((((s.cutOff t).faultNoted t.head .lost).setHandling t.head .held).watchAt t.head).fault =
        some ⟨.lost, .held⟩ := by
      rw [State.watchAt_setHandling_same _ hin]
      have hnoted : (((s.cutOff t).faultNoted t.head .lost).watchAt t.head).fault = some ⟨.lost, .held⟩ := by
        unfold State.watchAt
        rw [State.faultNoted_heads, getD_modify_same _ _ _ (by rw [hmonitor]; omega)]
      rw [hnoted]
      rfl
    rw [hu, State.watchAt_setHeadState_same _ _ _ (by
      simpa only [State.setHandling, State.modWatch, State.setMonitor_monitor, List.length_modify] using hin)]
    split
    · rw [HeadWatch.left_fault, hfault]
    · exact hfault
  · rw [hubus]
    exact s.cutOff_gone t
  · have hcursor : (s.cutOff t).cursor = s.cursor := by
      unfold State.cursor
      rw [Run.of_bare hrun]
    have hposted : ((((s.cutOff t).faultNoted t.head .lost).setHandling t.head .held)).link.events =
        s.link.events ++ [⟨.headFault, t.head, s.cursor, 5⟩] := by
      simp only [State.setHandling_keeps, hnlink, hlink, hcursor]
      exact Link.post_events_of_room _ _ hroom
    rw [hu, State.setHeadState_link, ← hposted]
    split
    · exact Link.prefix_post _ _
    · exact List.prefix_refl _

theorem roundOf_eq (l : List Nat) : roundOf l = if l = [] then none else some ⟨l, []⟩ := by
  unfold roundOf
  cases l <;> rfl

/-- Settles O58: the retries by the run count, the loss by what is seen of it. -/
theorem timeoutsRetryThenLose : Obligations.TimeoutsRetryThenLose := by
  intro s hshapes run rest due
  refine ⟨fun h => ?_, fun t ht hrep hlow hhigh => ?_, fun h => ?_, fun h => ?_⟩
  · refine (exec_headAttemptTimeout s).trans ?_
    rw [h]
  · have hrun : run = .next (s.timedOut t).finish := by
      refine (exec_headAttemptTimeout s).trans ?_
      rw [ht]
      dsimp only
      rw [if_pos hrep]
    refine ⟨fun h => ?_, fun h hoff hnone hidle hmain hquiet => ?_⟩
    · rw [hrun, State.timedOut_retries hshapes hlow hhigh h]
    · let v := s.modLink t.head (fun l => { l with timeouts := l.timeouts + 1 })
      have hvshapes : v.shapesRight = true := by
        rw [State.shapesRight_iff]
        obtain ⟨h1, h2, h3, hothers⟩ := s.shapesRight_iff.1 hshapes
        exact ⟨h1, h2, by rw [← h3]; exact List.length_modify .., hothers⟩
      have hcount := State.timeouts_modLink hshapes hlow hhigh
      rw [State.timedOut_loses hshapes hlow hhigh h,
        State.cutOff_raised (s := v) hoff hnone hidle hmain] at hrun
      obtain ⟨huquiet, hulost, huprobe, hutimeouts, hustate, hufault, hugone, huidle, huframe, hushaft, huevents⟩ :=
        State.loss_seen (s := v) hvshapes hlow hhigh hquiet hidle _ rfl
      rw [State.finish_quiet _ huquiet] at hrun
      obtain ⟨hp1, -, -, hp4, hp5, -, hp7, -, hp9, -⟩ := State.pump_keeps
        ((((v.cutOff t).faultNoted t.head .lost).setHandling t.head .held).setHeadState t.head .lost)
      refine ⟨_, hrun, ?_, ?_, ?_, ?_, ?_, fun c hc => ?_, ?_, ?_, ?_, fun hroom => ?_⟩
      · rw [State.linkAt_pump_lost]
        exact hulost
      · exact (State.linkAt_pump _ _ HeadLink.probe (fun _ _ => rfl) (fun _ => rfl)).trans huprobe
      · exact (State.linkAt_pump_timeouts hlow huprobe).trans (hutimeouts.trans hcount)
      · rw [State.headAt_congr (congrArg Run.heads hp1)]
        exact hustate
      · rw [State.watchAt_congr (congrArg Monitor.heads hp7)]
        exact hufault
      · exact hugone c (State.pump_subset _ hc)
      · rw [hp1]
        exact huidle
      · rw [hp4]
        exact huframe
      · rw [hp5]
        exact hushaft
      · rw [hp9]
        exact huevents hroom
  · refine (exec_restTimerExpiry s).trans ?_
    rw [h]
    rfl
  · refine (exec_restTimerExpiry s).trans ?_
    rw [if_pos (Option.isSome_iff_ne_none.2 h)]
    cases hround : s.bus.round with
    | some r =>
      have : s.roundDue = s := by
        unfold State.roundDue
        rw [hround]
      rw [this, if_neg (by simp), ← hround]
    | none =>
      have : s.roundDue = s.setBus { s.bus with round := if due = [] then none else some ⟨due, []⟩ } := by
        unfold State.roundDue
        rw [hround, ← roundOf_eq]
        rfl
      rw [this, if_pos rfl]
      rfl

end Sys2Proof.Machine

/-!
PROOF. RESET (section 10.6; O47): LIFTs issued one after another to heads none of which is lost, the blocks at their RESET
values, and the request in either mode.
-/

namespace Sys2Proof.Machine
set_option Elab.async false

/-! ## LIFTs issued one after another -/

/-- The LIFT that leaves a head IDLE. -/
def liftCommand (h : Nat) : BusCommand := ⟨h, .engage ⟨.lift, .idle, false, false⟩⟩

/-- The head table with a LIFT noted for these heads. -/
def liftsNoted (heads : List HeadEntry) (l : List Nat) : List HeadEntry :=
  l.foldl (fun hs h => hs.modify (h - 1) (fun e => { e with queued := some .lift })) heads

theorem State.issueLift_eq {s : State} {h : Nat} (hlost : (s.linkAt h).lost = false) (hheld : s.bus.held = [])
    (hroom : s.bus.queue.length < 16) (hfree : ∀ c ∈ s.bus.queue, c.head ≠ h) : s.issueLift h .idle false =
      (s.setRun { s.run with heads := liftsNoted s.run.heads [h] }).setBus
        { s.bus with queue := s.bus.queue ++ [liftCommand h] } := by
  have hnone : (s.bus.queue ++ s.bus.held).any (fun d => d.engages h) = false := by
    rw [hheld, List.append_nil, List.any_eq_false]
    intro c hc
    simp [BusCommand.engages, hfree c hc]
  unfold State.issueLift State.issue
  rw [if_neg (by simp [hlost])]
  show (if (true && (s.bus.queue ++ s.bus.held).any (fun d => d.engages h)) = true then _ else
    if (decide (s.bus.queue.length < 16) && s.bus.held.isEmpty) = true then _ else _) = _
  rw [hnone, hheld, if_neg (by simp), if_pos (by simp [hroom])]
  rfl

/-- The LIFTs of a list of heads stand in the queue, in its order (R104). -/
theorem foldl_issueLift (l : List Nat) (hnodup : l.Nodup) : ∀ s : State, (∀ h ∈ l, (s.linkAt h).lost = false) →
    s.bus.held = [] → s.bus.queue.length + l.length ≤ 16 → (∀ c ∈ s.bus.queue, c.head ∉ l) →
    l.foldl (fun s h => s.issueLift h .idle false) s =
      (s.setRun { s.run with heads := liftsNoted s.run.heads l }).setBus
        { s.bus with queue := s.bus.queue ++ l.map liftCommand } := by
  induction l with
  | nil =>
    intro s _ _ _ _
    simp only [List.foldl_nil, List.map_nil, List.append_nil]
    rfl
  | cons h l ih =>
    intro s hlost hheld hroom hfree
    rw [List.length_cons] at hroom
    obtain ⟨hnot, hl⟩ := List.nodup_cons.1 hnodup
    have hone := State.issueLift_eq (s := s) (hlost h List.mem_cons_self) hheld (by omega)
      (fun c hc hch => hfree c hc (hch ▸ List.mem_cons_self))
    rw [List.foldl_cons, hone, ih hl]
    · simp only [State.setRun_run, State.setBus_run, State.setBus_bus, List.map_cons, List.append_assoc]
      rfl
    · intro j hj
      exact hlost j (List.mem_cons_of_mem _ hj)
    · exact hheld
    · simp only [State.setBus_bus, List.length_append, List.length_singleton]
      omega
    · intro c hc
      rcases List.mem_append.1 hc with hc | hc
      · exact fun hm => hfree c hc (List.mem_cons_of_mem _ hm)
      · rw [List.mem_singleton.1 hc]
        exact hnot

theorem liftsNoted_length (heads : List HeadEntry) (l : List Nat) : (liftsNoted heads l).length = heads.length := by
  induction l generalizing heads with
  | nil => rfl
  | cons h l ih => exact (ih _).trans (List.length_modify ..)

theorem liftsNoted_getD {heads : List HeadEntry} {l : List Nat} {j : Nat} (hl : ∀ h ∈ l, 1 ≤ h) (hj : 1 ≤ j)
    (hin : j - 1 < heads.length) : (liftsNoted heads l).getD (j - 1) default =
      if j ∈ l then { heads.getD (j - 1) default with queued := some .lift } else heads.getD (j - 1) default := by
  induction l generalizing heads with
  | nil => simp [liftsNoted]
  | cons h l ih =>
    have hrest : ∀ x ∈ l, 1 ≤ x := fun x hx => hl x (List.mem_cons_of_mem _ hx)
    show (liftsNoted (heads.modify (h - 1) _) l).getD (j - 1) default = _
    rw [ih hrest (by rw [List.length_modify]; exact hin)]
    by_cases hjh : j = h
    · subst hjh
      rw [getD_modify_same _ _ _ hin, if_pos List.mem_cons_self]
      split <;> rfl
    · rw [getD_modify_other _ _ (pred_ne_pred (hl h List.mem_cons_self) hj hjh)]
      simp only [List.mem_cons, hjh, false_or]

/-! ## What the head bus going on leaves -/

theorem State.pump_held {s : State} (h : s.bus.held = []) : s.pump.bus.held = [] := by
  unfold State.pump
  split
  · exact h
  · split
    · show (Bus.refill _).held = []
      simp [Bus.refill, h]
    · split
      · exact h
      · split
        · exact h
        · split <;> exact h

theorem State.pump_round {s : State} (h : s.bus.round = none) : s.pump.bus.round = none := by
  unfold State.pump
  split
  · exact h
  · split
    · exact h
    · split
      · exact h
      · rw [h]
        exact h

/-! ## The blocks at a RESET -/

/-- Shaft and frame at a RESET, before anything else (R98, R82). -/
def State.resetMotion (s : State) (mode : Nat) : State :=
  if mode = 1 then s.shaftImmediate.frameHalted else s.shaftControlled

theorem State.resetMotion_keeps (s : State) (mode : Nat) : (s.resetMotion mode).run = s.run ∧
    (s.resetMotion mode).gov = s.gov ∧ (s.resetMotion mode).change = s.change ∧
    (s.resetMotion mode).monitor = s.monitor ∧ (s.resetMotion mode).link = s.link ∧
    (s.resetMotion mode).cfg = s.cfg ∧ (s.resetMotion mode).frame.zones = s.frame.zones ∧
    (s.resetMotion mode).bus = { s.bus with restTimer := (s.resetMotion mode).bus.restTimer } := by
  unfold State.resetMotion
  split
  · refine ⟨by simp, by simp, by simp, by simp, by simp, by simp, ?_, ?_⟩
    · unfold State.frameHalted
      split <;> simp [FrameDrive.halt, State.tick]
    · rw [(State.frameHalted_keeps _).2.2.2.2.1]
      unfold State.shaftImmediate State.brakeAtOnce
      rw [State.shaftTo_rest (t := .unreferenced) rfl]
      dsimp only
      show (if _ then _ else _ : Bus) = _
      split <;> rfl
  · exact ⟨rfl, rfl, rfl, rfl, rfl, rfl, rfl, rfl⟩

/-- Every block at its RESET values, no LIFT issued yet (R169). -/
def State.resetBlocks (s : State) (mode : Nat) (src : Sender) : State :=
  let s := (s.resetMotion mode).endHoming
  let s := s.setFrame { s.frame with origin := none, travel := none }
  let s := s.setRun { s.run.atReset with heads := s.run.heads.map HeadEntry.atReset }
  let s := s.clearStore .absent
  let s := (s.setGov { s.gov with last := none, bound := none, derate := false, window := [] }).setGaps []
  let s := (s.setBus s.bus.atReset).setChange s.change.atReset
  let s := s.setMonitor (s.monitor.atReset s.cfg.thread.breakB)
  s.setLink (s.link.atReset mode src)

theorem State.resetEffect_eq (s : State) (mode : Nat) (src : Sender) : s.resetEffect mode src =
    s.engagedHeads.foldl (fun s h => s.issueLift h .idle false) (s.resetBlocks mode src) := by
  unfold State.resetEffect State.resetBlocks State.resetMotion
  split <;> rfl

theorem State.resetBlocks_bus (s : State) (mode : Nat) (src : Sender) : (s.resetBlocks mode src).bus =
    { s.bus.atReset with restTimer := (s.resetMotion mode).bus.restTimer } := by
  show (s.resetMotion mode).bus.atReset = _
  rw [(s.resetMotion_keeps mode).2.2.2.2.2.2.2]
  rfl

theorem State.resetBlocks_heads (s : State) (mode : Nat) (src : Sender) : (s.resetBlocks mode src).run.heads =
    s.run.heads.map HeadEntry.atReset := by
  show (s.resetMotion mode).run.heads.map HeadEntry.atReset = _
  rw [(s.resetMotion_keeps mode).1]

theorem getD_map_of_default {α β : Type} [Inhabited α] [Inhabited β] (f : α → β) (l : List α) (i : Nat)
    (hf : f default = default) : (l.map f).getD i default = f (l.getD i default) := by
  rw [List.getD_eq_getElem?_getD, List.getD_eq_getElem?_getD, List.getElem?_map]
  cases l[i]? with
  | none => exact hf.symm
  | some a => rfl

theorem State.linkAt_resetBlocks (s : State) (mode : Nat) (src : Sender) (j : Nat) :
    (s.resetBlocks mode src).linkAt j = (s.linkAt j).atReset := by
  unfold State.linkAt
  rw [State.resetBlocks_bus]
  exact getD_map_of_default _ _ _ rfl

theorem State.mem_engagedHeads (s : State) (h : Nat) :
    h ∈ s.engagedHeads ↔ (1 ≤ h ∧ h ≤ 8) ∧ s.engagedHead h = true := by
  unfold State.engagedHeads
  rw [List.mem_filter, mem_headNumbers]

/-- A RESET: the blocks, with a LIFT on its way to every head that was engaged. -/
theorem State.resetEffect_lifts (s : State) (mode : Nat) (src : Sender) : s.resetEffect mode src =
    ((s.resetBlocks mode src).setRun { (s.resetBlocks mode src).run with
      heads := liftsNoted (s.run.heads.map HeadEntry.atReset) s.engagedHeads }).setBus
      { (s.resetBlocks mode src).bus with queue := s.engagedHeads.map liftCommand } := by
  have hqueue : (s.resetBlocks mode src).bus.queue = [] := by
    rw [State.resetBlocks_bus]
    rfl
  rw [State.resetEffect_eq, foldl_issueLift, State.resetBlocks_heads, hqueue]
  · rfl
  · exact (by decide : headNumbers.Nodup).filter _
  · intro h _
    rw [State.linkAt_resetBlocks]
    rfl
  · rw [State.resetBlocks_bus]
    rfl
  · rw [hqueue, List.length_nil, Nat.zero_add]
    exact (List.length_filter_le _ _).trans (by decide)
  · intro c hc
    rw [hqueue] at hc
    cases hc

end Sys2Proof.Machine

/-!
PROOF. The request RESET (section 10.6; O47).
-/

namespace Sys2Proof.Machine
set_option Elab.async false

/-! ## The frame at a RESET (R26, R82, R98) -/

/-- A homing axis stopped. -/
def Axis.homingStopped (a : Axis) : Axis :=
  match a.move with
  | some m => if m.kind = .homing then { a with move := none } else a
  | none => a

theorem Axis.homingStopped_keeps (a : Axis) : a.homingStopped.pos = a.pos ∧
    a.homingStopped.referenced = a.referenced ∧ (a.move = none → a.homingStopped.move = none) ∧
    ((∀ m, a.move = some m → m.kind ≠ .homing) → a.homingStopped = a) := by
  unfold Axis.homingStopped
  cases hm : a.move with
  | none => exact ⟨rfl, rfl, fun _ => hm, fun _ => rfl⟩
  | some m =>
    dsimp only
    refine ⟨?_, ?_, nofun, fun h => if_neg (h m rfl)⟩ <;> split <;> rfl

theorem State.resetBlocks_frame (s : State) (mode : Nat) (src : Sender) : (s.resetBlocks mode src).frame =
    { (s.resetMotion mode).frame with
      x := (s.resetMotion mode).frame.x.homingStopped, y := (s.resetMotion mode).frame.y.homingStopped
      homing := none, origin := none, travel := none } := rfl

/-- An IMMEDIATE RESET halts the frame with some numbers of steps issued (log 6). -/
theorem State.resetMotion_immediate (s : State) : ∃ nx ny, (s.resetMotion 1).frame = s.frame.halt nx ny := by
  refine ⟨Config.freeNat s.free, Config.freeNat (s.free + 1), ?_⟩
  have hframe : s.shaftImmediate.frame = s.frame := by simp
  have hfree : s.shaftImmediate.free = s.free := by simp
  unfold State.resetMotion State.frameHalted
  rw [if_pos rfl, hframe, hfree]
  split <;> rfl

theorem State.resetMotion_controlled (s : State) {mode : Nat} (h : mode ≠ 1) : s.resetMotion mode = s.shaftControlled :=
  if_neg h

theorem State.resetMotion_axes (s : State) (mode : Nat) : (s.resetMotion mode).frame.pos = s.frame.pos ∧
    (s.resetMotion mode).frame.x.referenced = s.frame.x.referenced ∧
    (s.resetMotion mode).frame.y.referenced = s.frame.y.referenced := by
  by_cases h : mode = 1
  · subst h
    obtain ⟨nx, ny, hf⟩ := s.resetMotion_immediate
    rw [hf]
    obtain ⟨hx, hxr, -⟩ := s.frame.x.halt_keeps nx s.frame.moveIndexNow
    obtain ⟨hy, hyr, -⟩ := s.frame.y.halt_keeps ny s.frame.moveIndexNow
    exact ⟨congrArg₂ Point.mk hx hy, hxr, hyr⟩
  · rw [s.resetMotion_controlled h]
    exact ⟨rfl, rfl, rfl⟩

/-! ## The shaft at a RESET (R98) -/

theorem State.shaftImmediate_shaft (s : State) : s.shaftImmediate.shaft = { s.shaft with
    state := .unreferenced, referenced := false, speed := 0, hold := false, braked := false, stall := none
    hostReference := false
    lockout := { s.shaft.lockout with
      jump := false, late := false, travel := false, homing := false, referencing := false } } := by
  unfold State.shaftImmediate State.brakeAtOnce
  rw [State.shaftTo_rest (t := .unreferenced) rfl]
  rfl

theorem State.resetBlocks_shaft (s : State) (mode : Nat) (src : Sender) : (s.resetBlocks mode src).shaft =
    { (s.resetMotion mode).shaft with lockout := { (s.resetMotion mode).shaft.lockout with homing := false } } := rfl

/-! ## What a RESET leaves -/

theorem resetRunState_eq (r : RunState) : resetRunState r =
    if r = .unconfigured then .unconfigured else if r = .halted then .halted else .idle := by
  cases r <;> rfl

theorem resetHaltReturn_eq (r : RunState) (h : Option RunState) : resetHaltReturn r h =
    if r = .halted then (if h = some .unconfigured then some .unconfigured else some .idle) else none := by
  unfold resetHaltReturn
  split_ifs with hr hu
  · exact hu
  · rfl
  · rfl

theorem State.resetEffect_quiet (s : State) (mode : Nat) (src : Sender) : (s.resetEffect mode src).quiet = true := by
  have hrun : (s.resetEffect mode src).run.state = resetRunState s.run.state := by
    rw [State.resetEffect_lifts]
    show resetRunState (s.resetMotion mode).run.state = _
    rw [(s.resetMotion_keeps mode).1]
  have hstate : resetRunState s.run.state ≠ .running ∧ resetRunState s.run.state ≠ .stopping := by
    cases s.run.state <;> exact ⟨RunState.noConfusion, RunState.noConfusion⟩
  rw [State.quiet_iff, hrun]
  refine ⟨?_, hstate.1, hstate.2, ?_, ?_⟩ <;> rw [State.resetEffect_lifts] <;> rfl

section Seen

variable (s : State) (mode : Nat) (src : Sender)

theorem State.resetEffect_run : (s.resetEffect mode src).run = { s.run.atReset with
    heads := (s.resetEffect mode src).run.heads } := by
  rw [State.resetEffect_lifts, ← (s.resetMotion_keeps mode).1]
  rfl

theorem State.resetEffect_blocks : (s.resetEffect mode src).link = s.link.atReset mode src ∧
    (s.resetEffect mode src).gov = { s.gov with last := none, bound := none, derate := false, window := [] } ∧
    (s.resetEffect mode src).change = s.change.atReset ∧
    (s.resetEffect mode src).monitor = s.monitor.atReset s.cfg.thread.breakB ∧
    (s.resetEffect mode src).frame.zones = s.frame.zones ∧ (s.resetEffect mode src).cfg = s.cfg ∧
    (s.resetEffect mode src).bus.held = [] ∧ (s.resetEffect mode src).bus.round = none := by
  obtain ⟨-, hgov, hchange, hmonitor, hlink, hcfg, hzones, -⟩ := s.resetMotion_keeps mode
  have hheld : (s.resetBlocks mode src).bus.held = [] ∧ (s.resetBlocks mode src).bus.round = none := by
    rw [State.resetBlocks_bus]
    exact ⟨rfl, rfl⟩
  rw [State.resetEffect_lifts]
  refine ⟨?_, ?_, ?_, ?_, hzones, hcfg, hheld.1, hheld.2⟩
  · rw [← hlink]
    rfl
  · rw [← hgov]
    rfl
  · rw [← hchange]
    rfl
  · rw [← hmonitor, ← hcfg]
    rfl

/-- The entry of a head in the head table (R23). -/
theorem State.headAt_resetEffect {h : Nat} (hlow : 1 ≤ h) (hhigh : h ≤ 8) (hin : h - 1 < s.run.heads.length) :
    (s.resetEffect mode src).headAt h = { (s.headAt h).atReset with
      queued := if s.engagedHead h then some .lift else none } := by
  have hhead : (s.resetEffect mode src).headAt h = (liftsNoted (s.run.heads.map HeadEntry.atReset) s.engagedHeads).getD
      (h - 1) default := by
    rw [State.resetEffect_lifts]
    rfl
  have hmem : h ∈ s.engagedHeads ↔ s.engagedHead h = true := by
    rw [State.mem_engagedHeads]
    exact and_iff_right ⟨hlow, hhigh⟩
  rw [hhead, liftsNoted_getD (fun j hj => ((s.mem_engagedHeads j).1 hj).1.1) hlow (by rw [List.length_map]; exact hin),
    getD_map_of_default HeadEntry.atReset _ _ rfl]
  by_cases he : s.engagedHead h = true
  · rw [if_pos (hmem.2 he), if_pos he]
    rfl
  · rw [if_neg (mt hmem.1 he), if_neg he]
    rfl

theorem State.linkAt_resetEffect (h : Nat) : (s.resetEffect mode src).linkAt h = (s.linkAt h).atReset := by
  rw [← s.linkAt_resetBlocks mode src]
  refine State.linkAt_congr ?_ h
  rw [State.resetEffect_lifts]
  rfl

theorem State.resetEffect_onItsWay {h : Nat} (hlow : 1 ≤ h) (hhigh : h ≤ 8) (hin : h - 1 < s.run.heads.length)
    (he : s.engagedHead h = true) : (s.resetEffect mode src).liftOnItsWay h .idle = true := by
  unfold State.liftOnItsWay
  have hbus : (s.resetEffect mode src).bus.queue = s.engagedHeads.map liftCommand := by
    rw [State.resetEffect_lifts]
    rfl
  have hout : (s.resetEffect mode src).bus.outstanding (fun c => c == liftCommand h) = true := by
    rw [Bus.outstanding_iff, hbus]
    exact .inl ⟨_, List.mem_map_of_mem ((s.mem_engagedHeads h).2 ⟨⟨hlow, hhigh⟩, he⟩), beq_self_eq_true _⟩
  rw [s.headAt_resetEffect mode src hlow hhigh hin, he, Bool.and_eq_true]
  exact ⟨rfl, hout⟩

end Seen

/-! ## The request -/

/-- The state in which a request is served: with its reply place, when it came addressed (R161). -/
def State.served (s : State) (src : Sender) : State :=
  match src with
  | .addressed tag => s.setLink (s.link.reserve tag)
  | .broadcast => s

theorem exec_reset_of_taken {s u : State} {src : Sender} {mode : Nat}
    (hsrc : (∃ tag, src = .addressed tag ∧ s.hears = true) ∨ (src = .broadcast ∧ s.link.resetBy = none))
    (h : serveReset src mode (s.served src) = (u, none)) : exec (.reset src mode) s = .next u := by
  rcases hsrc with ⟨tag, rfl, hh⟩ | ⟨rfl, hnone⟩
  · show Host.Outcome.next (s.takeAddressed tag (serveReset (.addressed tag) mode)) = _
    rw [State.takeAddressed_hears _ _ _ hh, show s.setLink (s.link.reserve tag) = s.served (.addressed tag) from rfl, h]
    rfl
  · show Host.Outcome.next (if s.link.resetBy.isSome then s else (serveReset .broadcast mode s).1) = _
    rw [hnone, show serveReset .broadcast mode s = (u, none) from h]
    rfl

/-- The reply queue while the request is served. -/
def Link.servedReplies (l : Link) (src : Sender) : List ReplyPlace :=
  match src with
  | .addressed tag => l.replies ++ [⟨tag, none⟩]
  | .broadcast => l.replies

theorem State.served_eq (s : State) (src : Sender) : s.served src = s.withReplies (s.link.servedReplies src) := by
  cases src <;> rfl

theorem State.resetWaits_iff (s : State) : s.resetWaits = true ↔ s.shaft.state = .referencing ∨
    s.shaft.state = .running ∨ s.shaft.state = .stopping ∨ s.shaft.state = .holding ∨ s.frame.travel ≠ none := by
  simp only [State.resetWaits, Bool.or_eq_true, ShaftState.turning_iff, beq_iff_eq, Option.isSome_iff_ne_none, or_assoc]

/-- A CONTROLLED RESET over a turning shaft is recorded, and stops a RUNNING run (R169). -/
theorem State.beginReset_of_turning {s : State} {src : Sender} (hc : s.calm = true)
    (hs : s.shaft.state = .running ∨ s.shaft.state = .stopping) : s.beginReset src =
      ((s.setRun (if s.run.state = .running then
        { s.run with state := .stopping, cause := some (s.run.cause.getD .host) } else s.run)).setLink
        { s.link with resetBy := some src }).pump := by
  obtain ⟨hact, htravel, hhoming⟩ := s.calm_iff.1 hc
  let v := (s.setRun (if s.run.state = .running then
    { s.run with state := .stopping, cause := some (s.run.cause.getD .host) } else s.run)).setLink
    { s.link with resetBy := some src }
  have hv : (if s.run.state = .running then (s.setLink { s.link with resetBy := some src }).stopOrder .host
      else s.setLink { s.link with resetBy := some src }) = v := by
    by_cases hr : s.run.state = .running
    · rw [if_pos hr]
      unfold State.stopOrder
      rw [show (s.setLink { s.link with resetBy := some src }).run.state = .running from hr, State.recordCause_eq]
      show _ = (s.setRun (if s.run.state = .running then _ else _)).setLink _
      rw [if_pos hr]
      rfl
    · rw [if_neg hr]
      show _ = (s.setRun (if s.run.state = .running then _ else _)).setLink _
      rw [if_neg hr]
      rfl
  have hcalm : v.calm = true := by
    rw [State.calm_iff]
    refine ⟨?_, htravel, hhoming⟩
    show Run.activity (if s.run.state = .running then _ else _) = .none
    split <;> exact hact
  unfold State.beginReset
  dsimp only
  rw [show (s.setLink { s.link with resetBy := some src }).run.state = s.run.state from rfl, hv,
    show v.frame.travel = none from htravel]
  exact State.finish_of_none (State.advance_of_turning hcalm (hs.imp id Or.inl))

/-- The store after a RESET. -/
theorem State.resetEffect_store (s : State) (mode : Nat) (src : Sender) : (s.resetEffect mode src).store =
    ⟨.absent, List.replicate 32 Slot.empty, 0, 0, 0, none⟩ ∧ (s.resetEffect mode src).gaps = [] := by
  rw [State.resetEffect_lifts]
  exact ⟨rfl, rfl⟩

/-- The frame after a RESET (R26). -/
theorem State.resetEffect_frame (s : State) (mode : Nat) (src : Sender) :
    (s.resetEffect mode src).frame.pos = s.frame.pos ∧
    (s.resetEffect mode src).frame.x.referenced = s.frame.x.referenced ∧
    (s.resetEffect mode src).frame.y.referenced = s.frame.y.referenced ∧
    (s.resetEffect mode src).frame.origin = none ∧ (s.resetEffect mode src).frame.travel = none ∧
    (s.resetEffect mode src).frame.homing = none := by
  obtain ⟨hpos, hx, hy⟩ := s.resetMotion_axes mode
  obtain ⟨hxpos, hxref, -⟩ := (s.resetMotion mode).frame.x.homingStopped_keeps
  obtain ⟨hypos, hyref, -⟩ := (s.resetMotion mode).frame.y.homingStopped_keeps
  rw [State.resetEffect_lifts]
  exact ⟨(congrArg₂ Point.mk hxpos hypos).trans hpos, hxref.trans hx, hyref.trans hy, rfl, rfl, rfl⟩

/-- Frame and shaft after a CONTROLLED RESET (R98). -/
theorem State.resetEffect_controlled (s : State) {mode : Nat} (src : Sender) (h : mode ≠ 1) :
    (s.resetEffect mode src).frame.stitch = s.frame.stitch ∧
    (∀ a, (∀ m, (s.frame.axis a).move = some m → m.kind ≠ .homing) →
      (s.resetEffect mode src).frame.axis a = s.frame.axis a) ∧
    (s.resetEffect mode src).shaft = { s.shaft with
      hold := false
      lockout := { s.shaft.lockout with jump := false, late := false, travel := false, homing := false } } := by
  have hframe : (s.resetEffect mode src).frame = { s.frame with
      x := s.frame.x.homingStopped, y := s.frame.y.homingStopped, homing := none, origin := none, travel := none } := by
    rw [State.resetEffect_lifts]
    show (s.resetBlocks mode src).frame = _
    rw [State.resetBlocks_frame, s.resetMotion_controlled h]
    rfl
  rw [hframe]
  refine ⟨rfl, fun a ha => ?_, ?_⟩
  · cases a
    · exact s.frame.x.homingStopped_keeps.2.2.2 ha
    · exact s.frame.y.homingStopped_keeps.2.2.2 ha
  · rw [State.resetEffect_lifts]
    show (s.resetBlocks mode src).shaft = _
    rw [State.resetBlocks_shaft, s.resetMotion_controlled h]
    rfl

/-- Frame and shaft after an IMMEDIATE RESET (R98, R82). -/
theorem State.resetEffect_immediate (s : State) (src : Sender) :
    (s.resetEffect 1 src).frame.stitch = none ∧ (s.resetEffect 1 src).frame.x.move = none ∧
    (s.resetEffect 1 src).frame.y.move = none ∧ (s.resetEffect 1 src).shaft = { s.shaft with
      state := .unreferenced, referenced := false, speed := 0, hold := false, braked := false, stall := none
      hostReference := false
      lockout := { s.shaft.lockout with
        jump := false, late := false, travel := false, homing := false, referencing := false } } := by
  obtain ⟨nx, ny, hhalt⟩ := s.resetMotion_immediate
  have hframe : (s.resetEffect 1 src).frame = { s.frame.halt nx ny with
      x := (s.frame.halt nx ny).x.homingStopped, y := (s.frame.halt nx ny).y.homingStopped
      homing := none, origin := none, travel := none } := by
    rw [State.resetEffect_lifts]
    show (s.resetBlocks 1 src).frame = _
    rw [State.resetBlocks_frame, hhalt]
  obtain ⟨-, -, -, hx, -⟩ := s.frame.x.halt_keeps nx s.frame.moveIndexNow
  obtain ⟨-, -, -, hy, -⟩ := s.frame.y.halt_keeps ny s.frame.moveIndexNow
  rw [hframe]
  refine ⟨rfl, (s.frame.halt nx ny).x.homingStopped_keeps.2.2.1 hx, (s.frame.halt nx ny).y.homingStopped_keeps.2.2.1 hy, ?_⟩
  have hshaft : (s.resetMotion 1).shaft = s.shaftImmediate.shaft := by
    simp [State.resetMotion]
  rw [State.resetEffect_lifts]
  show (s.resetBlocks 1 src).shaft = _
  rw [State.resetBlocks_shaft, hshaft, State.shaftImmediate_shaft]

/-- Settles O47: the refusal, the stop that a CONTROLLED RESET waits for, and the blocks when it takes effect. -/
theorem resetTakesEffect : Obligations.ResetTakesEffect := by
  intro s src mode hshapes hsrc run waits bare
  obtain ⟨hheads, -⟩ := s.shapesRight_iff.1 hshapes
  have hserved := s.served_eq src
  refine ⟨fun hm => ?_, fun hm hc hs => ?_, fun hm => ?_⟩
  · rcases hsrc with ⟨tag, rfl, hh⟩ | ⟨rfl, hnone⟩
    · exact congrArg Host.Outcome.next (State.takeAddressed_refused s tag _ .range hh (if_pos hm))
    · show Host.Outcome.next (if s.link.resetBy.isSome then s else (serveReset .broadcast mode s).1) = _
      rw [hnone, show serveReset .broadcast mode s = refuse s .range from if_pos hm]
      rfl
  · have hwaits : (s.served src).resetWaits = true := by
      rw [State.resetWaits_iff, hserved]
      exact .inr (hs.elim Or.inl (fun h => .inr (.inl h)))
    have hserve : serveReset src mode (s.served src) = ((s.served src).beginReset src, none) := by
      subst hm
      exact (if_neg (by decide)).trans (if_pos ⟨rfl, hwaits⟩)
    refine ⟨_, exec_reset_of_taken hsrc hserve, ?_⟩
    rw [hserved, State.beginReset_of_turning (s := s.withReplies (s.link.servedReplies src)) hc hs, State.pump_link]
    refine ⟨?_, by cases src <;> rfl⟩
    exact (congrArg bare (State.pump_withReplies ((s.setRun _).setLink { s.link with resetBy := some src })
      (s.link.servedReplies src))).trans rfl
  · have hserve : serveReset src mode (s.served src) = (((s.served src).resetEffect mode src).finish, none) := by
      have hle : ¬ 1 < mode := by omega
      refine (if_neg hle).trans (if_neg fun ⟨h0, hw⟩ => ?_)
      rcases hm with h1 | ⟨-, hnot⟩
      · omega
      · rw [State.resetWaits_iff, hserved] at hw
        exact hnot hw
    rw [State.finish_quiet _ (State.resetEffect_quiet _ _ _)] at hserve
    refine ⟨_, exec_reset_of_taken hsrc hserve, ?_⟩
    rw [hserved]
    let r := s.withReplies (s.link.servedReplies src)
    obtain ⟨hrun, hstore, hgov, hframe, hshaft, hchange, hmonitor, hgaps, hlink, hcfg, -⟩ :=
      State.pump_keeps (r.resetEffect mode src)
    obtain ⟨hblink, hbgov, hbchange, hbmonitor, hbzones, hbcfg, hbheld, hbround⟩ := r.resetEffect_blocks mode src
    obtain ⟨hpos, hx, hy, horigin, htravel, hhoming⟩ := r.resetEffect_frame mode src
    obtain ⟨hbstore, hbgaps⟩ := r.resetEffect_store mode src
    rw [hlink, hstore, hgaps, hgov, hrun, hchange, hmonitor, hframe, hshaft, hcfg]
    refine ⟨hblink, hbstore, hbgaps, hbgov, ?_, fun h hlow hhigh => ?_, State.pump_held hbheld, State.pump_round hbround,
      hbchange, hbmonitor, hpos, hx, hy, horigin, hbzones, htravel, hhoming, fun h0 => ?_, fun h1 => ?_, hbcfg⟩
    · rw [← resetRunState_eq, ← resetHaltReturn_eq]
      exact r.resetEffect_run mode src
    · have hin : h - 1 < r.run.heads.length := by
        show h - 1 < s.run.heads.length
        omega
      have hlinkAt := r.linkAt_resetEffect mode src h
      rw [State.headAt_congr (congrArg Run.heads hrun), r.headAt_resetEffect mode src hlow hhigh hin]
      refine ⟨rfl, rfl, rfl, rfl, fun he => State.pump_liftOnItsWay (r.resetEffect_onItsWay mode src hlow hhigh hin he),
        ?_, ?_, ?_, ?_⟩
      · rw [State.linkAt_pump_lost, hlinkAt]
        rfl
      · rw [State.linkAt_pump_timeouts hlow (by rw [hlinkAt]; rfl), hlinkAt]
        rfl
      · rw [State.linkAt_pump _ _ HeadLink.probe (fun _ _ => rfl) (fun _ => rfl), hlinkAt]
        rfl
      · rw [State.linkAt_pump _ _ HeadLink.record (fun _ _ => rfl) (fun _ => rfl), hlinkAt]
        rfl
    · exact r.resetEffect_controlled src (by omega)
    · subst h1
      exact r.resetEffect_immediate src

end Sys2Proof.Machine

/-!
PROOF. What is done for one head leaves the items of every other: folds over the heads, read at one of them; the
engagement orders that take effect (section 1.7).
-/

namespace Sys2Proof.Machine
set_option Elab.async false

/-! ## The items of one head -/

/-- Two states with the same items of head `j` in the head table and the three units that keep some. -/
structure State.SameHead (s t : State) (j : Nat) : Prop where
  head : t.headAt j = s.headAt j
  watch : t.watchAt j = s.watchAt j
  work : t.workAt j = s.workAt j
  link : t.linkAt j = s.linkAt j

theorem State.SameHead.refl (s : State) (j : Nat) : s.SameHead s j := ⟨rfl, rfl, rfl, rfl⟩

theorem State.SameHead.trans {s t u : State} {j : Nat} (h : s.SameHead t j) (h' : t.SameHead u j) : s.SameHead u j :=
  ⟨h'.head.trans h.head, h'.watch.trans h.watch, h'.work.trans h.work, h'.link.trans h.link⟩

/-- The items are read off four lists. -/
theorem State.SameHead.of_lists {s t : State} (hr : t.run.heads = s.run.heads) (hm : t.monitor.heads = s.monitor.heads)
    (hc : t.change.heads = s.change.heads) (hb : t.bus.heads = s.bus.heads) (j : Nat) : s.SameHead t j :=
  ⟨State.headAt_congr hr j, State.watchAt_congr hm j, State.workAt_congr hc j, State.linkAt_congr hb j⟩

/-- The four lists have a place for every head. -/
def State.roomy (s : State) : Prop :=
  s.run.heads.length = 8 ∧ s.monitor.heads.length = 8 ∧ s.change.heads.length = 8 ∧ s.bus.heads.length = 8

theorem State.roomy_of_shapes {s : State} (h : s.shapesRight = true) : s.roomy := by
  obtain ⟨h1, h2, h3, h4, -⟩ := s.shapesRight_iff.1 h
  exact ⟨h1, h2, h4, h3⟩

theorem State.roomy_of_lengths {s t : State} (hs : s.roomy) (hr : t.run.heads.length = s.run.heads.length)
    (hm : t.monitor.heads.length = s.monitor.heads.length) (hc : t.change.heads.length = s.change.heads.length)
    (hb : t.bus.heads.length = s.bus.heads.length) : t.roomy := by
  obtain ⟨h1, h2, h3, h4⟩ := hs
  exact ⟨hr.trans h1, hm.trans h2, hc.trans h3, hb.trans h4⟩

/-- A fold over the heads whose step for a head leaves the items of the others: read at one head, it is that head's
step, made on its items as they were. -/
theorem foldl_at_head {f : State → Nat → State} {h : Nat} (hlow : 1 ≤ h) (hhigh : h ≤ 8)
    {P : State → Prop} (hP : ∀ s j, 1 ≤ j → j ≤ 8 → P s → P (f s j))
    (hother : ∀ (s : State) j, P s → 1 ≤ j → j ≤ 8 → j ≠ h → s.SameHead (f s j) h) (s : State) (hs : P s) :
    ∃ u, P u ∧ s.SameHead u h ∧ (f u h).SameHead (headNumbers.foldl f s) h := by
  obtain ⟨front, back, hsplit, hfront, hback⟩ := headNumbers_split hlow hhigh
  have hmem : ∀ x, x ∈ front ∨ x ∈ back → x ≤ 8 := fun x hx => by
    refine ((mem_headNumbers x).1 ?_).2
    rw [hsplit, List.mem_append, List.mem_cons]
    exact hx.imp_right .inr
  have hkeep : ∀ l : List Nat, (∀ x ∈ l, (1 ≤ x ∧ x ≠ h) ∧ x ≤ 8) → ∀ s : State, P s →
      s.SameHead (l.foldl f s) h ∧ P (l.foldl f s) := by
    intro l
    induction l with
    | nil => exact fun _ s hs => ⟨.refl s h, hs⟩
    | cons x l ih =>
      intro hl s hs
      obtain ⟨⟨hx, hne⟩, hx8⟩ := hl x List.mem_cons_self
      obtain ⟨hsame, hinv⟩ := ih (fun y hy => hl y (List.mem_cons_of_mem _ hy)) _ (hP s x hx hx8 hs)
      exact ⟨(hother s x hs hx hx8 hne).trans hsame, hinv⟩
  obtain ⟨hsame, hinv⟩ := hkeep front (fun x hx => ⟨hfront x hx, hmem x (.inl hx)⟩) s hs
  refine ⟨front.foldl f s, hinv, hsame, ?_⟩
  rw [hsplit, List.foldl_append, List.foldl_cons]
  exact (hkeep back (fun x hx => ⟨hback x hx, hmem x (.inr hx)⟩) _ (hP _ h hlow hhigh hinv)).1

theorem foldl_heads_keeps {f : State → Nat → State} {P : State → Prop} (hP : ∀ s j, 1 ≤ j → j ≤ 8 → P s → P (f s j))
    (s : State) (hs : P s) : P (headNumbers.foldl f s) := by
  have hkeep : ∀ l : List Nat, (∀ x ∈ l, 1 ≤ x ∧ x ≤ 8) → ∀ s : State, P s → P (l.foldl f s) := by
    intro l
    induction l with
    | nil => exact fun _ s hs => hs
    | cons x l ih =>
      exact fun hl s hs => ih (fun y hy => hl y (List.mem_cons_of_mem _ hy)) _
        (hP s x (hl x List.mem_cons_self).1 (hl x List.mem_cons_self).2 hs)
  exact hkeep headNumbers (fun x hx => (mem_headNumbers x).1 hx) s hs

/-! ## Engagement orders taking effect (R25) -/

section Orders

variable {s : State} {h j : Nat}

theorem State.modHead_sameHead (f : HeadEntry → HeadEntry) (hne : h - 1 ≠ j - 1) : s.SameHead (s.modHead h f) j :=
  ⟨State.headAt_modHead_other _ _ hne, rfl, rfl, rfl⟩

theorem State.modWatch_sameHead (f : HeadWatch → HeadWatch) (hne : h - 1 ≠ j - 1) : s.SameHead (s.modWatch h f) j :=
  ⟨rfl, State.watchAt_modWatch_other _ _ hne, rfl, rfl⟩

/-- Pending needles written change the map and the list of those that wait alone (R116). -/
theorem ThreadChange.apply_keeps (c : ThreadChange) (p : PendingNeedle → Bool) :
    c.apply p = { c with map := (c.apply p).map, waiting := (c.apply p).waiting } := by
  have hwritten : ∀ (l : List PendingNeedle) (c : ThreadChange),
      l.foldl (fun c e => c.write e.slot e.head e.needle) c =
        { c with map := (l.foldl (fun c e => c.write e.slot e.head e.needle) c).map } := by
    intro l
    induction l with
    | nil => exact fun c => rfl
    | cons e l ih => exact fun c => (ih (c.write e.slot e.head e.needle)).trans rfl
  unfold ThreadChange.apply
  dsimp only
  rw [hwritten]

theorem State.writePending_workHeads (s : State) (h : Nat) : (s.writePending h).change.heads = s.change.heads := by
  show (s.change.apply _).heads = _
  rw [ThreadChange.apply_keeps]

theorem State.setHeadState_workHeads (new : HeadState) : (s.setHeadState h new).change.heads = s.change.heads := by
  rw [State.setHeadState_cases]
  split_ifs
  · simp only [State.leaving, State.clearTension_keeps, State.modWatch_keeps, State.writePending_workHeads,
      State.modHead_keeps]
  · simp only [State.leaving, State.modWatch_keeps, State.writePending_workHeads, State.modHead_keeps]
  · simp only [State.writePending_workHeads, State.modHead_keeps]
  · rfl

theorem State.setHeadState_sameHead (new : HeadState) (hne : h - 1 ≠ j - 1) : s.SameHead (s.setHeadState h new) j :=
  ⟨State.headAt_setHeadState_other _ _ _ hne, State.watchAt_setHeadState_other _ _ _ hne,
    State.workAt_congr (State.setHeadState_workHeads new) j,
    State.linkAt_congr (congrArg Bus.heads (State.setHeadState_bus s h new)) j⟩

theorem State.closeGap_sameHead (i : Nat) : s.SameHead (s.closeGap i) j :=
  .of_lists (by simp) (by simp) (by simp) (by simp) j

theorem State.joinEffect_sameHead (hne : h - 1 ≠ j - 1) : s.SameHead (s.joinEffect h) j := by
  unfold State.joinEffect
  dsimp only
  split
  · exact (State.modWatch_sameHead _ hne).trans (State.closeGap_sameHead h)
  · exact State.modWatch_sameHead _ hne

theorem State.engagedBy_sameHead (o : EngageOrder) (hne : h - 1 ≠ j - 1) : s.SameHead (s.engagedBy h o) j := by
  unfold State.engagedBy
  cases o.cmd with
  | lower =>
    dsimp only
    split_ifs
    · exact (State.setHeadState_sameHead _ hne).trans (State.joinEffect_sameHead hne)
    · exact State.setHeadState_sameHead _ hne
    · exact .refl _ _
  | lift =>
    dsimp only
    split
    · exact State.setHeadState_sameHead _ hne
    · exact .refl _ _

theorem State.takeOrder_sameHead (o : EngageOrder) (hne : h - 1 ≠ j - 1) : s.SameHead (s.takeOrder h o) j :=
  (State.modHead_sameHead _ hne).trans (State.engagedBy_sameHead o hne)

/-- The entry of the head table that an order clears as it takes effect. -/
theorem State.joinEffect_watch (hin : h - 1 < s.monitor.heads.length) : (s.joinEffect h).watchAt h =
    { s.watchAt h with ownTieIn := s.cfg.speeds.tieIn, armed := false, joining := false } := by
  have hwatch := State.watchAt_modWatch_same s
    (fun w => { w with ownTieIn := s.cfg.speeds.tieIn, armed := false, joining := false }) hin
  unfold State.joinEffect
  dsimp only
  split
  · rw [(State.closeGap_sameHead (s := s.modWatch h _) (j := h) h).watch, hwatch]
  · exact hwatch

theorem State.joinEffect_head : (s.joinEffect h).headAt h = s.headAt h :=
  State.headAt_congr (by simp) h

theorem State.engagedHead_congr {s t : State} (hh : t.headAt h = s.headAt h) : t.engagedHead h = s.engagedHead h := by
  unfold State.engagedHead
  rw [hh]

/-- A LIFT that takes effect at an engaged head (R25). -/
theorem State.engagedBy_lift {o : EngageOrder} (hcmd : o.cmd = .lift) (he : s.engagedHead h = true) :
    s.engagedBy h o = s.setHeadState h (if s.dropping h then .dropped else o.becomes) := by
  unfold State.engagedBy
  rw [hcmd]
  exact if_pos he

/-- A LOWER that takes effect (R25). -/
theorem State.engagedBy_lower {o : EngageOrder} (hcmd : o.cmd = .lower) (hl : s.lowers h = true) :
    s.engagedBy h o = if o.join then (s.setHeadState h o.becomes).joinEffect h else s.setHeadState h o.becomes := by
  unfold State.engagedBy
  rw [hcmd]
  exact if_pos hl

theorem State.lowers_of {s : State} (h : Nat) (hs : (s.headAt h).state = .idle ∨ (s.headAt h).state = .resting ∨
    (s.headAt h).state = .sewing ∨ (s.headAt h).state = .patch ∨
    ((s.headAt h).state = .dropped ∧ (s.watchAt h).fault = none)) : s.lowers h = true := by
  unfold State.lowers
  rcases hs with hs | hs | hs | hs | ⟨hs, hf⟩ <;> rw [hs]
  rw [hf]
  rfl

theorem State.setHeadState_headsLength (new : HeadState) :
    (s.setHeadState h new).run.heads.length = s.run.heads.length ∧
      (s.setHeadState h new).monitor.heads.length = s.monitor.heads.length := by
  constructor
  · rw [State.setHeadState_run]
    exact List.length_modify ..
  · rw [State.setHeadState_heads]
    split
    · exact List.length_modify ..
    · rfl

theorem State.setHeadState_roomy (new : HeadState) (hs : s.roomy) : (s.setHeadState h new).roomy :=
  State.roomy_of_lengths hs (State.setHeadState_headsLength new).1 (State.setHeadState_headsLength new).2
    (congrArg List.length (State.setHeadState_workHeads new))
    (congrArg (fun b : Bus => b.heads.length) (State.setHeadState_bus s h new))

theorem State.joinEffect_roomy (hs : s.roomy) : (s.joinEffect h).roomy := by
  refine State.roomy_of_lengths hs (by simp) ?_ (by simp) (by simp)
  unfold State.joinEffect
  dsimp only
  split <;> simp [State.modWatch]

theorem State.engagedBy_roomy (o : EngageOrder) (hs : s.roomy) : (s.engagedBy h o).roomy := by
  unfold State.engagedBy
  cases o.cmd with
  | lower =>
    dsimp only
    split_ifs
    · exact State.joinEffect_roomy (State.setHeadState_roomy _ hs)
    · exact State.setHeadState_roomy _ hs
    · exact hs
  | lift =>
    dsimp only
    split
    · exact State.setHeadState_roomy _ hs
    · exact hs

theorem State.modHead_roomy (f : HeadEntry → HeadEntry) (hs : s.roomy) : (s.modHead h f).roomy :=
  State.roomy_of_lengths hs (List.length_modify ..) rfl rfl rfl

theorem State.takeOrder_roomy (o : EngageOrder) (hs : s.roomy) : (s.takeOrder h o).roomy :=
  State.engagedBy_roomy o (State.modHead_roomy _ hs)

end Orders

end Sys2Proof.Machine

/-!
PROOF. The encoder count (section 5.1; O48).
-/

namespace Sys2Proof.Machine
set_option Elab.async false

/-! ## A count that reports nothing (R84) -/

/-- The shaft after a forward count. -/
def Shaft.counted (u : Shaft) : Shaft :=
  { u with
    angle := (u.angle + 1) % 1024, wraps := if (u.angle + 1) % 1024 = 0 then u.wraps - 1 else u.wraps }

/-- The shaft when a crossing of TDC opens a new revolution. -/
def Shaft.reopened (u : Shaft) : Shaft :=
  { u with seenOpen := false, seenLate := false, seenClose := false, seenPoll := false }

/-- The shaft at a forward count, before the crossings are looked at. -/
def Shaft.forward (u : Shaft) : Shaft :=
  if (u.angle + 1) % 1024 = 0 ∧ u.wraps = 0 then u.counted.reopened else u.counted

theorem Shaft.forward_reports (u : Shaft) : u.forward.reports = u.reports := by
  unfold Shaft.forward
  split <;> rfl

theorem exec_encoderCount_forward (s : State) : exec (.encoderCount true) s = .next
    (if s.shaft.reports = true ∧ s.shaft.wraps = 0
      then ((s.setShaft s.shaft.forward).crossings ((s.shaft.angle + 1) % 1024)).finish
      else s.setShaft s.shaft.forward) := by
  have hcount : exec (.encoderCount true) s = .next s.countForward := rfl
  have hshaft : (if (s.shaft.angle + 1) % 1024 = 0 ∧ s.shaft.wraps = 0 then (s.setShaft s.shaft.counted).newRevolution
      else s.setShaft s.shaft.counted) = s.setShaft s.shaft.forward := by
    unfold Shaft.forward
    split <;> rfl
  have hreports : (s.setShaft s.shaft.forward).shaft.reports = s.shaft.reports := s.shaft.forward_reports
  rw [hcount]
  unfold State.countForward
  dsimp only
  rw [← Shaft.counted, hshaft, hreports]
  simp only [Bool.and_eq_true, beq_iff_eq]

theorem Shaft.reports_iff (u : Shaft) : u.reports = true ↔ u.referenced = true ∧
    (u.state = .referencing ∨ u.state = .running ∨ u.state = .stopping) := by
  rw [Shaft.reports, Bool.and_eq_true, ShaftState.turning_iff]

/-- The shaft of a revolution that has not rocked back over TDC, away from TDC. -/
theorem Shaft.forward_of_ne {u : Shaft} (h : (u.angle + 1) % 1024 ≠ 0) :
    u.forward = { u with angle := (u.angle + 1) % 1024 } := by
  unfold Shaft.forward Shaft.counted
  rw [if_neg (fun h' => h h'.1), if_neg h]

theorem Shaft.forward_of_zero {u : Shaft} (h : (u.angle + 1) % 1024 = 0) (hw : u.wraps = 0) : u.forward = { u with
    angle := 0, seenOpen := false, seenLate := false, seenClose := false, seenPoll := false } := by
  unfold Shaft.forward Shaft.counted Shaft.reopened
  rw [if_pos ⟨h, hw⟩, h, if_pos rfl, hw]

/-! ## Which angles a count crosses -/

section Crossings

variable (s : State) (a : Nat)

/-- The part of a count that TDC has. -/
def State.crossTdc : State := if a = 0 then s.tdcAction else s

/-- The part that the poll angle has. -/
def State.crossPoll : State :=
  if a = s.cfg.pollAngle ∧ s.shaft.seenPoll = false then
    (s.setShaft { s.shaft with seenPoll := true }).pollAction else s

/-- The part that the late angle has. -/
def State.crossLate (coasted : Bool) : State :=
  if a = lateAngle s.shaft.closeAngle ∧ s.shaft.seenLate = false then
    (s.setShaft { s.shaft with seenLate := true }).lateAction coasted else s

/-- The part that the Close angle has. -/
def State.crossClose : State :=
  if a = s.shaft.closeAngle ∧ s.shaft.seenClose = false then
    (s.setShaft { s.shaft with seenClose := true }).closeAction else s

/-- The part that the Open angle has. -/
def State.crossOpen : State :=
  if a = s.shaft.openAngle ∧ s.shaft.seenOpen = false then
    (s.setShaft { s.shaft with seenOpen := true }).openAction else s

/-- The crossings one after another (log 5). -/
theorem State.crossings_eq : s.crossings a =
    (((((s.crossTdc a).crossPoll a).crossLate a s.shaft.coasting).crossClose a).crossOpen a) := rfl

variable {s a}

theorem State.crossTdc_of_ne (h : a ≠ 0) : s.crossTdc a = s := if_neg h

theorem State.crossPoll_of_seen (h : a = s.cfg.pollAngle → s.shaft.seenPoll = true) : s.crossPoll a = s :=
  if_neg fun ⟨ha, hs⟩ => by rw [h ha] at hs; cases hs

theorem State.crossLate_of_seen {c : Bool} (h : a = lateAngle s.shaft.closeAngle → s.shaft.seenLate = true) :
    s.crossLate a c = s :=
  if_neg fun ⟨ha, hs⟩ => by rw [h ha] at hs; cases hs

theorem State.crossClose_of_seen (h : a = s.shaft.closeAngle → s.shaft.seenClose = true) : s.crossClose a = s :=
  if_neg fun ⟨ha, hs⟩ => by rw [h ha] at hs; cases hs

theorem State.crossOpen_of_seen (h : a = s.shaft.openAngle → s.shaft.seenOpen = true) : s.crossOpen a = s :=
  if_neg fun ⟨ha, hs⟩ => by rw [h ha] at hs; cases hs

/-- Nothing is crossed. -/
theorem State.crossings_of_none (h0 : a ≠ 0) (hpoll : a = s.cfg.pollAngle → s.shaft.seenPoll = true)
    (hlate : a = lateAngle s.shaft.closeAngle → s.shaft.seenLate = true)
    (hclose : a = s.shaft.closeAngle → s.shaft.seenClose = true)
    (hopen : a = s.shaft.openAngle → s.shaft.seenOpen = true) : s.crossings a = s := by
  rw [State.crossings_eq, State.crossTdc_of_ne h0, State.crossPoll_of_seen hpoll, State.crossLate_of_seen hlate,
    State.crossClose_of_seen hclose, State.crossOpen_of_seen hopen]

/-- The poll angle alone is crossed. -/
theorem State.crossings_of_poll (h0 : a ≠ 0) (hpoll : a = s.cfg.pollAngle) (hseen : s.shaft.seenPoll = false)
    (hlate : a ≠ lateAngle s.shaft.closeAngle) (hclose : a ≠ s.shaft.closeAngle) (hopen : a ≠ s.shaft.openAngle) :
    s.crossings a = (s.setShaft { s.shaft with seenPoll := true }).pollAction := by
  have hcross : s.crossPoll a = (s.setShaft { s.shaft with seenPoll := true }).pollAction := if_pos ⟨hpoll, hseen⟩
  have hshaft : (s.crossPoll a).shaft = { s.shaft with seenPoll := true } := by
    rw [hcross]
    unfold State.pollAction
    split <;> simp
  rw [State.crossings_eq, State.crossTdc_of_ne h0,
    State.crossLate_of_seen (fun h => absurd (h.trans (by rw [hshaft])) hlate),
    State.crossClose_of_seen (fun h => absurd (h.trans (by rw [hshaft])) hclose),
    State.crossOpen_of_seen (fun h => absurd (h.trans (by rw [hshaft])) hopen), hcross]

/-- TDC alone is crossed. -/
theorem State.crossings_of_tdc (hpoll : s.tdcAction.cfg.pollAngle ≠ 0)
    (hlate : lateAngle s.tdcAction.shaft.closeAngle ≠ 0) (hclose : s.tdcAction.shaft.closeAngle ≠ 0)
    (hopen : s.tdcAction.shaft.openAngle ≠ 0) : s.crossings 0 = s.tdcAction := by
  rw [State.crossings_eq, show s.crossTdc 0 = s.tdcAction from if_pos rfl,
    State.crossPoll_of_seen (fun h => absurd h.symm hpoll), State.crossLate_of_seen (fun h => absurd h.symm hlate),
    State.crossClose_of_seen (fun h => absurd h.symm hclose), State.crossOpen_of_seen (fun h => absurd h.symm hopen)]

end Crossings

/-! ## The crossing of TDC (R25, R89) -/

/-- The shaft at TDC: braked when it is to stop. -/
def Shaft.atTop (u : Shaft) : Shaft :=
  if u.state = .stopping ∧ u.braked = false then { u with
    speed := 0, braked := true, stall := none, lockout := { u.lockout with rest := true } } else u

theorem State.tdcAction_eq {s : State} (hs : s.shaft.state.pollsByAngle = true) :
    s.tdcAction = s.applyAcked.setShaft s.shaft.atTop := by
  have hshaft : s.applyAcked.shaft = s.shaft := by simp
  unfold State.tdcAction
  rw [if_pos hs]
  revert hshaft
  generalize s.applyAcked = t
  intro hshaft
  unfold Shaft.atTop State.brakeAtTop
  dsimp only
  rw [hshaft]
  split
  · rw [← hshaft]
    rfl
  · rw [← hshaft]
    rfl

theorem Shaft.atTop_keeps (u : Shaft) : u.atTop.state = u.state ∧ u.atTop.closeAngle = u.closeAngle ∧
    u.atTop.openAngle = u.openAngle := by
  unfold Shaft.atTop
  split <;> exact ⟨rfl, rfl, rfl⟩

/-! ## Engagement orders at TDC, read at one head -/

/-- What the acknowledged order of a head leaves at that head, if it has one. -/
def State.takeAcked (s : State) (h : Nat) : State :=
  match (s.headAt h).acked with
  | some o => s.takeOrder h o
  | none => s

theorem State.applyAcked_eq (s : State) : s.applyAcked = headNumbers.foldl State.takeAcked s := rfl

/-- The orders of the other heads leave a head as it is. -/
theorem State.applyAcked_at {s : State} {h : Nat} (hlow : 1 ≤ h) (hhigh : h ≤ 8) (hs : s.roomy) :
    ∃ u, (u.roomy ∧ u.cfg = s.cfg) ∧ s.SameHead u h ∧ (u.takeAcked h).SameHead s.applyAcked h := by
  rw [State.applyAcked_eq]
  refine foldl_at_head hlow hhigh (P := fun u => u.roomy ∧ u.cfg = s.cfg) (fun u j _ _ ⟨hu, hc⟩ => ?_)
    (fun s j _ hj _ hne => ?_) s ⟨hs, rfl⟩
  · unfold State.takeAcked
    split
    · exact ⟨State.takeOrder_roomy _ hu, by rw [← hc]; simp⟩
    · exact ⟨hu, hc⟩
  · unfold State.takeAcked
    split
    · exact State.takeOrder_sameHead _ (pred_ne_pred hj hlow (Ne.symm hne))
    · exact .refl _ _

/-- The head table with the entry of an order cleared, as it takes effect (R25). -/
def State.orderCleared (s : State) (h : Nat) : State :=
  s.modHead h (fun e => { e with acked := none, queued := if s.bus.engageOutstanding h then e.queued else none })

theorem State.takeOrder_eq (s : State) (h : Nat) (o : EngageOrder) :
    s.takeOrder h o = (s.orderCleared h).engagedBy h o := rfl

section Taken

variable {s : State} {h : Nat} {o : EngageOrder} (hs : s.roomy) (hlow : 1 ≤ h) (hhigh : h ≤ 8)
include hs hlow hhigh

theorem State.headAt_engagedBy_acked : ((s.engagedBy h o).headAt h).acked = (s.headAt h).acked := by
  have hset : ∀ new, ((s.setHeadState h new).headAt h).acked = (s.headAt h).acked := fun new => by
    rw [State.headAt_setHeadState_same _ _ _ (by have := hs.1; omega)]
  unfold State.engagedBy
  cases o.cmd with
  | lower =>
    dsimp only
    split_ifs
    · rw [State.joinEffect_head, hset]
    · exact hset _
    · rfl
  | lift =>
    dsimp only
    split
    · exact hset _
    · rfl

theorem State.headAt_orderCleared : (s.orderCleared h).headAt h = { s.headAt h with
    acked := none, queued := if s.bus.engageOutstanding h then (s.headAt h).queued else none } :=
  State.headAt_modHead_same _ _ (by have := hs.1; omega)

omit hlow hhigh in
theorem State.orderCleared_roomy : (s.orderCleared h).roomy := State.modHead_roomy _ hs

theorem State.takeOrder_acked : ((s.takeOrder h o).headAt h).acked = none := by
  rw [State.takeOrder_eq, State.headAt_engagedBy_acked (State.orderCleared_roomy hs) hlow hhigh,
    State.headAt_orderCleared hs hlow hhigh]

/-- An acknowledged LIFT at an engaged head. -/
theorem State.takeOrder_lift (hcmd : o.cmd = .lift) (he : s.engagedHead h = true) :
    ((s.takeOrder h o).headAt h).state = if s.dropping h then .dropped else o.becomes := by
  have hengaged : (s.orderCleared h).engagedHead h = true := by
    unfold State.engagedHead at he ⊢
    rw [State.headAt_orderCleared hs hlow hhigh]
    exact he
  rw [State.takeOrder_eq, State.engagedBy_lift hcmd hengaged,
    State.headAt_setHeadState_same _ _ _ (by rw [(State.orderCleared_roomy hs).1]; omega)]
  rfl

/-- An acknowledged LOWER at a head that it brings down; a join with what it loads. -/
theorem State.takeOrder_lower (hcmd : o.cmd = .lower) (hl : s.lowers h = true) :
    ((s.takeOrder h o).headAt h).state = o.becomes ∧
      (o.join = true → ((s.takeOrder h o).watchAt h).joining = false ∧
        ((s.takeOrder h o).watchAt h).armed = false ∧
        ((s.takeOrder h o).watchAt h).ownTieIn = s.cfg.speeds.tieIn) := by
  have hlowers : (s.orderCleared h).lowers h = true := by
    unfold State.lowers at hl ⊢
    rw [State.headAt_orderCleared hs hlow hhigh]
    exact hl
  have hroomy : (s.orderCleared h).roomy := State.orderCleared_roomy hs
  have hset : (((s.orderCleared h).setHeadState h o.becomes).headAt h).state = o.becomes := by
    rw [State.headAt_setHeadState_same _ _ _ (by rw [hroomy.1]; omega)]
  rw [State.takeOrder_eq, State.engagedBy_lower hcmd hlowers]
  cases hj : o.join with
  | false => exact ⟨hset, nofun⟩
  | true =>
    rw [if_pos rfl, State.joinEffect_head,
      State.joinEffect_watch (by rw [(State.setHeadState_roomy o.becomes hroomy).2.1]; omega)]
    refine ⟨hset, fun _ => ⟨rfl, rfl, ?_⟩⟩
    show ((s.orderCleared h).setHeadState h o.becomes).cfg.speeds.tieIn = _
    rw [(State.setHeadState_keeps (s.orderCleared h) h o.becomes).2.2.2.2.2.1]
    rfl

end Taken

end Sys2Proof.Machine

/-!
PROOF. The encoder count (section 5.1; O48).
-/

namespace Sys2Proof.Machine
set_option Elab.async false

/-! ## A stall reads neither the stall timer nor the late mark (R94) -/

/-- The shaft braked by a stall, the report not made. -/
def State.stallBraked (s : State) : State :=
  s.brakeAtOnce.modLockout (fun l => { l with jump := false, late := false, rest := false, referencing := false })

theorem State.stallBraked_eq (s : State) : s.stallBraked = (s.setShaft s.shaft.stalled).setBus
    (if s.shaft.state.pollsByAngle then { s.bus with restTimer := some s.cfg.pollPeriod } else s.bus) := by
  unfold State.stallBraked State.brakeAtOnce
  rw [State.shaftTo_rest (t := .unreferenced) rfl]
  rfl

/-- The state in which a stall is made, with another stall timer and late mark. -/
theorem State.stallBraked_setShaft (s : State) (w : Shaft) (hs : w.state = s.shaft.state)
    (hw : w.stalled = s.shaft.stalled) : (s.setShaft w).stallBraked = s.stallBraked := by
  rw [State.stallBraked_eq, State.stallBraked_eq, State.setShaft_shaft, hw, hs]
  rfl

/-- The stalled state before the report to the Run Controller. -/
def State.stallDriven (s : State) : State :=
  let s := s.stallBraked.govAtRest.applyAcked
  s.setRun { s.run with carry := false }

theorem State.stall_stages (s : State) : s.stall = (s.stallDriven.stallReport s.shaft.hostReference).resetIfDue := by
  unfold State.stall State.stallDriven State.stallBraked
  rfl

theorem State.stall_congr {s t : State} (hb : t.stallBraked = s.stallBraked)
    (hh : t.shaft.hostReference = s.shaft.hostReference) : t.stall = s.stall := by
  rw [State.stall_stages, State.stall_stages, State.stallDriven, State.stallDriven, hb, hh]

theorem State.stallDriven_shaft (s : State) : s.stallDriven.shaft = s.stallBraked.shaft := by
  simp [State.stallDriven, State.govAtRest]

theorem State.resetIfDue_angles (s : State) : s.resetIfDue.shaft.closeAngle = s.shaft.closeAngle ∧
    s.resetIfDue.shaft.openAngle = s.shaft.openAngle := by
  unfold State.resetIfDue State.pendingReset
  split
  · exact ⟨rfl, rfl⟩
  · split
    · rw [(s.resetEffect_controlled _ (by decide)).2.2]
      exact ⟨rfl, rfl⟩
    · exact ⟨rfl, rfl⟩

theorem State.stall_angles (s : State) : s.stall.shaft.closeAngle = s.shaft.closeAngle ∧
    s.stall.shaft.openAngle = s.shaft.openAngle := by
  have hbraked : s.stallBraked.shaft.closeAngle = s.shaft.closeAngle ∧
      s.stallBraked.shaft.openAngle = s.shaft.openAngle := by
    unfold State.stallBraked State.brakeAtOnce
    rw [State.shaftTo_rest (t := .unreferenced) rfl]
    exact ⟨rfl, rfl⟩
  have hreport : (s.stallDriven.stallReport s.shaft.hostReference).shaft = s.stallBraked.shaft :=
    (State.stallReport_keeps _ _).2.1.trans s.stallDriven_shaft
  obtain ⟨hc, ho⟩ := State.resetIfDue_angles (s.stallDriven.stallReport s.shaft.hostReference)
  rw [hreport] at hc ho
  rw [State.stall_stages]
  exact ⟨hc.trans hbraked.1, ho.trans hbraked.2⟩

/-! ## The late angle after the braking TDC (R69, R89) -/

/-- The shaft that judging the late move leaves. -/
theorem State.judgeLate_shaft (s : State) : s.judgeLate.shaft = s.shaft ∨
    s.judgeLate.shaft = { s.shaft with lockout := { s.shaft.lockout with late := true } } := by
  unfold State.judgeLate
  split
  · split
    · exact .inl rfl
    · right
      dsimp only
      split <;> rfl
  · exact .inl rfl

theorem State.lateAction_of_coasting {s : State} (h : s.shaft.coasting = true) :
    s.lateAction true = s.judgeLate.stall := by
  have hcoasting : s.judgeLate.shaft.coasting = true := by
    rcases s.judgeLate_shaft with h' | h' <;> rw [h'] <;> exact h
  have hboth : (true && s.judgeLate.shaft.coasting) = true := hcoasting
  exact if_pos hboth

theorem lateAngle_ne (close : Nat) : lateAngle close ≠ close := by
  unfold lateAngle
  omega

/-- The overrun is handled as a stall is (R89). -/
theorem State.crossings_of_overrun {s : State} {a : Nat} (h0 : a ≠ 0)
    (hpoll : a = s.cfg.pollAngle → s.shaft.seenPoll = true) (hlate : a = lateAngle s.shaft.closeAngle)
    (hseen : s.shaft.seenLate = false) (hcoast : s.shaft.coasting = true) (hopen : a ≠ s.shaft.openAngle) :
    s.crossings a = (s.setShaft { s.shaft with seenLate := true }).judgeLate.stall := by
  have hcross : s.crossLate a true = (s.setShaft { s.shaft with seenLate := true }).judgeLate.stall :=
    (if_pos ⟨hlate, hseen⟩).trans (State.lateAction_of_coasting (s := s.setShaft { s.shaft with seenLate := true }) hcoast)
  obtain ⟨hc, ho⟩ := (s.setShaft { s.shaft with seenLate := true }).judgeLate.stall_angles
  have hangles : (s.crossLate a true).shaft.closeAngle = s.shaft.closeAngle ∧
      (s.crossLate a true).shaft.openAngle = s.shaft.openAngle := by
    rw [hcross, hc, ho]
    rcases (s.setShaft { s.shaft with seenLate := true }).judgeLate_shaft with h' | h' <;> rw [h'] <;> exact ⟨rfl, rfl⟩
  rw [State.crossings_eq, State.crossTdc_of_ne h0, State.crossPoll_of_seen hpoll, hcoast,
    State.crossClose_of_seen (fun h => absurd (hlate.symm.trans (h.trans hangles.1)) (lateAngle_ne _)),
    State.crossOpen_of_seen (fun h => absurd (h.trans hangles.2) hopen), hcross]

/-! ## The obligation -/

section Reported

variable {s : State} (hreports : s.shaft.reports = true) (hw : s.shaft.wraps = 0)
include hreports hw

theorem exec_encoderCount_reported : exec (.encoderCount true) s =
    .next ((s.setShaft s.shaft.forward).crossings ((s.shaft.angle + 1) % 1024)).finish := by
  rw [exec_encoderCount_forward, if_pos ⟨hreports, hw⟩]

theorem exec_encoderCount_away (ha : (s.shaft.angle + 1) % 1024 ≠ 0) : exec (.encoderCount true) s =
    .next ((s.setShaft { s.shaft with angle := (s.shaft.angle + 1) % 1024 }).crossings
      ((s.shaft.angle + 1) % 1024)).finish := by
  rw [exec_encoderCount_reported hreports hw, Shaft.forward_of_ne ha]

theorem exec_encoderCount_tdc (ha : (s.shaft.angle + 1) % 1024 = 0) : exec (.encoderCount true) s =
    .next ((s.setShaft { s.shaft with
      angle := 0, seenOpen := false, seenLate := false, seenClose := false, seenPoll := false }).crossings 0).finish := by
  rw [exec_encoderCount_reported hreports hw, Shaft.forward_of_zero ha hw, ha]

end Reported

/-- A shaft that reports nothing: it is not referenced, does not turn, or has rocked back over TDC. -/
theorem exec_encoderCount_unreported {s : State} (h : s.shaft.referenced = false ∨ s.shaft.state = .unreferenced ∨
    s.shaft.state = .atRest ∨ s.shaft.state = .holding ∨ s.shaft.wraps ≠ 0) :
    exec (.encoderCount true) s = .next (s.setShaft s.shaft.forward) := by
  have hnot : ¬ (s.shaft.reports = true ∧ s.shaft.wraps = 0) := fun ⟨hr, hw⟩ => by
    obtain ⟨href, hstate⟩ := s.shaft.reports_iff.1 hr
    rcases h with h | h | h | h | h
    · rw [h] at href
      cases href
    · rw [h] at hstate
      simp at hstate
    · rw [h] at hstate
      simp at hstate
    · rw [h] at hstate
      simp at hstate
    · exact h hw
  rw [exec_encoderCount_forward, if_neg hnot]

/-- A poll angle crossed by a shaft that turns for a run starts a round, unless one is in progress (R107). -/
theorem State.roundDue_eq (s : State) : s.roundDue = s.setBus { s.bus with
    round := if s.bus.round = none
      then (if headNumbers.filter (fun h => (s.headAt h).state != .off && !(s.linkAt h).lost) = [] then none
        else some ⟨headNumbers.filter (fun h => (s.headAt h).state != .off && !(s.linkAt h).lost), []⟩)
      else s.bus.round } := by
  unfold State.roundDue
  cases hround : s.bus.round with
  | some r =>
    have hsame : s.setBus { s.bus with round := s.bus.round } = s := rfl
    rw [if_neg (by simp), ← hround, hsame, hround]
  | none =>
    rw [if_pos rfl, ← roundOf_eq]
    rfl

section Top

variable {s : State} (hstate : s.shaft.state = .running ∨ s.shaft.state = .stopping) (hc : s.calm = true)
  (halone : s.cfg.pollAngle ≠ 0 ∧ lateAngle s.shaft.closeAngle ≠ 0 ∧ s.shaft.closeAngle ≠ 0 ∧ s.shaft.openAngle ≠ 0)
include hstate hc halone

/-- The crossing of TDC, on a count that crosses nothing else. -/
theorem State.finish_crossings_tdc : (s.crossings 0).finish = (s.applyAcked.setShaft s.shaft.atTop).pump := by
  have hpolls : s.shaft.state.pollsByAngle = true := by
    rcases hstate with h | h <;> rw [h] <;> rfl
  obtain ⟨htop, hclose, hopen⟩ := s.shaft.atTop_keeps
  obtain ⟨hact, htravel, hhoming⟩ := s.calm_iff.1 hc
  have hcfg : (s.applyAcked.setShaft s.shaft.atTop).cfg = s.cfg := by
    rw [State.setShaft_cfg, (State.applyAcked_keeps s).2.2.2.1]
  have hcalm : (s.applyAcked.setShaft s.shaft.atTop).calm = true := by
    rw [State.calm_iff, State.setShaft_run, State.setShaft_frame, (State.applyAcked_keeps s).1,
      (Run.fields_of_bare (State.applyAcked_bare s)).2.1]
    exact ⟨hact, htravel, hhoming⟩
  have hturns : (s.applyAcked.setShaft s.shaft.atTop).shaft.state = .running ∨
      (s.applyAcked.setShaft s.shaft.atTop).shaft.state = .stopping := by
    rw [State.setShaft_shaft, htop]
    exact hstate
  obtain ⟨h1, h2, h3, h4⟩ := halone
  rw [State.crossings_of_tdc, State.tdcAction_eq hpolls, State.finish_of_none
    (State.advance_of_turning hcalm (hturns.imp id Or.inl))]
  · rw [State.tdcAction_eq hpolls, hcfg]
    exact h1
  · rw [State.tdcAction_eq hpolls]
    rw [State.setShaft_shaft, hclose]
    exact h2
  · rw [State.tdcAction_eq hpolls]
    rw [State.setShaft_shaft, hclose]
    exact h3
  · rw [State.tdcAction_eq hpolls]
    rw [State.setShaft_shaft, hopen]
    exact h4

end Top

/-- What the acknowledged orders leave at one head (R25, R106). -/
theorem State.applyAcked_seen {s : State} (hs : s.roomy) {h : Nat} (hlow : 1 ≤ h) (hhigh : h ≤ 8) :
    ((s.headAt h).acked = none → (s.applyAcked.headAt h).state = (s.headAt h).state) ∧
    (∀ o, (s.headAt h).acked = some o → (s.applyAcked.headAt h).acked = none ∧
      (o.cmd = .lift → s.engagedHead h = true → (s.applyAcked.headAt h).state =
        if (s.watchAt h).fault.any (fun f => f.handling == .dropped) then .dropped else o.becomes) ∧
      (o.cmd = .lower → (s.headAt h).state = .idle ∨ (s.headAt h).state = .resting ∨
          ((s.headAt h).state = .dropped ∧ (s.watchAt h).fault = none) →
        (s.applyAcked.headAt h).state = o.becomes ∧
        (o.join = true → (s.applyAcked.watchAt h).joining = false ∧ (s.applyAcked.watchAt h).armed = false ∧
          (s.applyAcked.watchAt h).ownTieIn = s.cfg.speeds.tieIn))) := by
  obtain ⟨u, ⟨hroomy, hcfg⟩, hsame, hafter⟩ := State.applyAcked_at hlow hhigh hs
  rw [hafter.head, hafter.watch]
  refine ⟨fun hnone => ?_, fun o ho => ?_⟩
  · rw [State.takeAcked, hsame.head, hnone]
    exact congrArg HeadEntry.state hsame.head
  · have htake : u.takeAcked h = u.takeOrder h o := by
      rw [State.takeAcked, hsame.head, ho]
    rw [htake]
    refine ⟨State.takeOrder_acked hroomy hlow hhigh, fun hcmd he => ?_, fun hcmd hst => ?_⟩
    · rw [State.takeOrder_lift hroomy hlow hhigh hcmd ((State.engagedHead_congr hsame.head).trans he), State.dropping,
        hsame.watch]
    · rw [← hcfg]
      refine State.takeOrder_lower hroomy hlow hhigh hcmd (State.lowers_of h ?_)
      rw [hsame.head, hsame.watch]
      exact hst.imp_right (fun h => h.imp_right (fun h => .inr (.inr h)))

/-- Settles O48: by what a count crosses. -/
theorem encoderFollowsTheShaft : Obligations.EncoderFollowsTheShaft := by
  intro s u a run late due round judged braked alone counted unreported
  refine ⟨rfl, fun h => exec_encoderCount_unreported h, fun href hstate hw hc => ?_,
    fun href hstate hbraked hw ha hlate hseen hopen hpoll n => ?_⟩
  · have hreports : s.shaft.reports = true := s.shaft.reports_iff.2 ⟨href, .inr hstate⟩
    have hpolls : s.shaft.state.pollsByAngle = true := by
      rcases hstate with h | h <;> rw [h] <;> rfl
    refine ⟨fun ha hpoll hlate hclose hopen => ?_, fun ha hstop hunbraked hacked halone => ?_, fun ha hshapes halone => ?_,
      fun ha hpoll hseen hlate hclose hopen => ?_⟩
    · refine (exec_encoderCount_away hreports hw ha).trans ?_
      rw [State.crossings_of_none (s := s.setShaft { s.shaft with angle := (s.shaft.angle + 1) % 1024 })
        ha hpoll hlate hclose hopen]
      exact congrArg _ (State.finish_of_none (State.advance_of_turning (s := s.setShaft { u with angle := a }) hc
        (hstate.imp id Or.inl)))
    · refine (exec_encoderCount_tdc hreports hw ha).trans ?_
      let v := s.setShaft { u with
        angle := 0, seenOpen := false, seenLate := false, seenClose := false, seenPoll := false }
      have hnone : v.applyAcked = v := State.applyAcked_of_none (v.ackedNone_iff hacked)
      have htop : v.shaft.atTop = braked := if_pos ⟨hstop, hunbraked⟩
      have hfinish := State.finish_crossings_tdc (s := v) hstate hc halone
      rw [hnone, htop] at hfinish
      exact congrArg _ hfinish
    · let v := s.setShaft { u with
        angle := 0, seenOpen := false, seenLate := false, seenClose := false, seenPoll := false }
      have hfinish := State.finish_crossings_tdc (s := v) hstate hc halone
      refine ⟨_, (exec_encoderCount_tdc hreports hw ha).trans (congrArg _ hfinish), ?_⟩
      obtain ⟨hrun, -, -, hframe, hshaft, -, hmonitor, -, -, hcfg, -⟩ :=
        State.pump_keeps (v.applyAcked.setShaft v.shaft.atTop)
      have hroomy : v.roomy := State.roomy_of_shapes (s := s) hshapes
      have hseen := fun h hlow hhigh => State.applyAcked_seen (s := v) hroomy (h := h) hlow hhigh
      refine ⟨?_, ?_, ?_, fun h hlow hhigh => ?_⟩
      · rw [hframe, State.setShaft_frame, (State.applyAcked_keeps v).1]
        rfl
      · rw [hcfg, State.setShaft_cfg, (State.applyAcked_keeps v).2.2.2.1]
        rfl
      · rw [hshaft, State.setShaft_shaft]
        rfl
      · have hhead := State.headAt_congr (s := v.applyAcked) (t := (v.applyAcked.setShaft v.shaft.atTop).pump)
          (by rw [hrun, State.setShaft_run]) h
        have hwatch := State.watchAt_congr (s := v.applyAcked) (t := (v.applyAcked.setShaft v.shaft.atTop).pump)
          (by rw [hmonitor, State.setShaft_monitor]) h
        rw [hhead, hwatch]
        exact hseen h hlow hhigh
    · refine (exec_encoderCount_away hreports hw ha).trans ?_
      let v := s.setShaft { u with angle := a, seenPoll := true }
      have hround : v.pollAction = v.setBus { s.bus with round := round } := by
        unfold State.pollAction
        rw [show v.shaft.state.pollsByAngle = true from hpolls, if_pos rfl, State.roundDue_eq]
        rfl
      rw [State.crossings_of_poll (s := s.setShaft { s.shaft with angle := (s.shaft.angle + 1) % 1024 })
        ha hpoll hseen hlate hclose hopen]
      refine congrArg _ ?_
      show v.pollAction.finish = _
      rw [hround]
      exact State.finish_of_none (State.advance_of_turning (s := v.setBus { s.bus with round := round }) hc
        (hstate.imp id Or.inl))
  · have hreports : s.shaft.reports = true := s.shaft.reports_iff.2 ⟨href, hstate.elim (fun h => .inr (.inr h)) .inl⟩
    have hcoast : s.shaft.coasting = true := by
      unfold Shaft.coasting
      rw [show s.shaft.braked = true from hbraked]
      rcases hstate with h | h <;> rw [h] <;> rfl
    refine (exec_encoderCount_away hreports hw ha).trans ?_
    rw [State.crossings_of_overrun (s := s.setShaft { s.shaft with angle := (s.shaft.angle + 1) % 1024 })
      ha hpoll hlate hseen hcoast hopen]
    have hstall : (judged.setShaft { u with angle := a, seenLate := true, stall := some n }).stall =
        (s.setShaft { u with angle := a, seenLate := true }).judgeLate.stall := by
      have hjudged : ∀ w : Shaft, (judged.setShaft w) = (s.setShaft w).judgeLate.setShaft w := fun w => by
        show State.setShaft (match s.frame.stitch with | none => s | some m => _) w = _
        unfold State.judgeLate
        rw [show (s.setShaft w).frame.stitch = s.frame.stitch from rfl]
        cases hm : s.frame.stitch with
        | none => rfl
        | some m =>
          dsimp only
          split
          · rfl
          · split <;> rfl
      let w := { u with angle := a, seenLate := true }
      have hstalled : Shaft.stalled { w with stall := some n } = (s.setShaft w).judgeLate.shaft.stalled := by
        rcases (s.setShaft w).judgeLate_shaft with h | h <;> rw [h] <;> rfl
      have hsame : (s.setShaft w).judgeLate.shaft.state = w.state ∧
          (s.setShaft w).judgeLate.shaft.hostReference = w.hostReference := by
        rcases (s.setShaft w).judgeLate_shaft with h | h <;> rw [h] <;> exact ⟨rfl, rfl⟩
      have hset : judged.setShaft { w with stall := some n } =
          (s.setShaft w).judgeLate.setShaft { w with stall := some n } := by
        have hagain := congrArg (fun t : State => t.setShaft { w with stall := some n }) (hjudged w)
        exact hagain
      rw [hset]
      exact State.stall_congr (State.stallBraked_setShaft _ _ hsame.1.symm hstalled) hsame.2.symm
    rw [exec_stallTimerExpiry_of_running (s := judged.setShaft { u with angle := a, seenLate := true, stall := some n })
      (Option.some_ne_none n), hstall]
    rfl

end Sys2Proof.Machine

/-!
PROOF. The lookahead window (sections 3.2 to 3.4) and the MOVE TABLE group (O45).
-/

namespace Sys2Proof.Machine
set_option Elab.async false

/-! ## Looking ahead over effect records (R53) -/

section Look

variable (s : State)

/-- Only effect records stand from `i` on before `k`. -/
def State.onlyEffects (i k : Nat) : Prop :=
  ∀ m, i ≤ m → m < k → s.stopKindAt m = none ∧ ∃ e, s.store.recordAt m = some e ∧ motionOf e = none

/-- A stop point is what comes next from `i` on. -/
def State.seesStop (i : Nat) : Prop :=
  ∃ k, (i ≤ k ∧ k ≤ s.store.filledEnd ∧ s.onlyEffects i k) ∧ s.stopKindAt k ≠ none ∧
    (k < s.store.filledEnd ∨ s.store.design = .loading)

/-- The motion record at `k` is what comes next from `i` on. -/
def State.seesMotion (i k : Nat) : Prop :=
  (i ≤ k ∧ k ≤ s.store.filledEnd ∧ s.onlyEffects i k) ∧ s.stopKindAt k = none ∧
    ∃ e, s.store.recordAt k = some e ∧ (motionOf e).isSome = true

/-- What a look ahead from `i` on says is what comes next. -/
def State.looksRight (i : Nat) (o : Outlook) : Prop :=
  match o with
  | .stop => s.seesStop i
  | .motion k held => s.seesMotion i k ∧ ∃ e, s.store.recordAt k = some e ∧ s.cfg.heldRecord e = held
  | .nothing => ¬ s.seesStop i ∧ ∀ k, ¬ s.seesMotion i k

variable {s}

theorem State.onlyEffects_cons {i k : Nat} (hi : s.stopKindAt i = none ∧ ∃ e, s.store.recordAt i = some e ∧ motionOf e = none)
    (h : s.onlyEffects (i + 1) k) : s.onlyEffects i k := fun m hm hk => by
  rcases Nat.eq_or_lt_of_le hm with rfl | hm
  · exact hi
  · exact h m hm hk

theorem State.onlyEffects_tail {i k : Nat} (h : s.onlyEffects i k) : s.onlyEffects (i + 1) k :=
  fun m hm hk => h m (by omega) hk

/-- A record that ends the effect records is the first of its kind. -/
theorem State.next_unique {i k k' : Nat} (h : i ≤ k ∧ s.onlyEffects i k) (h' : i ≤ k' ∧ s.onlyEffects i k')
    (hk : ¬ (s.stopKindAt k = none ∧ ∃ e, s.store.recordAt k = some e ∧ motionOf e = none))
    (hk' : ¬ (s.stopKindAt k' = none ∧ ∃ e, s.store.recordAt k' = some e ∧ motionOf e = none)) : k = k' := by
  rcases Nat.lt_trichotomy k k' with hlt | heq | hgt
  · exact absurd (h'.2 k h.1 hlt) hk
  · exact heq
  · exact absurd (h.2 k' h'.1 hgt) hk'

theorem State.seesStop_ends {i : Nat} (h : s.seesStop i) : ∃ k, (i ≤ k ∧ s.onlyEffects i k) ∧ s.stopKindAt k ≠ none := by
  obtain ⟨k, ⟨h1, -, h3⟩, h4, -⟩ := h
  exact ⟨k, ⟨h1, h3⟩, h4⟩

theorem State.motion_not_effect {k : Nat} (h : ∃ e, s.store.recordAt k = some e ∧ (motionOf e).isSome = true) :
    ¬ (s.stopKindAt k = none ∧ ∃ e, s.store.recordAt k = some e ∧ motionOf e = none) := by
  rintro ⟨-, e, he, hm⟩
  obtain ⟨e', he', hm'⟩ := h
  rw [he] at he'
  obtain rfl := Option.some.inj he'
  rw [hm] at hm'
  cases hm'

theorem State.seesMotion_unique {i k k' : Nat} (h : s.seesMotion i k) (h' : s.seesMotion i k') : k = k' :=
  State.next_unique ⟨h.1.1, h.1.2.2⟩ ⟨h'.1.1, h'.1.2.2⟩ (State.motion_not_effect h.2.2) (State.motion_not_effect h'.2.2)

theorem State.not_seesMotion_of_seesStop {i : Nat} (h : s.seesStop i) (k : Nat) : ¬ s.seesMotion i k := fun h' => by
  obtain ⟨j, hj, hstop⟩ := State.seesStop_ends h
  have hjk : j = k := State.next_unique hj ⟨h'.1.1, h'.1.2.2⟩ (fun he => hstop he.1) (State.motion_not_effect h'.2.2)
  rw [hjk] at hstop
  exact hstop h'.2.1

/-- A record that ends the effect records at once is what comes next. -/
theorem State.sees_here {i : Nat} (hnot : ¬ (s.stopKindAt i = none ∧ ∃ e, s.store.recordAt i = some e ∧ motionOf e = none)) :
    (s.seesStop i → s.stopKindAt i ≠ none ∧ (i < s.store.filledEnd ∨ s.store.design = .loading)) ∧
      ∀ k, s.seesMotion i k → k = i := by
  refine ⟨fun ⟨k, ⟨hik, _, hbetween⟩, hstop, hend⟩ => ?_, fun k ⟨⟨hik, _, hbetween⟩, _⟩ => ?_⟩
  · rcases Nat.eq_or_lt_of_le hik with rfl | hlt
    · exact ⟨hstop, hend⟩
    · exact absurd (hbetween i le_rfl hlt) hnot
  · rcases Nat.eq_or_lt_of_le hik with rfl | hlt
    · rfl
    · exact absurd (hbetween i le_rfl hlt) hnot

/-- Past an effect record the same comes next as from the record behind it. -/
theorem State.looksRight_cons {i : Nat} {o : Outlook}
    (hi : s.stopKindAt i = none ∧ ∃ e, s.store.recordAt i = some e ∧ motionOf e = none)
    (h : s.looksRight (i + 1) o) : s.looksRight i o := by
  have hstop : s.seesStop i ↔ s.seesStop (i + 1) := by
    constructor
    · rintro ⟨k, ⟨hik, hend, hbetween⟩, hk, hdone⟩
      rcases Nat.eq_or_lt_of_le hik with rfl | hlt
      · exact absurd hi.1 hk
      · exact ⟨k, ⟨hlt, hend, State.onlyEffects_tail hbetween⟩, hk, hdone⟩
    · rintro ⟨k, ⟨hik, hend, hbetween⟩, hk⟩
      exact ⟨k, ⟨by omega, hend, State.onlyEffects_cons hi hbetween⟩, hk⟩
  have hmotion : ∀ k, s.seesMotion i k ↔ s.seesMotion (i + 1) k := by
    intro k
    constructor
    · rintro ⟨⟨hik, hend, hbetween⟩, hk, hm⟩
      rcases Nat.eq_or_lt_of_le hik with rfl | hlt
      · exact absurd hi (State.motion_not_effect hm)
      · exact ⟨⟨hlt, hend, State.onlyEffects_tail hbetween⟩, hk, hm⟩
    · rintro ⟨⟨hik, hend, hbetween⟩, hk⟩
      exact ⟨⟨by omega, hend, State.onlyEffects_cons hi hbetween⟩, hk⟩
  unfold State.looksRight at h ⊢
  cases o with
  | stop => exact hstop.2 h
  | motion k held => exact ⟨(hmotion k).2 h.1, h.2⟩
  | nothing => exact ⟨fun hs => h.1 (hstop.1 hs), fun k hm => h.2 k ((hmotion k).1 hm)⟩

theorem State.lookAhead_right (n i : Nat) (h : i + n = s.store.filledEnd + 1) : s.looksRight i (s.lookAhead n i) := by
  induction n generalizing i with
  | zero =>
    refine ⟨fun ⟨k, ⟨hik, hend, _⟩, _⟩ => ?_, fun k ⟨⟨hik, hend, _⟩, _⟩ => ?_⟩ <;> omega
  | succ n ih =>
    have hin : i ≤ s.store.filledEnd := by omega
    have hself : s.onlyEffects i i := fun m hm hk => absurd hk (by omega)
    unfold State.lookAhead
    by_cases hstop : s.stopKindAt i = none
    · rw [hstop, if_neg (by simp)]
      cases hr : s.store.recordAt i with
      | none =>
        have hnot : ¬ (s.stopKindAt i = none ∧ ∃ e, s.store.recordAt i = some e ∧ motionOf e = none) := by
          rintro ⟨-, e, he, -⟩
          rw [hr] at he
          cases he
        refine ⟨fun hs => ((State.sees_here hnot).1 hs).1 hstop, fun k hm => ?_⟩
        obtain rfl := (State.sees_here hnot).2 k hm
        obtain ⟨-, -, e, he, -⟩ := hm
        rw [hr] at he
        cases he
      | some r =>
        dsimp only
        by_cases hm : (motionOf r).isSome = true
        · rw [if_pos hm]
          exact ⟨⟨⟨le_rfl, hin, hself⟩, hstop, r, hr, hm⟩, r, hr, rfl⟩
        · rw [if_neg hm]
          exact State.looksRight_cons ⟨hstop, r, hr, by simpa using hm⟩ (ih (i + 1) (by omega))
    · rw [if_pos (Option.isSome_iff_ne_none.2 hstop)]
      have hnot : ¬ (s.stopKindAt i = none ∧ ∃ e, s.store.recordAt i = some e ∧ motionOf e = none) := fun h => hstop h.1
      split
      next hend =>
        refine ⟨fun hs => ?_, fun k hm => ?_⟩
        · rcases ((State.sees_here hnot).1 hs).2 with h | h
          · omega
          · exact hend.2 h
        · obtain rfl := (State.sees_here hnot).2 k hm
          exact hstop hm.2.1
      next hend =>
        refine ⟨i, ⟨le_rfl, hin, hself⟩, hstop, ?_⟩
        by_cases hl : s.store.design = .loading
        · exact .inr hl
        · exact .inl (by by_contra hlt; exact hend ⟨by omega, hl⟩)

theorem State.outlook_right {i : Nat} (hi : i ≤ s.store.filledEnd + 1) : s.looksRight i (s.outlook i) :=
  State.lookAhead_right _ _ (by omega)

theorem State.outlook_looks (i : Nat) : s.looksRight i (s.outlook i) := by
  by_cases hi : i ≤ s.store.filledEnd + 1
  · exact State.outlook_right hi
  · have h0 : s.outlook i = .nothing := by
      unfold State.outlook
      rw [show s.store.filledEnd + 1 - i = 0 by omega]
      rfl
    rw [h0]
    refine ⟨fun ⟨k, ⟨hik, hend, _⟩, _⟩ => ?_, fun k ⟨⟨hik, hend, _⟩, _⟩ => ?_⟩ <;> omega

end Look

/-! ## The window (R53, R54) -/

/-- The record bound of a motion record (R52). -/
theorem State.boundAt_of_motion {s : State} {i : Nat} {r : DesignRecord} {dx dy : Int} (hr : s.store.recordAt i = some r)
    (hd : motionOf r = some (dx, dy)) : s.boundAt i = max s.cfg.speeds.crawl
      (min (s.cfg.timeBound (moveIndex dx dy) (isStitch r)) (min s.cfg.speeds.maxSpeed (s.stampAt i).limit)) := by
  unfold State.boundAt
  rw [hr]
  dsimp only
  unfold Settings.recordBound
  rw [hd]

/-- What the window says of its `n`-th record, when it is computed for at most `m` records at a place with distance
`dist`. -/
structure State.EntryRight (s : State) (m dist : Nat) (w : List WindowEntry) (n : Nat) (e : WindowEntry) : Prop where
  distance : e.distance = dist + n
  record : ∃ r, s.store.recordAt e.index = some r ∧ (motionOf r).isSome = true
  stop : s.seesStop (e.index + 1) → e.stopFollows = true ∧ e.bound = s.cfg.speeds.crawl ∧ w.length = n + 1
  motion : ∀ k, s.seesMotion (e.index + 1) k → e.stopFollows = false ∧
    (∀ r, s.store.recordAt k = some r →
      e.bound = if s.cfg.heldRecord r then s.cfg.speeds.crawl else s.boundAt e.index) ∧
    (n + 1 < m → (w[n + 1]?).map WindowEntry.index = some k)
  nothing : ¬ s.seesStop (e.index + 1) → (∀ k, ¬ s.seesMotion (e.index + 1) k) →
    e.stopFollows = false ∧ e.bound = s.boundAt e.index ∧ w.length = n + 1

theorem State.windowFrom_right {s : State} (m : Nat) : ∀ (i dist : Nat),
    (∃ r, s.store.recordAt i = some r ∧ (motionOf r).isSome = true) →
    (s.windowFrom m i dist).length ≤ m ∧ (0 < m → ((s.windowFrom m i dist)[0]?).map WindowEntry.index = some i) ∧
      ∀ n e, (s.windowFrom m i dist)[n]? = some e → s.EntryRight m dist (s.windowFrom m i dist) n e := by
  induction m with
  | zero => exact fun i dist _ => ⟨le_rfl, nofun, nofun⟩
  | succ m ih =>
    intro i dist hi
    have hlook := s.outlook_looks (i + 1)
    unfold State.windowFrom
    cases ho : s.outlook (i + 1) with
    | stop =>
      rw [ho] at hlook
      refine ⟨by simp, fun _ => rfl, fun n e he => ?_⟩
      cases n with
      | succ n => simp at he
      | zero =>
        obtain rfl : _ = e := Option.some.inj he
        exact ⟨rfl, hi, fun _ => ⟨rfl, rfl, rfl⟩, fun k hk => absurd hk (State.not_seesMotion_of_seesStop hlook k),
          fun hn _ => absurd hlook hn⟩
    | nothing =>
      rw [ho] at hlook
      refine ⟨by simp, fun _ => rfl, fun n e he => ?_⟩
      cases n with
      | succ n => simp at he
      | zero =>
        obtain rfl : _ = e := Option.some.inj he
        exact ⟨rfl, hi, fun h => absurd h hlook.1, fun k hk => absurd hk (hlook.2 k), fun _ _ => ⟨rfl, rfl, rfl⟩⟩
    | motion j held =>
      rw [ho] at hlook
      obtain ⟨hsees, r, hr, hheld⟩ := hlook
      obtain ⟨hlen, hfirst, hrest⟩ := ih j (dist + 1) hsees.2.2
      refine ⟨by simpa using hlen, fun _ => rfl, fun n e he => ?_⟩
      cases n with
      | zero =>
        obtain rfl : _ = e := Option.some.inj he
        refine ⟨rfl, hi, fun h => absurd hsees (State.not_seesMotion_of_seesStop h j), fun k hk => ?_,
          fun _ hn => absurd hsees (hn j)⟩
        obtain rfl := State.seesMotion_unique hsees hk
        refine ⟨rfl, fun r' hr' => ?_, fun hm => ?_⟩
        · rw [hr] at hr'
          obtain rfl := Option.some.inj hr'
          rw [hheld]
        · exact hfirst (by omega)
      | succ n =>
        obtain ⟨hdist, hrec, hstop, hmotion, hnothing⟩ := hrest n e he
        refine ⟨by omega, hrec, fun h => ?_, fun k hk => ?_, fun h h' => ?_⟩
        · obtain ⟨h1, h2, h3⟩ := hstop h
          exact ⟨h1, h2, congrArg Nat.succ h3⟩
        · obtain ⟨h1, h2, h3⟩ := hmotion k hk
          exact ⟨h1, h2, fun hm => h3 (by omega)⟩
        · obtain ⟨h1, h2, h3⟩ := hnothing h h'
          exact ⟨h1, h2, congrArg Nat.succ h3⟩

end Sys2Proof.Machine

/-!
PROOF. The MOVE TABLE group and what follows from it (sections 3.2 to 3.4, 11.3; O45).
-/

namespace Sys2Proof.Machine
set_option Elab.async false

/-! ## The records of a window -/

theorem heldRecord_iff (c : Settings) (r : DesignRecord) : c.heldRecord r = true ↔
    ∃ dx dy, r = .stitch dx dy ∧ c.timeBound (moveIndex dx dy) true < c.speeds.crawl := by
  cases r <;> simp [Settings.heldRecord, Settings.heldIndex]

theorem motion_record_iff {r : DesignRecord} (h : (motionOf r).isSome = true) :
    ∃ dx dy, motionOf r = some (dx, dy) ∧ r = if isStitch r then .stitch dx dy else .jump dx dy := by
  cases r <;> simp_all [motionOf, isStitch]

/-! ## The pieces of the table (R50) -/

theorem nonDecreasing_iff (l : List Nat) : nonDecreasing l = true ↔ l.Pairwise (fun a b => a ≤ b) := by
  rw [← List.isChain_iff_pairwise]
  induction l with
  | nil => simp [nonDecreasing]
  | cons a l ih =>
    cases l with
    | nil => simp [nonDecreasing]
    | cons b l =>
      rw [nonDecreasing, Bool.and_eq_true, List.isChain_cons_cons, ih, decide_eq_true_iff]

theorem Settings.pieceDone_iff (c : Settings) (p : Nat) : c.pieceDone p = true ↔ c.pieces[p]? = some true := by
  unfold Settings.pieceDone
  rw [List.getD_eq_getElem?_getD]
  cases c.pieces[p]? with
  | none => simp
  | some b => simp

theorem Settings.completes_iff {c : Settings} {piece : Nat} (hlen : c.pieces.length = 4) :
    c.completes piece = true ↔ ∀ p, p < 4 → p ≠ piece → c.pieces[p]? = some true := by
  unfold Settings.completes
  rw [List.all_eq_true]
  constructor
  · intro h p hlt hne
    have hget : (c.pieces.set piece true)[p]? = c.pieces[p]? := List.getElem?_set_ne (Ne.symm hne)
    have hin : p < c.pieces.length := by omega
    have := h c.pieces[p] (List.mem_of_getElem? (hget.trans (List.getElem?_eq_getElem hin)))
    rw [List.getElem?_eq_getElem hin]
    exact congrArg some this
  · intro h b hb
    obtain ⟨p, hlt, hget⟩ := List.getElem_of_mem hb
    rw [List.length_set] at hlt
    rw [List.getElem_set] at hget
    split at hget
    · exact hget.symm
    next hne =>
      have := h p (by omega) (Ne.symm hne)
      rw [List.getElem?_eq_getElem hlt, hget] at this
      exact Option.some.inj this

theorem headD_eq_of_getElem? {l : List Nat} {b : Nat} (h : l[0]? = some b) : l.headD 0 = b := by
  cases l with
  | nil => cases h
  | cons x l => exact Option.some.inj h

theorem getLastD_eq_of_getElem? {l : List Nat} {a : Nat} (hlen : l.length = 32) (h : l[31]? = some a) :
    l.getLastD 0 = a := by
  have hlast : l.getLast? = some a := by
    rw [List.getLast?_eq_getElem?, hlen]
    exact h
  rw [List.getLastD_eq_getLast?, hlast]
  rfl

/-- The check against the neighbouring pieces, place by place (R50). -/
theorem Settings.fitsNeighbours_iff {c : Settings} {piece : Nat} {entries : List Nat} (htable : c.table.length = 128)
    (hpieces : c.pieces.length = 4) (hlen : entries.length = 32) (hp : piece ≤ 3) :
    c.fitsNeighbours piece entries = true ↔
      (∀ p a b, p + 1 = piece → c.pieces[p]? = some true → c.table[32 * piece - 1]? = some a →
        entries[0]? = some b → a ≤ b) ∧
      (∀ a b, c.pieces[piece + 1]? = some true → entries[31]? = some a → c.table[32 * piece + 32]? = some b →
        a ≤ b) := by
  have h0 : ∃ b, entries[0]? = some b := ⟨_, List.getElem?_eq_getElem (by omega)⟩
  have h31 : ∃ a, entries[31]? = some a := ⟨_, List.getElem?_eq_getElem (by omega)⟩
  obtain ⟨first, hfirst⟩ := h0
  obtain ⟨last, hlast⟩ := h31
  unfold Settings.fitsNeighbours
  rw [Bool.and_eq_true, headD_eq_of_getElem? hfirst, getLastD_eq_of_getElem? hlen hlast]
  refine and_congr ?_ ?_
  · rw [Bool.or_eq_true, Bool.or_eq_true, beq_iff_eq, Bool.not_eq_true', Bool.eq_false_iff, decide_eq_true_iff]
    constructor
    · rintro h p a b rfl hdone ha hb
      obtain rfl := Option.some.inj (hfirst.symm.trans hb)
      rcases h with (h | h) | h
      · omega
      · exact absurd ((c.pieceDone_iff _).2 hdone) h
      · rwa [List.getD_eq_getElem?_getD, ha] at h
    · intro h
      by_cases hz : piece = 0
      · exact .inl (.inl hz)
      · by_cases hdone : c.pieceDone (piece - 1) = true
        · right
          rw [List.getD_eq_getElem?_getD, List.getElem?_eq_getElem (by omega : 32 * piece - 1 < c.table.length)]
          exact h (piece - 1) _ first (by omega) ((c.pieceDone_iff _).1 hdone) (List.getElem?_eq_getElem (by omega)) hfirst
        · exact .inl (.inr hdone)
  · rw [Bool.or_eq_true, Bool.not_eq_true', Bool.eq_false_iff, decide_eq_true_iff]
    constructor
    · rintro h a b hdone ha hb
      obtain rfl := Option.some.inj (hlast.symm.trans ha)
      rcases h with h | h
      · exact absurd ((c.pieceDone_iff _).2 hdone) h
      · rwa [List.getD_eq_getElem?_getD, hb] at h
    · intro h
      by_cases hdone : c.pieceDone (piece + 1) = true
      · right
        have hin : piece + 1 < c.pieces.length := by
          by_contra hout
          have := (c.pieceDone_iff _).1 hdone
          rw [List.getElem?_eq_none (by omega)] at this
          cases this
        rw [List.getD_eq_getElem?_getD, List.getElem?_eq_getElem (by omega : 32 * piece + 32 < c.table.length)]
        exact h last _ ((c.pieceDone_iff _).1 hdone) hlast (List.getElem?_eq_getElem (by omega))
      · exact .inl hdone

section Serve

variable {s : State} {piece : Nat} {entries : List Nat}

theorem serveMoveTable_of_busy (h : ¬ (s.configurable = true ∧ s.shaft.state ≠ .referencing)) :
    serveMoveTable piece entries s = refuse s .busy := by
  refine if_pos ?_
  rw [Bool.or_eq_true, Bool.not_eq_true', beq_iff_eq]
  by_cases hc : s.configurable = true
  · exact .inr (by by_contra hs; exact h ⟨hc, hs⟩)
  · exact .inl (Bool.eq_false_iff.2 hc)

theorem serveMoveTable_of_open (h : s.configurable = true ∧ s.shaft.state ≠ .referencing) :
    serveMoveTable piece entries s = if 3 < piece then refuse s .range
      else if !(s.cfg.acceptsPiece piece entries) then refuse s .range
      else taken (s.setCfg { s.cfg.withPiece piece entries with
        tableLoaded := s.cfg.tableLoaded || s.cfg.completes piece }).leaveUnconfigured := by
  refine if_neg ?_
  rw [Bool.or_eq_true, Bool.not_eq_true', beq_iff_eq, h.1]
  rintro (h' | h')
  · cases h'
  · exact h.2 h'

theorem serveMoveTable_of_refused (h : s.configurable = true ∧ s.shaft.state ≠ .referencing)
    (hr : 3 < piece ∨ s.cfg.acceptsPiece piece entries = false) : serveMoveTable piece entries s = refuse s .range := by
  rw [serveMoveTable_of_open h]
  rcases hr with hr | hr
  · rw [if_pos hr]
  · rw [hr]
    split <;> rfl

theorem serveMoveTable_of_taken (h : s.configurable = true ∧ s.shaft.state ≠ .referencing) (hp : piece ≤ 3)
    (hr : s.cfg.acceptsPiece piece entries = true) : serveMoveTable piece entries s =
      taken (s.setCfg { s.cfg.withPiece piece entries with
        tableLoaded := s.cfg.tableLoaded || s.cfg.completes piece }).leaveUnconfigured := by
  rw [serveMoveTable_of_open h, if_neg (by omega), hr]
  rfl

end Serve

theorem State.leaveUnconfigured_eq (s : State) : s.leaveUnconfigured = s.setRun { s.run with
    state := if s.run.state = .unconfigured ∧ s.cfg.machineSet = true ∧ s.cfg.speedsSet = true ∧ s.cfg.tableLoaded = true
      then .idle else s.run.state } := by
  unfold State.leaveUnconfigured
  split <;> rfl

/-- Settles O45: the window by what comes next behind each record, the group by the checks of a piece. -/
theorem moveTableTakesPieces : Obligations.MoveTableTakesPieces := by
  refine ⟨?_, ?_⟩
  · intro s i r d hr hd g timeBound held bounded next stopAhead motionAhead w
    have hbounded : ∀ j, (∃ r, s.store.recordAt j = some r ∧ (motionOf r).isSome = true) → bounded j (s.boundAt j) := by
      rintro j ⟨r, hr, hm⟩
      obtain ⟨dx, dy, hmotion, hform⟩ := motion_record_iff hm
      exact ⟨dx, dy, isStitch r, by rw [← hform]; exact hr, State.boundAt_of_motion hr hmotion⟩
    have hheld : ∀ k r, s.store.recordAt k = some r → (s.cfg.heldRecord r = true ↔ held k) := by
      intro k r hr
      rw [heldRecord_iff]
      constructor
      · rintro ⟨dx, dy, rfl, hlt⟩
        exact ⟨dx, dy, hr, hlt⟩
      · rintro ⟨dx, dy, hrec, hlt⟩
        exact ⟨dx, dy, Option.some.inj (hr.symm.trans hrec), hlt⟩
    obtain ⟨hlen, hfirst, hentries⟩ := State.windowFrom_right (s := s) 16 i 0 ⟨r, hr, by rw [hd]; rfl⟩
    refine ⟨fun dx dy => rfl, hlen, hfirst (by decide), fun n e he => ?_⟩
    obtain ⟨hdist, hrec, hstop, hmotion, hnothing⟩ := hentries n e he
    refine ⟨by omega, hstop, fun k hk => ?_, fun hs hm => ?_⟩
    · obtain ⟨hfollows, hbound, hnext⟩ := hmotion k hk
      obtain ⟨-, -, e', he', -⟩ := hk
      have hb := hbound e' he'
      refine ⟨hfollows, fun hh => ?_, fun hh => ?_, fun hn => hnext (by omega)⟩
      · rw [hb, if_pos ((hheld k e' he').2 hh)]
      · rw [hb, if_neg (mt (hheld k e' he').1 hh)]
        exact hbounded _ hrec
    · obtain ⟨h1, h2, h3⟩ := hnothing hs hm
      exact ⟨h1, by rw [h2]; exact hbounded _ hrec, h3⟩
  · intro s tag piece entries hh hshapes hlen run open_ rising table done completes judgedWhole right loaded
    obtain ⟨-, -, -, -, -, -, -, htable, hpieces, -⟩ := s.shapesRight_iff.1 hshapes
    have hopen : open_ ↔ s.configurable = true ∧ s.shaft.state ≠ .referencing := and_congr_left' s.configurable_iff.symm
    have hcompletes : s.cfg.completes piece = true ↔ completes := Settings.completes_iff hpieces
    have haccepts : piece ≤ 3 → (s.cfg.acceptsPiece piece entries = true ↔ right) := fun hp => by
      have hjudged : (s.cfg.tableLoaded || s.cfg.completes piece) = true ↔ judgedWhole := by
        rw [Bool.or_eq_true, hcompletes]
      unfold Settings.acceptsPiece
      by_cases hw : judgedWhole
      · rw [if_pos (hjudged.2 hw), nonDecreasing_iff]
        exact ⟨fun h => ⟨fun _ => h, fun hn => absurd hw hn⟩, fun h => h.1 hw⟩
      · rw [if_neg (mt hjudged.1 hw), Bool.and_eq_true, nonDecreasing_iff,
          Settings.fitsNeighbours_iff htable hpieces hlen hp]
        exact ⟨fun h => ⟨fun hn => absurd hn hw, fun _ => h⟩, fun h => h.2 hw⟩
    refine ⟨fun h => ?_, fun h hp => ?_, fun h hp hr => ?_, fun h hp hr => ?_⟩
    · exact congrArg _ (State.takeAddressed_refused s tag _ .busy hh
        (serveMoveTable_of_busy (s := s.setLink (s.link.reserve tag)) (mt hopen.2 h)))
    · exact congrArg _ (State.takeAddressed_refused s tag _ .range hh
        (serveMoveTable_of_refused (s := s.setLink (s.link.reserve tag)) (hopen.1 h) (.inl hp)))
    · exact congrArg _ (State.takeAddressed_refused s tag _ .range hh
        (serveMoveTable_of_refused (s := s.setLink (s.link.reserve tag)) (hopen.1 h)
          (.inr (Bool.eq_false_iff.2 (mt (haccepts hp).1 hr)))))
    · have hloaded : (s.cfg.tableLoaded || s.cfg.completes piece) = loaded := by
        refine congrArg (s.cfg.tableLoaded || ·) (Bool.eq_iff_iff.2 ?_)
        rw [hcompletes, decide_eq_true_iff]
      let v := (s.setCfg { s.cfg with
        table := table, pieces := s.cfg.pieces.set piece true, tableLoaded := loaded })
      let t := v.setRun { s.run with
        state := if s.run.state = .unconfigured ∧ s.cfg.machineSet = true ∧ s.cfg.speedsSet = true ∧ loaded = true then .idle
          else s.run.state }
      refine congrArg _ (State.takeAddressed_answered s t tag _ .ok [] hh rfl ?_)
      rw [serveMoveTable_of_taken (s := s.setLink (s.link.reserve tag)) (hopen.1 h) hp ((haccepts hp).2 hr),
        State.leaveUnconfigured_eq]
      show taken _ = _
      rw [show ((s.setLink (s.link.reserve tag)).cfg.tableLoaded || (s.setLink (s.link.reserve tag)).cfg.completes piece) =
        loaded from hloaded]
      rfl

end Sys2Proof.Machine

/-!
PROOF. The MACHINE group (sections 4.4, 11.3, 11.4; O43).
-/

namespace Sys2Proof.Machine
set_option Elab.async false

/-! ## Its ranges -/

theorem machineRight_iff (g : MachineGroup) : machineRight g = true ↔
    1 ≤ g.headCount ∧ g.headCount ≤ 8 ∧ 64 ≤ g.kX ∧ g.kX ≤ 4096 ∧ 64 ≤ g.kY ∧ g.kY ≤ 4096 ∧
      (-32000 ≤ g.xLow ∧ g.xLow ≤ 32000) ∧ (-32000 ≤ g.xHigh ∧ g.xHigh ≤ 32000) ∧ (-32000 ≤ g.yLow ∧ g.yLow ≤ 32000) ∧
      (-32000 ≤ g.yHigh ∧ g.yHigh ≤ 32000) ∧ g.xLow < g.xHigh ∧ g.yLow < g.yHigh ∧
      g.xLow ≤ g.homeX ∧ g.homeX ≤ g.xHigh ∧ g.yLow ≤ g.homeY ∧ g.homeY ≤ g.yHigh := by
  simp only [machineRight, Bool.and_eq_true, within_iff, isPosition_iff, decide_eq_true_iff, inField_iff, and_assoc]

theorem FrameDrive.fits_iff (f : FrameDrive) (g : MachineGroup) : f.fits g = true ↔
    (f.x.referenced = true → g.xLow ≤ f.x.pos ∧ f.x.pos ≤ g.xHigh) ∧
      (f.y.referenced = true → g.yLow ≤ f.y.pos ∧ f.y.pos ≤ g.yHigh) := by
  have hone : ∀ (b : Bool) (p : Bool) (q : Prop), (p = true ↔ q) → ((!b || p) = true ↔ (b = true → q)) := by
    intro b p q h
    cases b <;> simp [h]
  have hwithin : ∀ lo v hi : Int, withinInt lo v hi = true ↔ lo ≤ v ∧ v ≤ hi := fun lo v hi => by
    simp [withinInt]
  unfold FrameDrive.fits
  rw [Bool.and_eq_true, hone _ _ _ (hwithin ..), hone _ _ _ (hwithin ..)]

/-! ## Heads beyond the count, and newly within it (R23, R174) -/

/-- What a change of the head count does with one head. -/
def State.countHead (old new : Nat) (s : State) (h : Nat) : State :=
  if new < h then s.headOffEffect h
  else if old < h then (if (s.headAt h).state = .off then s.bringOn h else s)
  else s

theorem State.changeHeadCount_eq (s : State) (old new : Nat) :
    s.changeHeadCount old new = headNumbers.foldl (State.countHead old new) s := rfl

section One

variable {s : State} {h j : Nat} (hs : s.roomy) (hp : s.run.pass = .main)

theorem State.issue_change {c : BusCommand} (hl : (s.linkAt c.head).lost = false) : (s.issue c).change = s.change := by
  unfold State.issue
  rw [if_neg (by simp [hl])]
  cases c.work.order? <;> (dsimp only; split_ifs <;> rfl)

theorem State.headOffItems_busHeads : (s.headOffItems h).bus.heads = s.bus.heads.modify (h - 1) (fun l =>
    { l with lost := false, timeouts := 0, probe := false, nextMark := .fresh }) := by
  rw [← State.setHeadState_bus s h .off]
  rfl

theorem State.headOffItems_workHeads : (s.headOffItems h).change.heads = s.change.heads :=
  State.setHeadState_workHeads (s := s) .off

include hs hp

theorem State.headOffEffect_change (hlow : 1 ≤ h) (hhigh : h ≤ 8) : (s.headOffEffect h).change.heads = s.change.heads := by
  by_cases hoff : (s.headAt h).state = .off
  · rw [State.headOffEffect_of_off hoff]
  · have hlost : (((s.headOffItems h).closeGap h).linkAt h).lost = false := by
      rw [State.linkAt_congr (s := s.headOffItems h) (by simp)]
      exact s.linkAt_headOffItems_lost (by have := hs.2.2.2; omega)
    rw [State.headOffEffect_of_main hoff hp]
    split
    · rw [State.issueLift, State.issue_change hlost, (State.closeGap_keeps _ _).2.2.2.2.2.1, State.headOffItems_workHeads]
    · rw [(State.closeGap_keeps _ _).2.2.2.2.2.1, State.headOffItems_workHeads]

theorem State.headOffEffect_roomy (hlow : 1 ≤ h) (hhigh : h ≤ 8) : (s.headOffEffect h).roomy := by
  by_cases hoff : (s.headAt h).state = .off
  · rwa [State.headOffEffect_of_off hoff]
  · obtain ⟨hmonitor, -, -, -, -, -, hbus, -⟩ := State.headOffEffect_main_blocks s hoff hp
    refine State.roomy_of_lengths hs ?_ ?_ (congrArg List.length (State.headOffEffect_change hs hp hlow hhigh)) ?_
    · rw [State.headOffEffect_run s hoff hp (by have := hs.2.2.2; omega)]
      exact List.length_modify ..
    · rw [hmonitor]
      exact (List.length_modify ..).trans (State.setHeadState_headsLength .off).2
    · rw [hbus, State.headOffItems_busHeads]
      exact List.length_modify ..

theorem State.headOffEffect_sameHead (hlow : 1 ≤ h) (hhigh : h ≤ 8) (hne : h - 1 ≠ j - 1) :
    s.SameHead (s.headOffEffect h) j := by
  by_cases hoff : (s.headAt h).state = .off
  · rw [State.headOffEffect_of_off hoff]
    exact .refl s j
  · obtain ⟨hmonitor, -, -, -, -, -, hbus, -⟩ := State.headOffEffect_main_blocks s hoff hp
    refine ⟨?_, ?_, State.workAt_congr (State.headOffEffect_change hs hp hlow hhigh) j, ?_⟩
    · rw [State.headAt_congr (congrArg Run.heads (State.headOffEffect_run s hoff hp (by have := hs.2.2.2; omega)))]
      exact State.headAt_modHead_other _ _ hne
    · rw [State.watchAt_congr (congrArg Monitor.heads hmonitor)]
      exact s.watchAt_headOffItems_other hne
    · rw [State.linkAt_congr hbus]
      unfold State.linkAt
      rw [State.headOffItems_busHeads]
      exact getD_modify_other _ _ hne

theorem State.headOffEffect_bare (hlow : 1 ≤ h) (hhigh : h ≤ 8) : (s.headOffEffect h).run.bare = s.run.bare := by
  by_cases hoff : (s.headAt h).state = .off
  · rw [State.headOffEffect_of_off hoff]
  · rw [State.headOffEffect_run s hoff hp (by have := hs.2.2.2; omega)]
    rfl

omit hs in
theorem State.headOffEffect_ceiling : (s.headOffEffect h).gov.ceiling = s.gov.ceiling := by
  by_cases hoff : (s.headAt h).state = .off
  · rw [State.headOffEffect_of_off hoff]
  · rw [(State.headOffEffect_main_blocks s hoff hp).2.1, State.headOffItems_gov]
    split <;> rfl

end One

/-- What a change of the head count keeps. -/
def State.CountKeeps (s t : State) : Prop :=
  t.roomy ∧ t.run.bare = s.run.bare ∧ t.frame = s.frame ∧ t.shaft = s.shaft ∧ t.cfg = s.cfg ∧
    t.gov.ceiling = s.gov.ceiling ∧ t.link.replies = s.link.replies

section Count

variable {s : State} (hs : s.roomy) (hp : s.run.pass = .main) (old new : Nat)
include hs hp

theorem State.countHead_keeps {h : Nat} (hlow : 1 ≤ h) (hhigh : h ≤ 8) : s.CountKeeps (s.countHead old new h) := by
  unfold State.countHead
  split
  · obtain ⟨hframe, hshaft, hcfg, -, -, -, hreplies, -⟩ := s.headOffEffect_keeps h
    exact ⟨State.headOffEffect_roomy hs hp hlow hhigh, State.headOffEffect_bare hs hp hlow hhigh, hframe, hshaft, hcfg,
      State.headOffEffect_ceiling hp, hreplies⟩
  · split
    · split
      · refine ⟨State.roomy_of_lengths hs (List.length_modify ..) rfl rfl (List.length_modify ..), rfl, rfl, rfl, rfl, rfl, rfl⟩
      · exact ⟨hs, rfl, rfl, rfl, rfl, rfl, rfl⟩
    · exact ⟨hs, rfl, rfl, rfl, rfl, rfl, rfl⟩

theorem State.countHead_sameHead {h j : Nat} (hlow : 1 ≤ h) (hhigh : h ≤ 8) (hne : h - 1 ≠ j - 1) :
    s.SameHead (s.countHead old new h) j := by
  unfold State.countHead
  split
  · exact State.headOffEffect_sameHead hs hp hlow hhigh hne
  · split
    · split
      · exact ⟨State.headAt_modHead_other _ _ hne, rfl, rfl, State.linkAt_modLink_other s _ hne⟩
      · exact .refl s j
    · exact .refl s j

end Count

theorem State.countKeeps_trans {s t u : State} (h : s.CountKeeps t) (h' : t.CountKeeps u) : s.CountKeeps u := by
  obtain ⟨-, h1, h2, h3, h4, h5, h6⟩ := h
  obtain ⟨h0', h1', h2', h3', h4', h5', h6'⟩ := h'
  exact ⟨h0', h1'.trans h1, h2'.trans h2, h3'.trans h3, h4'.trans h4, h5'.trans h5, h6'.trans h6⟩

section Whole

variable {s : State} (hs : s.roomy) (hp : s.run.pass = .main) (old new : Nat)
include hs hp

omit hs in
theorem State.countKeeps_step (t : State) (j : Nat) (hlow : 1 ≤ j) (hhigh : j ≤ 8) (ht : s.CountKeeps t) :
    s.CountKeeps (t.countHead old new j) :=
  State.countKeeps_trans ht (State.countHead_keeps ht.1
    ((Run.fields_of_bare ht.2.1).2.2.1.trans hp) old new hlow hhigh)

theorem State.changeHeadCount_countKeeps : s.CountKeeps (s.changeHeadCount old new) :=
  foldl_heads_keeps (State.countKeeps_step hp old new) s ⟨hs, rfl, rfl, rfl, rfl, rfl, rfl⟩

/-- What the change of the head count leaves of one head (R23, R174). -/
theorem State.changeHeadCount_seen {h : Nat} (hlow : 1 ≤ h) (hhigh : h ≤ 8) :
    (new < h → ((s.changeHeadCount old new).headAt h).state = .off) ∧
    (new < h → (s.headAt h).state ≠ .off → ((s.changeHeadCount old new).watchAt h).fault = none ∧
      ((s.changeHeadCount old new).watchAt h).joining = false) ∧
    (old < h → h ≤ new → (s.headAt h).state = .off → ((s.changeHeadCount old new).headAt h).state = .idle) ∧
    (h ≤ new → h ≤ old ∨ (s.headAt h).state ≠ .off → (s.changeHeadCount old new).headAt h = s.headAt h) := by
  obtain ⟨u, hu, hsame, hafter⟩ := foldl_at_head (f := State.countHead old new) hlow hhigh
    (State.countKeeps_step hp old new)
    (fun t j ht hj hj8 hne => State.countHead_sameHead ht.1 ((Run.fields_of_bare ht.2.1).2.2.1.trans hp) old new hj hj8
      (pred_ne_pred hj hlow (Ne.symm hne))) s ⟨hs, rfl, rfl, rfl, rfl, rfl, rfl⟩
  have hup : u.run.pass = .main := (Run.fields_of_bare hu.2.1).2.2.1.trans hp
  obtain ⟨hrun, hmon, -, hbus⟩ := hu.1
  rw [State.changeHeadCount_eq, hafter.head, hafter.watch, ← hsame.head]
  refine ⟨fun hn => ?_, fun hn hon => ?_, fun hold hn hoff => ?_, fun hn hkept => ?_⟩
  · rw [State.countHead, if_pos hn]
    by_cases hoff : (u.headAt h).state = .off
    · rw [State.headOffEffect_of_off hoff, hoff]
    · rw [State.headAt_congr (congrArg Run.heads (State.headOffEffect_run u hoff hup (by omega))),
        State.headAt_modHead_same _ _ (by omega)]
  · rw [State.countHead, if_pos hn,
      State.watchAt_congr (congrArg Monitor.heads (State.headOffEffect_main_blocks u hon hup).1),
      State.watchAt_headOffItems_same u (by omega)]
    split <;> exact ⟨rfl, rfl⟩
  · rw [State.countHead, if_neg (by omega), if_pos hold, if_pos hoff, State.bringOn,
      State.headAt_modHead_same _ _ (by show h - 1 < u.run.heads.length; omega)]
  · rw [State.countHead, if_neg (by omega)]
    split
    next hold =>
      rw [if_neg (hkept.resolve_left (by omega))]
    · rfl

end Whole

/-! ## The group -/

theorem Axis.rescaled_of_onPath {a : Axis} (h : a.offPath = none) (k k' : Nat) : a.rescaled k k' =
    if k = k' then a
    else { a with referenced := false, steps := a.pos * k' / 256, residue := (a.pos * k' % 256).toNat } := by
  unfold Axis.rescaled
  rw [h]
  rfl

section Serve

variable {s : State} {g : MachineGroup}

theorem serveMachine_of_busy (h : s.configurable = false ∨ s.frame.busy = true) : serveMachine g s = refuse s .busy := by
  refine if_pos ?_
  rw [Bool.or_eq_true, Bool.not_eq_true']
  exact h

theorem serveMachine_of_open (hc : s.configurable = true) (hb : s.frame.busy = false) :
    serveMachine g s = if (machineRight g && s.frame.fits g) = true then taken (s.takeMachine g) else refuse s .range := by
  unfold serveMachine
  rw [hc, hb]
  cases machineRight g <;> cases s.frame.fits g <;> rfl

end Serve

/-- The state in which a MACHINE group changes the head count. -/
def State.machineSet (s : State) (g : MachineGroup) : State :=
  (s.setCfg { s.cfg with machine := g, machineSet := true }).setFrame { s.frame with
    x := s.frame.x.rescaled s.cfg.machine.kX g.kX, y := s.frame.y.rescaled s.cfg.machine.kY g.kY }

theorem State.takeMachine_eq (s : State) (g : MachineGroup) : s.takeMachine g =
    (((s.machineSet g).changeHeadCount s.cfg.machine.headCount g.headCount).leaveUnconfigured).finish := rfl

theorem FrameDrive.homingHeld_congr {f f' : FrameDrive} (hh : f'.homing = f.homing) (hs : f'.stitch = f.stitch) :
    f'.homingHeld = f.homingHeld := by
  unfold FrameDrive.homingHeld
  rw [hh, hs]

/-- Settles O43: the checks by their conjuncts, the head count head by head. -/
theorem machineGroupTaken : Obligations.MachineGroupTaken := by
  intro s tag g hh hshapes run open_ position right old scaled
  have hopen : open_ ↔ s.configurable = true := s.configurable_iff.symm
  have hright : (machineRight g && s.frame.fits g) = true ↔ right := by
    rw [Bool.and_eq_true, machineRight_iff, FrameDrive.fits_iff]
    simp only [right, position, and_assoc]
  refine ⟨fun h => ?_, fun h hb hr => ?_, fun h hb hr hq hp hx hy => ?_⟩
  · refine congrArg _ (State.takeAddressed_refused s tag _ .busy hh
      (serveMachine_of_busy (s := s.setLink (s.link.reserve tag)) ?_))
    exact h.imp_left (fun h => Bool.eq_false_iff.2 (mt hopen.2 h))
  · refine congrArg _ (State.takeAddressed_refused s tag _ .range hh ?_)
    rw [serveMachine_of_open (s := s.setLink (s.link.reserve tag)) (hopen.1 h) hb]
    exact if_neg (mt hright.1 hr)
  · let r := s.setLink (s.link.reserve tag)
    let m := r.machineSet g
    let v := m.changeHeadCount old.headCount g.headCount
    have hroomy : m.roomy := State.roomy_of_shapes (s := s) hshapes
    obtain ⟨-, hbare, hframe, hshaft, hcfg, hceiling, hreplies⟩ :=
      State.changeHeadCount_countKeeps hroomy hp old.headCount g.headCount
    obtain ⟨hstate, hact, -, -, hmain, -⟩ := Run.fields_of_bare hbare
    obtain ⟨hqact, hqrun, hqstop, hqtravel, hqhome⟩ := s.quiet_iff.1 hq
    have hstate' : v.leaveUnconfigured.run.state = if s.run.state = .unconfigured ∧ s.cfg.speedsSet = true ∧
        s.cfg.tableLoaded = true then .idle else s.run.state := by
      rw [State.leaveUnconfigured_eq]
      show (if v.run.state = .unconfigured ∧ v.cfg.machineSet = true ∧ v.cfg.speedsSet = true ∧ v.cfg.tableLoaded = true
        then _ else v.run.state) = _
      rw [hstate, hcfg]
      show (if s.run.state = .unconfigured ∧ true = true ∧ s.cfg.speedsSet = true ∧ s.cfg.tableLoaded = true
        then _ else s.run.state) = _
      simp only [true_and]
    have hquiet : v.leaveUnconfigured.quiet = true := by
      rw [State.quiet_iff, hstate', State.leaveUnconfigured_eq]
      show v.run.activity = .none ∧ _ ∧ _ ∧ v.frame.travel = none ∧ v.frame.homingHeld = true
      rw [hact, hframe]
      refine ⟨hqact, ?_, ?_, hqtravel, (FrameDrive.homingHeld_congr rfl rfl).trans hqhome⟩
      · split
        · exact RunState.noConfusion
        · exact hqrun
      · split
        · exact RunState.noConfusion
        · exact hqstop
    have hserve : serveMachine g r = (v.leaveUnconfigured.pump, some ⟨.ok, []⟩) := by
      rw [serveMachine_of_open (s := r) (hopen.1 h) hb]
      refine (if_pos (hright.2 hr)).trans ?_
      show (r.takeMachine g, _) = _
      rw [State.takeMachine_eq]
      exact congrArg (·, _) (State.finish_quiet _ hquiet)
    have hvlink : v.leaveUnconfigured.pump.link = v.link := by
      rw [State.pump_link, State.leaveUnconfigured_eq]
      rfl
    refine ⟨_, congrArg _ (State.takeAddressed_existential s v.leaveUnconfigured.pump tag _ .ok [] hh
      (by rw [hvlink]; exact hreplies) hserve), ?_⟩
    obtain ⟨hprun, -, hpgov, hpframe, hpshaft, -, hpmon, -, -, hpcfg, -⟩ := State.pump_keeps v.leaveUnconfigured
    have hleave := State.leaveUnconfigured_eq v
    refine ⟨?_, ?_, fun h hlow hhigh => ?_, ?_, ?_, ?_, ?_, rfl⟩
    · show v.leaveUnconfigured.pump.cfg = _
      rw [hpcfg, hleave]
      exact hcfg
    · show v.leaveUnconfigured.pump.frame = _
      rw [hpframe, hleave]
      show v.frame = _
      rw [hframe]
      have hmframe : m.frame = { s.frame with
          x := s.frame.x.rescaled old.kX g.kX, y := s.frame.y.rescaled old.kY g.kY } := rfl
      rw [hmframe, Axis.rescaled_of_onPath hx, Axis.rescaled_of_onPath hy]
    · have hhead : v.leaveUnconfigured.pump.headAt h = v.headAt h :=
        State.headAt_congr (by rw [hprun, hleave]; rfl) h
      have hwatch : v.leaveUnconfigured.pump.watchAt h = v.watchAt h :=
        State.watchAt_congr (by rw [hpmon, hleave]; rfl) h
      have hseen := State.changeHeadCount_seen hroomy hp old.headCount g.headCount hlow hhigh
      rw [← hhead, ← hwatch] at hseen
      exact hseen
    · show v.leaveUnconfigured.pump.run.state = _
      rw [hprun, hstate']
    · show v.leaveUnconfigured.pump.run.mainCursor = _
      rw [hprun, hleave]
      exact hmain
    · show v.leaveUnconfigured.pump.gov.ceiling = _
      rw [hpgov, hleave]
      exact hceiling
    · show v.leaveUnconfigured.pump.shaft = _
      rw [hpshaft, hleave]
      exact hshaft

end Sys2Proof.Machine

/-!
PROOF. Pending needles written into the map (section 7.2), and SEW GAPS (section 9.2; O38).
-/

namespace Sys2Proof.Machine
set_option Elab.async false

/-! ## Entries written into the map (R116) -/

section Writes

variable {slot h : Nat}

/-- Entries that name another needle of the map leave this one. -/
theorem ThreadChange.mapAt_writes_other {l : List PendingNeedle} (hl : ∀ e ∈ l, e.slot ≠ slot ∨ e.head - 1 ≠ h - 1)
    (c : ThreadChange) : (l.foldl (fun c e => c.write e.slot e.head e.needle) c).mapAt slot h = c.mapAt slot h := by
  induction l generalizing c with
  | nil => rfl
  | cons e l ih =>
    rw [List.foldl_cons, ih (fun x hx => hl x (List.mem_cons_of_mem _ hx))]
    exact ThreadChange.mapAt_write_other c _ ((hl e List.mem_cons_self).imp Ne.symm Ne.symm)

theorem ThreadChange.Wide.writes {c : ThreadChange} (hc : c.Wide) (l : List PendingNeedle) :
    (l.foldl (fun c e => c.write e.slot e.head e.needle) c).Wide := by
  induction l generalizing c with
  | nil => exact hc
  | cons e l ih => exact ih (hc.write _ _ _)

/-- Entries that all write one needle into this place of the map. -/
theorem ThreadChange.mapAt_writes_same {l : List PendingNeedle} {needle : Nat} (hs : slot ≤ 63) (hlow : 1 ≤ h)
    (hhigh : h ≤ 8) (hl : ∀ e ∈ l, e.slot = slot → e.head - 1 = h - 1 → e.head = h ∧ e.needle = needle)
    {c : ThreadChange} (hc : c.Wide) (hsome : c.mapAt slot h = needle ∨ ∃ e ∈ l, e.slot = slot ∧ e.head = h) :
    (l.foldl (fun c e => c.write e.slot e.head e.needle) c).mapAt slot h = needle := by
  induction l generalizing c with
  | nil => exact hsome.resolve_right (by simp)
  | cons e l ih =>
    rw [List.foldl_cons]
    refine ih (fun x hx => hl x (List.mem_cons_of_mem _ hx)) (hc.write _ _ _) ?_
    by_cases he : e.slot = slot ∧ e.head - 1 = h - 1
    · obtain ⟨hhead, hneedle⟩ := hl e List.mem_cons_self he.1 he.2
      rw [he.1, hhead, hneedle]
      exact .inl (ThreadChange.mapAt_write_same hc _ hs hlow hhigh)
    · rcases hsome with hm | ⟨x, hx, hxs, hxh⟩
      · left
        rw [ThreadChange.mapAt_write_other c _ (by
          by_cases h1 : slot = e.slot
          · exact .inr fun h2 => he ⟨h1.symm, h2.symm⟩
          · exact .inl h1), hm]
      · rcases List.mem_cons.1 hx with rfl | hx
        · exact absurd ⟨hxs, by rw [hxh]⟩ he
        · exact .inr ⟨x, hx, hxs, hxh⟩

theorem ThreadChange.apply_waiting (c : ThreadChange) (p : PendingNeedle → Bool) :
    (c.apply p).waiting = c.waiting.filter (fun e => !p e) := rfl

theorem ThreadChange.apply_mapAt (c : ThreadChange) (p : PendingNeedle → Bool) : (c.apply p).mapAt slot h =
    ((c.waiting.filter p).foldl (fun c e => c.write e.slot e.head e.needle) c).mapAt slot h := rfl

theorem ThreadChange.Wide.apply {c : ThreadChange} (hc : c.Wide) (p : PendingNeedle → Bool) : (c.apply p).Wide :=
  hc.writes (c.waiting.filter p)

end Writes

/-! ## The pending entries of every head (R116) -/

/-- Is the entry for the slot that its head sews for? -/
def State.stillPending (s : State) (p : PendingNeedle) : Bool := s.engagedHead p.head && p.slot == s.sewsFor p.head

/-- The entries of one head, but those that still wait, written. -/
def ThreadChange.writeFor (still : PendingNeedle → Bool) (c : ThreadChange) (h : Nat) : ThreadChange :=
  c.apply (fun p => p.head == h && !still p)

theorem State.writePending_eq (s : State) (h : Nat) : s.writePending h = s.setChange (ThreadChange.writeFor s.stillPending s.change h) := by
  unfold State.writePending ThreadChange.writeFor
  congr 2
  funext p
  by_cases hp : p.head = h
  · rw [← hp]
    rfl
  · rw [beq_false_of_ne hp]
    rfl

theorem State.writePendings_eq (s : State) : s.writePendings = s.setChange (headNumbers.foldl (ThreadChange.writeFor s.stillPending) s.change) := by
  have hfold : ∀ (l : List Nat) (c : ThreadChange),
      l.foldl State.writePending (s.setChange c) = s.setChange (l.foldl (ThreadChange.writeFor s.stillPending) c) := by
    intro l
    induction l with
    | nil => exact fun _ => rfl
    | cons h l ih =>
      intro c
      have hstep : (s.setChange c).writePending h = s.setChange (ThreadChange.writeFor s.stillPending c h) :=
        State.writePending_eq (s.setChange c) h
      rw [List.foldl_cons, List.foldl_cons, hstep, ih]
  exact hfold headNumbers s.change

theorem ThreadChange.SameWork.eq {c d : ThreadChange} (h : c.SameWork d) :
    c = { d with map := c.map, waiting := c.waiting } := by
  obtain ⟨h1, h2, h3, h4⟩ := h
  cases c
  cases d
  dsimp only at h1 h2 h3 h4
  subst h1 h2 h3 h4
  rfl

theorem ThreadChange.writeFor_keeps (still : PendingNeedle → Bool) (l : List Nat) (c : ThreadChange) : (l.foldl (ThreadChange.writeFor still) c).SameWork c := by
  induction l generalizing c with
  | nil => exact ⟨rfl, rfl, rfl, rfl⟩
  | cons h l ih =>
    obtain ⟨h1, h2, h3, h4⟩ := ih (ThreadChange.writeFor still c h)
    have hone : ThreadChange.writeFor still c h = { c with map := (ThreadChange.writeFor still c h).map, waiting := (ThreadChange.writeFor still c h).waiting } :=
      ThreadChange.apply_keeps c _
    rw [List.foldl_cons]
    exact ⟨h1.trans (by rw [hone]), h2.trans (by rw [hone]), h3.trans (by rw [hone]), h4.trans (by rw [hone])⟩

theorem ThreadChange.writeFor_waiting (still : PendingNeedle → Bool) (l : List Nat) (c : ThreadChange) :
    (l.foldl (ThreadChange.writeFor still) c).waiting = c.waiting.filter (fun p => !l.contains p.head || still p) := by
  induction l generalizing c with
  | nil => simp
  | cons h l ih =>
    rw [List.foldl_cons, ih]
    show List.filter _ (c.waiting.filter _) = _
    rw [List.filter_filter]
    refine congrArg (List.filter · c.waiting) (funext fun p => ?_)
    rw [List.contains_cons]
    show ((!l.contains p.head || still p) && !(p.head == h && !still p)) = _
    cases p.head == h <;> cases l.contains p.head <;> cases still p <;> rfl

theorem ThreadChange.Wide.writeFor {still : PendingNeedle → Bool} {c : ThreadChange} (hc : c.Wide) (l : List Nat) :
    (l.foldl (ThreadChange.writeFor still) c).Wide := by
  induction l generalizing c with
  | nil => exact hc
  | cons h l ih => exact ih (hc.apply _)

/-- The entries of other heads leave a head's needles. -/
theorem ThreadChange.mapAt_writeFor_other (still : PendingNeedle → Bool) {slot h : Nat} (hlow : 1 ≤ h) {l : List Nat}
    (hl : ∀ x ∈ l, 1 ≤ x ∧ x ≠ h) (c : ThreadChange) : (l.foldl (ThreadChange.writeFor still) c).mapAt slot h = c.mapAt slot h := by
  induction l generalizing c with
  | nil => rfl
  | cons x l ih =>
    obtain ⟨hx, hne⟩ := hl x List.mem_cons_self
    rw [List.foldl_cons, ih (fun y hy => hl y (List.mem_cons_of_mem _ hy)), ThreadChange.writeFor, ThreadChange.apply_mapAt]
    refine ThreadChange.mapAt_writes_other (fun e he => .inr ?_) c
    have := (Bool.and_eq_true_iff.1 (List.mem_filter.1 he).2).1
    rw [beq_iff_eq] at this
    omega

/-- The entries for one needle are written together, or wait on together. -/
theorem ThreadChange.writes_at {still : PendingNeedle → Bool}
    (hpending : ∀ p q : PendingNeedle, p.slot = q.slot → p.head = q.head → still p = still q) {c : ThreadChange}
    (hc : c.Wide) {slot h : Nat} (hs : slot < 64) (hlow : 1 ≤ h)
    (hhigh : h ≤ 8) :
    ((headNumbers.foldl (ThreadChange.writeFor still) c).waitingFor slot h = c.waitingFor slot h →
      (headNumbers.foldl (ThreadChange.writeFor still) c).mapAt slot h = c.mapAt slot h) ∧
    (∀ needle, c.waitingFor slot h = some needle → (headNumbers.foldl (ThreadChange.writeFor still) c).waitingFor slot h = none →
      (∀ p ∈ c.waiting, p.slot = slot → p.head = h → p.needle = needle) →
      (headNumbers.foldl (ThreadChange.writeFor still) c).mapAt slot h = needle) := by
  obtain ⟨front, back, hsplit, hfront, hback⟩ := headNumbers_split hlow hhigh
  let before := front.foldl (ThreadChange.writeFor still) c
  have hbefore : before.mapAt slot h = c.mapAt slot h := ThreadChange.mapAt_writeFor_other still hlow hfront c
  have hwide : before.Wide := hc.writeFor front
  have hwaits : before.waiting = c.waiting.filter (fun p => !front.contains p.head || still p) :=
    ThreadChange.writeFor_waiting still front c
  have hnotin : front.contains h = false := by
    rw [Bool.eq_false_iff, ne_eq, List.contains_iff_mem]
    exact fun hm => (hfront h hm).2 rfl
  have hmap : (headNumbers.foldl (ThreadChange.writeFor still) c).mapAt slot h = (ThreadChange.writeFor still before h).mapAt slot h := by
    rw [hsplit, List.foldl_append, List.foldl_cons]
    exact ThreadChange.mapAt_writeFor_other still hlow hback _
  have hhead : headNumbers.contains h = true := by
    rw [List.contains_iff_mem]
    exact (mem_headNumbers h).2 ⟨hlow, hhigh⟩
  have hwaiting : (headNumbers.foldl (ThreadChange.writeFor still) c).waiting =
      c.waiting.filter (fun p => !headNumbers.contains p.head || still p) :=
    ThreadChange.writeFor_waiting still headNumbers c
  replace hpending : ∀ p : PendingNeedle, p.slot = slot → p.head = h → still p = still ⟨slot, h, 0⟩ := fun p hs hh =>
    hpending p ⟨slot, h, 0⟩ hs hh
  by_cases hstill : still ⟨slot, h, 0⟩ = true
  · have hsame : (ThreadChange.writeFor still before h).mapAt slot h = before.mapAt slot h := by
      rw [ThreadChange.writeFor, ThreadChange.apply_mapAt]
      refine ThreadChange.mapAt_writes_other (fun e he => ?_) before
      obtain ⟨hh, hn⟩ := Bool.and_eq_true_iff.1 (List.mem_filter.1 he).2
      rw [beq_iff_eq] at hh
      left
      intro hes
      rw [hpending e hes hh, hstill] at hn
      cases hn
    refine ⟨fun _ => by rw [hmap, hsame, hbefore], fun needle hsome hnone _ => ?_⟩
    exfalso
    unfold ThreadChange.waitingFor at hsome hnone
    rw [Option.map_eq_none_iff, List.find?_eq_none, hwaiting] at hnone
    obtain ⟨p, hp, -⟩ := Option.map_eq_some_iff.1 hsome
    have hps := List.find?_some hp
    have hsh : p.slot = slot ∧ p.head = h := by simpa using hps
    refine hnone p (List.mem_filter.2 ⟨List.mem_of_find?_eq_some hp, ?_⟩) hps
    rw [hpending p hsh.1 hsh.2, hstill, Bool.or_true]
  · have hstill' : still ⟨slot, h, 0⟩ = false := Bool.eq_false_iff.2 hstill
    have hnone : (headNumbers.foldl (ThreadChange.writeFor still) c).waitingFor slot h = none := by
      unfold ThreadChange.waitingFor
      rw [Option.map_eq_none_iff, List.find?_eq_none, hwaiting]
      intro p hp hps
      have hsh : p.slot = slot ∧ p.head = h := by simpa using hps
      have hkept := (List.mem_filter.1 hp).2
      rw [hpending p hsh.1 hsh.2, hstill', hsh.2, hhead] at hkept
      cases hkept
    refine ⟨fun heq => ?_, fun needle hsome _ hall => ?_⟩
    · rw [hmap, ThreadChange.writeFor, ThreadChange.apply_mapAt, ← hbefore]
      refine ThreadChange.mapAt_writes_other (fun e he => ?_) before
      obtain ⟨hmem, hcond⟩ := List.mem_filter.1 he
      obtain ⟨hh, -⟩ := Bool.and_eq_true_iff.1 hcond
      rw [beq_iff_eq] at hh
      left
      intro hes
      rw [hnone] at heq
      unfold ThreadChange.waitingFor at heq
      have hno := List.find?_eq_none.1 (Option.map_eq_none_iff.1 heq.symm) e (by
        rw [hwaits] at hmem
        exact (List.mem_filter.1 hmem).1)
      exact hno (by rw [hes, hh]; simp)
    · rw [hmap, ThreadChange.writeFor, ThreadChange.apply_mapAt]
      refine ThreadChange.mapAt_writes_same (by omega) hlow hhigh (fun e he hes heh => ?_) hwide (.inr ?_)
      · obtain ⟨hmem, hcond⟩ := List.mem_filter.1 he
        have hh := (Bool.and_eq_true_iff.1 hcond).1
        rw [beq_iff_eq] at hh
        rw [hwaits] at hmem
        exact ⟨hh, hall e (List.mem_filter.1 hmem).1 hes hh⟩
      · obtain ⟨p, hp, -⟩ := Option.map_eq_some_iff.1 (show c.waitingFor slot h = some needle from hsome)
        have hsh : p.slot = slot ∧ p.head = h := by simpa using List.find?_some hp
        refine ⟨p, List.mem_filter.2 ⟨?_, ?_⟩, hsh⟩
        · rw [hwaits]
          refine List.mem_filter.2 ⟨List.mem_of_find?_eq_some hp, ?_⟩
          rw [hsh.2, hnotin]
          rfl
        · rw [hpending p hsh.1 hsh.2, hstill', hsh.2]
          simp

theorem State.writePendings_at (s : State) (hc : s.change.Wide) {slot h : Nat} (hs : slot < 64) (hlow : 1 ≤ h)
    (hhigh : h ≤ 8) :
    (s.writePendings.change.waitingFor slot h = s.change.waitingFor slot h →
      s.writePendings.change.mapAt slot h = s.change.mapAt slot h) ∧
    (∀ needle, s.change.waitingFor slot h = some needle → s.writePendings.change.waitingFor slot h = none →
      (∀ p ∈ s.change.waiting, p.slot = slot → p.head = h → p.needle = needle) →
      s.writePendings.change.mapAt slot h = needle) := by
  rw [State.writePendings_eq]
  refine ThreadChange.writes_at (fun p q hslot hhead => ?_) hc hs hlow hhigh
  unfold State.stillPending
  rw [hslot, hhead]

end Sys2Proof.Machine

/-!
PROOF. SEW GAPS (section 9.2; O38).
-/

namespace Sys2Proof.Machine
set_option Elab.async false

/-! ## Its conditions in their order (R150) -/

theorem State.selectable_iff (s : State) (g : Gap) : s.selectable g = true ↔ g.state = .closed ∧
    (s.headAt g.head).state ≠ .off ∧ (s.headAt g.head).state ≠ .lost ∧ (s.watchAt g.head).fault = none := by
  simp [State.selectable, and_assoc]

theorem State.firstSelectable_of_none {s : State} (h : ∀ g ∈ s.gaps, ¬ s.selectable g = true) : s.firstSelectable = none := by
  have hnone : s.gaps.filter s.selectable = [] := List.filter_eq_nil_iff.2 h
  unfold State.firstSelectable
  rw [hnone]
  rfl

theorem State.firstSelectable_of_some {s : State} {start : Nat} (h : ∃ g ∈ s.gaps, s.selectable g = true ∧ g.start = start)
    (hmin : ∀ g ∈ s.gaps, s.selectable g = true → start ≤ g.start) : s.firstSelectable = some start := by
  unfold State.firstSelectable
  rw [List.min?_eq_some_iff]
  refine ⟨?_, fun b hb => ?_⟩
  · obtain ⟨g, hg, hs, rfl⟩ := h
    exact List.mem_map_of_mem (List.mem_filter.2 ⟨hg, hs⟩)
  · obtain ⟨g, hg, rfl⟩ := List.mem_map.1 hb
    exact hmin g (List.mem_filter.1 hg).1 (List.mem_filter.1 hg).2

theorem State.firstGapSewable_iff (s : State) (start : Nat) : s.firstGapSewable start = true ↔
    ∃ g ∈ s.gaps, s.selectable g = true ∧ g.start = start ∧ s.change.needle g.colour g.head ≠ 0 := by
  simp [State.firstGapSewable, and_assoc]

section Serve

variable {s : State}

/-- The states in which SEW GAPS is looked at. -/
def State.mayPatch (s : State) : Prop := (s.run.state = .paused ∧ s.run.pass = .main) ∨ s.run.state = .finished

theorem serveSewGaps_of_busy (h : ¬ s.mayPatch ∨ s.shaft.state = .referencing ∨ s.run.mode = .single) :
    serveSewGaps s = refuse s .busy := by
  have hcheck : s.sewGapsCheck = .error .busy := by
    unfold State.sewGapsCheck
    by_cases hb : (!((s.run.state == .paused && s.run.pass == .main) || s.run.state == .finished) ||
        s.shaft.state == .referencing) = true
    · rw [if_pos hb]
    · rw [if_neg hb]
      refine if_pos ?_
      rcases h with h | h | h
      · unfold State.mayPatch at h
        refine absurd ?_ hb
        simp at h ⊢
        exact .inl ⟨imp_iff_not_or.1 h.1, h.2⟩
      · exact absurd (by simp [h]) hb
      · exact h
  rw [serveSewGaps, hcheck]

variable (hm : s.mayPatch) (hr : s.shaft.state ≠ .referencing) (hmode : s.run.mode ≠ .single)
include hm hr hmode

theorem sewGapsCheck_of_open : s.sewGapsCheck = match s.firstSelectable with
    | none => .error .nothingToDo
    | some start =>
      if !s.frame.referenced then .error .notReferenced
      else if s.heldFault then .error .faultPending
      else if !(s.firstGapSewable start) then .error .notConfigured
      else if s.outOfBounds start then .error .range
      else .ok start := by
  have hopen : ¬ (!((s.run.state == .paused && s.run.pass == .main) || s.run.state == .finished) ||
      s.shaft.state == .referencing) = true := by
    rw [Bool.or_eq_true, Bool.not_eq_true', beq_iff_eq]
    rintro (h | h)
    · unfold State.mayPatch at hm
      simp at h
      rcases hm with ⟨h1, h2⟩ | h1
      · exact h.1 h1 h2
      · exact h.2 h1
    · exact hr h
  exact (if_neg hopen).trans (if_neg hmode)

theorem serveSewGaps_of_nothing (h : s.firstSelectable = none) : serveSewGaps s = refuse s .nothingToDo := by
  rw [serveSewGaps, sewGapsCheck_of_open hm hr hmode, h]

variable {start : Nat} (hstart : s.firstSelectable = some start)
include hstart

theorem serveSewGaps_of_unreferenced (h : s.frame.x.referenced = false ∨ s.frame.y.referenced = false) :
    serveSewGaps s = refuse s .notReferenced := by
  rw [serveSewGaps, sewGapsCheck_of_open hm hr hmode, hstart]
  dsimp only
  rw [if_pos (by rcases h with h | h <;> simp [FrameDrive.referenced, h])]

theorem serveSewGaps_of_referenced (hx : s.frame.x.referenced = true) (hy : s.frame.y.referenced = true) :
    serveSewGaps s = if s.heldFault then refuse s .faultPending
      else if !(s.firstGapSewable start) then refuse s .notConfigured
      else if s.outOfBounds start then refuse s .range
      else taken (s.beginPatch start) := by
  rw [serveSewGaps, sewGapsCheck_of_open hm hr hmode, hstart]
  dsimp only
  rw [if_neg (by simp [FrameDrive.referenced, hx, hy])]
  cases s.heldFault <;> cases s.firstGapSewable start <;> cases s.outOfBounds start <;> rfl

end Serve

/-! ## The pass that begins -/

/-- The gaps selected, and the run in the pass, its cursor not placed yet (R150). -/
def State.patchSelected (s : State) : State :=
  (s.setGaps (s.gaps.map (fun g => if s.selectable g then { g with state := .sewing } else g))).setRun { s.run with
    pass := .patch, patchCursor := none, passReturn := some s.run.state, state := .paused, patchSewn := 0, point := none }

theorem State.beginPatch_eq (s : State) (start : Nat) :
    s.beginPatch start = ((s.patchSelected.movePatch start).writePendings).beginStart 2 false false := rfl

/-- A patch cursor that moves: the store follows it, and a release evaluation is made when it leaves its block (R46). -/
theorem State.movePatch_blocks (s : State) (i : Nat) : (s.movePatch i).run = { s.run with patchCursor := some i } ∧
    (s.movePatch i).gov = s.gov ∧ (s.movePatch i).frame = s.frame ∧ (s.movePatch i).shaft = s.shaft ∧
    (s.movePatch i).bus = s.bus ∧ (s.movePatch i).change = s.change ∧ (s.movePatch i).monitor = s.monitor ∧
    (s.movePatch i).gaps = s.gaps ∧ (s.movePatch i).cfg = s.cfg ∧ (s.movePatch i).link.SameButGrant s.link := by
  unfold State.movePatch
  dsimp only
  split
  · refine ⟨by simp [State.refreshSlots], by simp [State.refreshSlots], by simp [State.refreshSlots],
      by simp [State.refreshSlots], by simp [State.refreshSlots], by simp [State.refreshSlots],
      by simp [State.refreshSlots], by simp [State.refreshSlots], by simp [State.refreshSlots], ?_⟩
    exact State.release_link _
  · exact ⟨rfl, rfl, rfl, rfl, rfl, rfl, rfl, rfl, rfl, s.link.grant, rfl⟩

/-- The selected gaps, place by place. -/
theorem State.patchSelected_gaps (s : State) : s.patchSelected.gaps.length = s.gaps.length ∧
    ∀ (i : Nat) (g : Gap), s.gaps[i]? = some g →
      (s.selectable g = true → s.patchSelected.gaps[i]? = some { g with state := .sewing }) ∧
      (¬ s.selectable g = true → s.patchSelected.gaps[i]? = some g) := by
  have hgaps : s.patchSelected.gaps = s.gaps.map (fun g => if s.selectable g then { g with state := .sewing } else g) := rfl
  refine ⟨by rw [hgaps, List.length_map], fun i g hi => ?_⟩
  rw [hgaps, List.getElem?_map, hi, Option.map_some]
  exact ⟨fun h => by rw [if_pos h], fun h => by rw [if_neg h]⟩

/-- The slot that a head sews for once the patch cursor stands at `start` (R115, log 70). -/
theorem State.movePatch_sewsFor (s : State) (start h : Nat) : (s.movePatch start).sewsFor h =
    ((s.movePatch start).stampAt (if (s.headAt h).state = .patch then start else s.run.mainCursor)).colour := by
  unfold State.sewsFor State.headCursor
  have hrun := (s.movePatch_blocks start).1
  rw [State.headAt_congr (s := s.movePatch start) (t := s) (by rw [hrun]), hrun]
  rfl

/-- The stamps at an index are those of the design store. -/
theorem State.stampAt_congr {s t : State} (hs : s.store = t.store) (hc : s.cfg = t.cfg) (i : Nat) :
    s.stampAt i = t.stampAt i := by
  unfold State.stampAt State.tailStamp State.firstStamp
  rw [hs, hc]

theorem State.setLink_stampAt (s : State) (l : Link) (i : Nat) : (s.setLink l).stampAt i = s.stampAt i := rfl

theorem headNumbers_contains (h : Nat) : headNumbers.contains h = (decide (1 ≤ h) && decide (h ≤ 8)) := by
  rw [Bool.eq_iff_iff, List.contains_iff_mem, mem_headNumbers, Bool.and_eq_true, decide_eq_true_eq, decide_eq_true_eq]

theorem ThreadChange.wide_of_shapes {s : State} (h : s.shapesRight = true) : s.change.Wide := by
  obtain ⟨-, -, -, -, hmap, hrows, -⟩ := s.shapesRight_iff.1 h
  exact ⟨hmap, hrows⟩

/-- What SEW GAPS leaves, block by block. -/
theorem State.beginPatch_blocks (s : State) (start : Nat) :
    ∃ c : ThreadChange, c = ((s.patchSelected.movePatch start).writePendings).change ∧
    (s.beginPatch start).run = { s.run with
      state := .arming, pass := .patch, patchCursor := some start, passReturn := some s.run.state, cause := none
      startReturn := some .paused, warning := true, activity := .hold, startValue := 2, stepping := false
      stepDone := false, keepTieIn := false, patchDone := some start, patchSewn := 0, point := none } ∧
    (s.beginPatch start).change = c ∧ (s.beginPatch start).gaps = s.patchSelected.gaps ∧
    (s.beginPatch start).store = (s.patchSelected.movePatch start).store ∧
    (s.beginPatch start).frame = s.frame ∧ (s.beginPatch start).shaft = s.shaft ∧ (s.beginPatch start).bus = s.bus ∧
    (s.beginPatch start).monitor = s.monitor ∧ (s.beginPatch start).gov = s.gov ∧ (s.beginPatch start).cfg = s.cfg ∧
    (s.beginPatch start).link.SameButGrant s.link := by
  obtain ⟨hrun, hgov, hframe, hshaft, hbus, hchange, hmonitor, hgaps, hcfg, hlink⟩ := s.patchSelected.movePatch_blocks start
  refine ⟨_, rfl, ?_⟩
  rw [State.beginPatch_eq, State.writePendings_eq, State.beginStart_eq]
  generalize s.patchSelected.movePatch start = u at *
  rw [if_neg (by rw [State.setChange_run, hrun]; simp [State.patchSelected])]
  refine ⟨?_, rfl, hgaps, rfl, hframe, hshaft, hbus, hmonitor, hgov, hcfg, hlink⟩
  simp [hrun, State.patchSelected]

theorem exec_sewGaps_addressed (s : State) (tag : Byte) :
    exec (.sewGaps (.addressed tag)) s = .next (s.takeAddressed tag serveSewGaps) := rfl

/-- Settles O38: SEW GAPS looks at its conditions in R150's order and, taken, selects the gaps, moves the patch cursor
to the first of them, and takes a RESUME. -/
theorem sewGapsBeginsThePass : Obligations.SewGapsBeginsThePass := by
  intro s tag hh run may selectable
  have hrun : run = .next (s.takeAddressed tag serveSewGaps) := rfl
  let r := s.setLink (s.link.reserve tag)
  have hrefuse : ∀ c, serveSewGaps r = refuse r c → run = .next (s.replied tag c []) := fun c hc =>
    hrun.trans (congrArg _ (State.takeAddressed_refused s tag serveSewGaps c hh hc))
  have hsel : ∀ g, selectable g ↔ s.selectable g = true := fun g => (s.selectable_iff g).symm
  simp only [hsel]
  refine ⟨fun h => hrefuse _ (serveSewGaps_of_busy h), fun hm hr hmode => ⟨fun h => hrefuse _ ?_, fun start hsome hmin => ?_⟩⟩
  · exact serveSewGaps_of_nothing (s := r) hm hr hmode (State.firstSelectable_of_none h)
  have hstart : r.firstSelectable = some start := State.firstSelectable_of_some (s := r) hsome hmin
  refine ⟨fun h => hrefuse _ (serveSewGaps_of_unreferenced (s := r) hm hr hmode hstart h), fun hx hy => ?_⟩
  have hserve := serveSewGaps_of_referenced (s := r) hm hr hmode hstart hx hy
  have hheld : r.heldFault = s.heldFault := rfl
  have hout : r.outOfBounds start = s.outOfBounds start := rfl
  rw [hheld, hout] at hserve
  have hsewable : (∃ g ∈ s.gaps, s.selectable g = true ∧ g.start = start ∧ s.change.needle g.colour g.head ≠ 0) ↔
      r.firstGapSewable start = true := (State.firstGapSewable_iff s start).symm
  refine ⟨fun h => hrefuse _ ?_, fun h hn => hrefuse _ ?_, fun h hs ho => hrefuse _ ?_, fun h hs ho => ?_⟩
  · rw [hserve, if_pos h]
  · rw [hserve, if_neg (by simp [h]), if_pos (by rw [hsewable] at hn; simpa using hn)]
  · rw [hserve, if_neg (by simp [h]), if_neg (by simp [hsewable.1 hs]),
      if_pos ho]
  rw [if_neg (by simp [h]), if_neg (by simp [hsewable.1 hs]),
    if_neg (by simp [ho])] at hserve
  obtain ⟨c, hc, hbrun, hbchange, hbgaps, hbstore, hbframe, hbshaft, hbbus, hbmonitor, hbgov, hbcfg, hblink⟩ :=
    r.beginPatch_blocks start
  have hsame := r.patchSelected.movePatch_blocks start
  obtain ⟨hsrun, -, -, -, -, hschange, -, -, hscfg, -⟩ := hsame
  have hschange' : (r.patchSelected.movePatch start).change = s.change := hschange
  have hwaiting : c.waiting = s.change.waiting.filter (fun p => !headNumbers.contains p.head ||
      (r.patchSelected.movePatch start).stillPending p) := by
    rw [hc, State.writePendings_eq, ← hschange']
    exact ThreadChange.writeFor_waiting _ _ _
  have hengaged : ∀ h, (r.patchSelected.movePatch start).engagedHead h = s.engagedHead h := fun h => by
    unfold State.engagedHead
    rw [State.headAt_congr (s := r.patchSelected.movePatch start) (t := s) (by rw [hsrun]; rfl)]
  refine ⟨(r.beginPatch start).setLink
    { (r.beginPatch start).link with replies := s.link.replies ++ [⟨tag, some ⟨.ok, []⟩⟩] },
    hrun.trans (congrArg _ (State.takeAddressed_existential s _ tag serveSewGaps .ok [] hh hblink.replies hserve)),
    hbrun, ?_, ?_, ?_, ?_, ?_, hbframe, hbshaft, hbbus, hbmonitor, hbgov, hbcfg, hblink.events, rfl⟩
  · rw [State.setLink_gaps, hbgaps]
    exact r.patchSelected_gaps.1
  · rw [State.setLink_gaps, hbgaps]
    exact r.patchSelected_gaps.2
  · rw [State.setLink_change, hbchange, hwaiting]
    refine List.filter_congr fun p _ => ?_
    rw [headNumbers_contains, State.stillPending, State.movePatch_sewsFor, hengaged, State.setLink_stampAt,
      State.stampAt_congr (s := r.beginPatch start) (t := r.patchSelected.movePatch start) hbstore (by rw [hbcfg, hscfg]; rfl)]
    rfl
  · intro slot h hshapes hslot hlow hhigh
    rw [State.setLink_change, hbchange, hc, ← hschange']
    refine State.writePendings_at _ ?_ hslot hlow hhigh
    rw [hschange']
    exact ThreadChange.wide_of_shapes hshapes
  · rw [State.setLink_change, hbchange, hc, State.writePendings_eq]
    exact ((ThreadChange.writeFor_keeps _ _ _).eq).trans (by rw [hschange]; rfl)

end Sys2Proof.Machine

/-!
PROOF. Release evaluations of one state after another, and what ABANDON GAP leaves of the Gap Table (rules 41, 45, 149,
155).
-/

namespace Sys2Proof.Machine
set_option Elab.async false

/-! ## Pacing in two steps is pacing at once (R41, R42) -/

/-- The blocks that a pacing evaluation grants while the design is OPEN (R41). -/
def State.dueBlocks (s : State) : Nat :=
  min (s.pacingTarget - s.store.granted) (s.store.freeCount - s.store.granted)

theorem State.pace_of_none {s : State} (h : s.store.design ≠ .loading ∨ s.dueBlocks = 0) : s.pace = s := by
  unfold State.pace
  split
  · next hl => exact if_pos (h.resolve_left (fun hn => hn hl))
  · rfl

theorem State.pace_of_due {s : State} (h : s.store.design = .loading) (hn : s.dueBlocks ≠ 0) :
    s.pace = s.grantBlocks s.dueBlocks := by
  unfold State.pace
  rw [if_pos h]
  exact if_neg hn

/-- The state with other slots. -/
def State.withSlots (s : State) (slots : List Slot) : State := s.setStore { s.store with slots := slots }

theorem State.releaseSlots_eq (s : State) : s.releaseSlots =
    s.withSlots (s.store.slots.map (fun sl => if s.releasable sl then Slot.empty else sl)) := rfl

theorem Store.freeCount_map_empty (slots : List Slot) (p : Slot → Bool) : slots.countP (fun sl => sl.state == .free) ≤
    (slots.map (fun sl => if p sl then Slot.empty else sl)).countP (fun sl => sl.state == .free) := by
  rw [List.countP_map]
  refine List.countP_mono_left fun sl _ hfree => ?_
  rw [Function.comp_apply]
  split
  · rfl
  · exact hfree

theorem State.grantBlocks_twice (s : State) (slots : List Slot) (n m : Nat) :
    ((s.grantBlocks n).withSlots slots).grantBlocks m = (s.withSlots slots).grantBlocks (n + m) := by
  have hmerge : ∀ seq, grantMerge (some (grantMerge s.link.grant seq n)) ((s.store.nextSeq + (s.store.granted + n)) % 65536) m =
      grantMerge s.link.grant seq (n + m) := fun seq => by
    cases s.link.grant with
    | none => rfl
    | some g => exact congrArg (Grant.mk g.seq) (Nat.add_assoc ..)
  unfold State.grantBlocks State.withSlots
  simp only [State.setStore, State.setLink, hmerge, Nat.add_assoc]

/-- A pacing before more slots are freed adds nothing to the one after (R41, R42). -/
theorem State.pace_absorb (s : State) (slots : List Slot)
    (hfree : s.store.freeCount ≤ slots.countP (fun sl => sl.state == .free)) :
    (s.pace.withSlots slots).pace = (s.withSlots slots).pace := by
  by_cases hnone : s.store.design ≠ .loading ∨ s.dueBlocks = 0
  · rw [State.pace_of_none hnone]
  rw [not_or, not_not] at hnone
  obtain ⟨hl, hn⟩ := hnone
  let v := (s.grantBlocks s.dueBlocks).withSlots slots
  have hfirst : s.dueBlocks = min (s.pacingTarget - s.store.granted) (s.store.freeCount - s.store.granted) := rfl
  have htotal : (s.withSlots slots).dueBlocks = min (s.pacingTarget - s.store.granted)
      (slots.countP (fun sl => sl.state == .free) - s.store.granted) := rfl
  have hrest : v.dueBlocks = min (s.pacingTarget - (s.store.granted + s.dueBlocks))
      (slots.countP (fun sl => sl.state == .free) - (s.store.granted + s.dueBlocks)) := rfl
  have hsum : (s.withSlots slots).dueBlocks = s.dueBlocks + v.dueBlocks := by omega
  rw [State.pace_of_due hl hn, State.pace_of_due (s := s.withSlots slots) hl (by omega), hsum]
  by_cases hzero : v.dueBlocks = 0
  · rw [State.pace_of_none (s := v) (.inr hzero), hzero]
    rfl
  · rw [State.pace_of_due (s := v) hl hzero]
    exact State.grantBlocks_twice s slots _ _

/-! ## A release under fewer gaps absorbs one under more (R45) -/

theorem State.pace_setGaps (s : State) (gaps : List Gap) : s.pace.setGaps gaps = (s.setGaps gaps).pace := by
  by_cases hnone : s.store.design ≠ .loading ∨ s.dueBlocks = 0
  · rw [State.pace_of_none hnone, State.pace_of_none (s := s.setGaps gaps) hnone]
  · rw [not_or, not_not] at hnone
    rw [State.pace_of_due hnone.1 hnone.2, State.pace_of_due (s := s.setGaps gaps) hnone.1 hnone.2]
    rfl

theorem State.release_of_none {s : State} (h : ∀ sl ∈ s.store.slots, ¬ s.releasable sl = true) : s.release = s :=
  if_neg (by rw [List.any_eq_true]; exact fun ⟨sl, hsl, hr⟩ => h sl hsl hr)

theorem State.release_of_some {s : State} (h : ∃ sl ∈ s.store.slots, s.releasable sl = true) :
    s.release = s.releaseSlots.pace := if_pos (List.any_eq_true.2 h)

theorem State.not_releasable_empty (s : State) : ¬ s.releasable Slot.empty = true := by
  simp [State.releasable, Slot.empty]

theorem State.release_absorb (s : State) {g1 g2 : List Gap}
    (hmono : ∀ sl, (s.setGaps g1).releasable sl = true → (s.setGaps g2).releasable sl = true) :
    ((s.setGaps g1).release.setGaps g2).release = (s.setGaps g2).release := by
  by_cases hnone : ∀ sl ∈ s.store.slots, ¬ (s.setGaps g1).releasable sl = true
  · rw [State.release_of_none (s := s.setGaps g1) hnone]
    rfl
  obtain ⟨sl, hsl, hr⟩ : ∃ sl ∈ s.store.slots, (s.setGaps g1).releasable sl = true := by simpa using hnone
  let b := s.setGaps g2
  let m1 := s.store.slots.map (fun sl => if (s.setGaps g1).releasable sl then Slot.empty else sl)
  let m2 := s.store.slots.map (fun sl => if b.releasable sl then Slot.empty else sl)
  have hm : m1.map (fun sl => if b.releasable sl then Slot.empty else sl) = m2 := by
    rw [List.map_map]
    refine List.map_congr_left fun sl _ => ?_
    rw [Function.comp_apply]
    by_cases h1 : (s.setGaps g1).releasable sl = true
    · rw [if_pos h1, if_neg (State.not_releasable_empty b), if_pos (hmono sl h1)]
    · rw [if_neg h1]
  have hb : b.release = (b.withSlots m2).pace := State.release_of_some (s := b) ⟨sl, hsl, hmono sl hr⟩
  have ha : (s.setGaps g1).release.setGaps g2 = (b.withSlots m1).pace := by
    rw [State.release_of_some (s := s.setGaps g1) ⟨sl, hsl, hr⟩, State.pace_setGaps]
    rfl
  rw [ha]
  refine Eq.trans ?_ hb.symm
  have hslots : (b.withSlots m1).pace.store.slots = m1 := State.pace_slots _
  have hrel : ∀ x, (b.withSlots m1).pace.releasable x = b.releasable x := fun x => by
    unfold State.releasable State.slotHeld
    obtain ⟨hrun, hgov, hframe, hshaft, hbus, hchange, hmonitor, hgaps, hcfg, hrest⟩ := (b.withSlots m1).pace_keeps
    rw [hrun, hgaps, hcfg]
    rfl
  by_cases hmore : ∃ x ∈ m1, b.releasable x = true
  · obtain ⟨x, hx, hxr⟩ := hmore
    rw [State.release_of_some ⟨x, hslots.symm ▸ hx, (hrel x).trans hxr⟩, State.releaseSlots_eq, hslots]
    simp only [hrel]
    rw [hm]
    refine State.pace_absorb _ m2 ?_
    rw [← hm]
    exact Store.freeCount_map_empty m1 b.releasable
  · have hmore : ∀ x ∈ m1, ¬ b.releasable x = true := fun x hx hr => hmore ⟨x, hx, hr⟩
    rw [State.release_of_none fun x hx => by rw [hrel x]; exact hmore x (hslots ▸ hx)]
    congr 2
    rw [← hm]
    refine ((List.map_congr_left fun x hx => ?_).trans (List.map_id _)).symm
    rw [if_neg (hmore x hx)]
    rfl

/-! ## The slots that may be freed do not carry the stamps at the cursor -/

/-- `t` is `s` with other gaps, links and grants and some RETAINED slots freed. -/
def State.FreedFrom (s t : State) : Prop := (∃ p : Slot → Bool, (∀ sl, p sl = true → sl.state = .retained) ∧
    t.store.slots = s.store.slots.map (fun sl => if p sl then Slot.empty else sl)) ∧
  t.store.tail = s.store.tail ∧ t.cfg = s.cfg ∧ t.run = s.run

theorem State.FreedFrom.refl (s : State) : s.FreedFrom s :=
  ⟨⟨fun _ => false, fun _ h => absurd h (by simp), by simp⟩, rfl, rfl, rfl⟩

theorem State.FreedFrom.setGaps {s t : State} (h : s.FreedFrom t) (gaps : List Gap) : s.FreedFrom (t.setGaps gaps) := h

theorem State.release_store (s : State) :
    s.release.store = { s.store with slots := s.release.store.slots, granted := s.release.store.granted } := by
  unfold State.release State.pace
  dsimp only
  split_ifs <;> rfl

theorem State.FreedFrom.release {s t : State} (h : s.FreedFrom t) : s.FreedFrom t.release := by
  obtain ⟨⟨p, hp, hslots⟩, htail, hcfg, hrun⟩ := h
  refine ⟨⟨fun sl => p sl || t.releasable sl, fun sl hsl => ?_, ?_⟩, ?_, by simp [hcfg], by simp [hrun]⟩
  · rcases Bool.or_eq_true_iff.1 hsl with h | h
    · exact hp sl h
    · simpa using (Bool.and_eq_true_iff.1 h).1
  · rw [State.release_slots, hslots, List.map_map]
    refine List.map_congr_left fun sl _ => ?_
    rw [Function.comp_apply]
    by_cases hpx : p sl = true
    · simp [hpx, State.not_releasable_empty]
    · simp [hpx]
  · rw [State.release_store]
    exact htail

theorem Slot.holds_iff (sl : Slot) (i : Nat) : sl.holds i = true ↔
    sl.state ≠ .free ∧ sl.firstIndex ≤ i ∧ i < sl.firstIndex + sl.records.length := by
  simp [Slot.holds, and_assoc]

theorem find?_map_empty (slots : List Slot) (p q : Slot → Bool) (hempty : q Slot.empty = false)
    (hpq : ∀ sl ∈ slots, p sl = true → q sl = false) :
    (slots.map (fun sl => if p sl then Slot.empty else sl)).find? q = slots.find? q := by
  induction slots with
  | nil => rfl
  | cons sl slots ih =>
    rw [List.map_cons, List.find?_cons, List.find?_cons, ih fun x hx => hpq x (List.mem_cons_of_mem _ hx)]
    by_cases hp : p sl = true
    · rw [if_pos hp, hempty, hpq sl List.mem_cons_self hp]
    · rw [if_neg hp]

/-- The stamps at an index that lies in a block which stays, or at the filled end. -/
theorem State.FreedFrom.stampAt {s t : State} (h : s.FreedFrom t) {c : Nat}
    (hc : ((∃ sl ∈ s.store.slots, sl.holds c = true) ∧ ∀ sl ∈ s.store.slots, sl.holds c = true → sl.state ≠ .retained) ∨
      ∀ sl ∈ s.store.slots, ¬ sl.holds c = true ∧
        (sl.state ≠ .free → sl.firstIndex + sl.records.length = c → sl.exit = s.tailStamp)) :
    t.stampAt c = s.stampAt c := by
  obtain ⟨⟨p, hp, hslots⟩, htail, hcfg, -⟩ := h
  have htails : t.tailStamp = s.tailStamp := by
    unfold State.tailStamp State.firstStamp
    rw [htail, hcfg]
  have hempty : Slot.empty.holds c = false := by simp [Slot.holds, Slot.empty]
  rcases hc with ⟨⟨sl, hsl, hh⟩, hkept⟩ | hend
  · have hof : t.store.slotOf c = s.store.slotOf c := by
      unfold Store.slotOf
      rw [hslots]
      refine find?_map_empty _ p _ hempty fun x hx hpx => ?_
      rw [← Bool.not_eq_true]
      exact fun hxh => hkept x hx hxh (hp x hpx)
    obtain ⟨y, hy⟩ : ∃ y, s.store.slotOf c = some y := by
      unfold Store.slotOf
      rw [← Option.isSome_iff_exists, List.find?_isSome]
      exact ⟨sl, hsl, hh⟩
    unfold State.stampAt
    rw [hof, hy]
  · have hat : ∀ u : State, u.tailStamp = s.tailStamp → (∀ sl ∈ u.store.slots, ¬ sl.holds c = true ∧
        (sl.state ≠ .free → sl.firstIndex + sl.records.length = c → sl.exit = s.tailStamp)) →
        u.stampAt c = s.tailStamp := fun u htu hu => by
      have hof : u.store.slotOf c = none := List.find?_eq_none.2 fun sl hsl => (hu sl hsl).1
      unfold State.stampAt
      rw [hof]
      split
      · next sl hsl => exact absurd hsl (by simp)
      · split
        · next sl hsl =>
          have := List.find?_some hsl
          simp only [Bool.and_eq_true, bne_iff_ne, beq_iff_eq] at this
          exact (hu sl (List.mem_of_find?_eq_some hsl)).2 this.1 this.2
        · exact htu
    rw [hat s rfl hend, hat t htails fun sl hsl => ?_]
    rw [hslots] at hsl
    obtain ⟨x, hx, rfl⟩ := List.mem_map.1 hsl
    split
    · exact ⟨by simp [hempty], fun hn => absurd rfl hn⟩
    · exact hend x hx

/-! ## One head's gaps given up (R149, R155) -/

/-- A gap with its start raised to `c`, where these stamps are in force. -/
def Gap.raised (at_ : Stamp) (c : Nat) (g : Gap) : Gap :=
  if g.start < c then { g with start := c, entry := at_.pos, colour := at_.colour } else g

theorem Gap.raised_keeps (at_ : Stamp) (c : Nat) (g : Gap) : (g.raised at_ c).head = g.head ∧
    (g.raised at_ c).state = g.state ∧ (g.raised at_ c).stop = g.stop ∧ (g.raised at_ c).start = max g.start c := by
  unfold Gap.raised
  split
  · exact ⟨rfl, rfl, rfl, by dsimp only; omega⟩
  · exact ⟨rfl, rfl, rfl, by omega⟩

/-- The gaps kept when these heads' gaps are given up, and the starts of the OPEN ones raised. -/
def abandoned (heads : List Nat) (at_ : Nat → Stamp) (c : Nat) (gaps : List Gap) : List Gap :=
  (gaps.filter (fun g => !(heads.contains g.head && g.state != .opened))).map
    (fun g => if heads.contains g.head && g.state == .opened then g.raised (at_ g.head) c else g)

/-- Gaps that begin no earlier and end as they did hold no slot that was not held. -/
theorem State.releasable_mono (s : State) {g1 g2 : List Gap}
    (hg : ∀ y ∈ g2, ∃ x ∈ g1, x.start ≤ y.start ∧ y.stop = x.stop) (sl : Slot)
    (h : (s.setGaps g1).releasable sl = true) : (s.setGaps g2).releasable sl = true := by
  unfold State.releasable at h ⊢
  rw [Bool.and_eq_true, Bool.not_eq_true', ← Bool.not_eq_true, State.slotHeld_iff] at h ⊢
  refine ⟨h.1, fun ⟨j, ha, hb, hheld⟩ => h.2 ⟨j, ha, hb, hheld.imp_right fun ⟨y, hy, hstart, hstop⟩ => ?_⟩⟩
  obtain ⟨x, hx, hle, heq⟩ := hg y hy
  rw [heq] at hstop
  exact ⟨x, hx, by omega, hstop⟩

theorem exists_of_mem_abandoned {heads : List Nat} {at_ : Nat → Stamp} {c : Nat} {gaps : List Gap} {y : Gap}
    (hy : y ∈ abandoned heads at_ c gaps) : ∃ x ∈ gaps, x.start ≤ y.start ∧ y.stop = x.stop := by
  obtain ⟨x, hx, rfl⟩ := List.mem_map.1 hy
  refine ⟨x, (List.mem_filter.1 hx).1, ?_⟩
  split
  · obtain ⟨-, -, hstop, hstart⟩ := x.raised_keeps (at_ x.head) c
    exact ⟨by omega, hstop⟩
  · exact ⟨Nat.le_refl _, rfl⟩

theorem State.removeGaps_cases (u : State) (p : Gap → Bool) : (u.removeGaps p).gaps = u.gaps.filter (fun g => !p g) ∧
    (u.removeGaps p = u ∧ (∀ g ∈ u.gaps, ¬ p g = true) ∨
      u.removeGaps p = (u.setGaps (u.gaps.filter (fun g => !p g))).release ∧ ∃ g ∈ u.gaps, p g = true) := by
  unfold State.removeGaps
  by_cases h : u.gaps.any p = true
  · rw [if_pos h]
    exact ⟨by simp, .inr ⟨rfl, by simpa using h⟩⟩
  · rw [if_neg h]
    have hnone : ∀ g ∈ u.gaps, ¬ p g = true := by simpa using h
    exact ⟨(List.filter_eq_self.2 fun g hg => by simpa using hnone g hg).symm, .inl ⟨rfl, hnone⟩⟩

theorem Gap.givenUp_iff (g : Gap) (h : Nat) : (!(g.head == h && (g.state == .closed || g.state == .sewing))) =
    !([h].contains g.head && g.state != .opened) := by
  rw [List.contains_cons, List.contains_nil, Bool.or_false]
  cases g.state <;> rfl

theorem State.abandonHead_spec {s u : State} (hu : s.FreedFrom u) (h : Nat) : ∃ w, s.FreedFrom w ∧
    (u.abandonHead h).gaps =
      abandoned [h] (fun _ => w.stampAt u.run.mainCursor) u.run.mainCursor u.gaps ∧
    ((∀ g ∈ u.gaps, g.head ≠ h) → u.abandonHead h = u) ∧
    ((∃ g ∈ u.gaps, g.head = h) → u.abandonHead h = (u.setGaps (u.abandonHead h).gaps).release) := by
  let p : Gap → Bool := fun g => g.head == h && (g.state == .closed || g.state == .sewing)
  let w := u.removeGaps p
  let cut : Gap → Gap := fun g => if g.head == h && g.state == .opened then w.truncated g w.run.mainCursor else g
  obtain ⟨hgaps, hcases⟩ := u.removeGaps_cases p
  have hw : s.FreedFrom w := by
    rcases hcases with ⟨heq, -⟩ | ⟨heq, -⟩
    · rw [show w = u from heq]
      exact hu
    · rw [show w = _ from heq]
      exact (hu.setGaps _).release
  have hrun : w.run = u.run := hw.2.2.2.trans hu.2.2.2.symm
  have hab : abandoned [h] (fun _ => w.stampAt u.run.mainCursor) u.run.mainCursor u.gaps = w.gaps.map cut := by
    unfold abandoned
    rw [hgaps, List.filter_congr fun g _ => (g.givenUp_iff h).symm]
    refine List.map_congr_left fun g _ => ?_
    simp only [cut, hrun, List.contains_cons, List.contains_nil, Bool.or_false]
    rfl
  have hsame : ∀ g, p g = true → g.head = h := fun g hg => by simpa using (Bool.and_eq_true_iff.1 hg).1
  refine ⟨w, hw, ?_⟩
  rw [hab]
  cases hopen : w.openGap h with
  | none =>
    have hkept : w.gaps.map cut = w.gaps := by
      refine (List.map_congr_left fun g hg => ?_).trans (List.map_id _)
      exact if_neg (List.find?_eq_none.1 hopen g hg)
    have heq : u.abandonHead h = w := by
      unfold State.abandonHead
      show (match w.openGap h with | some _ => _ | none => w) = w
      rw [hopen]
    rw [heq, hkept]
    refine ⟨rfl, fun hnone => ?_, fun ⟨g, hg, hhead⟩ => ?_⟩
    · rcases hcases with ⟨heq, -⟩ | ⟨-, g, hg, hpg⟩
      · exact heq
      · exact absurd (hsame g hpg) (hnone g hg)
    · rcases hcases with ⟨heq', hnone⟩ | ⟨heq', -⟩
      · exfalso
        have hnot := hnone g hg
        have hng := List.find?_eq_none.1 hopen g (by rw [show w = u from heq']; exact hg)
        simp only [p, hhead] at hnot hng
        revert hnot hng
        cases g.state <;> simp
      · rw [show w = _ from heq', State.release_keeps _ |>.2.2.2.2.2.2.2.1]
        rfl
  | some g0 =>
    have hmem : g0 ∈ w.gaps := List.mem_of_find?_eq_some hopen
    have hhead : g0.head = h := by
      have hfound := List.find?_some (p := fun g : Gap => g.head == h && g.state == .opened) hopen
      simpa using (Bool.and_eq_true_iff.1 hfound).1
    have heq : u.abandonHead h = (w.setGaps (w.gaps.map cut)).release := by
      unfold State.abandonHead
      show (match w.openGap h with | some _ => _ | none => w) = _
      rw [hopen]
    have hg : (u.abandonHead h).gaps = w.gaps.map cut := by rw [heq]; simp
    rw [hg, heq]
    refine ⟨rfl, fun hnone => absurd hhead (hnone g0 ?_), fun _ => ?_⟩
    · rw [hgaps] at hmem
      exact (List.mem_filter.1 hmem).1
    · rcases hcases with ⟨heq', -⟩ | ⟨heq', -⟩
      · rw [show w = u from heq']
      · refine (congrArg (fun x : State => (x.setGaps (w.gaps.map cut)).release) heq').trans
          (State.release_absorb u (State.releasable_mono u fun y hy => ?_))
        obtain ⟨x, hx, rfl⟩ := List.mem_map.1 hy
        refine ⟨x, hgaps ▸ hx, ?_⟩
        dsimp only [cut]
        split
        · obtain ⟨-, -, hstop, hstart⟩ := x.raised_keeps (w.stampAt w.run.mainCursor) w.run.mainCursor
          exact ⟨(Nat.le_max_left ..).trans hstart.symm.le, hstop⟩
        · exact ⟨Nat.le_refl _, rfl⟩

/-! ## The gaps of several heads given up -/

/-- What giving up the gaps of these heads leaves. -/
structure State.GivenUp (s : State) (heads : List Nat) (t : State) : Prop where
  /-- Only RETAINED slots are freed. -/
  freed : s.FreedFrom t
  /-- The Gap Table, with the stamps of states whose slots were freed from. -/
  gaps : ∃ at_ : Nat → Stamp, (∀ h, ∃ w, s.FreedFrom w ∧ at_ h = w.stampAt s.run.mainCursor) ∧
    t.gaps = abandoned heads at_ s.run.mainCursor s.gaps
  /-- One release evaluation stands for all. -/
  state : (∀ g ∈ s.gaps, g.head ∉ heads) ∧ t = s ∨
    (∃ g ∈ s.gaps, g.head ∈ heads) ∧ t = (s.setGaps t.gaps).release

theorem abandoned_nil (at_ : Nat → Stamp) (c : Nat) (gaps : List Gap) : abandoned [] at_ c gaps = gaps := by
  unfold abandoned
  simp

theorem abandoned_snoc {heads : List Nat} {h : Nat} (hnew : h ∉ heads) (at_ : Nat → Stamp) (at2 : Stamp) (c : Nat)
    (gaps : List Gap) : abandoned [h] (fun _ => at2) c (abandoned heads at_ c gaps) =
      abandoned (heads ++ [h]) (fun k => if k = h then at2 else at_ k) c gaps := by
  unfold abandoned
  rw [List.filter_map, List.filter_filter, List.map_map]
  have hhead : ∀ g : Gap, ∀ b : Bool, (if b = true then g.raised (at_ g.head) c else g).head = g.head ∧
      (if b = true then g.raised (at_ g.head) c else g).state = g.state := fun g b => by
    obtain ⟨h1, h2, -⟩ := g.raised_keeps (at_ g.head) c
    cases b
    · exact ⟨rfl, rfl⟩
    · exact ⟨h1, h2⟩
  have hkeep : ∀ g : Gap, g.head = h → heads.contains g.head = false := fun g hg => by
    rw [hg, ← Bool.not_eq_true, List.contains_iff_mem]
    exact hnew
  have hone : ∀ g : Gap, [h].contains g.head = true ↔ g.head = h := fun g => by simp
  have hsnoc : ∀ g : Gap, (heads ++ [h]).contains g.head = (heads.contains g.head || [h].contains g.head) := fun g => by
    simp
  congr 1
  · funext g
    rw [Function.comp_apply, (hhead g _).1, (hhead g _).2]
    dsimp only
    by_cases hg : g.head = h
    · rw [hsnoc, hkeep g hg, (hone g).2 hg, if_pos hg]
      simp
    · have : [h].contains g.head = false := by rw [← Bool.not_eq_true, hone]; exact hg
      rw [hsnoc, this, if_neg hg]
      simp
  · refine List.filter_congr fun g _ => ?_
    rw [Function.comp_apply, (hhead g _).1, (hhead g _).2, hsnoc]
    cases heads.contains g.head <;> cases [h].contains g.head <;> cases g.state <;> rfl

theorem State.GivenUp.step {s u : State} {heads : List Nat} {h : Nat} (hu : s.GivenUp heads u) (hnew : h ∉ heads) :
    s.GivenUp (heads ++ [h]) (u.abandonHead h) := by
  obtain ⟨hfreed, ⟨at_, hat, hgaps⟩, hstate⟩ := hu
  obtain ⟨w, hw, hg, hnone, hsome⟩ := State.abandonHead_spec hfreed h
  have hrun : u.run.mainCursor = s.run.mainCursor := by rw [hfreed.2.2.2]
  have hin : (∃ g ∈ u.gaps, g.head = h) ↔ ∃ g ∈ s.gaps, g.head = h := by
    rw [hgaps]
    unfold abandoned
    simp only [List.mem_map, List.mem_filter]
    constructor
    · rintro ⟨g, ⟨x, ⟨hx, -⟩, rfl⟩, hhead⟩
      refine ⟨x, hx, ?_⟩
      split at hhead
      · rw [(x.raised_keeps _ _).1] at hhead
        exact hhead
      · exact hhead
    · rintro ⟨x, hx, hhead⟩
      have hc : heads.contains x.head = false := by
        rw [hhead, ← Bool.not_eq_true, List.contains_iff_mem]
        exact hnew
      exact ⟨x, ⟨x, ⟨hx, by rw [hc]; rfl⟩, by rw [hc]; rfl⟩, hhead⟩
  have hcases : (∀ g ∈ u.gaps, g.head ≠ h) ∨ ∃ g ∈ u.gaps, g.head = h := by
    by_cases hex : ∃ g ∈ u.gaps, g.head = h
    · exact .inr hex
    · exact .inl fun g hg hh => hex ⟨g, hg, hh⟩
  refine ⟨?_, ⟨fun k => if k = h then w.stampAt s.run.mainCursor else at_ k, fun k => ?_, ?_⟩, ?_⟩
  · rcases hcases with hn | hs
    · rw [hnone hn]
      exact hfreed
    · rw [hsome hs]
      exact (hfreed.setGaps _).release
  · dsimp only
    split
    · exact ⟨w, hw, rfl⟩
    · exact hat k
  · rw [hg, hgaps, hrun]
    exact abandoned_snoc hnew at_ _ _ _
  · have hmem : ∀ k, k ∈ heads ++ [h] ↔ k ∈ heads ∨ k = h := fun k => by simp
    simp only [hmem]
    rcases hcases with hn | hs
    · rw [hnone hn]
      have hn' : ∀ g ∈ s.gaps, g.head ≠ h := fun g hg hh => by
        obtain ⟨y, hy, hyh⟩ := hin.2 ⟨g, hg, hh⟩
        exact hn y hy hyh
      exact hstate.imp (fun ⟨h1, h2⟩ => ⟨fun g hg => not_or.2 ⟨h1 g hg, hn' g hg⟩, h2⟩)
        fun ⟨⟨g, hg, hgh⟩, h2⟩ => ⟨⟨g, hg, .inl hgh⟩, h2⟩
    · obtain ⟨g, hg, hgh⟩ := hin.1 hs
      refine .inr ⟨⟨g, hg, .inr hgh⟩, (hsome hs).trans ?_⟩
      rcases hstate with ⟨-, heq⟩ | ⟨-, heq⟩
      · rw [heq]
      · refine (congrArg (fun x : State => (x.setGaps (u.abandonHead h).gaps).release) heq).trans
          (State.release_absorb s (State.releasable_mono s fun y hy => ?_))
        rw [‹(u.abandonHead h).gaps = _›] at hy
        exact exists_of_mem_abandoned hy

theorem State.givenUp_foldl {s u : State} {done heads : List Nat} (hu : s.GivenUp done u)
    (hnew : (done ++ heads).Nodup) : s.GivenUp (done ++ heads) (heads.foldl State.abandonHead u) := by
  induction heads generalizing done u with
  | nil => rwa [List.append_nil]
  | cons h heads ih =>
    have hsplit : done ++ h :: heads = done ++ [h] ++ heads := by simp
    rw [hsplit] at hnew ⊢
    refine ih (hu.step fun hmem => ?_) hnew
    have := (List.nodup_append.1 (List.nodup_append.1 hnew).1).2.2
    exact this h hmem h (List.mem_singleton.2 rfl) rfl

theorem State.givenUp (s : State) {heads : List Nat} (hnew : heads.Nodup) :
    s.GivenUp heads (heads.foldl State.abandonHead s) :=
  State.givenUp_foldl (done := []) ⟨.refl s, ⟨fun _ => s.stampAt s.run.mainCursor, fun _ => ⟨s, .refl s, rfl⟩,
    (abandoned_nil _ _ _).symm⟩, .inl ⟨fun _ _ => List.not_mem_nil, rfl⟩⟩ hnew

end Sys2Proof.Machine

/-!
PROOF. ABANDON GAP (section 9.2; O39).
-/

namespace Sys2Proof.Machine
set_option Elab.async false

/-! ## The Gap Table left -/

theorem abandoned_filter_in (heads : List Nat) (at_ : Nat → Stamp) (c : Nat) (gaps : List Gap) :
    (abandoned heads at_ c gaps).filter (fun g => heads.contains g.head) =
      (gaps.filter (fun g => heads.contains g.head && g.state == .opened)).map (fun g => g.raised (at_ g.head) c) := by
  unfold abandoned
  rw [List.filter_map, List.filter_filter]
  have hcut : ∀ g : Gap, ∀ b : Bool, (if b = true then g.raised (at_ g.head) c else g).head = g.head := fun g b => by
    cases b
    · rfl
    · exact (g.raised_keeps _ _).1
  rw [List.filter_congr (q := fun g => heads.contains g.head && g.state == .opened) fun g _ => by
    rw [Function.comp_apply, hcut]
    cases heads.contains g.head <;> cases g.state <;> rfl]
  exact List.map_congr_left fun g hg => if_pos (List.mem_filter.1 hg).2

theorem abandoned_filter_out (heads : List Nat) (at_ : Nat → Stamp) (c : Nat) (gaps : List Gap) :
    (abandoned heads at_ c gaps).filter (fun g => !heads.contains g.head) =
      gaps.filter (fun g => !heads.contains g.head) := by
  unfold abandoned
  rw [List.filter_map, List.filter_filter]
  have hcut : ∀ g : Gap, ∀ b : Bool, (if b = true then g.raised (at_ g.head) c else g).head = g.head := fun g b => by
    cases b
    · rfl
    · exact (g.raised_keeps _ _).1
  rw [List.filter_congr (q := fun g => !heads.contains g.head) fun g _ => by
    rw [Function.comp_apply, hcut]
    cases heads.contains g.head <;> cases g.state <;> rfl]
  refine (List.map_congr_left fun g hg => ?_).trans (List.map_id _)
  have hout := (List.mem_filter.1 hg).2
  rw [if_neg]
  · rfl
  · simpa using fun h => absurd h (by simpa using hout)

theorem abandonNames_contains (head k : Nat) : (abandonNames head).contains k =
    if head = 0 then decide (1 ≤ k) && decide (k ≤ 8) else k == head := by
  unfold abandonNames
  split
  · exact headNumbers_contains k
  · rw [List.contains_cons, List.contains_nil, Bool.or_false]

theorem abandonNames_nodup (head : Nat) : (abandonNames head).Nodup := by
  unfold abandonNames
  split
  · decide
  · exact List.nodup_singleton _

/-! ## The state left -/

theorem State.releasable_iff (s : State) (sl : Slot) : s.releasable sl = true ↔ sl.state = .retained ∧
    ∀ j, sl.firstIndex ≤ j → j < sl.firstIndex + sl.records.length →
      ¬ (s.run.mainCursor - s.cfg.pacing.retain ≤ j ∧ j < s.run.mainCursor) ∧
        ∀ g ∈ s.gaps, ¬ (g.start ≤ j ∧ j < g.stop.getD s.run.mainCursor) := by
  unfold State.releasable
  rw [Bool.and_eq_true, beq_iff_eq, Bool.not_eq_true', ← Bool.not_eq_true, State.slotHeld_iff]
  refine and_congr_right fun _ => ⟨fun hn j ha hb => ⟨fun hw => hn ⟨j, ha, hb, .inl hw⟩, fun g hg hgap =>
    hn ⟨j, ha, hb, .inr ⟨g, hg, hgap⟩⟩⟩, fun hall ⟨j, ha, hb, hheld⟩ => ?_⟩
  rcases hheld with hw | ⟨g, hg, hgap⟩
  · exact (hall j ha hb).1 hw
  · exact (hall j ha hb).2 g hg hgap

section GivenUp

variable {s t : State} {heads : List Nat} (h : s.GivenUp heads t)
include h

theorem State.GivenUp.blocks : t.run = s.run ∧ t.gov = s.gov ∧ t.frame = s.frame ∧ t.shaft = s.shaft ∧ t.bus = s.bus ∧
    t.change = s.change ∧ t.monitor = s.monitor ∧ t.cfg = s.cfg ∧ t.link.SameButGrant s.link := by
  rcases h.state with ⟨-, rfl⟩ | ⟨-, heq⟩
  · exact ⟨rfl, rfl, rfl, rfl, rfl, rfl, rfl, rfl, _, rfl⟩
  · rw [heq]
    exact ⟨by simp, by simp, by simp, by simp, by simp, by simp, by simp, by simp, State.release_link _⟩

/-- A slot is freed when a head named has a gap and nothing holds the slot any more. -/
def State.freedBy (s : State) (heads : List Nat) (gaps : List Gap) (sl : Slot) : Prop :=
  (∃ g ∈ s.gaps, g.head ∈ heads) ∧ (s.setGaps gaps).releasable sl = true

theorem State.GivenUp.slots : t.store.slots.length = s.store.slots.length ∧
    ∀ (i : Nat) (sl : Slot), s.store.slots[i]? = some sl →
      (s.freedBy heads t.gaps sl → t.store.slots[i]? = some Slot.empty) ∧
      (¬ s.freedBy heads t.gaps sl → t.store.slots[i]? = some sl) := by
  rcases h.state with ⟨hnone, heq⟩ | ⟨hsome, heq⟩
  · rw [heq]
    exact ⟨rfl, fun i sl hi => ⟨fun ⟨⟨g, hg, hh⟩, _⟩ => absurd hh (hnone g hg), fun _ => hi⟩⟩
  · have hslots : t.store.slots =
        s.store.slots.map (fun sl => if (s.setGaps t.gaps).releasable sl then Slot.empty else sl) := by
      rw [congrArg (fun x : State => x.store.slots) heq]
      exact State.release_slots _
    rw [hslots]
    refine ⟨List.length_map .., fun i sl hi => ?_⟩
    rw [List.getElem?_map, hi, Option.map_some]
    exact ⟨fun ⟨_, hr⟩ => by rw [if_pos hr], fun hn => by rw [if_neg fun hr => hn ⟨hsome, hr⟩]⟩

theorem State.GivenUp.store :
    t.store = { s.store with slots := t.store.slots, granted := t.store.granted } := by
  rcases h.state with ⟨-, rfl⟩ | ⟨-, heq⟩
  · rfl
  · have := State.release_store (s.setGaps t.gaps)
    rwa [← heq] at this

/-- The pacing evaluation when a slot was freed (R41, R42, R45). -/
theorem State.GivenUp.grants :
    let blocks := min (s.pacingTarget - s.store.granted) (t.store.freeCount - s.store.granted)
    ((∀ sl ∈ s.store.slots, ¬ s.freedBy heads t.gaps sl) ∨ s.store.design ≠ .loading ∨ blocks = 0 →
      t.store.granted = s.store.granted ∧ t.link.grant = s.link.grant) ∧
    ((∃ sl ∈ s.store.slots, s.freedBy heads t.gaps sl) → s.store.design = .loading → blocks ≠ 0 →
      t.store.granted = s.store.granted + blocks ∧
        t.link.grant = some (grantMerge s.link.grant ((s.store.nextSeq + s.store.granted) % 65536) blocks)) := by
  intro blocks
  rcases h.state with ⟨hnone, heq⟩ | ⟨hsome, heq⟩
  · refine ⟨fun _ => by rw [heq]; exact ⟨rfl, rfl⟩, fun ⟨sl, _, ⟨g, hg, hh⟩, _⟩ => absurd hh (hnone g hg)⟩
  by_cases hfreed : ∃ sl ∈ s.store.slots, (s.setGaps t.gaps).releasable sl = true
  · have ht : t = (s.setGaps t.gaps).releaseSlots.pace := heq.trans (State.release_of_some (s := s.setGaps t.gaps) hfreed)
    have hfree : t.store.freeCount = (s.setGaps t.gaps).releaseSlots.store.freeCount := by
      unfold Store.freeCount
      rw [congrArg (fun x : State => x.store.slots) ht]
      exact congrArg _ (State.pace_slots _)
    have hblocks : (s.setGaps t.gaps).releaseSlots.dueBlocks = blocks := by
      unfold State.dueBlocks
      rw [← hfree]
      rfl
    refine ⟨fun hcase => ?_, fun _ hl hn => ?_⟩
    · have hstill : (s.setGaps t.gaps).releaseSlots.pace = (s.setGaps t.gaps).releaseSlots := by
        refine State.pace_of_none ?_
        rcases hcase with hno | hl | hz
        · obtain ⟨sl, hsl, hr⟩ := hfreed
          exact absurd ⟨hsome, hr⟩ (hno sl hsl)
        · exact .inl hl
        · exact .inr (hblocks.trans hz)
      rw [hstill] at ht
      exact ⟨(congrArg (fun x : State => x.store.granted) ht).trans rfl,
        (congrArg (fun x : State => x.link.grant) ht).trans rfl⟩
    · rw [State.pace_of_due (s := (s.setGaps t.gaps).releaseSlots) hl (by rw [hblocks]; exact hn), hblocks] at ht
      exact ⟨congrArg (fun x : State => x.store.granted) ht, congrArg (fun x : State => x.link.grant) ht⟩
  · have ht : t = s.setGaps t.gaps := heq.trans (State.release_of_none (s := s.setGaps t.gaps)
      fun sl hsl hr => hfreed ⟨sl, hsl, hr⟩)
    refine ⟨fun _ => ⟨(congrArg (fun x : State => x.store.granted) ht).trans rfl,
        (congrArg (fun x : State => x.link.grant) ht).trans rfl⟩,
      fun ⟨sl, hsl, _, hr⟩ => absurd ⟨sl, hsl, hr⟩ hfreed⟩

end GivenUp

/-! ## The end of a pass without gaps -/

theorem closedGaps_unselected {gaps : List Gap} {h c : Nat} (hg : ∀ g ∈ gaps, g.state ≠ .sewing) :
    ∀ g ∈ closedGaps gaps h c, g.state ≠ .sewing := by
  unfold closedGaps
  split
  · exact hg
  · split
    · intro y hy
      obtain ⟨x, hx, rfl⟩ := List.mem_map.1 hy
      split
      · exact GapState.noConfusion
      · exact hg x hx
    · exact fun y hy => hg y (List.mem_filter.1 hy).1

theorem State.resolveJoins_unselected {s : State} (hg : ∀ g ∈ s.gaps, g.state ≠ .sewing) :
    ∀ g ∈ s.resolveJoins.gaps, g.state ≠ .sewing := by
  unfold State.resolveJoins
  generalize headNumbers = heads
  induction heads generalizing s with
  | nil => exact hg
  | cons h heads ih =>
    rw [List.foldl_cons]
    refine ih ?_
    split
    · unfold State.bringBack
      rw [State.closeGap_gaps, State.setHeadState_gaps]
      exact closedGaps_unselected hg
    · exact hg

theorem State.endPatch_unselected {s : State} (hg : ∀ g ∈ s.gaps, g.state ≠ .sewing) :
    ∀ g ∈ s.endPatch.gaps, g.state ≠ .sewing := by
  have hlift : ∀ u : State, u.liftAll.gaps = u.gaps := fun u => by simp
  have hrest : ∀ u : State, (u.refreshSlots.release.writePendings).gaps = u.gaps := fun u => by simp
  unfold State.endPatch
  dsimp only
  rw [hlift]
  refine State.resolveJoins_unselected ?_
  rw [hrest]
  exact hg

/-! ## The request -/

theorem exec_abandonGap_addressed (s : State) (tag : Byte) (head : Nat) :
    exec (.abandonGap (.addressed tag) head) s = .next (s.takeAddressed tag (serveAbandonGap head)) := rfl

theorem serveAbandonGap_of_taken {s : State} {head : Nat} (hs : s.run.state = .paused ∨ s.run.state = .finished)
    (hh : head ≤ 8) : serveAbandonGap head s =
      taken ((abandonNames head).foldl State.abandonHead s).endPatchIfEmpty.finish := by
  unfold serveAbandonGap
  rw [if_neg (by rcases hs with h | h <;> simp [h]), if_neg (by omega)]

/-- Settles O39: the gaps of the heads named are given up one head after another, which is one release evaluation; the
pass goes on, or ends when no selected gap is left. -/
theorem abandonGapGivesUpGaps : Obligations.AbandonGapGivesUpGaps := by
  intro s tag head hh run named c at_ holds settled freed blocks
  have hrun : run = .next (s.takeAddressed tag (serveAbandonGap head)) := exec_abandonGap_addressed s tag head
  refine ⟨fun h1 h2 => ?_, fun hs h8 => ?_, fun hs h8 hq => ?_⟩
  · refine hrun.trans (congrArg _ (State.takeAddressed_refused s tag _ .busy hh ?_))
    exact if_pos ⟨h1, h2⟩
  · refine hrun.trans (congrArg _ (State.takeAddressed_refused s tag _ .range hh ?_))
    unfold serveAbandonGap
    rw [if_neg (by rcases hs with h | h <;> simp [h]), if_pos h8]
  let r := s.setLink (s.link.reserve tag)
  let t := (abandonNames head).foldl State.abandonHead r
  have hg : r.GivenUp (abandonNames head) t := State.givenUp r (abandonNames_nodup head)
  have hserve : serveAbandonGap head r = taken t.endPatchIfEmpty.finish := serveAbandonGap_of_taken (s := r) hs h8
  obtain ⟨hact, hrunning, hstopping, htravel, hhoming⟩ := s.quiet_iff.1 hq
  obtain ⟨htrun, htgov, htframe, htshaft, htbus, htchange, htmonitor, htcfg, htlink⟩ := hg.blocks
  obtain ⟨stamps, hstamps, htgaps⟩ := hg.gaps
  have hnamed : named = fun g => (abandonNames head).contains g.head := by
    funext g
    exact (abandonNames_contains head g.head).symm
  have hin : t.gaps.filter named =
      (s.gaps.filter (fun g => named g && g.state == .opened)).map (fun g => g.raised (stamps g.head) c) := by
    rw [hnamed, htgaps]
    exact abandoned_filter_in _ _ _ _
  have hout : t.gaps.filter (fun g => !named g) = s.gaps.filter (fun g => !named g) := by
    rw [hnamed, htgaps]
    exact abandoned_filter_out _ _ _ _
  have hopened : ∀ g ∈ t.gaps, named g = true → g.state = .opened := fun g hgm hn => by
    have : g ∈ t.gaps.filter named := List.mem_filter.2 ⟨hgm, hn⟩
    rw [hin] at this
    obtain ⟨x, hx, rfl⟩ := List.mem_map.1 this
    rw [(x.raised_keeps _ _).2.1]
    simpa using (Bool.and_eq_true_iff.1 (List.mem_filter.1 hx).2).2
  have hquiet : t.quiet = true := by
    rw [State.quiet_iff, htrun, htframe]
    exact ⟨hact, hrunning, hstopping, htravel, hhoming⟩
  refine ⟨fun hgoes => ?_, fun back hp hpass hreturn hback hall => ?_⟩
  · have hon : t.passGoesOn = true := by
      unfold State.passGoesOn State.patchLeft
      rw [Bool.or_eq_true, htrun]
      rcases hgoes with hmain | ⟨g, hgm, hsew, hn⟩
      · exact .inl (beq_iff_eq.2 hmain)
      · have hgt : g ∈ t.gaps := by
          have : g ∈ t.gaps.filter (fun g => !named g) := by
            rw [hout]
            exact List.mem_filter.2 ⟨hgm, by rw [hn]; rfl⟩
          exact (List.mem_filter.1 this).1
        exact .inr (List.any_eq_true.2 ⟨g, hgt, beq_iff_eq.2 hsew⟩)
    have hfin : t.endPatchIfEmpty.finish = t.pump := by
      rw [State.endPatchIfEmpty_of_goesOn hon, State.finish_quiet t hquiet]
    rw [hfin] at hserve
    obtain ⟨hprun, hpstore, hpgov, hpframe, hpshaft, hpchange, hpmonitor, hpgaps, hplink, hpcfg, -⟩ := t.pump_keeps
    obtain ⟨v, hnext, hvgaps, hvstore, hvgrant, hvrun, hvframe, hvshaft, hvbus, hvchange, hvmonitor, hvgov, hvcfg, hvevents,
        hvreplies⟩ : ∃ v : State, run = .next v ∧ v.gaps = t.gaps ∧ v.store = t.store ∧ v.link.grant = t.link.grant ∧
        v.run = s.run ∧ v.frame = s.frame ∧ v.shaft = s.shaft ∧ v.bus = s.pump.bus ∧ v.change = s.change ∧
        v.monitor = s.monitor ∧ v.gov = s.gov ∧ v.cfg = s.cfg ∧ v.link.events = s.link.events ∧
        v.link.replies = s.link.replies ++ [⟨tag, some ⟨.ok, []⟩⟩] :=
      ⟨t.pump.setLink { t.pump.link with replies := s.link.replies ++ [⟨tag, some ⟨.ok, []⟩⟩] }, hrun.trans
        (congrArg _ (State.takeAddressed_existential s _ tag _ .ok [] hh (by rw [hplink]; exact htlink.replies) hserve)),
        hpgaps, hpstore, (congrArg Link.grant hplink : t.pump.link.grant = t.link.grant), hprun.trans htrun, hpframe.trans htframe, hpshaft.trans htshaft,
        State.pump_bus_congr (s := s) (t := t) htbus (congrArg Run.heads htrun), hpchange.trans htchange,
        hpmonitor.trans htmonitor, hpgov.trans htgov, hpcfg.trans htcfg,
        (congrArg Link.events hplink : t.pump.link.events = t.link.events).trans htlink.events, rfl⟩
    have hmem : ∀ g : Gap, named g = true ↔ g.head ∈ abandonNames head := fun g => by
      rw [hnamed]
      exact List.contains_iff_mem
    have hfreed : ∀ sl, freed v sl ↔ r.freedBy (abandonNames head) t.gaps sl := fun sl => by
      simp only [freed, hvgaps, hmem]
      exact and_congr_right fun _ => (State.releasable_iff (r.setGaps t.gaps) sl).symm
    have hblocks : blocks v = min (r.pacingTarget - r.store.granted) (t.store.freeCount - r.store.granted) := by
      simp only [blocks, hvstore]
      rfl
    obtain ⟨hlength, hslots⟩ := hg.slots
    obtain ⟨hnone, hsome⟩ := hg.grants
    rw [← hblocks] at hnone hsome
    simp only [← hfreed] at hslots hnone hsome
    refine ⟨v, hnext, ?_, ?_, fun hsettled => ?_, hvgaps ▸ hout, hvstore ▸ hslots, hvstore ▸ hg.store, hvstore ▸ hlength,
      fun hcase => ?_, fun hex hl hn => ?_, hvrun, hvframe, hvshaft, hvbus, hvchange, hvmonitor, hvgov, hvcfg, hvevents,
      hvreplies⟩
    · rw [hvgaps]
      intro g hgm hn
      exact hopened g hgm hn
    · rw [hvgaps, hin, List.map_map]
      exact List.map_congr_left fun g _ => (g.raised_keeps (stamps g.head) c).2.2.2
    · rw [hvgaps, hin]
      refine List.map_congr_left fun g _ => ?_
      obtain ⟨w, hw, heq⟩ := hstamps g.head
      rw [heq.trans (hw.stampAt (c := s.run.mainCursor) ?_)]
      · rfl
      · refine hsettled.imp (fun ⟨⟨sl, hsl, hh⟩, hkept⟩ => ⟨⟨sl, hsl, (Slot.holds_iff ..).2 hh⟩, fun x hx hxh =>
          hkept x hx ((Slot.holds_iff ..).1 hxh)⟩) fun hall sl hsl => ⟨fun hh => (hall sl hsl).1 ((Slot.holds_iff ..).1 hh),
          (hall sl hsl).2⟩
    · rw [hvstore, hvgrant]
      exact hnone hcase
    · rw [hvstore, hvgrant]
      obtain ⟨h1, h2⟩ := hsome hex hl hn
      refine ⟨h1, h2.trans ?_⟩
      show some (grantMerge s.link.grant _ _) = _
      cases s.link.grant <;> rfl
  · have hunselected : ∀ g ∈ t.gaps, g.state ≠ .sewing := by
      intro g hgm hsew
      by_cases hn : named g = true
      · exact absurd ((hopened g hgm hn).symm.trans hsew) GapState.noConfusion
      · have : g ∈ s.gaps.filter (fun g => !named g) := by
          rw [← hout]
          exact List.mem_filter.2 ⟨hgm, by simpa using hn⟩
        exact hn (hall g (List.mem_filter.1 this).1 hsew)
    have hover : t.passGoesOn = false := by
      unfold State.passGoesOn State.patchLeft
      rw [htrun, Bool.or_eq_false_iff, List.any_eq_false]
      exact ⟨beq_eq_false_iff_ne.2 (by rw [show r.run.pass = .patch from hpass]; decide), fun g hgm h =>
        hunselected g hgm (beq_iff_eq.1 h)⟩
    have hquiet' : t.endPatch.quiet = true := by
      refine State.endPatch_quiet (back := back) (by rw [htrun]; exact hreturn) ?_ ?_ (by rw [htframe]; exact htravel)
        (by rw [htframe]; exact hhoming) <;> rcases hback with rfl | rfl <;> exact RunState.noConfusion
    have hfin : t.endPatchIfEmpty.finish = t.endPatch.pump := by
      rw [State.endPatchIfEmpty_of_over (by rw [htrun]; exact hp) hover, State.finish_quiet _ hquiet']
    rw [hfin] at hserve
    obtain ⟨hprun, -, -, -, -, -, -, hpgaps, hplink, -⟩ := t.endPatch.pump_keeps
    have hreplies : t.endPatch.pump.link.replies = r.link.replies := by
      rw [hplink, State.replies_kept_of_commutes State.endPatch_withReplies t]
      exact htlink.replies
    have hbare := Run.of_bare t.endPatch_bare
    refine ⟨t.endPatch.pump.setLink { t.endPatch.pump.link with replies := s.link.replies ++ [⟨tag, some ⟨.ok, []⟩⟩] },
      hrun.trans (congrArg _ (State.takeAddressed_existential s _ tag _ .ok [] hh hreplies hserve)), ?_⟩
    rw [State.setLink_run, State.setLink_gaps, hprun, hpgaps]
    rw [hbare, htrun]
    refine ⟨rfl, rfl, rfl, ?_, rfl, State.endPatch_unselected hunselected, rfl⟩
    show s.run.passReturn.getD .paused = back
    rw [hreturn]
    rfl

end Sys2Proof.Machine

/-!
PROOF. What the look ahead reads (rules 8, 53, 72, 143), and REPAIR DONE (section 8.6; O37).
-/

namespace Sys2Proof.Machine
set_option Elab.async false

/-! ## What the look ahead reads -/

/-- Two states with the same records, settings, gaps, frame and run, but for the heads. -/
structure State.SameRecords (s t : State) : Prop where
  store : t.store = s.store
  cfg : t.cfg = s.cfg
  gaps : t.gaps = s.gaps
  frame : t.frame = s.frame
  run : t.run.bare = s.run.bare

namespace State.SameRecords

variable {s t : State} (h : s.SameRecords t)
include h

theorem recordAt (i : Nat) : t.store.recordAt i = s.store.recordAt i := by rw [h.store]

theorem runFields : t.run = { s.run with heads := t.run.heads } := Run.of_bare h.run

theorem fields : t.run.state = s.run.state ∧ t.run.pass = s.run.pass ∧ t.run.mainCursor = s.run.mainCursor ∧
    t.run.patchCursor = s.run.patchCursor ∧ t.run.point = s.run.point ∧ t.run.patchDone = s.run.patchDone ∧
    t.run.mark = s.run.mark ∧ t.run.carry = s.run.carry := by
  rw [h.runFields]
  exact ⟨rfl, rfl, rfl, rfl, rfl, rfl, rfl, rfl⟩

theorem cursor : t.cursor = s.cursor := by
  unfold State.cursor
  rw [h.runFields]

theorem stopKindAt (i : Nat) : t.stopKindAt i = s.stopKindAt i := by
  obtain ⟨-, hpass, hmain, -, hpoint, hdone, hmark, -⟩ := h.fields
  have hstamp : t.stampAt i = s.stampAt i := State.stampAt_congr h.store h.cfg i
  have hjudge : ∀ dx dy stitch, t.judgeMotion i dx dy stitch = s.judgeMotion i dx dy stitch := fun dx dy stitch => by
    unfold State.judgeMotion State.framePosAt State.originPos
    rw [hstamp, h.frame, h.cfg]
  have hrecord : ∀ r, t.recordStop i r = s.recordStop i r := fun r => by
    unfold State.recordStop
    simp only [hjudge, hmark]
  unfold State.stopKindAt State.patchStop State.patchCovers
  simp only [hrecord, h.recordAt, h.gaps, hpass, hmain, hpoint, hdone]

theorem lookAhead (n i : Nat) : t.lookAhead n i = s.lookAhead n i := by
  induction n generalizing i with
  | zero => rfl
  | succ n ih =>
    unfold State.lookAhead
    simp only [h.stopKindAt, h.store, h.cfg, ih]

theorem outlook (i : Nat) : t.outlook i = s.outlook i := by
  unfold State.outlook
  rw [h.store, h.lookAhead]

theorem boundAt (i : Nat) : t.boundAt i = s.boundAt i := by
  unfold State.boundAt
  rw [h.store, h.cfg, State.stampAt_congr h.store h.cfg]

theorem windowFrom (n i dist : Nat) : t.windowFrom n i dist = s.windowFrom n i dist := by
  induction n generalizing i dist with
  | zero => rfl
  | succ n ih =>
    unfold State.windowFrom
    simp only [h.outlook, h.cfg, h.boundAt, ih]

theorem windowAt (i : Nat) : t.windowAt i = s.windowAt i := h.windowFrom _ i 0

theorem withPoint (p : Option Nat) :
    (s.setRun { s.run with point := p }).SameRecords (t.setRun { t.run with point := p }) := by
  refine ⟨h.store, h.cfg, h.gaps, h.frame, ?_⟩
  rw [State.setRun_run, State.setRun_run, h.runFields]
  rfl

end State.SameRecords

/-! ## Where the join point is placed (R143) -/

/-- The state as the next computation may find it: the point as far out as it can be. -/
def State.pointFarOut (s : State) : State := s.setRun { s.run with point := some s.store.filledEnd }

/-- The first motion record behind an index, or the filled end. -/
def Store.pointBehind (st : Store) (i : Nat) : Nat :=
  (((List.range (st.filledEnd - (i + 1))).find? (fun k =>
    match st.recordAt (i + 1 + k) with
    | some r => (motionOf r).isSome
    | none => false)).map (fun k => i + 1 + k)).getD st.filledEnd

theorem State.placePoint_eq (s : State) : s.placePoint =
    if s.run.point.isSome then s
    else match s.pointFarOut.outlook (if s.run.carry then s.cursor + 1 else s.cursor) with
      | .motion i _ => match (s.pointFarOut.windowAt i).getLast? with
        | some e => s.setRun { s.run with point := some (s.store.pointBehind e.index) }
        | none => s
      | .stop => if s.run.pass = .main then s.pointFarOut else s
      | .nothing => s := by
  unfold State.placePoint
  rfl

theorem Store.pointBehind_spec (st : Store) (i : Nat) :
    (st.pointBehind i = st.filledEnd ∨ (i < st.pointBehind i ∧ st.pointBehind i < st.filledEnd ∧
      ∃ r, st.recordAt (st.pointBehind i) = some r ∧ (motionOf r).isSome = true)) ∧
    ∀ k, i < k → k < st.pointBehind i → ¬ ∃ r, st.recordAt k = some r ∧ (motionOf r).isSome = true := by
  let p : Nat → Bool := fun k => match st.recordAt (i + 1 + k) with
    | some r => (motionOf r).isSome
    | none => false
  have hp : ∀ k, p k = true ↔ ∃ r, st.recordAt (i + 1 + k) = some r ∧ (motionOf r).isSome = true := fun k => by
    simp only [p]
    cases st.recordAt (i + 1 + k) with
    | none => simp
    | some r => simp
  have hbehind : st.pointBehind i = (((List.range (st.filledEnd - (i + 1))).find? p).map (fun k => i + 1 + k)).getD
      st.filledEnd := rfl
  rw [hbehind]
  cases hf : (List.range (st.filledEnd - (i + 1))).find? p with
  | none =>
    refine ⟨.inl rfl, fun k hk hlt hmotion => ?_⟩
    rw [Option.map_none, Option.getD_none] at hlt
    refine List.find?_eq_none.1 hf (k - (i + 1)) (List.mem_range.2 (by omega)) ((hp _).2 ?_)
    rwa [show i + 1 + (k - (i + 1)) = k by omega]
  | some k0 =>
    obtain ⟨hk0, hmem, hbefore⟩ := List.find?_range_eq_some.1 hf
    have hlt := List.mem_range.1 hmem
    rw [Option.map_some, Option.getD_some]
    refine ⟨.inr ⟨by omega, by omega, (hp k0).1 hk0⟩, fun k hk hlt' hmotion => ?_⟩
    have hnot := hbefore (k - (i + 1)) (by omega)
    rw [Bool.not_eq_true', ← Bool.not_eq_true] at hnot
    refine hnot ((hp _).2 ?_)
    rwa [show i + 1 + (k - (i + 1)) = k by omega]

theorem State.SameRecords.placePoint {s t : State} (h : s.SameRecords t) : t.placePoint.run.point = s.placePoint.run.point := by
  have hfar : s.pointFarOut.SameRecords t.pointFarOut := by
    unfold State.pointFarOut
    rw [h.store]
    exact h.withPoint _
  have hpoint : t.run.point = s.run.point := by rw [h.runFields]
  have hpass : t.run.pass = s.run.pass := by rw [h.runFields]
  have hcarry : t.run.carry = s.run.carry := by rw [h.runFields]
  rw [State.placePoint_eq, State.placePoint_eq, hpoint, hcarry, h.cursor, hfar.outlook, hpass]
  split
  · exact hpoint
  · split
    · rw [hfar.windowAt]
      split
      · rw [h.store]
        rfl
      · exact hpoint
    · split
      · show some t.store.filledEnd = some s.store.filledEnd
        rw [h.store]
      · exact hpoint
    · exact hpoint

theorem State.placePoint_run (s : State) : s.placePoint = s.setRun { s.run with point := s.placePoint.run.point } := by
  rw [State.placePoint_eq]
  (repeat' split) <;> rfl

/-- What a repair of a head leaves of its fault, its tension state and its countdown (R141). -/
def State.repairNoted (s : State) (h : Nat) : State :=
  let w := s.watchAt h
  ((s.setMonitor { s.monitor with
      heads := s.monitor.heads.modify (h - 1) (fun w =>
        { w with countdown := s.cfg.thread.breakB, excursion := 0, warn := false, fault := none })
      warnCount := if w.warn then s.monitor.warnCount - 1 else s.monitor.warnCount }).setGov (if w.warn then
        { s.gov with derate := s.monitor.warnCount - 1 != 0 } else s.gov)).setLink
    ((if w.warn then s.link.post ⟨.tensionClear, h, s.cursor, 0⟩ else s.link).post
      ⟨.headRepaired, h, s.cursor, faultCode w.fault⟩)

theorem State.repair_eq (s : State) {h : Nat} (hin : h - 1 < s.monitor.heads.length) :
    s.repair h = ((s.repairNoted h).afterRepair h (s.watchAt h).fault).endPatchIfEmpty := by
  let a := s.modWatch h (fun w => { w with countdown := s.cfg.thread.breakB })
  have hwatch : a.watchAt h = { s.watchAt h with countdown := s.cfg.thread.breakB } := State.watchAt_modWatch_same _ _ hin
  have hin' : h - 1 < a.monitor.heads.length := by simpa [a, State.modWatch] using hin
  have hfault : ((a.clearTension h).watchAt h).fault = (s.watchAt h).fault := by
    rw [State.watchAt_congr (s := a.modWatch h (fun w => { w with excursion := 0, warn := false }))
      (a.clearTension_heads h), State.watchAt_modWatch_same _ _ hin', hwatch]
  have hnoted : ((a.clearTension h).setFault h none).post .headRepaired h (faultCode (s.watchAt h).fault) = s.repairNoted h := by
    rw [State.clearTension_eq, hwatch]
    unfold State.repairNoted
    dsimp only [a]
    cases (s.watchAt h).warn with
    | false =>
      simp only [Bool.false_eq_true, if_false, State.modWatch, State.setMonitor_monitor, State.setFault, State.post, State.postAt, List.modify_modify_eq]
      rfl
    | true =>
      simp only [if_true, State.modWatch, State.setMonitor_monitor, State.setFault, State.post, State.postAt, State.setWarnCount, State.setLink_monitor, State.setGov_monitor,
        List.modify_modify_eq]
      rfl
  unfold State.repair
  dsimp only
  rw [hfault, hnoted]

end Sys2Proof.Machine

/-!
PROOF. REPAIR DONE (section 8.6; O37).
-/

namespace Sys2Proof.Machine
set_option Elab.async false

section Noted

variable (s : State) (h : Nat)

theorem State.repairNoted_keeps : (s.repairNoted h).run = s.run ∧ (s.repairNoted h).store = s.store ∧
    (s.repairNoted h).frame = s.frame ∧ (s.repairNoted h).shaft = s.shaft ∧ (s.repairNoted h).bus = s.bus ∧
    (s.repairNoted h).change = s.change ∧ (s.repairNoted h).gaps = s.gaps ∧ (s.repairNoted h).cfg = s.cfg :=
  ⟨rfl, rfl, rfl, rfl, rfl, rfl, rfl, rfl⟩

/-- What REPAIR DONE posts (R141, R136). -/
def State.repairPosted (s : State) (h : Nat) : Link :=
  (if (s.watchAt h).warn then s.link.post ⟨.tensionClear, h, s.cursor, 0⟩ else s.link).post
    ⟨.headRepaired, h, s.cursor, faultCode (s.watchAt h).fault⟩

theorem State.repairNoted_link : (s.repairNoted h).link = s.repairPosted h := rfl

theorem State.repairPosted_reserve (tag : Byte) :
    (s.setLink (s.link.reserve tag)).repairPosted h = (s.repairPosted h).reserve tag := by
  unfold State.repairPosted
  show (if (s.watchAt h).warn then (s.link.reserve tag).post _ else s.link.reserve tag).post _ = _
  rw [Link.ite_post_reserve, Link.post_reserve]
  rfl

theorem State.repairPosted_replies : (s.repairPosted h).replies = s.link.replies := by
  unfold State.repairPosted
  rw [Link.post_replies]
  split
  · exact Link.post_replies _ _
  · rfl

/-- The head's items after its repair. -/
def HeadWatch.repaired (w : HeadWatch) (load : Nat) : HeadWatch :=
  { w with countdown := load, excursion := 0, warn := false, fault := none }

theorem State.watchAt_repairNoted_same (hin : h - 1 < s.monitor.heads.length) :
    (s.repairNoted h).watchAt h = (s.watchAt h).repaired s.cfg.thread.breakB :=
  getD_modify_same _ _ _ hin

theorem State.watchAt_repairNoted_other {j : Nat} (hne : h - 1 ≠ j - 1) : (s.repairNoted h).watchAt j = s.watchAt j :=
  getD_modify_other _ _ hne

theorem State.repairNoted_headsLength : (s.repairNoted h).monitor.heads.length = s.monitor.heads.length :=
  List.length_modify ..

theorem State.repairNoted_records : s.SameRecords (s.repairNoted h) := ⟨rfl, rfl, rfl, rfl, rfl⟩

end Noted

/-! ## A command issued finds its place (R104) -/

/-- The engagement command of a head, noted in the head table (R25). -/
def State.engageNoted (s : State) (c : BusCommand) : State :=
  match c.work.order? with
  | some o => s.modHead c.head (fun e => { e with queued := some o.cmd })
  | none => s

theorem State.engageNoted_bus (s : State) (c : BusCommand) : (s.engageNoted c).bus = s.bus := by
  unfold State.engageNoted
  split <;> rfl

theorem State.issue_of_delivered {s : State} {c : BusCommand} (hl : (s.linkAt c.head).lost = false) : s.issue c =
    (s.engageNoted c).setBus
      (if c.work.order?.isSome && (s.bus.queue ++ s.bus.held).any (fun d => d.engages c.head) then
        { s.bus with queue := replaceEngage c s.bus.queue, held := replaceEngage c s.bus.held }
      else if s.bus.queue.length < Config.queuePlaces && s.bus.held.isEmpty then
        { s.bus with queue := s.bus.queue ++ [c] }
      else { s.bus with held := s.bus.held ++ [c] }) := by
  have hissue : s.issue c =
      (let t := s.engageNoted c
       if c.work.order?.isSome && (t.bus.queue ++ t.bus.held).any (fun d => d.engages c.head) then
        t.setBus { t.bus with queue := replaceEngage c t.bus.queue, held := replaceEngage c t.bus.held }
      else if t.bus.queue.length < Config.queuePlaces && t.bus.held.isEmpty then
        t.setBus { t.bus with queue := t.bus.queue ++ [c] }
      else t.setBus { t.bus with held := t.bus.held ++ [c] }) := by
    unfold State.issue
    rw [if_neg (by simp [hl])]
    rfl
  rw [hissue]
  dsimp only
  rw [State.engageNoted_bus]
  split_ifs <;> rfl

theorem State.mem_issue {s : State} {c : BusCommand} (hl : (s.linkAt c.head).lost = false) :
    c ∈ (s.issue c).bus.queue ++ (s.issue c).bus.held := by
  rw [State.issue_of_delivered hl, State.setBus_bus]
  split
  · next hr =>
    obtain ⟨d, hd, he⟩ := List.any_eq_true.1 (Bool.and_eq_true_iff.1 hr).2
    rw [List.mem_append]
    exact (List.mem_append.1 hd).imp (fun h => List.mem_map.2 ⟨d, h, if_pos he⟩)
      fun h => List.mem_map.2 ⟨d, h, if_pos he⟩
  · split
    · simp
    · simp

/-- The command joins the end of a queue with a free place. -/
theorem State.issue_bus_of_room {s : State} {c : BusCommand} (hl : (s.linkAt c.head).lost = false)
    (hnone : ∀ d ∈ s.bus.queue ++ s.bus.held, d.engages c.head = false) (hroom : s.bus.queue.length < 16)
    (hheld : s.bus.held = []) : (s.issue c).bus = { s.bus with queue := s.bus.queue ++ [c] } := by
  have hany : (s.bus.queue ++ s.bus.held).any (fun d => d.engages c.head) = false :=
    List.any_eq_false.2 fun d hd => by simpa using hnone d hd
  rw [State.issue_of_delivered hl, State.setBus_bus, if_neg (by rw [hany]; simp),
    if_pos (by rw [hheld]; simp [Config.queuePlaces, hroom])]

theorem State.issueLower_run {s : State} {h : Nat} {becomes : HeadState} {join start : Bool}
    (hl : (s.linkAt h).lost = false) : (s.issueLower h becomes join start).run =
      (s.modHead h (fun e => { e with queued := some .lower })).run := s.issue_run ⟨h, _⟩ hl

/-! ## The request -/

section Serve

variable {s : State} {h : Nat}

theorem serveRepairDone_of_range (hr : h = 0 ∨ 8 < h) : serveRepairDone h s = refuse s .range :=
  if_pos (by simp [validHead]; omega)

variable (hlow : 1 ≤ h) (hhigh : h ≤ 8)
include hlow hhigh

theorem serveRepairDone_of_off (hs : (s.headAt h).state = .off) : serveRepairDone h s = taken s := by
  unfold serveRepairDone
  rw [if_neg (by simp [validHead, hlow, hhigh]), if_pos hs]

theorem serveRepairDone_of_lost (hs : (s.headAt h).state ≠ .off) (hl : (s.linkAt h).lost = true) :
    serveRepairDone h s = taken (s.modLink h HeadLink.askProbe).finish := by
  unfold serveRepairDone
  rw [if_neg (by simp [validHead, hlow, hhigh]), if_neg hs, if_pos hl]

theorem serveRepairDone_of_repair (hs : (s.headAt h).state ≠ .off) (hl : (s.linkAt h).lost = false) :
    serveRepairDone h s = taken (s.repair h).finish := by
  unfold serveRepairDone
  rw [if_neg (by simp [validHead, hlow, hhigh]), if_neg hs, if_neg (by simp [hl])]

end Serve

theorem State.afterRepair_of_kept {s : State} {h : Nat} {f : Option PendingFault}
    (hf : f = none ∨ ∃ kind, f = some ⟨kind, .held⟩ ∧ (s.headAt h).state ≠ .lost ∧ (s.headAt h).state ≠ .dropped) :
    s.afterRepair h f = s := by
  rcases hf with rfl | ⟨kind, rfl, hl, hd⟩
  · rfl
  · unfold State.afterRepair
    dsimp only
    rw [if_neg (by simp)]
    split
    case h_1 hs => exact absurd hs hl
    case h_2 hs => exact absurd hs hd
    all_goals rfl

/-! ## A head that dropped out, brought back or waiting to join -/

section Rejoin

variable {s : State} {h : Nat}

/-- A head brought back, but for the gap that its return closes (R142, R144). -/
def State.backInHand (s : State) (h : Nat) : State :=
  (s.modWatch h (fun w => { w with joining := false })).setHeadState h .idle

theorem State.bringBack_eq (s : State) (h : Nat) : s.bringBack h = (s.backInHand h).closeGap h := rfl

theorem State.backInHand_of_out (hs : s.engagedHead h = false) : s.backInHand h =
    (s.modWatch h (fun w => { w with joining := false })).modHead h (fun e => { e with state := .idle }) := by
  unfold State.backInHand
  rw [State.setHeadState_cases]
  have he : (s.modWatch h (fun w => { w with joining := false })).engagedHead h = false := hs
  rw [if_neg (by simp [he]), if_neg (by simp [he]), if_neg (by simp [he])]

theorem State.afterRepair_rejoins (s : State) (h : Nat) (kind : FaultKind) :
    s.afterRepair h (some ⟨kind, .dropped⟩) = s.rejoin h := by
  unfold State.afterRepair
  exact if_pos rfl

variable (hp : s.run.pass = .main)
include hp

theorem State.rejoin_of_rest
    (hs : s.run.state = .paused ∨ s.run.state = .halted ∨ s.run.state = .finished ∨ s.run.state = .idle) :
    s.rejoin h = s.bringBack h := by
  unfold State.rejoin
  rw [if_neg (by rw [hp]; decide)]
  rcases hs with hs | hs | hs | hs <;> rw [hs]

variable (hd : (s.headAt h).state = .dropped)
include hd

theorem State.rejoin_of_turning (hs : s.run.state = .running) (ht : s.shaft.state.turning = true) :
    s.rejoin h = s.joinTurning h := by
  have hout : (if (s.headAt h).state = .lost then s.setHeadState h .dropped else s) = s := if_neg (by rw [hd]; decide)
  unfold State.rejoin
  dsimp only
  rw [if_neg (by rw [hp]; decide), hout, hs]
  exact if_pos ht

theorem State.rejoin_of_waiting (hs : s.run.state = .stopping ∨ s.run.state = .changing ∨ s.run.state = .waiting ∨
    s.run.state = .arming ∨ (s.run.state = .running ∧ s.shaft.state.turning = false) ∨
    (s.run.state = .travelling ∧ s.inRun = true)) : s.rejoin h = s.waitToJoin h := by
  have hout : (if (s.headAt h).state = .lost then s.setHeadState h .dropped else s) = s := if_neg (by rw [hd]; decide)
  unfold State.rejoin
  dsimp only
  rw [if_neg (by rw [hp]; decide), hout]
  rcases hs with hs | hs | hs | hs | ⟨hs, ht⟩ | ⟨hs, ht⟩
  · rw [hs]
  · rw [hs]
  · rw [hs]
  · rw [hs]
  · rw [hs]
    exact if_neg (by rw [ht]; decide)
  · rw [hs]
    exact if_pos ht

end Rejoin

theorem exec_repairDone_addressed (s : State) (tag : Byte) (h : Nat) :
    exec (.repairDone (.addressed tag) h) s = .next (s.takeAddressed tag (serveRepairDone h)) := rfl

/-- The state with a reply place reserved and the repair noted. -/
theorem exec_repairDone_of_repair (s : State) (tag : Byte) {h : Nat} (hh : s.hears = true) (hlow : 1 ≤ h) (hhigh : h ≤ 8)
    (hs : (s.headAt h).state ≠ .off) (hl : (s.linkAt h).lost = false) (hin : h - 1 < s.monitor.heads.length) :
    exec (.repairDone (.addressed tag) h) s = .next (State.deliver
      (((((s.setLink (s.link.reserve tag)).repairNoted h).afterRepair h (s.watchAt h).fault).endPatchIfEmpty).finish,
        some ⟨.ok, []⟩)) := by
  refine (exec_repairDone_addressed s tag h).trans (congrArg _ ((State.takeAddressed_hears s tag _ hh).trans ?_))
  rw [serveRepairDone_of_repair (s := s.setLink (s.link.reserve tag)) hlow hhigh hs hl,
    State.repair_eq (s.setLink (s.link.reserve tag)) hin]
  rfl

end Sys2Proof.Machine

/-!
PROOF. REPAIR DONE (section 8.6; O37): what it leaves in every run state.
-/

namespace Sys2Proof.Machine
set_option Elab.async false

section Repair

variable (s : State) (tag : Byte) (h : Nat)

/-- The repair noted on the state with a reply place reserved. -/
def State.repairBegun (s : State) (tag : Byte) (h : Nat) : State := (s.setLink (s.link.reserve tag)).repairNoted h

theorem State.repairBegun_eq :
    s.repairBegun tag h = (s.repairNoted h).setLink ((s.repairNoted h).link.reserve tag) := by
  have hlink : (s.repairBegun tag h).link = (s.repairNoted h).link.reserve tag := s.repairPosted_reserve h tag
  rw [← hlink]
  rfl

theorem State.repairBegun_link : (s.repairBegun tag h).link = (s.repairPosted h).reserve tag := s.repairPosted_reserve h tag

theorem State.repairBegun_replies : (s.repairBegun tag h).link.replies = s.link.replies ++ [⟨tag, none⟩] := by
  rw [State.repairBegun_link]
  show (s.repairPosted h).replies ++ _ = _
  rw [State.repairPosted_replies]

theorem State.repairBegun_events : (s.repairBegun tag h).link.events = (s.repairPosted h).events := by
  rw [State.repairBegun_link]
  rfl

theorem State.repairBegun_watch_same (hin : h - 1 < s.monitor.heads.length) :
    (s.repairBegun tag h).watchAt h = (s.watchAt h).repaired s.cfg.thread.breakB :=
  (s.setLink (s.link.reserve tag)).watchAt_repairNoted_same h hin

theorem State.repairBegun_watch_other {j : Nat} (hne : h - 1 ≠ j - 1) : (s.repairBegun tag h).watchAt j = s.watchAt j :=
  (s.setLink (s.link.reserve tag)).watchAt_repairNoted_other h hne

end Repair

theorem Link.postClosed_replies (l : Link) (gaps : List Gap) (h c : Nat) : (l.postClosed gaps h c).replies = l.replies := by
  unfold Link.postClosed
  split
  · rfl
  · exact Link.post_replies _ _

/-- A repaired head is brought back at once in a run at rest (R141, R142, R148). -/
theorem exec_repairDone_brings (s : State) (tag : Byte) {h : Nat} (hh : s.hears = true) (hshapes : s.shapesRight = true)
    (hq : s.quiet = true) (hlow : 1 ≤ h) (hhigh : h ≤ 8) (hlost : (s.linkAt h).lost = false) (hp : s.run.pass = .main)
    {kind : FaultKind} (hf : (s.watchAt h).fault = some ⟨kind, .dropped⟩) (hd : (s.headAt h).state = .dropped)
    (hs : s.run.state = .paused ∨ s.run.state = .halted ∨ s.run.state = .finished ∨ s.run.state = .idle) :
    ∃ t, exec (.repairDone (.addressed tag) h) s = .next t ∧ (t.headAt h).state = .idle ∧ (t.watchAt h).fault = none ∧
      (t.watchAt h).joining = false ∧ (t.watchAt h).countdown = s.cfg.thread.breakB ∧
      t.gaps = closedGaps s.gaps h s.run.mainCursor ∧
      t.link.events = ((s.repairPosted h).postClosed s.gaps h s.run.mainCursor).events ∧
      t.link.overflow = ((s.repairPosted h).postClosed s.gaps h s.run.mainCursor).overflow ∧
      t.run.state = s.run.state ∧ t.run.mainCursor = s.run.mainCursor ∧ t.frame = s.frame ∧ t.shaft = s.shaft ∧
      t.cfg = s.cfg ∧ t.link.replies = s.link.replies ++ [⟨tag, some ⟨.ok, []⟩⟩] ∧
      (∀ j, j ≠ h → 1 ≤ j → j ≤ 8 → t.headAt j = s.headAt j ∧ t.watchAt j = s.watchAt j) := by
  obtain ⟨hrunLen, hmonLen, -⟩ := s.shapesRight_iff.1 hshapes
  have hin : h - 1 < s.monitor.heads.length := by omega
  have hinr : h - 1 < s.run.heads.length := by omega
  let b := s.repairBegun tag h
  let m := b.modWatch h (fun w => { w with joining := false })
  let v := b.backInHand h
  have hv : v = m.modHead h (fun e => { e with state := .idle }) := State.backInHand_of_out (s := b) (by
    show (s.headAt h).state.engaged = false
    rw [hd]
    rfl)
  let u := v.closeGap h
  have hafter : b.afterRepair h (s.watchAt h).fault = u := by
    rw [hf, State.afterRepair_rejoins, State.rejoin_of_rest (s := b) hp hs]
    rfl
  have hurun : u.run = (b.modHead h (fun e => { e with state := .idle })).run := by
    rw [(v.closeGap_keeps h).1, hv]
    rfl
  have hmonitor : u.monitor = m.monitor := by
    rw [(v.closeGap_keeps h).2.2.2.2.2.2.1, hv]
    rfl
  have hframe : u.frame = s.frame := by
    rw [(v.closeGap_keeps h).2.2.1, hv]
    rfl
  have hshaft : u.shaft = s.shaft := by
    rw [(v.closeGap_keeps h).2.2.2.1, hv]
    rfl
  have hcfg : u.cfg = s.cfg := by
    rw [(v.closeGap_keeps h).2.2.2.2.2.2.2.1, hv]
    rfl
  have hgaps : u.gaps = closedGaps s.gaps h s.run.mainCursor := by
    show (v.closeGap h).gaps = _
    rw [State.closeGap_gaps, hv]
    rfl
  have hlink : u.link.SameButGrant ((b.link).postClosed s.gaps h s.run.mainCursor) := by
    have hclosed := State.closeGap_link v h
    have hvlink : v.link.postClosed v.gaps h v.run.mainCursor = b.link.postClosed s.gaps h s.run.mainCursor := by
      rw [hv]
      rfl
    rwa [hvlink] at hclosed
  rw [State.repairBegun_link, Link.postClosed_reserve] at hlink
  have hquiet : u.quiet = true := by
    rw [State.quiet_congr (s := s) ((congrArg Run.activity hurun).trans rfl) ((congrArg Run.state hurun).trans rfl) hframe]
    exact hq
  have hreplies : u.link.replies = s.link.replies ++ [⟨tag, none⟩] := by
    rw [hlink.replies]
    show ((s.repairPosted h).postClosed s.gaps h s.run.mainCursor).replies ++ _ = _
    rw [Link.postClosed_replies, State.repairPosted_replies]
  have hserve : serveRepairDone h (s.setLink (s.link.reserve tag)) = (u.pump, some ⟨.ok, []⟩) := by
    have hrepair : (s.setLink (s.link.reserve tag)).repair h = u := by
      rw [State.repair_eq (s.setLink (s.link.reserve tag)) hin]
      exact (congrArg State.endPatchIfEmpty hafter).trans (State.endPatchIfEmpty_of_main (by rw [hurun]; exact hp))
    rw [serveRepairDone_of_repair (s := s.setLink (s.link.reserve tag)) hlow hhigh
      (by show (s.headAt h).state ≠ .off; rw [hd]; decide) hlost, hrepair, State.finish_quiet u hquiet]
    rfl
  obtain ⟨hprun, -, -, hpframe, hpshaft, -, hpmonitor, hpgaps, hplink, hpcfg, -⟩ := u.pump_keeps
  refine ⟨_, (exec_repairDone_addressed s tag h).trans (congrArg _
    (State.takeAddressed_existential s u.pump tag _ .ok [] hh (by rw [hplink]; exact hreplies) hserve)), ?_⟩
  have hwatch : ∀ j, u.watchAt j = m.watchAt j := State.watchAt_congr (congrArg Monitor.heads hmonitor)
  have hsame : u.watchAt h = { (s.watchAt h).repaired s.cfg.thread.breakB with joining := false } := by
    rw [hwatch, State.watchAt_modWatch_same _ _ ((s.setLink (s.link.reserve tag)).repairNoted_headsLength h ▸ hin),
      State.repairBegun_watch_same s tag h hin]
  have hhead : ∀ j, u.pump.headAt j = (b.modHead h (fun e => { e with state := .idle })).headAt j :=
    State.headAt_congr (by rw [hprun, hurun])
  have hpwatch : ∀ j, u.pump.watchAt j = u.watchAt j := State.watchAt_congr (by rw [hpmonitor])
  refine ⟨?_, ?_, ?_, ?_, hpgaps.trans hgaps, (congrArg Link.events hplink).trans hlink.events,
    (congrArg Link.overflow hplink).trans hlink.overflow, (congrArg Run.state (hprun.trans hurun)).trans rfl,
    (congrArg Run.mainCursor (hprun.trans hurun)).trans rfl, hpframe.trans hframe, hpshaft.trans hshaft,
    hpcfg.trans hcfg, rfl, fun j hne hj hj8 => ⟨?_, ?_⟩⟩
  · refine (congrArg HeadEntry.state ((hhead h).trans (State.headAt_modHead_same _ _ hinr))).trans rfl
  · exact (congrArg HeadWatch.fault ((hpwatch h).trans hsame)).trans rfl
  · exact (congrArg HeadWatch.joining ((hpwatch h).trans hsame)).trans rfl
  · exact (congrArg HeadWatch.countdown ((hpwatch h).trans hsame)).trans rfl
  · exact (hhead j).trans (State.headAt_modHead_other _ _ (pred_ne_pred hlow hj hne))
  · exact ((hpwatch j).trans (hwatch j)).trans ((State.watchAt_modWatch_other _ _ (pred_ne_pred hlow hj hne)).trans
      (State.repairBegun_watch_other s tag h (pred_ne_pred hlow hj hne)))

end Sys2Proof.Machine

/-!
PROOF. REPAIR DONE (section 8.6; O37): a head that waits for the run in progress, and the obligation.
-/

namespace Sys2Proof.Machine
set_option Elab.async false

section InRun

variable {s : State} {tag : Byte} {h : Nat}

theorem exec_repairDone_rejoins (hh : s.hears = true) (hlow : 1 ≤ h) (hhigh : h ≤ 8) (hin : h - 1 < s.monitor.heads.length)
    (hlost : (s.linkAt h).lost = false) {kind : FaultKind} (hf : (s.watchAt h).fault = some ⟨kind, .dropped⟩)
    (hd : (s.headAt h).state = .dropped) {u : State} (hu : (s.repairBegun tag h).rejoin h = u) (hp : u.run.pass = .main) :
    exec (.repairDone (.addressed tag) h) s = .next (State.deliver (u.finish, some ⟨.ok, []⟩)) := by
  rw [exec_repairDone_of_repair s tag hh hlow hhigh (by rw [hd]; decide) hlost hin, hf, State.afterRepair_rejoins]
  rw [show ((s.setLink (s.link.reserve tag)).repairNoted h).rejoin h = u from hu, State.endPatchIfEmpty_of_main hp]

/-- What a repair in a run in progress leaves, but for the join: the head is still DROPPED, its fault gone (R142). -/
structure State.Repaired (s : State) (tag : Byte) (h : Nat) (joining : Bool) (u : State) : Prop where
  head : (u.headAt h).state = .dropped
  watch : u.watchAt h = { (s.watchAt h).repaired s.cfg.thread.breakB with joining := joining }
  run : u.run = { s.run with heads := u.run.heads, point := u.run.point }
  gaps : u.gaps = s.gaps
  shaft : u.shaft = s.shaft
  frame : u.frame = s.frame
  store : u.store = s.store
  change : u.change = s.change
  cfg : u.cfg = s.cfg
  events : u.link.events = (s.repairPosted h).events
  replies : u.link.replies = s.link.replies ++ [⟨tag, none⟩]
  others : ∀ j, j ≠ h → 1 ≤ j → j ≤ 8 → u.headAt j = s.headAt j ∧ u.watchAt j = s.watchAt j

variable (hlow : 1 ≤ h) (hd : (s.headAt h).state = .dropped)
include hlow hd

theorem State.repaired_wait (hin : h - 1 < s.monitor.heads.length) :
    s.Repaired tag h true ((s.repairBegun tag h).waitToJoin h) where
  head := hd
  watch := by
    unfold State.waitToJoin
    rw [State.watchAt_modWatch_same _ _ ((s.setLink (s.link.reserve tag)).repairNoted_headsLength h ▸ hin),
      State.repairBegun_watch_same s tag h hin]
  run := rfl
  gaps := rfl
  shaft := rfl
  frame := rfl
  store := rfl
  change := rfl
  cfg := rfl
  events := s.repairBegun_events tag h
  replies := s.repairBegun_replies tag h
  others j hne hj _ := ⟨rfl, (State.watchAt_modWatch_other _ _ (pred_ne_pred hlow hj hne)).trans
    (State.repairBegun_watch_other s tag h (pred_ne_pred hlow hj hne))⟩

theorem State.repaired_point (hin : h - 1 < s.monitor.heads.length) :
    s.Repaired tag h true ((s.repairBegun tag h).waitToJoin h).placePoint := by
  have hw := State.repaired_wait (tag := tag) hlow hd hin
  rw [State.placePoint_run]
  exact ⟨hw.head, hw.watch, rfl, hw.gaps, hw.shaft, hw.frame, hw.store, hw.change, hw.cfg, hw.events, hw.replies, hw.others⟩

theorem State.repaired_direct (hin : h - 1 < s.monitor.heads.length) (hinr : h - 1 < s.run.heads.length)
    (hlost : (s.linkAt h).lost = false) :
    s.Repaired tag h (s.watchAt h).joining ((s.repairBegun tag h).issueLower h .sewing true false) := by
  let b := s.repairBegun tag h
  let u := b.issueLower h .sewing true false
  have hurun : u.run = (b.modHead h (fun e => { e with queued := some .lower })).run := State.issueLower_run hlost
  have hkeeps := b.issue_keeps ⟨h, .engage ⟨.lower, .sewing, true, false⟩⟩
  have hhead : ∀ j, u.headAt j = (b.modHead h (fun e => { e with queued := some .lower })).headAt j :=
    State.headAt_congr (congrArg Run.heads hurun)
  have hwatch : ∀ j, u.watchAt j = b.watchAt j := State.watchAt_congr (congrArg Monitor.heads (b.issue_monitor _))
  obtain ⟨hstore, -, hframe, hshaft, -, hgaps, hlink, hcfg, -⟩ := hkeeps
  refine ⟨?_, ?_, ?_, hgaps, hshaft, hframe, hstore, b.issue_change hlost, hcfg, ?_, ?_, fun j hne hj _ => ⟨?_, ?_⟩⟩
  · exact (congrArg HeadEntry.state ((hhead h).trans (State.headAt_modHead_same _ _ hinr))).trans hd
  · exact (hwatch h).trans (s.repairBegun_watch_same tag h hin)
  · rw [hurun]
    rfl
  · exact (congrArg Link.events hlink).trans (s.repairBegun_events tag h)
  · exact (congrArg Link.replies hlink).trans (s.repairBegun_replies tag h)
  · exact (hhead j).trans (State.headAt_modHead_other _ _ (pred_ne_pred hlow hj hne))
  · exact (hwatch j).trans (s.repairBegun_watch_other tag h (pred_ne_pred hlow hj hne))

end InRun

theorem State.repairBegun_records (s : State) (tag : Byte) (h : Nat) : s.SameRecords ((s.repairBegun tag h).waitToJoin h) :=
  ⟨rfl, rfl, rfl, rfl, rfl⟩

theorem State.joinTurning_of_direct {s : State} {h q : Nat} (hq : q = s.change.needle (s.stampAt s.run.mainCursor).colour h)
    (hdirect : q ≠ 0 ∧ (s.workAt h).lastKnown = some q) : s.joinTurning h = s.issueLower h .sewing true false := by
  subst hq
  exact if_pos hdirect

theorem State.joinTurning_of_point {s : State} {h q : Nat} (hq : q = s.change.needle (s.stampAt s.run.mainCursor).colour h)
    (hdirect : ¬ (q ≠ 0 ∧ (s.workAt h).lastKnown = some q)) : s.joinTurning h = (s.waitToJoin h).placePoint := by
  subst hq
  exact if_neg hdirect

/-- REPAIR DONE at a head whose repair changes nothing else. -/
theorem exec_repairDone_keeps (s : State) (tag : Byte) {h : Nat} (hh : s.hears = true) (hq : s.quiet = true)
    (hlow : 1 ≤ h) (hhigh : h ≤ 8) (hin : h - 1 < s.monitor.heads.length) (hs : (s.headAt h).state ≠ .off)
    (hlost : (s.linkAt h).lost = false) (hp : s.run.pass = .main)
    (hf : (s.watchAt h).fault = none ∨ ∃ kind, (s.watchAt h).fault = some ⟨kind, .held⟩ ∧ (s.headAt h).state ≠ .lost ∧
      (s.headAt h).state ≠ .dropped) :
    exec (.repairDone (.addressed tag) h) s = .next ((s.repairNoted h).pump.replied tag .ok []) := by
  let r := s.setLink (s.link.reserve tag)
  have hrepair : r.repair h = (s.repairNoted h).setLink ((s.repairNoted h).link.reserve tag) := by
    rw [State.repair_eq r hin, State.afterRepair_of_kept (s := r.repairNoted h) (f := (r.watchAt h).fault) hf,
      State.endPatchIfEmpty_of_main (s := r.repairNoted h) hp]
    exact s.repairBegun_eq tag h
  refine (exec_repairDone_addressed s tag h).trans (congrArg _ (State.takeAddressed_pumped s (s.repairNoted h) tag _ .ok []
    hh (s.repairPosted_replies h) ?_))
  rw [serveRepairDone_of_repair (s := r) hlow hhigh hs hlost, hrepair,
    State.finish_quiet ((s.repairNoted h).setLink ((s.repairNoted h).link.reserve tag)) hq]
  rfl

/-- REPAIR DONE at a head that does not answer asks for a probe (R111). -/
theorem exec_repairDone_probes (s : State) (tag : Byte) {h : Nat} (hh : s.hears = true) (hq : s.quiet = true)
    (hlow : 1 ≤ h) (hhigh : h ≤ 8) (hs : (s.headAt h).state ≠ .off) (hlost : (s.linkAt h).lost = true) :
    exec (.repairDone (.addressed tag) h) s = .next ((s.modLink h HeadLink.askProbe).pump.replied tag .ok []) := by
  let r := s.setLink (s.link.reserve tag)
  refine (exec_repairDone_addressed s tag h).trans (congrArg _ (State.takeAddressed_pumped s (s.modLink h HeadLink.askProbe)
    tag _ .ok [] hh rfl ?_))
  rw [serveRepairDone_of_lost (s := r) hlow hhigh hs hlost, State.finish_quiet (r.modLink h HeadLink.askProbe) hq]
  rfl

/-- Settles O37: REPAIR DONE by the head's state and the run state, and the place of the join point. -/
theorem repairDoneRepairsAtOnce : Obligations.RepairDoneRepairsAtOnce := by
  refine ⟨?_, ?_, ?_⟩
  · intro s tag h hh hshapes hq run w index warned c isOpen closed told
    obtain ⟨hrunLen, hmonLen, -⟩ := s.shapesRight_iff.1 hshapes
    refine ⟨fun hr => congrArg _ (State.takeAddressed_refused s tag _ .range hh (serveRepairDone_of_range hr)),
      fun hlow hhigh => ⟨fun hoff => ?_, fun hs hlost => ?_, fun hs hlost hp => ⟨fun hf => ?_, fun kind hf hd hrest => ?_⟩⟩⟩
    · exact congrArg _ (State.takeAddressed_taken s s tag _ hh rfl
        (serveRepairDone_of_off (s := s.setLink (s.link.reserve tag)) hlow hhigh hoff))
    · exact exec_repairDone_probes s tag hh hq hlow hhigh hs hlost
    · exact exec_repairDone_keeps s tag hh hq hlow hhigh (by omega) hs hlost hp hf
    · have htold : ∀ l, told l = l.postClosed s.gaps h c := fun l => rfl
      have hclosed : closed = closedGaps s.gaps h c := rfl
      rw [htold, hclosed]
      exact exec_repairDone_brings s tag hh hshapes hq hlow hhigh hlost hp hf hd hrest
  · intro s tag h kind hh hshapes hlow hhigh hlost hp hf hd run w q direct turning lower warned repaired
    obtain ⟨hrunLen, hmonLen, -⟩ := s.shapesRight_iff.1 hshapes
    have hin : h - 1 < s.monitor.heads.length := by omega
    have hinr : h - 1 < s.run.heads.length := by omega
    let b := s.repairBegun tag h
    have hrepaired : ∀ (u : State) (joining : Bool), b.rejoin h = u → s.Repaired tag h joining u → repaired u joining :=
      fun u joining hu hr => by
        have hmain : u.run.pass = .main := by
          rw [hr.run]
          exact hp
        exact ⟨exec_repairDone_rejoins hh hlow hhigh hin hlost hf hd hu hmain, hr.head, hr.watch, hr.run, hr.gaps, hr.shaft,
          hr.frame, hr.store, hr.change, hr.cfg, hr.events, hr.replies, hr.others⟩
    have hturning : turning ↔ b.shaft.state.turning = true := by
      rw [ShaftState.turning_iff]
      show (_ ∨ _ ∨ _) ↔ s.shaft.state = _ ∨ s.shaft.state = _ ∨ s.shaft.state = _
      tauto
    refine ⟨fun hs ht => ?_, fun hs => ?_⟩
    · have hrejoin : b.rejoin h = b.joinTurning h := State.rejoin_of_turning (s := b) hp hd hs (hturning.1 ht)
      refine ⟨fun hdirect => ?_, fun hdirect => ?_⟩
      · have hjoin : b.joinTurning h = b.issueLower h .sewing true false :=
          State.joinTurning_of_direct (s := b) (q := q) rfl hdirect
        have hrun := State.issueLower_run (s := b) (becomes := .sewing) (join := true) (start := false) hlost
        refine ⟨_, hrepaired _ _ (hrejoin.trans hjoin) (State.repaired_direct hlow hd hin hinr hlost), ?_, ?_, ?_, ?_⟩
        · exact (congrArg Run.point hrun).trans rfl
        · refine (congrArg HeadEntry.queued ((State.headAt_congr (congrArg Run.heads hrun) h).trans
            (State.headAt_modHead_same _ _ hinr))).trans rfl
        · exact fun hnone hroom hheld => State.issue_bus_of_room (s := b) (c := lower) hlost hnone hroom hheld
        · exact State.mem_issue (s := b) (c := lower) hlost
      · have hjoin : b.joinTurning h = (b.waitToJoin h).placePoint := State.joinTurning_of_point (s := b) (q := q) rfl hdirect
        exact ⟨_, hrepaired _ _ (hrejoin.trans hjoin) (State.repaired_point hlow hd hin), (State.placePoint_keeps _).2.2.2.2.1,
          (s.repairBegun_records tag h).placePoint⟩
    · refine ⟨_, hrepaired _ _ (State.rejoin_of_waiting (s := b) hp hd ?_) (State.repaired_wait hlow hd hin), rfl, rfl⟩
      have hstill : ¬ turning → s.shaft.state.turning = false := fun hn => by
        rw [← Bool.not_eq_true]
        exact fun ht => hn (hturning.2 ht)
      have hinRun : s.run.state = .travelling → (s.run.activity = .returnTravel ∨ s.run.travelReturn = some .paused) →
          s.inRun = true := fun hs ha => by
        unfold State.inRun
        rw [hs]
        rcases ha with ha | ha
        · rw [ha]
          rfl
        · simp [ha]
      exact hs.imp id fun hs => hs.imp id fun hs => hs.imp id fun hs => hs.imp id fun hs =>
        hs.imp (fun hs => ⟨hs.1, hstill hs.2⟩) fun hs => ⟨hs.1, hinRun hs.1 hs.2⟩
  · intro s motion first far
    refine ⟨fun hp => ?_, fun i held e hp hlook hlast => ?_, fun hp hlook hmain => ?_⟩
    · rw [State.placePoint_eq, if_pos (Option.isSome_iff_ne_none.2 hp)]
    · have hout : s.pointFarOut.outlook (if s.run.carry then s.cursor + 1 else s.cursor) = .motion i held := hlook
      have hwindow : (s.pointFarOut.windowAt i).getLast? = some e := hlast
      obtain ⟨hplace, hbetween⟩ := s.store.pointBehind_spec e.index
      refine ⟨s.store.pointBehind e.index, ?_, hplace, hbetween⟩
      rw [State.placePoint_eq, if_neg (by rw [hp]; simp), hout]
      dsimp only
      rw [hwindow]
    · have hout : s.pointFarOut.outlook (if s.run.carry then s.cursor + 1 else s.cursor) = .stop := hlook
      rw [State.placePoint_eq, if_neg (by rw [hp]; simp), hout]
      exact if_pos hmain

end Sys2Proof.Machine

/-!
PROOF. OPEN DESIGN and DISCARD DESIGN (section 2.2; O22): heads made IDLE one after another, and LIFTs on their way.
-/

namespace Sys2Proof.Machine
set_option Elab.async false

/-! ## What holds from one head's step on -/

/-- A fold over the heads: what a head's step brings about and no other head's step undoes. -/
theorem foldl_heads_after {f : State → Nat → State} {h : Nat} (hlow : 1 ≤ h) (hhigh : h ≤ 8) {Q : State → Prop}
    (hother : ∀ (s : State) j, 1 ≤ j → j ≤ 8 → j ≠ h → s.SameHead (f s j) h)
    (hkeep : ∀ (s : State) j, 1 ≤ j → j ≤ 8 → j ≠ h → Q s → Q (f s j)) (s : State)
    (hstep : ∀ u, s.SameHead u h → Q (f u h)) : Q (headNumbers.foldl f s) := by
  obtain ⟨front, back, hsplit, hfront, hback⟩ := headNumbers_split hlow hhigh
  have hmem : ∀ x, x ∈ front ∨ x ∈ back → x ≤ 8 := fun x hx => by
    refine ((mem_headNumbers x).1 ?_).2
    rw [hsplit, List.mem_append, List.mem_cons]
    exact hx.imp_right .inr
  have hsame : ∀ l : List Nat, (∀ x ∈ l, (1 ≤ x ∧ x ≠ h) ∧ x ≤ 8) → ∀ s : State, s.SameHead (l.foldl f s) h := by
    intro l
    induction l with
    | nil => exact fun _ s => .refl s h
    | cons x l ih =>
      intro hl s
      obtain ⟨⟨hx, hne⟩, hx8⟩ := hl x List.mem_cons_self
      exact (hother s x hx hx8 hne).trans (ih (fun y hy => hl y (List.mem_cons_of_mem _ hy)) _)
  have hkept : ∀ l : List Nat, (∀ x ∈ l, (1 ≤ x ∧ x ≠ h) ∧ x ≤ 8) → ∀ s : State, Q s → Q (l.foldl f s) := by
    intro l
    induction l with
    | nil => exact fun _ s hs => hs
    | cons x l ih =>
      intro hl s hs
      obtain ⟨⟨hx, hne⟩, hx8⟩ := hl x List.mem_cons_self
      exact ih (fun y hy => hl y (List.mem_cons_of_mem _ hy)) _ (hkeep s x hx hx8 hne hs)
  rw [hsplit, List.foldl_append, List.foldl_cons]
  exact hkept back (fun x hx => ⟨hback x hx, hmem x (.inr hx)⟩) _
    (hstep _ (hsame front (fun x hx => ⟨hfront x hx, hmem x (.inl hx)⟩) s))

/-! ## A command issued for one head leaves another's -/

section Issue

variable {s : State} {c : BusCommand} {j : Nat}

theorem State.engageNoted_sameHead (hne : c.head - 1 ≠ j - 1) : s.SameHead (s.engageNoted c) j := by
  unfold State.engageNoted
  split
  · exact State.modHead_sameHead _ hne
  · exact .refl s j

theorem State.modWork_sameHead {h : Nat} (f : HeadWork → HeadWork) (hne : h - 1 ≠ j - 1) : s.SameHead (s.modWork h f) j :=
  ⟨rfl, rfl, getD_modify_other _ _ hne, rfl⟩

theorem State.issue_sameHead (hne : c.head - 1 ≠ j - 1) : s.SameHead (s.issue c) j := by
  by_cases hl : (s.linkAt c.head).lost = true
  · unfold State.issue
    rw [if_pos hl]
    unfold State.notDelivered State.handOver
    dsimp only
    split_ifs
    · exact (State.modWork_sameHead _ hne).trans (State.modHead_sameHead _ hne)
    · exact State.modHead_sameHead _ hne
    · exact State.modWork_sameHead _ hne
    · exact .refl s j
  · rw [State.issue_of_delivered (Bool.eq_false_iff.2 hl)]
    refine (State.engageNoted_sameHead hne).trans (State.SameHead.of_lists (s := s.engageNoted c) ?_ ?_ ?_ ?_ j)
    · rfl
    · rfl
    · rfl
    · rw [State.setBus_bus, State.engageNoted_bus]
      split_ifs <;> rfl

/-- A command issued changes no more of the head table than what is queued for its head. -/
theorem State.issue_entry (k : Nat) :
    ((s.issue c).headAt k).state = (s.headAt k).state ∧ ((s.issue c).headAt k).needle = (s.headAt k).needle := by
  have hmod : ∀ (t : State) (q : Option Engage),
      ((t.modHead c.head (fun e => { e with queued := q })).headAt k).state = (t.headAt k).state ∧
        ((t.modHead c.head (fun e => { e with queued := q })).headAt k).needle = (t.headAt k).needle := fun t q => by
    unfold State.headAt State.modHead
    simp only [State.setRun_run, List.getD_eq_getElem?_getD, List.getElem?_modify]
    cases t.run.heads[k - 1]? with
    | none => exact ⟨rfl, rfl⟩
    | some e =>
      simp only [Option.getD_some]
      split <;> exact ⟨rfl, rfl⟩
  by_cases hl : (s.linkAt c.head).lost = true
  · unfold State.issue
    rw [if_pos hl]
    unfold State.notDelivered State.handOver
    dsimp only
    split_ifs
    · exact hmod (s.modWork c.head _) none
    · exact hmod s none
    · exact ⟨rfl, rfl⟩
    · exact ⟨rfl, rfl⟩
  · rw [State.issue_of_delivered (Bool.eq_false_iff.2 hl)]
    show ((s.engageNoted c).headAt k).state = _ ∧ _
    unfold State.engageNoted
    split
    · exact hmod s _
    · exact ⟨rfl, rfl⟩

/-- A command stays on its way when one is issued for another head (R104). -/
theorem State.outstanding_issue {d : BusCommand} (hne : d.head ≠ c.head)
    (hd : s.bus.outstanding (fun x => x == d) = true) : (s.issue c).bus.outstanding (fun x => x == d) = true := by
  by_cases hl : (s.linkAt c.head).lost = true
  · unfold State.issue
    rw [if_pos hl]
    unfold State.notDelivered State.handOver
    dsimp only
    split_ifs <;> exact hd
  · have hreplace : ∀ l : List BusCommand, (∃ x ∈ l, (x == d) = true) → ∃ x ∈ replaceEngage c l, (x == d) = true := by
      rintro l ⟨x, hx, hxd⟩
      rw [beq_iff_eq] at hxd
      subst hxd
      refine ⟨x, List.mem_map.2 ⟨x, hx, if_neg ?_⟩, beq_self_eq_true x⟩
      simp [BusCommand.engages, hne]
    have happend : ∀ l : List BusCommand, (∃ x ∈ l, (x == d) = true) → ∃ x ∈ l ++ [c], (x == d) = true :=
      fun l ⟨x, hx, hxd⟩ => ⟨x, List.mem_append_left _ hx, hxd⟩
    rw [State.issue_of_delivered (Bool.eq_false_iff.2 hl), State.setBus_bus]
    rw [Bus.outstanding_iff] at hd ⊢
    split_ifs
    · exact hd.imp (hreplace _) (Or.imp_left (hreplace _))
    · exact hd.imp_left (happend _)
    · exact hd.imp_right (Or.imp_left (happend _))

theorem State.liftOnItsWay_issue {h : Nat} {becomes : HeadState} (hj : 1 ≤ c.head) (hh : 1 ≤ h) (hne : c.head ≠ h)
    (hl : s.liftOnItsWay h becomes = true) : (s.issue c).liftOnItsWay h becomes = true := by
  unfold State.liftOnItsWay at hl ⊢
  rw [Bool.and_eq_true] at hl ⊢
  rw [(State.issue_sameHead (s := s) (c := c) (j := h) (by omega)).head]
  exact ⟨hl.1, State.outstanding_issue (Ne.symm hne) hl.2⟩

theorem State.liftOnItsWay_congr {t : State} {h : Nat} {becomes : HeadState} (hh : t.headAt h = s.headAt h)
    (hb : t.bus = s.bus) : t.liftOnItsWay h becomes = s.liftOnItsWay h becomes := by
  unfold State.liftOnItsWay
  rw [hh, hb]

end Issue

/-! ## A head made IDLE (R23) -/

theorem headAt_in {s : State} {h : Nat} (hs : (s.headAt h).state ≠ .off) : h - 1 < s.run.heads.length := by
  by_contra hout
  refine hs ?_
  unfold State.headAt
  rw [List.getD_eq_default _ _ (by omega)]
  rfl

theorem getD_modify_of_default {α : Type} [Inhabited α] (l : List α) (i : Nat) (f : α → α) (hf : f default = default) :
    (l.modify i f).getD i default = f (l.getD i default) := by
  rw [List.getD_eq_getElem?_getD, List.getD_eq_getElem?_getD, List.getElem?_modify_eq]
  cases l[i]? with
  | none => exact hf.symm
  | some a => rfl

section Idle

variable (s : State) (h : Nat)

theorem State.idleHead_of_engaged (he : s.engagedHead h = true) :
    s.idleHead h = (s.setHeadState h .idle).issueLift h .idle false := if_pos he

theorem State.idleHead_of_resting (he : s.engagedHead h = false) (hr : (s.headAt h).state = .resting) :
    s.idleHead h = s.modHead h (fun e => { e with state := .idle }) := by
  unfold State.idleHead
  rw [if_neg (by simp [he]), if_pos hr, State.setHeadState_cases, if_neg (by simp [he]), if_neg (by simp [he]),
    if_neg (by simp [he])]

theorem State.idleHead_of_other (he : s.engagedHead h = false) (hr : (s.headAt h).state ≠ .resting) : s.idleHead h = s := by
  unfold State.idleHead
  rw [if_neg (by simp [he]), if_neg hr]

variable {s h}

theorem State.idleHead_sameHead {j : Nat} (hne : h - 1 ≠ j - 1) : s.SameHead (s.idleHead h) j := by
  unfold State.idleHead
  split_ifs
  · exact (State.setHeadState_sameHead _ hne).trans (State.issue_sameHead (c := ⟨h, _⟩) hne)
  · exact State.setHeadState_sameHead _ hne
  · exact .refl s j

theorem State.engaged_on (he : s.engagedHead h = true) : (s.headAt h).state ≠ .off := fun hoff => by
  unfold State.engagedHead at he
  rw [hoff] at he
  cases he

/-- The head's own entry, once it has been made IDLE. -/
theorem State.idleHead_head : ((s.idleHead h).headAt h).needle = (s.headAt h).needle ∧ ((s.idleHead h).headAt h).state =
    (if (s.headAt h).state = .sewing ∨ (s.headAt h).state = .resting ∨ (s.headAt h).state = .patch then .idle
      else (s.headAt h).state) := by
  by_cases he : s.engagedHead h = true
  · have hin := headAt_in (State.engaged_on he)
    have hset : (s.setHeadState h .idle).headAt h = { s.headAt h with state := .idle } :=
      State.headAt_setHeadState_same _ _ _ hin
    have hissue := State.issue_entry (s := s.setHeadState h .idle) (c := ⟨h, .engage ⟨.lift, .idle, false, false⟩⟩) h
    rw [hset] at hissue
    rw [State.idleHead_of_engaged s h he, if_pos]
    · exact ⟨hissue.2, hissue.1⟩
    · unfold State.engagedHead at he
      cases hs : (s.headAt h).state with
      | sewing => exact .inl rfl
      | patch => exact .inr (.inr rfl)
      | off => rw [hs] at he; cases he
      | idle => rw [hs] at he; cases he
      | resting => rw [hs] at he; cases he
      | dropped => rw [hs] at he; cases he
      | lost => rw [hs] at he; cases he
  · have he' : s.engagedHead h = false := Bool.eq_false_iff.2 he
    by_cases hr : (s.headAt h).state = .resting
    · rw [State.idleHead_of_resting s h he' hr, State.headAt_modHead_same _ _ (headAt_in (by rw [hr]; decide)),
        if_pos (.inr (.inl hr))]
      exact ⟨rfl, rfl⟩
    · rw [State.idleHead_of_other s h he' hr, if_neg]
      · exact ⟨rfl, rfl⟩
      · rintro (hs | hs | hs)
        · exact he (by unfold State.engagedHead; rw [hs]; rfl)
        · exact hr hs
        · exact he (by unfold State.engagedHead; rw [hs]; rfl)

theorem State.idleHead_watch : (s.idleHead h).watchAt h =
    { s.watchAt h with armed := !s.engagedHead h && (s.watchAt h).armed } := by
  by_cases he : s.engagedHead h = true
  · have hset : (s.setHeadState h .idle).watchAt h = { s.watchAt h with armed := false } := by
      unfold State.watchAt
      rw [State.setHeadState_heads, if_pos he]
      exact getD_modify_of_default _ _ _ rfl
    rw [State.idleHead_of_engaged s h he, he]
    exact (State.watchAt_congr (congrArg Monitor.heads (State.issue_monitor _ _)) h).trans hset
  · have he' : s.engagedHead h = false := Bool.eq_false_iff.2 he
    rw [he']
    by_cases hr : (s.headAt h).state = .resting
    · rw [State.idleHead_of_resting s h he' hr]
      rfl
    · rw [State.idleHead_of_other s h he' hr]
      rfl

theorem State.idleHead_lift (he : s.engagedHead h = true) (hl : (s.linkAt h).lost = false) :
    (s.idleHead h).liftOnItsWay h .idle = true := by
  rw [State.idleHead_of_engaged s h he]
  have hin := headAt_in (State.engaged_on he)
  refine State.issueLift_onItsWay (s.setHeadState h .idle) .idle ?_ ?_
  · rw [State.linkAt_congr (congrArg Bus.heads (State.setHeadState_bus s h .idle))]
    exact hl
  · rw [(State.setHeadState_headsLength .idle).1]
    exact hin

theorem State.liftOnItsWay_idleHead {j : Nat} (hj : 1 ≤ j) (hh : 1 ≤ h) (hne : j ≠ h)
    (hl : s.liftOnItsWay h .idle = true) : (s.idleHead j).liftOnItsWay h .idle = true := by
  have hset : (s.setHeadState j .idle).liftOnItsWay h .idle = true := by
    rw [State.liftOnItsWay_congr (State.setHeadState_sameHead _ (pred_ne_pred hj hh hne.symm)).head
      (State.setHeadState_bus s j .idle)]
    exact hl
  unfold State.idleHead
  split_ifs
  · exact State.liftOnItsWay_issue (c := ⟨j, _⟩) hj hh hne hset
  · exact hset
  · exact hl

/-- What making a head IDLE keeps. -/
theorem State.idleHead_blocks : (s.idleHead h).gov = s.gov ∧ (s.idleHead h).link = s.link ∧
    (s.idleHead h).monitor.policy = s.monitor.policy ∧ (s.idleHead h).monitor.warnCount = s.monitor.warnCount ∧
    (s.idleHead h).run.bare = s.run.bare := by
  have hcalm : s.calmsHead h .idle = false := by
    unfold State.calmsHead
    simp [HeadState.calms]
  have hset : (s.setHeadState h .idle).gov = s.gov ∧ (s.setHeadState h .idle).link = s.link ∧
      (s.setHeadState h .idle).monitor.policy = s.monitor.policy ∧
      (s.setHeadState h .idle).monitor.warnCount = s.monitor.warnCount ∧
      (s.setHeadState h .idle).run.bare = s.run.bare := by
    refine ⟨?_, ?_, ?_, ?_, by simp⟩
    · rw [State.setHeadState_gov, hcalm]
      rfl
    · rw [State.setHeadState_link, hcalm]
      rfl
    · rw [State.setHeadState_cases, if_neg (by simp [HeadState.calms])]
      split_ifs
      · simp [State.leaving, State.modWatch]
      · simp
      · rfl
    · rw [State.setHeadState_warnCount, hcalm]
      rfl
  unfold State.idleHead
  split_ifs
  · obtain ⟨h1, h2, h3, h4, h5⟩ := hset
    refine ⟨?_, ?_, ?_, ?_, ?_⟩
    · rw [(State.issueLift_keeps _ h .idle false).2.1, h1]
    · rw [State.issueLift, (State.issue_keeps _ _).2.2.2.2.2.2.1, h2]
    · rw [State.issueLift, State.issue_monitor, h3]
    · rw [State.issueLift, State.issue_monitor, h4]
    · simp
  · exact hset
  · exact ⟨rfl, rfl, rfl, rfl, rfl⟩

end Idle

end Sys2Proof.Machine

/-!
PROOF. OPEN DESIGN and DISCARD DESIGN (section 2.2; O22).
-/

namespace Sys2Proof.Machine
set_option Elab.async false

/-! ## Every head made IDLE -/

section IdleAll

variable (s : State)

theorem State.idleAll_sameHead {h : Nat} (hlow : 1 ≤ h) (hhigh : h ≤ 8) :
    ∃ u : State, s.SameHead u h ∧ (u.idleHead h).SameHead s.idleAll h := by
  obtain ⟨u, -, hu, hfold⟩ := foldl_at_head (f := State.idleHead) (P := fun _ => True) hlow hhigh (fun _ _ _ _ _ => trivial)
    (fun s j _ hj _ hne => State.idleHead_sameHead (pred_ne_pred hj hlow (Ne.symm hne))) s trivial
  exact ⟨u, hu, hfold⟩

theorem State.idleAll_head {h : Nat} (hlow : 1 ≤ h) (hhigh : h ≤ 8) :
    (s.idleAll.headAt h).needle = (s.headAt h).needle ∧ (s.idleAll.headAt h).state =
      (if (s.headAt h).state = .sewing ∨ (s.headAt h).state = .resting ∨ (s.headAt h).state = .patch then .idle
        else (s.headAt h).state) := by
  obtain ⟨u, hu, hfold⟩ := s.idleAll_sameHead hlow hhigh
  rw [hfold.head, ← hu.head]
  exact State.idleHead_head

theorem State.idleAll_watch {h : Nat} (hlow : 1 ≤ h) (hhigh : h ≤ 8) :
    s.idleAll.watchAt h = { s.watchAt h with armed := !s.engagedHead h && (s.watchAt h).armed } := by
  obtain ⟨u, hu, hfold⟩ := s.idleAll_sameHead hlow hhigh
  rw [hfold.watch, State.idleHead_watch, hu.watch, State.engagedHead_congr hu.head]

theorem State.idleAll_lift {h : Nat} (hlow : 1 ≤ h) (hhigh : h ≤ 8) (he : s.engagedHead h = true)
    (hl : (s.linkAt h).lost = false) : s.idleAll.liftOnItsWay h .idle = true :=
  foldl_heads_after (f := State.idleHead) hlow hhigh (Q := fun u => u.liftOnItsWay h .idle = true)
    (fun _ j _ _ hne => State.idleHead_sameHead (by omega))
    (fun _ j hj _ hne hu => State.liftOnItsWay_idleHead hj hlow hne hu) s
    fun u hu => State.idleHead_lift (by rw [State.engagedHead_congr hu.head]; exact he) (by rw [hu.link]; exact hl)

theorem State.idleAll_blocks : s.idleAll.gov = s.gov ∧ s.idleAll.link = s.link ∧
    s.idleAll.monitor.policy = s.monitor.policy ∧ s.idleAll.monitor.warnCount = s.monitor.warnCount ∧
    s.idleAll.run.bare = s.run.bare := by
  unfold State.idleAll
  refine ⟨?_, ?_, ?_, ?_, ?_⟩
  · exact foldl_keeps State.gov State.idleHead (fun _ _ => State.idleHead_blocks.1) _ s
  · exact foldl_keeps State.link State.idleHead (fun _ _ => State.idleHead_blocks.2.1) _ s
  · exact foldl_keeps (fun s => s.monitor.policy) State.idleHead (fun _ _ => State.idleHead_blocks.2.2.1) _ s
  · exact foldl_keeps (fun s => s.monitor.warnCount) State.idleHead (fun _ _ => State.idleHead_blocks.2.2.2.1) _ s
  · exact foldl_keeps (fun s => s.run.bare) State.idleHead (fun _ _ => State.idleHead_blocks.2.2.2.2) _ s

/-- With no head engaged nothing goes on the head bus, and the same heads are OFF. -/
theorem State.idleAll_bus (hs : ∀ h, 1 ≤ h → h ≤ 8 → s.engagedHead h = false) : s.idleAll.bus = s.bus ∧
    ∀ k, (s.idleAll.headAt k).state = .off ↔ (s.headAt k).state = .off := by
  have hall : (∀ h, 1 ≤ h → h ≤ 8 → s.idleAll.engagedHead h = false) ∧ s.idleAll.bus = s.bus ∧
      ∀ k, (s.idleAll.headAt k).state = .off ↔ (s.headAt k).state = .off := by
    refine foldl_heads_keeps (f := State.idleHead) (P := fun u => (∀ h, 1 ≤ h → h ≤ 8 → u.engagedHead h = false) ∧
      u.bus = s.bus ∧ ∀ k, (u.headAt k).state = .off ↔ (s.headAt k).state = .off) (fun u j hj hj8 hu => ?_) s
      ⟨hs, rfl, fun _ => Iff.rfl⟩
    obtain ⟨hnone, hbus, hoff⟩ := hu
    by_cases hr : (u.headAt j).state = .resting
    · have hin : j - 1 < u.run.heads.length := headAt_in (by rw [hr]; decide)
      rw [State.idleHead_of_resting u j (hnone j hj hj8) hr]
      refine ⟨fun h hlow hhigh => ?_, hbus, fun k => ?_⟩
      · unfold State.engagedHead
        by_cases hh : h = j
        · rw [hh, State.headAt_modHead_same _ _ hin]
          rfl
        · rw [State.headAt_modHead_other _ _ (pred_ne_pred hj hlow hh)]
          exact hnone h hlow hhigh
      · by_cases hk : j - 1 = k - 1
        · have hkj : ∀ t : State, t.headAt k = t.headAt j := fun t => by
            unfold State.headAt
            rw [hk]
          rw [hkj, State.headAt_modHead_same _ _ hin, ← hoff k, hkj, hr]
          exact iff_of_false HeadState.noConfusion HeadState.noConfusion
        · rw [State.headAt_modHead_other _ _ hk]
          exact hoff k
    · rw [State.idleHead_of_other u j (hnone j hj hj8) hr]
      exact ⟨hnone, hbus, hoff⟩
  exact hall.2

end IdleAll

/-! ## The colour map while heads are made IDLE (R116) -/

/-- The same colour map with the same pending entries. -/
def ThreadChange.SameMap (c d : ThreadChange) : Prop := c.map = d.map ∧ c.waiting = d.waiting

theorem ThreadChange.writes_map (l : List PendingNeedle) (c d : ThreadChange) (h : c.map = d.map) :
    (l.foldl (fun c e => c.write e.slot e.head e.needle) c).map =
      (l.foldl (fun c e => c.write e.slot e.head e.needle) d).map := by
  induction l generalizing c d with
  | nil => exact h
  | cons e l ih => exact ih _ _ (congrArg (fun m => m.modify e.slot (fun row => row.set (e.head - 1) e.needle)) h)

theorem ThreadChange.SameMap.apply {c d : ThreadChange} (h : c.SameMap d) (p : PendingNeedle → Bool) :
    (c.apply p).SameMap (d.apply p) := by
  unfold ThreadChange.apply
  refine ⟨?_, ?_⟩
  · dsimp only
    rw [h.2]
    exact ThreadChange.writes_map _ c d h.1
  · dsimp only
    rw [h.2]

theorem ThreadChange.SameMap.mapAt {c d : ThreadChange} (h : c.SameMap d) (slot j : Nat) : c.mapAt slot j = d.mapAt slot j := by
  unfold ThreadChange.mapAt
  rw [h.1]

theorem ThreadChange.apply_none (c : ThreadChange) (p : PendingNeedle → Bool) (hp : ∀ e ∈ c.waiting, p e = false) :
    c.apply p = c := by
  have hkept : c.waiting.filter (fun e => !p e) = c.waiting :=
    List.filter_eq_self.2 fun e he => by rw [hp e he]; rfl
  have hwritten : c.waiting.filter p = [] := List.filter_eq_nil_iff.2 fun e he => by rw [hp e he]; simp
  unfold ThreadChange.apply
  rw [hkept, hwritten]
  rfl

/-- The entries that stay when the engaged heads are made IDLE. -/
def State.ofOthers (s : State) (p : PendingNeedle) : Bool := !s.engagedHead p.head

theorem State.issue_sameMap (s : State) (c : BusCommand) : (s.issue c).change.SameMap s.change := by
  by_cases hl : (s.linkAt c.head).lost = true
  · unfold State.issue
    rw [if_pos hl]
    unfold State.notDelivered State.handOver
    dsimp only
    split_ifs <;> exact ⟨rfl, rfl⟩
  · rw [State.issue_change (Bool.eq_false_iff.2 hl)]
    exact ⟨rfl, rfl⟩

/-- A head made IDLE has its pending needles written, when it was engaged. -/
theorem State.idleHead_sameMap {s u : State} {h : Nat} {c : ThreadChange} (hc : u.change.SameMap c)
    (he : u.engagedHead h = s.engagedHead h) :
    (u.idleHead h).change.SameMap (ThreadChange.writeFor s.ofOthers c h) := by
  unfold ThreadChange.writeFor
  by_cases heng : s.engagedHead h = true
  · have hengu : u.engagedHead h = true := he.trans heng
    have hin := headAt_in (State.engaged_on hengu)
    have hpred : (fun p : PendingNeedle => p.head == h && !s.ofOthers p) = fun p => p.head == h := by
      funext p
      by_cases hp : p.head = h
      · simp [State.ofOthers, hp, heng]
      · simp [hp]
    have hset : (u.setHeadState h .idle).change = u.change.apply (fun p => p.head == h) := by
      have hidle : ∀ p : PendingNeedle, (p.head == h && !(u.modHead h (fun e => { e with state := .idle })).stillPending p) =
          (p.head == h) := fun p => by
        by_cases hp : p.head = h
        · have : (u.modHead h (fun e => { e with state := .idle })).engagedHead h = false := by
            unfold State.engagedHead
            rw [State.headAt_modHead_same _ _ hin]
            rfl
          simp [State.stillPending, hp, this]
        · simp [hp]
      rw [State.setHeadState_cases, if_neg (by simp [HeadState.calms]), if_pos ⟨hengu, rfl⟩]
      unfold State.leaving
      rw [(State.modWatch_keeps _ h _).2.2.2.2.2.2.1, State.writePending_eq, State.setChange_change]
      unfold ThreadChange.writeFor
      simp only [hidle]
      rfl
    rw [State.idleHead_of_engaged u h hengu, hpred]
    have hissue := (u.setHeadState h .idle).issue_sameMap ⟨h, .engage ⟨.lift, .idle, false, false⟩⟩
    rw [hset] at hissue
    have happly := hc.apply (fun p => p.head == h)
    exact ⟨hissue.1.trans happly.1, hissue.2.trans happly.2⟩
  · have heng' : s.engagedHead h = false := Bool.eq_false_iff.2 heng
    rw [ThreadChange.apply_none c _ fun e _ => by
      by_cases hp : e.head = h
      · simp [State.ofOthers, hp, heng']
      · simp [hp]]
    by_cases hr : (u.headAt h).state = .resting
    · rw [State.idleHead_of_resting u h (he.trans heng') hr]
      exact hc
    · rw [State.idleHead_of_other u h (he.trans heng') hr]
      exact hc

theorem State.idleAll_sameMap (s : State) :
    s.idleAll.change.SameMap (headNumbers.foldl (ThreadChange.writeFor s.ofOthers) s.change) := by
  have hfold : ∀ (l : List Nat) (u : State) (c : ThreadChange), l.Nodup → (∀ x ∈ l, 1 ≤ x) →
      (∀ x ∈ l, u.engagedHead x = s.engagedHead x) → u.change.SameMap c →
      (l.foldl State.idleHead u).change.SameMap (l.foldl (ThreadChange.writeFor s.ofOthers) c) := by
    intro l
    induction l with
    | nil => exact fun _ _ _ _ _ hc => hc
    | cons h l ih =>
      intro u c hnodup hl hsame hc
      obtain ⟨hnot, hrest⟩ := List.nodup_cons.1 hnodup
      refine ih _ _ hrest (fun x hx => hl x (List.mem_cons_of_mem _ hx)) (fun x hx => ?_)
        (State.idleHead_sameMap hc (hsame h List.mem_cons_self))
      rw [State.engagedHead_congr (State.idleHead_sameHead (s := u) (pred_ne_pred (hl h List.mem_cons_self)
        (hl x (List.mem_cons_of_mem _ hx)) (fun heq => hnot (heq ▸ hx)))).head]
      exact hsame x (List.mem_cons_of_mem _ hx)
  exact hfold headNumbers s s.change (by decide) (fun x hx => ((mem_headNumbers x).1 hx).1) (fun _ _ => rfl) ⟨rfl, rfl⟩

end Sys2Proof.Machine

/-!
PROOF. OPEN DESIGN and DISCARD DESIGN (section 2.2; O22): the requests.
-/

namespace Sys2Proof.Machine
set_option Elab.async false

/-- The blocks that a design's end leaves (R31, R32). -/
theorem State.dropDesign_blocks (s : State) (d : DesignState) : (s.dropDesign d).run = s.idleAll.run.atOpen ∧
    (s.dropDesign d).store = ⟨d, List.replicate 32 Slot.empty, 0, 0, 0, none⟩ ∧
    (s.dropDesign d).gov = { s.gov with window := [] } ∧ (s.dropDesign d).frame = s.frame ∧
    (s.dropDesign d).shaft = s.shaft ∧ (s.dropDesign d).bus = s.idleAll.bus ∧
    (s.dropDesign d).change = s.idleAll.change ∧ (s.dropDesign d).monitor = s.idleAll.monitor ∧
    (s.dropDesign d).gaps = [] ∧ (s.dropDesign d).link = { s.link with grant := none } ∧ (s.dropDesign d).cfg = s.cfg ∧
    (s.dropDesign d).free = s.free ∧ (s.dropDesign d).pending = s.pending := by
  obtain ⟨hgov, hlink, -⟩ := s.idleAll_blocks
  obtain ⟨-, hframe, hshaft, -, hcfg, hfree, hpending, -⟩ := s.idleAll_keeps
  unfold State.dropDesign
  generalize s.idleAll = u at *
  refine ⟨rfl, rfl, ?_, hframe, hshaft, rfl, rfl, rfl, rfl, ?_, hcfg, hfree, hpending⟩
  · rw [← hgov]
    rfl
  · rw [← hlink]
    rfl

theorem State.idleAll_pollDue (s : State) (hs : ∀ h, 1 ≤ h → h ≤ 8 → s.engagedHead h = false) {v : State}
    (hb : v.bus = s.idleAll.bus) (hh : v.run.heads = s.idleAll.run.heads) : v.pump.bus = s.pump.bus := by
  obtain ⟨hbus, hoff⟩ := s.idleAll_bus hs
  refine State.pump_bus_of_due (hb.trans hbus) fun k => ?_
  have hsame : ((s.idleAll.headAt k).state != .off) = ((s.headAt k).state != .off) := by
    rw [Bool.eq_iff_iff, bne_iff_ne, bne_iff_ne]
    exact not_congr (hoff k)
  unfold State.pollDue
  rw [State.linkAt_congr (congrArg Bus.heads (hb.trans hbus)), State.headAt_congr hh, hsame]

theorem Run.atOpen_heads (r : Run) : r.atOpen.heads = r.heads := rfl

/-- What OPEN DESIGN and DISCARD DESIGN have in common. -/
structure State.Dropped (s t : State) : Prop where
  run : t.run = { s.run with
    state := .idle, pass := .main, mainCursor := 0, patchCursor := none, cause := none, segmentStart := 0, tieIn := 0
    startReturn := none, travelReturn := none, passReturn := none, point := none, warning := false
    heads := t.run.heads, activity := .none, keepTieIn := false, stepping := false, stepDone := false, carry := false
    patchDone := none, patchSewn := 0 }
  heads : ∀ h, 1 ≤ h → h ≤ 8 → (t.headAt h).needle = (s.headAt h).needle ∧ (t.headAt h).state =
    (if (s.headAt h).state = .sewing ∨ (s.headAt h).state = .resting ∨ (s.headAt h).state = .patch then .idle
      else (s.headAt h).state) ∧
    (s.engagedHead h = true → (s.linkAt h).lost = false → t.liftOnItsWay h .idle = true)
  policy : t.monitor.policy = s.monitor.policy
  warnCount : t.monitor.warnCount = s.monitor.warnCount
  gaps : t.gaps = []
  gov : t.gov = { s.gov with window := [] }
  shaft : t.shaft = s.shaft
  cfg : t.cfg = s.cfg
  free : t.free = s.free
  pending : t.pending = s.pending
  bus : (∀ h, 1 ≤ h → h ≤ 8 → s.engagedHead h = false) → t.bus = s.pump.bus

/-- The head bus goes on behind the design's end. -/
theorem State.dropped_of {s v t : State} {d : DesignState} (hrun : v.run = (s.dropDesign d).run)
    (hbus : v.bus = (s.dropDesign d).bus) (hpolicy : v.monitor.policy = (s.dropDesign d).monitor.policy)
    (hwarn : v.monitor.warnCount = (s.dropDesign d).monitor.warnCount) (hgaps : v.gaps = (s.dropDesign d).gaps)
    (hgov : v.gov = (s.dropDesign d).gov) (hshaft : v.shaft = (s.dropDesign d).shaft)
    (hcfg : v.cfg = (s.dropDesign d).cfg) (hfree : v.free = (s.dropDesign d).free)
    (hpending : v.pending = (s.dropDesign d).pending) (l : Link) (ht : t = v.pump.setLink l) : s.Dropped t := by
  obtain ⟨h1, -, h3, -, h5, h6, -, h8, h9, -, h11, h12, h13⟩ := s.dropDesign_blocks d
  obtain ⟨-, -, hpol, hwc, hbare⟩ := s.idleAll_blocks
  obtain ⟨p1, -, p3, -, p5, -, p7, p8, -, p10, p11, p12⟩ := v.pump_keeps
  have hhead := fun h hlow hhigh => s.idleAll_head (h := h) hlow hhigh
  have hlift := fun h hlow hhigh => s.idleAll_lift (h := h) hlow hhigh
  have hdue := fun hnone => s.idleAll_pollDue hnone (hbus.trans h6) (by rw [hrun, h1, Run.atOpen_heads])
  have honWay := fun h => State.pump_liftOnItsWay (s := v) (h := h) (becomes := .idle)
  generalize s.dropDesign d = x at *
  generalize s.idleAll = y at *
  generalize v.pump = w at *
  have hruns : w.run = y.run.atOpen := p1.trans (hrun.trans h1)
  have hheads : ∀ h, w.headAt h = y.headAt h := State.headAt_congr (by rw [hruns, Run.atOpen_heads])
  have hvheads : ∀ h, v.headAt h = y.headAt h := State.headAt_congr (by rw [hrun, h1, Run.atOpen_heads])
  subst ht
  refine ⟨?_, fun h hlow hhigh => ⟨?_, ?_, fun he hl => ?_⟩, ?_, ?_, p8.trans (hgaps.trans h9), p3.trans (hgov.trans h3),
    p5.trans (hshaft.trans h5), p10.trans (hcfg.trans h11), p11.trans (hfree.trans h12), p12.trans (hpending.trans h13),
    hdue⟩
  · rw [State.setLink_run, hruns, Run.of_bare hbare]
    rfl
  · exact (congrArg HeadEntry.needle (hheads h)).trans (hhead h hlow hhigh).1
  · exact (congrArg HeadEntry.state (hheads h)).trans (hhead h hlow hhigh).2
  · refine honWay h ?_
    rw [State.liftOnItsWay_congr (hvheads h) (hbus.trans h6)]
    exact hlift h hlow hhigh he hl
  · rw [State.setLink_monitor, p7, hpolicy, h8]
    exact hpol
  · rw [State.setLink_monitor, p7, hwarn, h8]
    exact hwc

/-! ## The needles that DISCARD DESIGN writes (R116) -/

theorem State.discarded_waiting (s : State) : s.idleAll.change.waiting =
    s.change.waiting.filter (fun p => !(1 ≤ p.head && p.head ≤ 8 && s.engagedHead p.head)) := by
  rw [s.idleAll_sameMap.2, ThreadChange.writeFor_waiting]
  refine List.filter_congr fun p _ => ?_
  rw [headNumbers_contains, State.ofOthers]
  cases (decide (1 ≤ p.head) && decide (p.head ≤ 8)) <;> cases s.engagedHead p.head <;> rfl

theorem State.discarded_at (s : State) {slot h : Nat} (hw : s.change.Wide) (hs : slot < 64) (hlow : 1 ≤ h) (hhigh : h ≤ 8) :
    (s.engagedHead h = false ∨ (∀ p ∈ s.change.waiting, p.slot ≠ slot ∨ p.head ≠ h) →
      s.idleAll.change.mapAt slot h = s.change.mapAt slot h) ∧
    (∀ needle, s.engagedHead h = true → s.change.waitingFor slot h = some needle →
      (∀ p ∈ s.change.waiting, p.slot = slot → p.head = h → p.needle = needle) →
      s.idleAll.change.mapAt slot h = needle) := by
  let c := headNumbers.foldl (ThreadChange.writeFor s.ofOthers) s.change
  obtain ⟨hkeeps, hwrites⟩ := ThreadChange.writes_at (still := s.ofOthers)
    (fun p q _ hhead => by unfold State.ofOthers; rw [hhead]) hw hs hlow hhigh
  have hwaiting : c.waiting = s.change.waiting.filter (fun p => !headNumbers.contains p.head || s.ofOthers p) :=
    ThreadChange.writeFor_waiting _ _ _
  have hcontains : headNumbers.contains h = true := List.contains_iff_mem.2 ((mem_headNumbers h).2 ⟨hlow, hhigh⟩)
  have hfor : c.waitingFor slot h = ((s.change.waiting.find? (fun p =>
      (!headNumbers.contains p.head || s.ofOthers p) && (p.slot == slot && p.head == h))).map PendingNeedle.needle) := by
    unfold ThreadChange.waitingFor
    rw [hwaiting, List.find?_filter]
    simp only [Bool.decide_and, Bool.decide_eq_true]
  rw [s.idleAll_sameMap.mapAt]
  refine ⟨fun hcase => hkeeps ?_, fun needle he hsome hall => hwrites needle hsome ?_ hall⟩
  · rw [show (headNumbers.foldl (ThreadChange.writeFor s.ofOthers) s.change).waitingFor slot h = _ from hfor]
    unfold ThreadChange.waitingFor
    rcases hcase with he | hno
    · congr 2
      funext p
      by_cases hp : p.head = h
      · simp [State.ofOthers, hp, he]
      · simp [hp]
    · have hnot : ∀ p ∈ s.change.waiting, (p.slot == slot && p.head == h) = false := fun p hp => by
        rcases hno p hp with hn | hn <;> simp [hn]
      rw [List.find?_eq_none.2 fun p hp => by rw [hnot p hp]; simp, List.find?_eq_none.2 fun p hp => by rw [hnot p hp]; simp]
  · rw [show (headNumbers.foldl (ThreadChange.writeFor s.ofOthers) s.change).waitingFor slot h = _ from hfor,
      Option.map_eq_none_iff, List.find?_eq_none]
    intro p _ hb
    rw [Bool.and_eq_true, Bool.and_eq_true, beq_iff_eq, beq_iff_eq] at hb
    obtain ⟨hkept, -, hhead⟩ := hb
    rw [hhead, hcontains, State.ofOthers, hhead, he] at hkept
    cases hkept

/-! ## The requests -/

/-- The state that OPEN DESIGN leaves to the head bus. -/
def State.designOpened (s : State) : State :=
  let s := s.dropDesign .loading
  let s := s.setChange { s.change with map := defaultMap, waiting := [] }
  let s := s.setFrame { s.frame with origin := none }
  let s := s.setLink { s.link with progressCount := 0 }
  s.grantBlocks (min 8 s.store.freeCount)

theorem serveOpenDesign_of_taken {s : State} (hs : s.run.state = .idle ∨ s.run.state = .finished) :
    serveOpenDesign s = taken s.designOpened.finish := if_pos hs

theorem serveDiscardDesign_of_taken {s : State}
    (hs : s.run.state = .idle ∨ s.run.state = .paused ∨ s.run.state = .finished) :
    serveDiscardDesign s = taken (s.dropDesign .absent).clearJoins.finish := if_pos hs

theorem State.designOpened_blocks (s : State) : s.designOpened.run = (s.dropDesign .loading).run ∧
    s.designOpened.store = ⟨.loading, List.replicate 32 Slot.empty, 0, 8, 0, none⟩ ∧
    s.designOpened.gov = (s.dropDesign .loading).gov ∧ s.designOpened.frame = { s.frame with origin := none } ∧
    s.designOpened.shaft = (s.dropDesign .loading).shaft ∧ s.designOpened.bus = (s.dropDesign .loading).bus ∧
    s.designOpened.change.map = defaultMap ∧ s.designOpened.change.waiting = [] ∧
    s.designOpened.monitor = s.idleAll.monitor ∧ s.designOpened.gaps = (s.dropDesign .loading).gaps ∧
    s.designOpened.link = { s.link with grant := some ⟨0, 8⟩, progressCount := 0 } ∧
    s.designOpened.cfg = (s.dropDesign .loading).cfg ∧ s.designOpened.free = (s.dropDesign .loading).free ∧
    s.designOpened.pending = (s.dropDesign .loading).pending := by
  obtain ⟨-, hstore, -, hframe, -, -, -, hmonitor, -, hlink, -⟩ := s.dropDesign_blocks .loading
  unfold State.designOpened State.grantBlocks
  generalize s.dropDesign .loading = u at *
  dsimp only
  refine ⟨rfl, ?_, rfl, ?_, rfl, rfl, rfl, rfl, hmonitor, rfl, ?_, rfl, rfl, rfl⟩
  · simp only [State.setLink_store, State.setStore_store, State.setFrame_store, State.setChange_store, hstore]
    rfl
  · simp only [State.setLink_frame, State.setStore_frame, State.setFrame_frame, State.setChange_frame, hframe]
  · simp only [State.setLink_link, State.setFrame_link, State.setChange_link, State.setLink_store,
      State.setFrame_store, State.setChange_store, hstore, hlink]
    rfl

/-- Settles O22: the heads are made IDLE one after another, the blocks dropped, and the head bus goes on. -/
theorem openAndDiscardDesign : Obligations.OpenAndDiscardDesign := by
  intro s tag hh src common
  let r := s.setLink (s.link.reserve tag)
  have hcommon : ∀ t : State, r.Dropped t → common t := fun t ht =>
    ⟨ht.run, ht.heads, ht.policy, ht.warnCount, ht.gaps, ht.gov, ht.shaft, ht.cfg, ht.free, ht.pending, fun hnone =>
      (ht.bus hnone).trans (by rw [State.pump_setLink, State.setLink_bus])⟩
  have hopen : exec (.openDesign src) s = .next (s.takeAddressed tag serveOpenDesign) := rfl
  have hdiscard : exec (.discardDesign src) s = .next (s.takeAddressed tag serveDiscardDesign) := rfl
  have hcalm : ∀ (v : State) (d : DesignState), s.quiet = true → v.run = (r.dropDesign d).run →
      v.frame.travel = s.frame.travel → v.frame.homingHeld = s.frame.homingHeld → v.finish = v.pump :=
    fun v d hq hrun ht hhome => by
      obtain ⟨-, -, -, htravel, hhoming⟩ := s.quiet_iff.1 hq
      refine State.finish_quiet v (v.quiet_iff.2 ?_)
      rw [hrun, (r.dropDesign_blocks d).1, ht, hhome]
      exact ⟨rfl, RunState.noConfusion, RunState.noConfusion, htravel, hhoming⟩
  refine ⟨fun hq hs => ?_, fun hq hs => ?_, fun hi hf => ⟨?_, fun hp => ?_⟩⟩
  · obtain ⟨hrun, hstore, hgov, hframe, hshaft, hbus, hmap, hwaiting, hmonitor, hgaps, hlink, hcfg, hfree, hpending⟩ :=
      r.designOpened_blocks
    have hmon : (r.dropDesign .loading).monitor = r.idleAll.monitor := (r.dropDesign_blocks .loading).2.2.2.2.2.2.2.1
    have hwatch := fun h hlow hhigh => r.idleAll_watch (h := h) hlow hhigh
    have hfin := hcalm r.designOpened .loading hq hrun (by rw [hframe]; rfl) (by rw [hframe]; rfl)
    have hserve : serveOpenDesign r = (r.designOpened.pump, some ⟨.ok, []⟩) := by
      rw [serveOpenDesign_of_taken (s := r) hs, hfin]
      rfl
    have hdropped := fun l t ht => State.dropped_of (s := r) (t := t) hrun hbus (by rw [hmonitor, hmon])
      (by rw [hmonitor, hmon]) hgaps hgov hshaft hcfg hfree hpending l ht
    obtain ⟨-, p2, -, p4, -, p6, p7, -, p9, -⟩ := r.designOpened.pump_keeps
    generalize r.designOpened = v at *
    have hreplies : v.pump.link.replies = s.link.replies ++ [⟨tag, none⟩] := by
      rw [p9, hlink]
      rfl
    refine ⟨_, hopen.trans (congrArg _ (State.takeAddressed_existential s v.pump tag _ .ok [] hh hreplies hserve)),
      hcommon _ (hdropped _ _ rfl), fun h hlow hhigh => ?_, p2.trans hstore, (congrArg ThreadChange.map p6).trans hmap,
      (congrArg ThreadChange.waiting p6).trans hwaiting, p4.trans hframe, ?_⟩
    · exact (State.watchAt_congr (congrArg Monitor.heads (p7.trans hmonitor)) h).trans (hwatch h hlow hhigh)
    · rw [State.setLink_link, p9, hlink]
      rfl
  · let v := (r.dropDesign .absent).clearJoins
    obtain ⟨h1, h2, h3, h4, h5, h6, h7, h8, h9, h10, h11, h12, h13⟩ := r.dropDesign_blocks .absent
    obtain ⟨k1, k2, k3, k4, k5, k6, k7, k8, k9, k10, k11, k12⟩ := (r.dropDesign .absent).clearJoins_keeps
    have hmonitor : v.monitor = { r.idleAll.monitor with
        heads := r.idleAll.monitor.heads.map (fun w => { w with joining := false }) } := by
      rw [← h8]
      rfl
    have hwatch := fun h hlow hhigh => r.idleAll_watch (h := h) hlow hhigh
    have hsame := r.idleAll_sameMap
    have hfin := hcalm v .absent hq k1 (by rw [k4, h4]; rfl) (by rw [k4, h4]; rfl)
    have hserve : serveDiscardDesign r = (v.pump, some ⟨.ok, []⟩) := by
      rw [serveDiscardDesign_of_taken (s := r) hs, hfin]
      rfl
    have hdropped := fun l t ht => State.dropped_of (s := r) (v := v) (t := t) k1 k6 (by rw [hmonitor, h8])
      (by rw [hmonitor, h8]) k8 k3 k5 k10 k11 k12 l ht
    obtain ⟨-, p2, -, p4, -, p6, p7, -, p9, -⟩ := v.pump_keeps
    have hchange : v.change = r.idleAll.change := k7.trans h7
    have hlink : v.link = { r.link with grant := none } := k9.trans h10
    have hstore := p2.trans (k2.trans h2)
    have hframe := p4.trans (k4.trans h4)
    have hat := fun slot h hw hs1 hlow hhigh => r.discarded_at (slot := slot) (h := h) hw hs1 hlow hhigh
    have hw := r.discarded_waiting
    clear_value v
    generalize r.idleAll = y at *
    have hreplies : v.pump.link.replies = s.link.replies ++ [⟨tag, none⟩] := by
      rw [p9, hlink]
      rfl
    refine ⟨_, hdiscard.trans (congrArg _ (State.takeAddressed_existential s v.pump tag _ .ok [] hh hreplies hserve)),
      hcommon _ (hdropped _ _ rfl), ?_, ?_, ?_, hstore, hframe, ?_⟩
    · intro h hlow hhigh
      have hvwatch : v.pump.watchAt h = { y.watchAt h with joining := false } := by
        rw [State.watchAt_congr (congrArg Monitor.heads p7)]
        unfold State.watchAt
        rw [hmonitor]
        exact getD_map_of_default _ _ _ rfl
      rw [hwatch h hlow hhigh] at hvwatch
      exact hvwatch
    · intro hshapes slot h hslot hlow hhigh
      rw [State.setLink_change, p6, hchange]
      exact hat slot h (ThreadChange.wide_of_shapes hshapes) hslot hlow hhigh
    · rw [State.setLink_change, p6, hchange]
      exact hw
    · rw [State.setLink_link, p9, hlink]
      rfl
  · refine hopen.trans (congrArg _ (State.takeAddressed_refused s tag _ .busy hh ?_))
    exact if_neg (by rintro (h | h); exacts [hi h, hf h])
  · refine hdiscard.trans (congrArg _ (State.takeAddressed_refused s tag _ .busy hh ?_))
    exact if_neg (by rintro (h | h | h); exacts [hi h, hp h, hf h])

end Sys2Proof.Machine

/-!
PROOF. STOP (section 1.5; O29).
-/

namespace Sys2Proof.Machine
set_option Elab.async false

/-! ## The request and its two senders -/

/-- What a STOP does before the steps that are due follow. -/
def State.stopDone (s : State) : State :=
  let s := s.stopHoming.stopOrder .host
  let s := if s.run.activity = .hostTravel then s.askTravelStop else s
  if s.shaft.state = .referencing then s.stopReferencing else s

theorem serveStop_eq (s : State) : serveStop s = taken s.stopDone.finish := rfl

/-- The state answered to its sender: an addressed STOP gets its reply. -/
def State.answeredTo (u : State) (src : Sender) : State :=
  match src with
  | .addressed tag => u.replied tag .ok []
  | .broadcast => u

/-- A STOP is heard from this sender. -/
def State.hearsStop (s : State) (src : Sender) : Prop :=
  match src with
  | .addressed _ => s.hears = true
  | .broadcast => s.link.resetBy = none

theorem State.hearsStop.resetBy {s : State} {src : Sender} (h : s.hearsStop src) : s.link.resetBy = none := by
  cases src with
  | addressed tag => exact (s.hears_iff.1 h).2.2
  | broadcast => exact h

/-- A STOP whose work does not read the reply queue. -/
theorem exec_stop_of {s : State} {src : Sender} (h : s.hearsStop src) (X : State → State)
    (hX : ∀ (s : State) (rs : List ReplyPlace), X (s.withReplies rs) = (X s).withReplies rs)
    (hrun : ∀ rs, (s.withReplies rs).stopDone.finish = X (s.withReplies rs)) :
    exec (.stop src) s = .next ((X s).answeredTo src) := by
  have hexec : exec (.stop src) s = .next (s.takeBoth src serveStop) := rfl
  rw [hexec]
  refine congrArg _ ?_
  cases src with
  | addressed tag =>
    refine State.takeAddressed_of_commutes s tag serveStop X .ok [] h hX ?_
    rw [← hrun]
    rfl
  | broadcast =>
    have hself := hrun s.link.replies
    rw [s.withReplies_self] at hself
    have hnone : s.link.resetBy.isSome = false := by
      rw [State.hearsStop.resetBy h]
      rfl
    show (if s.link.resetBy.isSome then s else s.stopDone.finish) = X s
    rw [hnone, ← hself]
    rfl

theorem exec_stop_reset {s : State} (h : s.link.resetBy ≠ none) : exec (.stop .broadcast) s = .next s := by
  have hexec : exec (.stop .broadcast) s = .next (if s.link.resetBy.isSome then s else (serveStop s).1) := rfl
  rw [hexec, if_pos (Option.isSome_iff_ne_none.2 h)]

/-! ## The stop by the run state -/

section Stop

variable {s : State}

theorem State.stopHoming_of_none (h : s.frame.homing = none) : s.stopHoming = s := by
  unfold State.stopHoming
  rw [h]

/-- A stop order that leaves no host travel and no referencing in progress. -/
theorem State.stopDone_of_order {u : State} (hh : s.frame.homing = none) (ho : s.stopOrder .host = u)
    (ha : u.run.activity ≠ .hostTravel) (hs : u.shaft.state ≠ .referencing) : s.stopDone = u := by
  unfold State.stopDone
  rw [State.stopHoming_of_none hh, ho]
  dsimp only
  rw [if_neg ha, if_neg hs]

/-- The run with the cause of a STOP recorded. -/
def State.hostCause (s : State) : State := s.setRun { s.run with cause := some (s.run.cause.getD .host) }

theorem State.recordHost (s : State) : s.recordCause .host = s.hostCause := s.recordCause_eq .host

/-- A run over, with STOPPED posted: what a STOP makes of a start and of a WAITING run. -/
def State.stopEnded (b : State) (s : State) (state : RunState) (cause : StopCause) : State :=
  (b.setRun { s.run with
    state := state, cause := some cause, activity := .none, carry := false, stepping := false, stepDone := false
    keepTieIn := false, point := none, startReturn := none, travelReturn := none, warning := false }).setLink
    (s.link.post ⟨.stopped, 0, s.cursor, cause.code⟩)

theorem State.liftAll_of_none (h : ∀ h, 1 ≤ h → h ≤ 8 → s.engagedHead h = false ∧ (s.headAt h).state ≠ .resting) :
    s.liftAll = s := by
  unfold State.liftAll
  have hfold : ∀ l : List Nat, (∀ x ∈ l, 1 ≤ x ∧ x ≤ 8) → l.foldl State.liftHead s = s := by
    intro l
    induction l with
    | nil => exact fun _ => rfl
    | cons x l ih =>
      intro hl
      obtain ⟨hlow, hhigh⟩ := hl x List.mem_cons_self
      obtain ⟨he, hr⟩ := h x hlow hhigh
      have hone : s.liftHead x = s := by
        unfold State.liftHead
        rw [if_neg (by simp [he]), if_neg hr]
      rw [List.foldl_cons, hone]
      exact ih fun y hy => hl y (List.mem_cons_of_mem _ hy)
  exact hfold headNumbers fun x hx => (mem_headNumbers x).1 hx

/-- A start that returns to PAUSED (R14, R17). -/
theorem State.endStart_of_paused (hr : s.run.startReturn = some .paused) : s.endStart = s.toPaused := by
  unfold State.endStart
  rw [hr]

/-- A start that returns to IDLE, with no head to lift and none that waits (R14, R17). -/
theorem State.endStart_of_idle (hr : s.run.startReturn = some .idle) (hj : s.joinsWaiting = false)
    (hl : ∀ h, 1 ≤ h → h ≤ 8 → s.engagedHead h = false ∧ (s.headAt h).state ≠ .resting) :
    s.endStart = (s.setRun { s.run.ended with state := .idle }).setLink
      (s.link.post ⟨.stopped, 0, s.cursor, causeCode s.run.cause⟩) := by
  have hresolve : ((s.setRun s.run.ended).enter .idle).resolveJoins = (s.setRun s.run.ended).enter .idle :=
    State.resolveJoins_of_none hj
  have hlift : ((s.setRun s.run.ended).enter .idle).liftAll = (s.setRun s.run.ended).enter .idle :=
    State.liftAll_of_none hl
  unfold State.endStart
  rw [hr]
  dsimp only
  rw [hresolve, hlift]
  rfl

theorem State.stopEnded_quiet {b : State} {state : RunState} {cause : StopCause} (ht : b.frame.travel = none)
    (hh : b.frame.homing = none) (hr : state ≠ .running) (hs : state ≠ .stopping) :
    (b.stopEnded s state cause).finish = (b.stopEnded s state cause).pump := by
  refine State.finish_quiet _ ((State.quiet_iff _).2 ⟨rfl, hr, hs, ht, ?_⟩)
  show FrameDrive.homingHeld b.frame = true
  unfold FrameDrive.homingHeld
  rw [hh]

/-- A referencing that ends at once (R93). -/
def State.brakedNow (s : State) : State := s.setShaft { s.shaft with
  state := .unreferenced, referenced := false, speed := 0, hold := false, braked := false, stall := none
  hostReference := false, lockout := { s.shaft.lockout with referencing := false } }

theorem State.stopReferencing_eq (h : s.shaft.state = .referencing) : s.stopReferencing = s.brakedNow := by
  unfold State.stopReferencing State.brakeAtOnce
  rw [State.shaftTo_of_not_polling (t := .unreferenced) rfl (by rw [State.setShaft_shaft, h]; rfl)]
  rfl

theorem State.cutReferencing_eq (h : s.shaft.state = .referencing) (hr : s.link.resetBy = none) :
    s.cutReferencing = s.brakedNow := (if_pos ⟨h, hr⟩).trans (State.stopReferencing_eq h)

/-- A start in its warning hold ends where it came from (R14, R17). -/
theorem State.stopOrder_of_hold (ha : s.run.state = .arming) (hact : s.run.activity = .hold) :
    s.stopOrder .host = s.hostCause.endStart := by
  unfold State.stopOrder
  rw [ha, hact, State.recordHost]

theorem State.stopOrder_of_step2 (ha : s.run.state = .arming)
    (hact : s.run.activity = .referencing ∨ s.run.activity = .dueTravel) (hs : s.shaft.state = .referencing)
    (hr : s.link.resetBy = none) : s.stopOrder .host = s.hostCause.brakedNow.endStart := by
  have hcut : s.hostCause.cutReferencing = s.hostCause.brakedNow := State.cutReferencing_eq (s := s.hostCause) hs hr
  unfold State.stopOrder
  rw [ha, State.recordHost, hcut]
  rcases hact with h | h <;> rw [h]

end Stop

end Sys2Proof.Machine

/-!
PROOF. STOP (section 1.5; O29): the obligation.
-/

namespace Sys2Proof.Machine
set_option Elab.async false

/-- A STOP that ends on the head bus. -/
theorem exec_stop_pumped {s : State} {src : Sender} (h : s.hearsStop src) (B : State → State)
    (hB : ∀ (s : State) (rs : List ReplyPlace), B (s.withReplies rs) = (B s).withReplies rs)
    (hrun : ∀ rs, (s.withReplies rs).stopDone.finish = (B (s.withReplies rs)).pump) :
    exec (.stop src) s = .next ((B s).pump.answeredTo src) :=
  exec_stop_of h (fun s => (B s).pump) (fun s rs => by rw [hB, State.pump_withReplies]) hrun

theorem State.stopEnded_withReplies {B : State → State}
    (hB : ∀ (s : State) (rs : List ReplyPlace), B (s.withReplies rs) = (B s).withReplies rs) (state : RunState)
    (s : State) (cause : StopCause) (rs : List ReplyPlace) :
    (B (s.withReplies rs)).stopEnded (s.withReplies rs) state cause =
      ((B s).stopEnded s state cause).withReplies rs := by
  have hpost : (s.withReplies rs).link.post ⟨.stopped, 0, (s.withReplies rs).cursor, cause.code⟩ =
      { s.link.post ⟨.stopped, 0, s.cursor, cause.code⟩ with replies := rs } := Link.post_withReplies rs s.link _
  rw [hB]
  unfold State.stopEnded
  rw [hpost]
  rfl

section Clauses

variable {s : State}

/-- The cause that a STOP leaves recorded. -/
def State.causeOr (s : State) : StopCause := s.run.cause.getD .host

/-- A run that a STOP makes STOPPING. -/
def State.hostStopping (s : State) : State := s.setRun { s.run with state := .stopping, cause := some s.causeOr }

theorem State.stop_of_running (hr : s.run.state = .running) (ha : s.run.activity = .none)
    (hs : s.shaft.state = .running ∨ s.shaft.state = .stopping ∨
      ((s.shaft.state = .atRest ∨ s.shaft.state = .holding) ∧ s.frame.stitch ≠ none))
    (ht : s.frame.travel = none) (hh : s.frame.homing = none) : s.stopDone.finish = s.hostStopping.pump := by
  have horder : s.stopOrder .host = s.hostStopping := by
    unfold State.stopOrder
    rw [hr, State.recordHost]
    rfl
  have hnot : s.shaft.state ≠ .referencing := by
    rcases hs with h | h | ⟨h | h, -⟩ <;> rw [h] <;> exact ShaftState.noConfusion
  rw [State.stopDone_of_order hh horder (by show s.run.activity ≠ _; rw [ha]; exact Activity.noConfusion) hnot]
  have hcalm : s.hostStopping.calm = true := s.hostStopping.calm_iff.2 ⟨ha, ht, hh⟩
  refine State.finish_of_none ?_
  rcases hs with h | h | ⟨-, h⟩
  · exact State.advance_of_turning hcalm (.inl h)
  · exact State.advance_of_turning hcalm (.inr (.inl h))
  · rw [State.advance_of_calm hcalm, if_pos (.inr rfl)]
    exact if_pos (Option.isSome_iff_ne_none.2 h)

theorem State.stop_of_stopping (hr : s.run.state = .stopping) (hc : s.calm = true)
    (hs : s.shaft.state = .running ∨ s.shaft.state = .stopping) : s.stopDone.finish = s.pump := by
  obtain ⟨ha, ht, hh⟩ := s.calm_iff.1 hc
  have horder : s.stopOrder .host = s := by
    unfold State.stopOrder
    rw [hr]
  rw [State.stopDone_of_order hh horder (by rw [ha]; exact Activity.noConfusion)
    (by rcases hs with h | h <;> rw [h] <;> exact ShaftState.noConfusion)]
  exact State.finish_of_none (State.advance_of_turning hc (hs.imp_right .inl))

theorem State.stop_of_hold_paused (ha : s.run.state = .arming) (hact : s.run.activity = .hold)
    (hs : s.shaft.state ≠ .referencing) (ht : s.frame.travel = none) (hh : s.frame.homing = none)
    (hj : s.joinsWaiting = false) (hret : s.run.startReturn = some .paused) (hp : s.passGoesOn = true) :
    s.stopDone.finish = (s.stopEnded s .paused s.causeOr).pump := by
  have hpaused : s.hostCause.endStart = s.stopEnded s .paused s.causeOr :=
    (State.endStart_of_paused (s := s.hostCause) hret).trans (State.toPaused_eq (s := s.hostCause) hj hp)
  rw [State.stopDone_of_order hh ((State.stopOrder_of_hold ha hact).trans hpaused) Activity.noConfusion hs]
  exact State.stopEnded_quiet ht hh RunState.noConfusion RunState.noConfusion

theorem State.stop_of_hold_idle (ha : s.run.state = .arming) (hact : s.run.activity = .hold)
    (hs : s.shaft.state ≠ .referencing) (ht : s.frame.travel = none) (hh : s.frame.homing = none)
    (hj : s.joinsWaiting = false) (hret : s.run.startReturn = some .idle)
    (hl : ∀ h, 1 ≤ h → h ≤ 8 → s.engagedHead h = false ∧ (s.headAt h).state ≠ .resting) :
    s.stopDone.finish = (s.stopEnded s .idle s.causeOr).pump := by
  have hidle : s.hostCause.endStart = s.stopEnded s .idle s.causeOr :=
    State.endStart_of_idle (s := s.hostCause) hret hj hl
  rw [State.stopDone_of_order hh ((State.stopOrder_of_hold ha hact).trans hidle) Activity.noConfusion hs]
  exact State.stopEnded_quiet ht hh RunState.noConfusion RunState.noConfusion

theorem State.stop_of_step2 (ha : s.run.state = .arming)
    (hact : s.run.activity = .referencing ∨ s.run.activity = .dueTravel) (hs : s.shaft.state = .referencing)
    (hr : s.link.resetBy = none) (ht : s.frame.travel = none) (hh : s.frame.homing = none)
    (hj : s.joinsWaiting = false) (hret : s.run.startReturn = some .paused) (hp : s.passGoesOn = true) :
    s.stopDone.finish = (s.brakedNow.stopEnded s .paused s.causeOr).pump := by
  have hpaused : s.hostCause.brakedNow.endStart = s.brakedNow.stopEnded s .paused s.causeOr :=
    (State.endStart_of_paused (s := s.hostCause.brakedNow) hret).trans
      (State.toPaused_eq (s := s.hostCause.brakedNow) hj hp)
  rw [State.stopDone_of_order hh ((State.stopOrder_of_step2 ha hact hs hr).trans hpaused) Activity.noConfusion
    ShaftState.noConfusion]
  exact State.stopEnded_quiet (b := s.brakedNow) ht hh RunState.noConfusion RunState.noConfusion

/-- Work that runs on has the cause recorded. -/
theorem State.stop_of_work (hw : s.run.state = .changing ∨ (s.run.state = .arming ∧ s.run.activity = .engaging))
    (ha : s.run.activity ≠ .hostTravel) (hs : s.shaft.state ≠ .referencing) (hh : s.frame.homing = none) :
    s.stopDone = s.hostCause := by
  refine State.stopDone_of_order hh ?_ ha hs
  unfold State.stopOrder
  rcases hw with h | ⟨h, hact⟩
  · rw [h]
    exact s.recordHost
  · rw [h, hact]
    exact s.recordHost

theorem State.askTravelStop_of {v : Travel} (ht : s.frame.travel = some v) : s.askTravelStop =
    s.setFrame { s.frame with travel := some { v with stopAsked := true } } := by
  unfold State.askTravelStop
  rw [ht]
  rfl

theorem State.stop_of_hostTravel {v : Travel} {k : Nat} (hr : s.run.state = .travelling) (hact : s.run.activity = .hostTravel)
    (hs : s.shaft.state ≠ .referencing) (hh : s.frame.homing = none) (ht : s.frame.travel = some v) (hv : v.index = some k) :
    s.stopDone.finish = (s.setFrame { s.frame with travel := some { v with stopAsked := true } }).pump := by
  have horder : s.stopOrder .host = s := by
    unfold State.stopOrder
    rw [hr]
    exact if_neg (by rw [hact]; simp)
  have hdone : s.stopDone = s.setFrame { s.frame with travel := some { v with stopAsked := true } } := by
    unfold State.stopDone
    rw [State.stopHoming_of_none hh, horder]
    dsimp only
    rw [if_pos hact, State.askTravelStop_of ht]
    exact if_neg hs
  rw [hdone]
  refine State.finish_of_none ((State.advance_of_travel rfl).trans (State.advanceTravel_of_segment _ ?_))
  exact Option.isSome_iff_exists.2 ⟨k, hv⟩

theorem State.stop_of_runTravel {v : Travel} {k : Nat} (hr : s.run.state = .travelling)
    (hact : s.run.activity = .returnTravel ∨ s.run.activity = .patchTravel) (hs : s.shaft.state ≠ .referencing)
    (hh : s.frame.homing = none) (ht : s.frame.travel = some v) (hv : v.index = some k) : s.stopDone.finish =
      ((s.setFrame { s.frame with travel := some { v with stopAsked := true } }).setRun
        { s.run with cause := some s.causeOr }).pump := by
  have horder : s.stopOrder .host = s.hostCause.askTravelStop := by
    unfold State.stopOrder
    rw [hr, State.recordHost]
    exact if_pos hact
  rw [State.stopDone_of_order hh (horder.trans (State.askTravelStop_of (s := s.hostCause) ht))
    (by rcases hact with h | h <;> (show s.run.activity ≠ _) <;> rw [h] <;> exact Activity.noConfusion) hs]
  refine State.finish_of_none ((State.advance_of_travel rfl).trans (State.advanceTravel_of_segment _ ?_))
  exact Option.isSome_iff_exists.2 ⟨k, hv⟩

theorem State.stop_of_waiting (hr : s.run.state = .waiting) (hq : s.quiet = true) (hs : s.shaft.state ≠ .referencing)
    (hh : s.frame.homing = none) (hj : s.joinsWaiting = false) (hp : s.passGoesOn = true) :
    s.stopDone.finish = (s.stopEnded s .paused .host).pump := by
  obtain ⟨-, -, -, ht, -⟩ := s.quiet_iff.1 hq
  have horder : s.stopOrder .host = s.stopEnded s .paused .host := by
    unfold State.stopOrder
    rw [hr]
    exact State.toPaused_eq (s := s.setRun { s.run with cause := some .host }) hj hp
  rw [State.stopDone_of_order hh horder Activity.noConfusion hs]
  exact State.stopEnded_quiet ht hh RunState.noConfusion RunState.noConfusion

/-- A run at rest is not stopped. -/
theorem State.stopOrder_of_rest (hr : s.run.state = .unconfigured ∨ s.run.state = .idle ∨ s.run.state = .paused ∨
    s.run.state = .finished ∨ s.run.state = .halted) : s.stopOrder .host = s := by
  unfold State.stopOrder
  rcases hr with h | h | h | h | h <;> rw [h]

variable (hr : s.run.state = .unconfigured ∨ s.run.state = .idle ∨ s.run.state = .paused ∨ s.run.state = .finished ∨
  s.run.state = .halted) (hq : s.quiet = true)
include hr hq

theorem State.stop_of_rest (hs : s.shaft.state ≠ .referencing) (hh : s.frame.homing = none) : s.stopDone.finish = s.pump := by
  obtain ⟨ha, -⟩ := s.quiet_iff.1 hq
  rw [State.stopDone_of_order hh (State.stopOrder_of_rest hr) (by rw [ha]; exact Activity.noConfusion) hs,
    State.finish_quiet s hq]

theorem State.stop_of_hostReference (hs : s.shaft.state = .referencing) (hh : s.frame.homing = none) :
    s.stopDone.finish = s.brakedNow.pump := by
  obtain ⟨ha, -⟩ := s.quiet_iff.1 hq
  have hdone : s.stopDone = s.brakedNow := by
    unfold State.stopDone
    rw [State.stopHoming_of_none hh, State.stopOrder_of_rest hr]
    dsimp only
    have hmid : (if s.run.activity = .hostTravel then s.askTravelStop else s) = s :=
      if_neg (by rw [ha]; exact Activity.noConfusion)
    rw [hmid, if_pos hs, State.stopReferencing_eq hs]
  rw [hdone]
  exact State.finish_quiet s.brakedNow hq

/-- A homing ends with HOME FAILED (R81). -/
def State.homingStopped (s : State) (axis : AxisName) : State := s.endHoming.post .homeFailed 0 (axisNumber axis + 2)

theorem State.stop_of_homing {axis : AxisName} {phase : HomingPhase} (hs : s.shaft.state ≠ .referencing)
    (hh : s.frame.homing = some ⟨axis, phase⟩) : s.stopDone.finish = (s.homingStopped axis).pump := by
  obtain ⟨ha, -⟩ := s.quiet_iff.1 hq
  have hstop : s.stopHoming = s.homingStopped axis := by
    unfold State.stopHoming
    rw [hh]
    rfl
  have hdone : s.stopDone = s.homingStopped axis := by
    unfold State.stopDone
    rw [hstop, State.stopOrder_of_rest (s := s.homingStopped axis) hr]
    dsimp only
    have hmid : (if (s.homingStopped axis).run.activity = .hostTravel then (s.homingStopped axis).askTravelStop else
        s.homingStopped axis) = s.homingStopped axis :=
      if_neg (by show s.run.activity ≠ _; rw [ha]; exact Activity.noConfusion)
    rw [hmid]
    exact if_neg hs
  rw [hdone]
  exact State.finish_homingOver hq rfl rfl rfl

end Clauses

/-! ## The obligation -/

/-- A STOP of work that runs on: the cause is recorded and the work goes on (O29). -/
theorem exec_stop_work {s : State} {src : Sender}
    (hw : s.run.state = .changing ∨ (s.run.state = .arming ∧ s.run.activity = .engaging))
    (ha : s.run.activity ≠ .hostTravel) (hs : s.shaft.state ≠ .referencing) (hh : s.frame.homing = none) :
    s.hearsStop src → exec (.stop src) s = .next (match src with
      | .addressed tag => State.deliver ((s.setLink (s.link.reserve tag)).hostCause.finish, some ⟨.ok, []⟩)
      | .broadcast => s.hostCause.finish) := by
  intro h
  cases src with
  | addressed tag =>
    have hexec : exec (.stop (.addressed tag)) s = .next (s.takeAddressed tag serveStop) := rfl
    rw [hexec, State.takeAddressed_hears s tag serveStop h, serveStop_eq,
      State.stop_of_work (s := s.setLink (s.link.reserve tag)) hw ha hs hh]
    rfl
  | broadcast =>
    have hexec : exec (.stop .broadcast) s = .next (if s.link.resetBy.isSome then s else s.stopDone.finish) := rfl
    have hnone : s.link.resetBy.isSome = false := by
      rw [State.hearsStop.resetBy h]
      rfl
    rw [hexec, hnone, State.stop_of_work hw ha hs hh]
    rfl

/-- A STOP that ends a homing (O29): what it leaves of the frame, and the event. -/
theorem State.homingStopped_leaves (s : State) (axis : AxisName) (src : Sender) :
    let t := (s.homingStopped axis).pump.answeredTo src
    t.frame.homing = none ∧ t.run = s.run ∧ t.shaft.lockout.homing = false ∧
      t.frame.x.referenced = s.frame.x.referenced ∧ t.frame.y.referenced = s.frame.y.referenced ∧
      t.frame.pos = s.frame.pos ∧
      t.link = ((s.setLink (s.link.post ⟨.homeFailed, 0, s.cursor, axisNumber axis + 2⟩)).answeredTo src).link := by
  obtain ⟨hrun, -, -, hframe, hshaft, -, -, -, hlink, -⟩ := State.pump_keeps (s.homingStopped axis)
  obtain ⟨hx, hxr, -⟩ := s.frame.x.homingStopped_keeps
  obtain ⟨hy, hyr, -⟩ := s.frame.y.homingStopped_keeps
  have hpos : (s.homingStopped axis).frame.pos = s.frame.pos := congrArg₂ Point.mk hx hy
  cases src with
  | addressed tag =>
    refine ⟨congrArg FrameDrive.homing hframe, hrun, congrArg (·.lockout.homing) hshaft, ?_, ?_, ?_, ?_⟩
    · exact (congrArg (·.x.referenced) hframe).trans hxr
    · exact (congrArg (·.y.referenced) hframe).trans hyr
    · exact (congrArg FrameDrive.pos hframe).trans hpos
    · exact congrArg (fun l : Link => ({ l with replies := l.replies ++ [⟨tag, some ⟨.ok, []⟩⟩] } : Link)) hlink
  | broadcast =>
    exact ⟨congrArg FrameDrive.homing hframe, hrun, congrArg (·.lockout.homing) hshaft,
      (congrArg (·.x.referenced) hframe).trans hxr, (congrArg (·.y.referenced) hframe).trans hyr,
      (congrArg FrameDrive.pos hframe).trans hpos, hlink⟩

/-- Settles O29: by the run state, the stop order and what then falls due. -/
theorem stopEndsWhatRuns : Obligations.StopEndsWhatRuns := by
  unfold Obligations.StopEndsWhatRuns
  refine ⟨fun s h => exec_stop_reset h, fun s src hsrc hj => ?_⟩
  have hheard : s.hearsStop src := hsrc
  intro exec' answered index cause ended braked resting still
  refine ⟨?running, ?stopping, ?hold, ?step2, ?work, ?travel, ?waiting, ?rest⟩
  case running =>
    intro hr ha hs hstill
    exact exec_stop_pumped hheard State.hostStopping (fun _ _ => rfl)
      fun rs => State.stop_of_running (s := s.withReplies rs) hr ha hs hstill.1 hstill.2
  case stopping =>
    intro hr hc hs
    exact exec_stop_pumped hheard id (fun _ _ => rfl) fun rs => State.stop_of_stopping (s := s.withReplies rs) hr hc hs
  case hold =>
    intro ha hact hs hstill
    refine ⟨fun hret hp => ?_, fun hret hl => ?_⟩
    · exact exec_stop_pumped hheard (fun s => s.stopEnded s .paused s.causeOr)
        (fun s rs => State.stopEnded_withReplies (B := id) (fun _ _ => rfl) .paused s s.causeOr rs)
        fun rs => State.stop_of_hold_paused (s := s.withReplies rs) ha hact hs hstill.1 hstill.2 hj hret hp
    · exact exec_stop_pumped hheard (fun s => s.stopEnded s .idle s.causeOr)
        (fun s rs => State.stopEnded_withReplies (B := id) (fun _ _ => rfl) .idle s s.causeOr rs)
        fun rs => State.stop_of_hold_idle (s := s.withReplies rs) ha hact hs hstill.1 hstill.2 hj hret hl
  case step2 =>
    intro ha hact hs hstill hret hp
    exact exec_stop_pumped hheard (fun s => s.brakedNow.stopEnded s .paused s.causeOr)
      (fun s rs => State.stopEnded_withReplies (B := State.brakedNow) (fun _ _ => rfl) .paused s s.causeOr rs)
      fun rs => State.stop_of_step2 (s := s.withReplies rs) ha hact hs hheard.resetBy hstill.1 hstill.2 hj hret hp
  case work =>
    intro hw ha hrest
    exact exec_stop_work hw ha hrest.1 hrest.2 hheard
  case travel =>
    intro v k hr hrest ht hv asked
    refine ⟨fun hact => ?_, fun hact => ?_⟩
    · exact exec_stop_pumped hheard
        (fun s => s.setFrame { s.frame with travel := some { v with stopAsked := true } }) (fun _ _ => rfl)
        fun rs => State.stop_of_hostTravel (s := s.withReplies rs) hr hact hrest.1 hrest.2 ht hv
    · exact exec_stop_pumped hheard
        (fun s => (s.setFrame { s.frame with travel := some { v with stopAsked := true } }).setRun
          { s.run with cause := some s.causeOr }) (fun _ _ => rfl)
        fun rs => State.stop_of_runTravel (s := s.withReplies rs) hr hact hrest.1 hrest.2 ht hv
  case waiting =>
    intro hr hq hrest hp
    exact exec_stop_pumped hheard (fun s => s.stopEnded s .paused .host)
      (fun s rs => State.stopEnded_withReplies (B := id) (fun _ _ => rfl) .paused s .host rs)
      fun rs => State.stop_of_waiting (s := s.withReplies rs) hr hq hrest.1 hrest.2 hj hp
  case rest =>
    intro hr hq
    refine ⟨fun hs hh => ?_, fun hrest => ?_, fun axis phase hs hh => ?_⟩
    · exact exec_stop_pumped hheard State.brakedNow (fun _ _ => rfl)
        fun rs => State.stop_of_hostReference (s := s.withReplies rs) hr hq hs hh
    · exact exec_stop_pumped hheard id (fun _ _ => rfl)
        fun rs => State.stop_of_rest (s := s.withReplies rs) hr hq hrest.1 hrest.2
    · have hrun := exec_stop_pumped hheard (fun s => s.homingStopped axis)
        (fun s rs => State.post_withReplies s.endHoming rs .homeFailed 0 (axisNumber axis + 2))
        fun rs => State.stop_of_homing (s := s.withReplies rs) (phase := phase) hr hq hs hh
      obtain ⟨hhom, hkept, hlock, hx, hy, hpos, hlink⟩ := s.homingStopped_leaves axis src
      refine ⟨_, hrun, hhom, hkept, hlock, hx, hy, hpos, hlink.trans ?_⟩
      cases axis <;> rfl

end Sys2Proof.Machine

/-!
PROOF. BACK and FORWARD (section 9.4; O40): the limit of a BACK and the two walks over the design.
-/

namespace Sys2Proof.Machine
set_option Elab.async false

/-! ## The limit of a BACK -/

/-- A COLOUR or TRIM stands at the index. -/
def State.endsAt (s : State) (i : Nat) : Prop :=
  ∃ r, s.store.recordAt i = some r ∧ (r = .trim ∨ ∃ slot, r = .colour slot)

/-- A motion record stands at the index. -/
def State.motionAt (s : State) (i : Nat) : Prop := ∃ r, s.store.recordAt i = some r ∧ (motionOf r).isSome = true

theorem endsSegment_iff (r : DesignRecord) : endsSegment r = true ↔ r = .trim ∨ ∃ slot, r = .colour slot := by
  cases r <;> simp [endsSegment]

section Walks

variable (s : State)

theorem State.segmentLimit_ends {lowest i : Nat} (hi : lowest ≤ i) (h : s.endsAt i) :
    s.segmentLimit lowest (i + 1) = i + 1 := by
  obtain ⟨r, hr, hends⟩ := h
  unfold State.segmentLimit
  rw [if_neg (by omega), hr]
  exact if_pos ((endsSegment_iff r).2 hends)

theorem State.segmentLimit_passes {lowest i : Nat} (hi : lowest ≤ i) (h : ¬ s.endsAt i) :
    s.segmentLimit lowest (i + 1) = s.segmentLimit lowest i := by
  rw [State.segmentLimit, if_neg (by omega)]
  cases hr : s.store.recordAt i with
  | none => rfl
  | some r => exact if_neg fun hends => h ⟨r, hr, (endsSegment_iff r).1 hends⟩

theorem State.segmentLimit_spec (lowest i : Nat) : lowest ≤ s.segmentLimit lowest i ∧
    (∀ j, j < i → s.endsAt j → j < s.segmentLimit lowest i) ∧
    (s.segmentLimit lowest i = lowest ∨ ∃ j, j < i ∧ s.endsAt j ∧ s.segmentLimit lowest i = j + 1) := by
  induction i with
  | zero => exact ⟨le_rfl, fun j hj => absurd hj (Nat.not_lt_zero j), .inl rfl⟩
  | succ i ih =>
    obtain ⟨hlow, hpast, heq⟩ := ih
    by_cases hi : i < lowest
    · have hstop : s.segmentLimit lowest (i + 1) = lowest := by
        rw [State.segmentLimit, if_pos hi]
      rw [hstop]
      exact ⟨le_rfl, fun j hj _ => by omega, .inl rfl⟩
    · by_cases he : s.endsAt i
      · rw [s.segmentLimit_ends (by omega) he]
        exact ⟨by omega, fun j hj _ => hj, .inr ⟨i, by omega, he, rfl⟩⟩
      · rw [s.segmentLimit_passes (by omega) he]
        refine ⟨hlow, fun j hj hends => ?_, heq.imp_right fun ⟨j, hj, hrest⟩ => ⟨j, by omega, hrest⟩⟩
        rcases Nat.lt_succ_iff_lt_or_eq.1 hj with hlt | rfl
        · exact hpast j hlt hends
        · exact absurd hends he

/-- The greatest start of the OPEN gaps, and of a number to begin from. -/
theorem openStarts_spec (l : List Gap) (m : Nat) :
    let top := l.foldl (fun m g => if g.state == .opened then max m g.start else m) m
    m ≤ top ∧ (∀ g ∈ l, g.state = .opened → g.start ≤ top) ∧ (top = m ∨ ∃ g ∈ l, g.state = .opened ∧ top = g.start) := by
  dsimp only
  induction l generalizing m with
  | nil => exact ⟨le_rfl, fun _ h => absurd h List.not_mem_nil, .inl rfl⟩
  | cons g l ih =>
    rw [List.foldl_cons]
    by_cases hg : g.state = .opened
    · rw [if_pos (by simp [hg])]
      obtain ⟨hfrom, hall, heq⟩ := ih (max m g.start)
      refine ⟨(le_max_left _ _).trans hfrom, fun x hx ho => ?_, ?_⟩
      · rcases List.mem_cons.1 hx with rfl | hx
        · exact (le_max_right _ _).trans hfrom
        · exact hall x hx ho
      · rcases heq with h | ⟨x, hx, hrest⟩
        · rcases max_choice m g.start with hm | hm
          · exact .inl (h.trans hm)
          · exact .inr ⟨g, List.mem_cons_self, hg, h.trans hm⟩
        · exact .inr ⟨x, List.mem_cons_of_mem _ hx, hrest⟩
    · rw [if_neg (by simpa using hg)]
      obtain ⟨hfrom, hall, heq⟩ := ih m
      refine ⟨hfrom, fun x hx ho => ?_, heq.imp_right fun ⟨x, hx, hrest⟩ => ⟨x, List.mem_cons_of_mem _ hx, hrest⟩⟩
      rcases List.mem_cons.1 hx with rfl | hx
      · exact absurd ho hg
      · exact hall x hx ho

/-- The limit of a BACK is the greatest of its three bounds (R156). -/
theorem State.backLimit_spec : s.earliestRetained ≤ s.backLimit ∧
    (∀ i, i < s.run.mainCursor → s.endsAt i → i < s.backLimit) ∧
    (∀ g ∈ s.gaps, g.state = .opened → g.start ≤ s.backLimit) ∧
    (s.backLimit = s.earliestRetained ∨ (∃ i, i < s.run.mainCursor ∧ s.endsAt i ∧ s.backLimit = i + 1) ∨
      ∃ g ∈ s.gaps, g.state = .opened ∧ s.backLimit = g.start) := by
  obtain ⟨hlow, hpast, hsegment⟩ := s.segmentLimit_spec s.earliestRetained s.run.mainCursor
  obtain ⟨-, hgaps, hgap⟩ := openStarts_spec s.gaps 0
  have hlimit : s.backLimit = max (s.segmentLimit s.earliestRetained s.run.mainCursor)
      (s.gaps.foldl (fun m g => if g.state == .opened then max m g.start else m) 0) := rfl
  generalize s.gaps.foldl (fun m g => if g.state == .opened then max m g.start else m) 0 = top at *
  generalize s.segmentLimit s.earliestRetained s.run.mainCursor = segment at *
  rw [hlimit]
  refine ⟨hlow.trans (le_max_left _ _), fun i hi he => (hpast i hi he).trans_le (le_max_left _ _),
    fun g hg ho => (hgaps g hg ho).trans (le_max_right _ _), ?_⟩
  rcases max_choice segment top with hm | hm
  · rw [hm]
    exact hsegment.imp_right .inl
  · rcases hgap with h0 | ⟨g, hg, ho, heq⟩
    · have hsame : max segment top = segment := by omega
      rw [hsame]
      exact hsegment.imp_right .inl
    · exact .inr (.inr ⟨g, hg, ho, hm.trans heq⟩)

/-! ## The walk of a BACK -/

theorem State.motionBack_stops {limit i n : Nat} (h : n = 0 ∨ i < limit) : s.motionBack limit (i + 1) n = [] := by
  rw [State.motionBack, if_pos h]

theorem State.motionBack_takes {limit i n : Nat} (hi : limit ≤ i) (hm : s.motionAt i) :
    s.motionBack limit (i + 1) (n + 1) = i :: s.motionBack limit i n := by
  obtain ⟨r, hr, hmotion⟩ := hm
  rw [State.motionBack, if_neg (by omega), hr]
  exact if_pos hmotion

theorem State.motionBack_passes {limit i n : Nat} (hi : limit ≤ i) (hm : ¬ s.motionAt i) :
    s.motionBack limit (i + 1) (n + 1) = s.motionBack limit i (n + 1) := by
  rw [State.motionBack, if_neg (by omega)]
  cases hr : s.store.recordAt i with
  | none => rfl
  | some r => exact if_neg fun h => hm ⟨r, hr, h⟩

/-- The motion records passed by a BACK: the last `n` of them down to the limit (R156). -/
theorem State.motionBack_spec (limit i n : Nat) :
    (s.motionBack limit i n).length ≤ n ∧ (s.motionBack limit i n).Pairwise (fun i j => j < i) ∧
    (∀ j ∈ s.motionBack limit i n, limit ≤ j ∧ j < i ∧ s.motionAt j) ∧
    (∀ k, limit ≤ k → k < i → s.motionAt k → k ∉ s.motionBack limit i n →
      (s.motionBack limit i n).length = n ∧ ∀ j ∈ s.motionBack limit i n, k < j) := by
  induction i generalizing n with
  | zero =>
    exact ⟨Nat.zero_le _, List.Pairwise.nil, fun _ h => absurd h List.not_mem_nil,
      fun k _ hk => absurd hk (Nat.not_lt_zero k)⟩
  | succ i ih =>
    by_cases hstop : n = 0 ∨ i < limit
    · rw [s.motionBack_stops hstop]
      exact ⟨Nat.zero_le _, List.Pairwise.nil, fun _ h => absurd h List.not_mem_nil,
        fun k hlow hk _ _ => ⟨by simp only [List.length_nil]; omega, fun _ h => absurd h List.not_mem_nil⟩⟩
    · obtain ⟨n, rfl⟩ : ∃ m, n = m + 1 := ⟨n - 1, by omega⟩
      have hi : limit ≤ i := by omega
      by_cases hm : s.motionAt i
      · obtain ⟨hlen, hsorted, hmem, hleft⟩ := ih n
        rw [s.motionBack_takes hi hm]
        refine ⟨Nat.succ_le_succ hlen, List.pairwise_cons.2 ⟨fun j hj => (hmem j hj).2.1, hsorted⟩, ?_, ?_⟩
        · intro j hj
          rcases List.mem_cons.1 hj with rfl | hj
          · exact ⟨hi, Nat.lt_succ_self _, hm⟩
          · obtain ⟨hl, hlt, hmo⟩ := hmem j hj
            exact ⟨hl, hlt.trans (Nat.lt_succ_self i), hmo⟩
        · intro k hlow hk hmk hnot
          obtain ⟨hne, hout⟩ := not_or.1 (mt List.mem_cons.2 hnot)
          obtain ⟨hfull, hbelow⟩ := hleft k hlow (by omega) hmk hout
          refine ⟨congrArg (· + 1) hfull, fun j hj => ?_⟩
          rcases List.mem_cons.1 hj with rfl | hj
          · omega
          · exact hbelow j hj
      · obtain ⟨hlen, hsorted, hmem, hleft⟩ := ih (n + 1)
        rw [s.motionBack_passes hi hm]
        refine ⟨hlen, hsorted, fun j hj => ?_, fun k hlow hk hmk => hleft k hlow ?_ hmk⟩
        · obtain ⟨hl, hlt, hmo⟩ := hmem j hj
          exact ⟨hl, hlt.trans (Nat.lt_succ_self i), hmo⟩
        · rcases Nat.lt_succ_iff_lt_or_eq.1 hk with hlt | rfl
          · exact hlt
          · exact absurd hmk hm

/-! ## The walk of a FORWARD -/

/-- What a walk of FORWARD from index `i` over at most `n` motion records, looking at `f` records, has passed. -/
structure State.WalksRight (s : State) (f i n : Nat) (w : Nat × List Nat) : Prop where
  few : w.2.length ≤ n
  sorted : w.2.Pairwise (fun i j => i < j)
  onward : i ≤ w.1
  passed : ∀ k, k ∈ w.2 ↔ i ≤ k ∧ k < w.1 ∧ s.motionAt k
  clear : ∀ k, i ≤ k → k < w.1 → s.stopKindAt k = none
  halted : w.2.length < n → s.stopKindAt w.1 ≠ none ∨ w.1 = i + f
  last : w.2.length = n → n ≠ 0 → w.2.getLast? = some (w.1 - 1)

theorem State.record_of_no_stop {s : State} {i : Nat} (h : s.stopKindAt i = none) :
    ∃ r, s.store.recordAt i = some r := by
  cases hr : s.store.recordAt i with
  | some r => exact ⟨r, rfl⟩
  | none =>
    unfold State.stopKindAt at h
    rw [hr] at h
    split at h
    · exact absurd h (Option.some_ne_none _)
    · split at h <;> exact absurd h (Option.some_ne_none _)

theorem State.walkForward_stops {f i n : Nat} (h : n = 0 ∨ s.stopKindAt i ≠ none) :
    s.walkForward f i n = (i, []) := by
  cases f with
  | zero => rfl
  | succ f => rw [State.walkForward, if_pos (h.imp_right Option.isSome_iff_ne_none.2)]

theorem State.walkForward_takes {f i n : Nat} (hs : s.stopKindAt i = none) (hm : s.motionAt i) :
    s.walkForward (f + 1) i (n + 1) =
      ((s.walkForward f (i + 1) n).1, i :: (s.walkForward f (i + 1) n).2) := by
  obtain ⟨r, hr, hmotion⟩ := hm
  rw [State.walkForward, if_neg (by simp [hs]), hr]
  exact if_pos hmotion

theorem State.walkForward_passes {f i n : Nat} (hs : s.stopKindAt i = none) (hm : ¬ s.motionAt i) :
    s.walkForward (f + 1) i (n + 1) = s.walkForward f (i + 1) (n + 1) := by
  obtain ⟨r, hr⟩ := State.record_of_no_stop hs
  rw [State.walkForward, if_neg (by simp [hs]), hr]
  exact if_neg fun h => hm ⟨r, hr, h⟩

/-- A walk that passes nothing. -/
theorem State.walksRight_nil {f i n : Nat} (h : n = 0 ∨ s.stopKindAt i ≠ none ∨ f = 0) :
    s.WalksRight f i n (i, []) where
  few := Nat.zero_le _
  sorted := List.Pairwise.nil
  onward := le_rfl
  passed := fun k => ⟨fun hk => absurd hk List.not_mem_nil, fun ⟨hle, hlt, _⟩ => absurd hlt (Nat.not_lt.2 hle)⟩
  clear := fun k hle hlt => absurd hlt (Nat.not_lt.2 hle)
  halted := fun hn => by
    rcases h with rfl | h | rfl
    · exact absurd hn (Nat.not_lt_zero _)
    · exact .inl h
    · exact .inr rfl
  last := fun hlen hn => absurd hlen.symm hn

theorem State.walkForward_right (f i n : Nat) : s.WalksRight f i n (s.walkForward f i n) := by
  induction f generalizing i n with
  | zero => exact s.walksRight_nil (.inr (.inr rfl))
  | succ f ih =>
    by_cases hstop : n = 0 ∨ s.stopKindAt i ≠ none
    · rw [s.walkForward_stops hstop]
      exact s.walksRight_nil (hstop.imp_right .inl)
    · obtain ⟨hn, hs⟩ := not_or.1 hstop
      have hclear : s.stopKindAt i = none := not_not.1 hs
      obtain ⟨n, rfl⟩ : ∃ m, n = m + 1 := ⟨n - 1, by omega⟩
      by_cases hm : s.motionAt i
      · have h := ih (i + 1) n
        rw [s.walkForward_takes hclear hm]
        have hon := h.onward
        refine ⟨Nat.succ_le_succ h.few, ?_, (Nat.le_succ i).trans hon, fun k => ?_, fun k hle hlt => ?_, ?_, ?_⟩
        · exact List.pairwise_cons.2 ⟨fun j hj => ((h.passed j).1 hj).1, h.sorted⟩
        · rw [List.mem_cons, h.passed]
          constructor
          · rintro (rfl | ⟨hle, hlt, hk⟩)
            · exact ⟨le_rfl, hon, hm⟩
            · exact ⟨by omega, hlt, hk⟩
          · rintro ⟨hle, hlt, hk⟩
            by_cases hki : k = i
            · exact .inl hki
            · exact .inr ⟨by omega, hlt, hk⟩
        · by_cases hki : k = i
          · rw [hki]
            exact hclear
          · exact h.clear k (by omega) hlt
        · exact fun hlt => (h.halted (Nat.lt_of_succ_lt_succ hlt)).imp_right fun heq => heq.trans (by omega)
        · intro hlen _
          have hlen' : (s.walkForward f (i + 1) n).2.length = n := Nat.succ.inj hlen
          by_cases hn0 : n = 0
          · subst hn0
            rw [s.walkForward_stops (.inl rfl)]
            rfl
          · have hlast := h.last hlen' hn0
            show (i :: (s.walkForward f (i + 1) n).2).getLast? = _
            rw [List.getLast?_cons, hlast]
            rfl
      · have h := ih (i + 1) (n + 1)
        rw [s.walkForward_passes hclear hm]
        have hon := h.onward
        refine ⟨h.few, h.sorted, (Nat.le_succ i).trans hon, fun k => ?_, fun k hle hlt => ?_, ?_, h.last⟩
        · rw [h.passed]
          refine ⟨fun ⟨hle, hrest⟩ => ⟨by omega, hrest⟩, fun ⟨hle, hlt, hk⟩ => ⟨?_, hlt, hk⟩⟩
          by_contra hlow
          exact hm ((show k = i by omega) ▸ hk)
        · by_cases hki : k = i
          · rw [hki]
            exact hclear
          · exact h.clear k (by omega) hlt
        · exact fun hlt => (h.halted hlt).imp_right fun heq => heq.trans (by omega)

end Walks

end Sys2Proof.Machine

/-!
PROOF. BACK and FORWARD (section 9.4; O40): the cursor that moves, the travel that begins, and the obligation.
-/

namespace Sys2Proof.Machine
set_option Elab.async false

/-! ## The cursor moves -/

/-- A state whose main cursor has moved, with what the store does then. -/
structure State.CursorAt (s : State) (new : Nat) (t : State) : Prop where
  run : t.run = { s.run with mainCursor := new }
  frame : t.frame = s.frame
  shaft : t.shaft = s.shaft
  change : t.change = s.change
  monitor : t.monitor = s.monitor
  cfg : t.cfg = s.cfg
  filledEnd : t.store.filledEnd = s.store.filledEnd
  replies : t.link.replies = s.link.replies

theorem State.CursorAt.trans {s t u : State} {i j : Nat} (h : s.CursorAt i t) (h' : t.CursorAt j u) : s.CursorAt j u where
  run := by rw [h'.run, h.run]
  frame := h'.frame.trans h.frame
  shaft := h'.shaft.trans h.shaft
  change := h'.change.trans h.change
  monitor := h'.monitor.trans h.monitor
  cfg := h'.cfg.trans h.cfg
  filledEnd := h'.filledEnd.trans h.filledEnd
  replies := h'.replies.trans h.replies

theorem State.pace_filledEnd (s : State) : s.pace.store.filledEnd = s.store.filledEnd := by
  unfold State.pace
  split
  · dsimp only
    split <;> rfl
  · rfl

theorem State.release_filledEnd (s : State) : s.release.store.filledEnd = s.store.filledEnd := by
  unfold State.release
  split
  · exact s.releaseSlots.pace_filledEnd
  · rfl

theorem State.moveMain_cursorAt (s : State) (i : Nat) :
    s.CursorAt i (s.moveMain i) ∧ (s.moveMain i).gaps = s.gaps := by
  obtain ⟨-, hframe, hshaft, -, hchange, hmonitor, hgaps, hcfg, -, -, -, hreplies, -⟩ := s.moveMain_keeps i
  refine ⟨⟨?_, hframe, hshaft, hchange, hmonitor, hcfg, ?_, hreplies⟩, hgaps⟩
  · unfold State.moveMain
    dsimp only
    split
    · exact (State.pace_keeps _).1
    · rfl
  · unfold State.moveMain
    dsimp only
    split
    · exact State.pace_filledEnd _
    · rfl

/-- A cursor moved record by record. -/
theorem State.cursorMoves (d : Nat → Nat) (l : List Nat) (s : State) :
    let t := l.foldl (fun s _ => s.moveMain (d s.run.mainCursor)) s
    s.CursorAt (d^[l.length] s.run.mainCursor) t ∧ t.gaps = s.gaps := by
  dsimp only
  induction l generalizing s with
  | nil => exact ⟨⟨rfl, rfl, rfl, rfl, rfl, rfl, rfl, rfl⟩, rfl⟩
  | cons x l ih =>
    obtain ⟨hone, honegaps⟩ := s.moveMain_cursorAt (d s.run.mainCursor)
    obtain ⟨hrest, hgaps⟩ := ih (s.moveMain (d s.run.mainCursor))
    have hcursor : (s.moveMain (d s.run.mainCursor)).run.mainCursor = d s.run.mainCursor := by rw [hone.run]
    rw [hcursor] at hrest
    rw [List.foldl_cons, List.length_cons, Function.iterate_succ_apply]
    exact ⟨hone.trans hrest, hgaps.trans honegaps⟩

theorem State.cursorBack_at {s : State} {new : Nat} (h : new ≤ s.run.mainCursor) :
    s.CursorAt new (s.cursorBack new) ∧ (s.cursorBack new).gaps = s.gaps := by
  have hmoves := State.cursorMoves (fun c => c - 1) (List.range (s.run.mainCursor - new)) s
  have hcount : (fun c => c - 1)^[(List.range (s.run.mainCursor - new)).length] s.run.mainCursor = new := by
    rw [List.length_range]
    exact (Nat.pred_iterate _ _).trans (by omega)
  rw [hcount] at hmoves
  exact hmoves

theorem State.cursorForward_at {s : State} {new : Nat} (h : s.run.mainCursor ≤ new) :
    s.CursorAt new (s.cursorForward new) ∧ (s.cursorForward new).gaps = s.gaps := by
  have hmoves := State.cursorMoves (fun c => c + 1) (List.range (new - s.run.mainCursor)) s
  have hcount : (fun c => c + 1)^[(List.range (new - s.run.mainCursor)).length] s.run.mainCursor = new := by
    rw [List.length_range]
    exact (Nat.succ_iterate _ _).trans (by omega)
  rw [hcount] at hmoves
  exact hmoves

/-- The gaps after a BACK (R156): the CLOSED ones end at the new cursor, the empty ones are gone. -/
theorem State.shortenGaps_at (s : State) (new : Nat) :
    s.CursorAt s.run.mainCursor (s.shortenGaps new) ∧ (s.shortenGaps new).gaps =
      (s.gaps.map (fun g => if g.state = .closed ∧ new < g.stop.getD 0 then
        { g with stop := some (max g.start new) } else g)).filter
          (fun g => !(g.state == .closed && g.stop == some g.start)) := by
  have hmap : s.gaps.map (fun g => if g.state == .closed && g.stopAt 0 > new then
      { g with stop := some (max g.start new) } else g) = s.gaps.map (fun g =>
        if g.state = .closed ∧ new < g.stop.getD 0 then { g with stop := some (max g.start new) } else g) := by
    refine List.map_congr_left fun g _ => ?_
    by_cases h : g.state = .closed ∧ new < g.stop.getD 0
    · rw [if_pos h, if_pos (by simpa [Gap.stopAt] using h)]
    · rw [if_neg h, if_neg (by simpa [Gap.stopAt] using h)]
  unfold State.shortenGaps
  dsimp only
  rw [hmap]
  generalize s.gaps.map (fun g => if g.state = .closed ∧ new < g.stop.getD 0 then
    { g with stop := some (max g.start new) } else g) = gaps
  obtain ⟨hgaps, hcases⟩ :=
    (s.setGaps gaps).removeGaps_cases (fun g => g.state == .closed && g.stop == some g.start)
  refine ⟨?_, hgaps⟩
  rcases hcases with ⟨heq, -⟩ | ⟨heq, -⟩
  · rw [heq]
    exact ⟨rfl, rfl, rfl, rfl, rfl, rfl, rfl, rfl⟩
  · rw [heq]
    obtain ⟨hrun, -, hframe, hshaft, -, hchange, hmonitor, -, hcfg, -, -, -, hreplies, -⟩ := State.release_keeps
      ((s.setGaps gaps).setGaps
        ((s.setGaps gaps).gaps.filter (fun g => !(g.state == .closed && g.stop == some g.start))))
    exact ⟨hrun, hframe, hshaft, hchange, hmonitor, hcfg, State.release_filledEnd _, hreplies⟩

/-! ## The travel begins -/

theorem Point.sub_moves {p q : Point} (h : p ≠ q) : (p.sub q).x ≠ 0 ∨ (p.sub q).y ≠ 0 := by
  by_contra hnone
  obtain ⟨hx, hy⟩ : (p.sub q).x = 0 ∧ (p.sub q).y = 0 := by simpa [not_or] using hnone
  exact h (by
    cases p
    cases q
    exact congrArg₂ Point.mk (sub_eq_zero.1 hx) (sub_eq_zero.1 hy))

theorem Axis.begin_pos (a : Axis) (k : Nat) (kind : MoveKind) (d : Int) : (a.begin k kind d).pos = a.pos := by
  unfold Axis.begin
  split <;> rfl

/-- The leg of a chain that has just begun. -/
def State.legOf (s : State) (first : Point) (rest : List Point) : Travel :=
  ⟨rest, s.frame.pos, first.sub s.frame.pos, segmentCount (first.sub s.frame.pos), 0, none, false⟩

/-- A travel along a chain whose first leg moves the frame: its first segment is begun. -/
theorem State.finish_hostTravel_chain {s : State} {first : Point} {rest : List Point} (h : s.frameAtRest)
    (hd : first ≠ s.frame.pos) : (s.hostTravel (first :: rest)).finish =
      ((s.hostTravel (first :: rest)).beginSegment (s.legOf first rest)).pump := by
  let leg := (s.hostTravel (first :: rest)).beginLeg
    ⟨first :: rest, s.frame.pos, ⟨0, 0⟩, 0, 0, none, false⟩ first rest
  have hleg : leg.frame.travel = some (s.legOf first rest) := rfl
  have hsegment : leg.advance = some (leg.beginSegment (s.legOf first rest)) := by
    rw [State.advance_of_travel hleg, State.advanceTravel_of_atRest (s := leg) h rfl rfl]
    exact if_pos (segmentCount_pos (Point.sub_moves hd))
  have hwaits : (leg.beginSegment (s.legOf first rest)).advance = none := by
    rw [State.advance_of_travel rfl]
    exact State.advanceTravel_of_segment _ rfl
  exact State.finish_of_two (s.hostTravel_advance h) hsegment hwaits

/-- What a BACK or a FORWARD leaves: the cursor at its new place and the frame on the first leg (O40). -/
structure State.Backtracks (s : State) (new : Nat) (legs : List Point) (t : State) : Prop where
  run : t.run = { s.run with
    state := .travelling, travelReturn := some .paused, activity := .hostTravel, mainCursor := new }
  replies : t.link.replies = s.link.replies
  lockout : t.shaft.lockout.travel = true
  travel : ∀ first rest, legs = first :: rest → ∃ tr, t.frame.travel = some tr ∧ tr.legs = rest ∧
    tr.origin = s.frame.pos ∧ tr.shift = first.sub s.frame.pos ∧ tr.made = 0 ∧ tr.stopAsked = false
  pos : t.frame.pos = s.frame.pos
  filledEnd : t.store.filledEnd = s.store.filledEnd
  monitor : t.monitor = s.monitor
  change : t.change = s.change
  cfg : t.cfg = s.cfg

theorem State.backtracks_of_cursor {s u : State} {new : Nat} {first : Point} {rest : List Point}
    (hu : s.CursorAt new u) (hp : s.run.state = .paused) (h : s.frameAtRest) (hd : first ≠ s.frame.pos) :
    s.Backtracks new (first :: rest) (u.hostTravel (first :: rest)).finish ∧
      (u.hostTravel (first :: rest)).finish.gaps = u.gaps := by
  have hrest : u.frameAtRest := by
    unfold State.frameAtRest
    rw [hu.frame]
    exact h
  rw [State.finish_hostTravel_chain hrest (by rw [hu.frame]; exact hd)]
  obtain ⟨hrun, hstore, -, hframe, hshaft, hchange, hmonitor, hgaps, hlink, hcfg, -, -⟩ :=
    State.pump_keeps ((u.hostTravel (first :: rest)).beginSegment (u.legOf first rest))
  refine ⟨⟨hrun.trans ?_, (congrArg Link.replies hlink).trans hu.replies, congrArg (·.lockout.travel) hshaft, ?_, ?_,
    (congrArg Store.filledEnd hstore).trans hu.filledEnd, hmonitor.trans hu.monitor, hchange.trans hu.change,
    hcfg.trans hu.cfg⟩, hgaps⟩
  · show { u.run with state := .travelling, travelReturn := some u.run.state, activity := .hostTravel } = _
    rw [hu.run, ← hp]
  · intro first' rest' hlegs
    obtain ⟨rfl, rfl⟩ := List.cons.inj hlegs
    refine ⟨_, congrArg FrameDrive.travel hframe, rfl, congrArg FrameDrive.pos hu.frame, ?_, rfl, rfl⟩
    show first.sub u.frame.pos = _
    rw [hu.frame]
  · rw [hframe]
    refine Eq.trans ?_ (congrArg FrameDrive.pos hu.frame)
    exact congrArg₂ Point.mk (Axis.begin_pos _ _ _ _) (Axis.begin_pos _ _ _ _)

/-! ## The two requests -/

section Requests

variable {s : State} {n : Nat}

theorem State.backtrackRefused_busy (h : s.run.state ≠ .paused ∨ s.run.pass = .patch ∨ s.shaft.state = .referencing) :
    s.backtrackRefused n = some .busy :=
  if_pos (h.imp_right (Or.imp_left fun hp => by simp [hp]))

theorem State.backtrackRefused_range (hr : s.run.state = .paused) (hm : s.run.pass = .main)
    (hs : s.shaft.state ≠ .referencing) : s.backtrackRefused 0 = some .range := by
  unfold State.backtrackRefused
  rw [if_neg (by simp [hr, hm, hs]), if_pos rfl]

theorem State.backtrackRefused_notReferenced (hr : s.run.state = .paused) (hm : s.run.pass = .main)
    (hs : s.shaft.state ≠ .referencing) (hn : n ≠ 0) (h : s.frame.x.referenced = false ∨ s.frame.y.referenced = false) :
    s.backtrackRefused n = some .notReferenced := by
  unfold State.backtrackRefused
  rw [if_neg (by simp [hr, hm, hs]), if_neg hn, if_pos (by simpa using FrameDrive.not_referenced_of_or h)]

theorem State.backtrackRefused_none (hr : s.run.state = .paused) (hm : s.run.pass = .main)
    (hs : s.shaft.state ≠ .referencing) (hn : n ≠ 0) (hx : s.frame.x.referenced = true)
    (hy : s.frame.y.referenced = true) : s.backtrackRefused n = none := by
  unfold State.backtrackRefused
  rw [if_neg (by simp [hr, hm, hs]), if_neg hn, if_neg (by simp [FrameDrive.referenced, hx, hy])]

theorem serveBack_refused {c : ResultCode} (h : s.backtrackRefused n = some c) : serveBack n s = refuse s c := by
  unfold serveBack
  rw [h]

theorem serveForward_refused {c : ResultCode} (h : s.backtrackRefused n = some c) : serveForward n s = refuse s c := by
  unfold serveForward
  rw [h]

theorem State.pathLeg_of_onPath (h : s.offPath = false) : s.pathLeg = [] := by
  unfold State.pathLeg
  rw [if_neg (by simp [h])]

section Taken

variable (h : s.backtrackRefused n = none)
include h

theorem serveBack_none (hp : s.motionBack s.backLimit s.run.mainCursor n = []) :
    serveBack n s = (s, countReply 0) := by
  unfold serveBack
  rw [h]
  dsimp only
  rw [hp]
  rfl

theorem serveBack_outside (hp : ∃ i ∈ s.motionBack s.backLimit s.run.mainCursor n,
    inField s.cfg.machine (s.framePosAt i) = false) : serveBack n s = refuse s .range := by
  unfold serveBack
  rw [h]
  dsimp only
  rw [if_pos]
  simpa [State.allInField] using hp

theorem serveBack_taken {passed : List Nat} {new : Nat} (hp : s.motionBack s.backLimit s.run.mainCursor n = passed)
    (hnew : passed.getLast? = some new) (hin : ∀ i ∈ passed, inField s.cfg.machine (s.framePosAt i) = true)
    (hpath : s.offPath = false) : serveBack n s =
      ((((s.cursorBack new).shortenGaps new).hostTravel (passed.map s.framePosAt)).finish,
        countReply passed.length) := by
  have hlegs : s.allInField (passed.map s.framePosAt) = true := by
    simpa [State.allInField] using hin
  have hlast : ((s.motionBack s.backLimit s.run.mainCursor n).getLast?) = some new := by
    rw [hp, hnew]
  unfold serveBack
  rw [h]
  dsimp only
  rw [hp, if_neg (by simp [hlegs]), hnew]
  dsimp only
  rw [State.pathLeg_of_onPath hpath]
  rfl

theorem serveForward_none (hw : (s.walkForward (s.store.filledEnd + 1 - s.run.mainCursor) s.run.mainCursor n).2 = []) :
    serveForward n s = (s, countReply 0) := by
  unfold serveForward
  rw [h]
  dsimp only
  rw [hw]

theorem serveForward_taken {w : Nat × List Nat} {first : Nat}
    (hw : s.walkForward (s.store.filledEnd + 1 - s.run.mainCursor) s.run.mainCursor n = w)
    (hfirst : w.2.head? = some first) (hpath : s.offPath = false) : serveForward n s =
      (((s.cursorForward w.1).hostTravel (w.2.map s.motionTarget)).finish, countReply w.2.length) := by
  obtain ⟨rest, hrest⟩ := List.head?_eq_some_iff.1 hfirst
  unfold serveForward
  rw [h]
  dsimp only
  rw [hw, hrest]
  dsimp only
  rw [State.pathLeg_of_onPath hpath]
  rfl

end Taken

end Requests

theorem State.axes_onPath {s : State} (h : s.offPath = false) :
    s.frame.x.offPath = none ∧ s.frame.y.offPath = none := by
  unfold State.offPath at h
  obtain ⟨haxes, -⟩ := Bool.or_eq_false_iff.1 h
  obtain ⟨hx, hy⟩ := Bool.or_eq_false_iff.1 haxes
  exact ⟨by simpa using hx, by simpa using hy⟩

/-- The walks read no link. -/
theorem State.motionBack_setLink (s : State) (l : Link) (limit i n : Nat) :
    (s.setLink l).motionBack limit i n = s.motionBack limit i n := by
  induction i generalizing n with
  | zero => rfl
  | succ i ih =>
    unfold State.motionBack
    simp only [ih]
    rfl

theorem State.backLimit_setLink (s : State) (l : Link) : (s.setLink l).backLimit = s.backLimit := by
  have hsegment : ∀ i, (s.setLink l).segmentLimit s.earliestRetained i = s.segmentLimit s.earliestRetained i := by
    intro i
    induction i with
    | zero => rfl
    | succ i ih =>
      unfold State.segmentLimit
      rw [ih]
      rfl
  exact congrArg (fun k => max k _) (hsegment s.run.mainCursor)

theorem State.walkForward_setLink (s : State) (l : Link) (f i n : Nat) :
    (s.setLink l).walkForward f i n = s.walkForward f i n := by
  induction f generalizing i n with
  | zero => rfl
  | succ f ih =>
    unfold State.walkForward
    simp only [ih]
    rfl

/-! ## The obligation -/

theorem exec_back (s : State) (tag : Byte) (n : Nat) :
    exec (.back (.addressed tag) n) s = .next (s.takeAddressed tag (serveBack n)) := rfl

theorem exec_forward (s : State) (tag : Byte) (n : Nat) :
    exec (.forward (.addressed tag) n) s = .next (s.takeAddressed tag (serveForward n)) := rfl

theorem both_refused {s : State} {tag : Byte} {n : Nat} {c : ResultCode} (hh : s.hears = true)
    (h : s.backtrackRefused n = some c) : exec (.back (.addressed tag) n) s = .next (s.replied tag c []) ∧
      exec (.forward (.addressed tag) n) s = .next (s.replied tag c []) :=
  ⟨(exec_back s tag n).trans (congrArg _ (State.takeAddressed_refused s tag _ c hh
      (serveBack_refused (s := s.setLink (s.link.reserve tag)) h))),
    (exec_forward s tag n).trans (congrArg _ (State.takeAddressed_refused s tag _ c hh
      (serveForward_refused (s := s.setLink (s.link.reserve tag)) h)))⟩

/-- A travel begun on the state with a reply place reserved, and the count written into the place. -/
theorem State.Backtracks.answered {s u : State} {tag : Byte} {owner : State → Served} {new k : Nat} {legs : List Point}
    (hh : s.hears = true) (hu : (s.setLink (s.link.reserve tag)).Backtracks new legs u)
    (ho : owner (s.setLink (s.link.reserve tag)) = (u, countReply k)) :
    ∃ t, s.takeAddressed tag owner = t ∧ t.gaps = u.gaps ∧
      t.link.replies = s.link.replies ++ [⟨tag, some ⟨.ok, be2 k⟩⟩] ∧
      s.Backtracks new legs (t.setLink { t.link with replies := s.link.replies }) := by
  refine ⟨_, State.takeAddressed_existential s u tag owner .ok (be2 k) hh hu.replies ho, rfl, rfl, ?_⟩
  exact ⟨hu.run, rfl, hu.lockout, hu.travel, hu.pos, hu.filledEnd, hu.monitor, hu.change, hu.cfg⟩

/-- Settles O40: the limit, the two walks, and the requests in the order of their checks. -/
theorem backAndForwardMoveTheCursor : Obligations.BackAndForwardMoveTheCursor := by
  unfold Obligations.BackAndForwardMoveTheCursor
  refine ⟨fun s n => ⟨s.backLimit_spec, s.motionBack_spec _ _ n⟩, fun s n => ?_, fun s tag n hh => ?_⟩
  · intro c motion walk
    have h := s.walkForward_right (s.store.filledEnd + 1 - s.run.mainCursor) s.run.mainCursor n
    refine ⟨h.few, h.sorted, h.onward, h.passed, h.clear, fun hlt => (h.halted hlt).imp_right fun heq => ?_, h.last⟩
    show s.store.filledEnd < walk.1
    rw [heq]
    omega
  intro back forward both travels
  refine ⟨fun hbusy => both_refused hh (State.backtrackRefused_busy hbusy), fun hr hm hs => ⟨fun hn => ?_, fun hn =>
    ⟨fun hunref => both_refused hh (State.backtrackRefused_notReferenced hr hm hs hn hunref), fun hx hy => ?_⟩⟩⟩
  · subst hn
    exact both_refused hh (State.backtrackRefused_range hr hm hs)
  intro passed walk still
  let r := s.setLink (s.link.reserve tag)
  have hnone : r.backtrackRefused n = none := State.backtrackRefused_none (s := r) hr hm hs hn hx hy
  have hpassed : r.motionBack r.backLimit r.run.mainCursor n = passed := by
    rw [State.backLimit_setLink]
    exact s.motionBack_setLink _ _ _ n
  have hwalk : r.walkForward (r.store.filledEnd + 1 - r.run.mainCursor) r.run.mainCursor n = walk :=
    s.walkForward_setLink _ _ _ n
  have hrest : still → r.frameAtRest ∧ r.offPath = false := fun ⟨_, hst, hmx, hmy, hoff⟩ => by
    obtain ⟨hox, hoy⟩ := State.axes_onPath hoff
    exact ⟨⟨hst, hmx, hmy, hox, hoy⟩, hoff⟩
  refine ⟨fun hp => ?_, fun hw => ?_, fun hout => ?_, fun first new hstill hfirst hnew hin hmoves => ?_,
    fun first hstill hfirst hmoves => ?_⟩
  · exact (exec_back s tag n).trans (congrArg _ (State.takeAddressed_answered s s tag _ .ok (be2 0) hh rfl
      (serveBack_none (s := r) hnone (hpassed.trans hp))))
  · exact (exec_forward s tag n).trans (congrArg _ (State.takeAddressed_answered s s tag _ .ok (be2 0) hh rfl
      (serveForward_none (s := r) hnone ((congrArg Prod.snd hwalk).trans hw))))
  · exact (exec_back s tag n).trans (congrArg _ (State.takeAddressed_refused s tag _ .range hh
      (serveBack_outside (s := r) hnone (by rw [hpassed]; exact hout))))
  · obtain ⟨hatrest, hpath⟩ := hrest hstill
    obtain ⟨rest, hpeq⟩ := List.head?_eq_some_iff.1 hfirst
    have hserve := serveBack_taken (s := r) hnone hpassed hnew hin hpath
    have hbelow : new ≤ r.run.mainCursor :=
      (((s.motionBack_spec s.backLimit s.run.mainCursor n).2.2.1 new (List.mem_of_getLast? hnew)).2.1).le
    obtain ⟨hmoved, hmovedgaps⟩ := r.cursorBack_at hbelow
    obtain ⟨hshort, hgaps⟩ := (r.cursorBack new).shortenGaps_at new
    have hcursor : (r.cursorBack new).run.mainCursor = new := by rw [hmoved.run]
    rw [hcursor] at hshort
    have hlegs : passed.map r.framePosAt = r.framePosAt first :: rest.map r.framePosAt := by rw [hpeq]; rfl
    have hback := State.backtracks_of_cursor (s := r) (first := r.framePosAt first)
      (rest := rest.map r.framePosAt) (hmoved.trans hshort) hr hatrest hmoves
    rw [← hlegs] at hback
    obtain ⟨t, ht, htgaps, htreplies, hdone⟩ := State.Backtracks.answered hh hback.1 hserve
    refine ⟨t, (exec_back s tag n).trans (congrArg _ ht), ?_, ?_⟩
    · exact ⟨hdone.run, htreplies, hdone.lockout, hdone.travel, hdone.pos, hdone.filledEnd, hdone.monitor, hdone.change,
        hdone.cfg⟩
    · rw [htgaps, hback.2, hgaps, hmovedgaps]
      rfl
  · obtain ⟨hatrest, hpath⟩ := hrest hstill
    obtain ⟨rest, hpeq⟩ := List.head?_eq_some_iff.1 hfirst
    have hserve := serveForward_taken (s := r) hnone hwalk hfirst hpath
    obtain ⟨hmoved, hgaps⟩ := r.cursorForward_at
      (s.walkForward_right (s.store.filledEnd + 1 - s.run.mainCursor) s.run.mainCursor n).onward
    have hlegs : walk.2.map r.motionTarget = r.motionTarget first :: rest.map r.motionTarget := by rw [hpeq]; rfl
    have hforward := State.backtracks_of_cursor (s := r) (first := r.motionTarget first)
      (rest := rest.map r.motionTarget) hmoved hr hatrest hmoves
    rw [← hlegs] at hforward
    obtain ⟨t, ht, htgaps, htreplies, hdone⟩ := State.Backtracks.answered hh hforward.1 hserve
    refine ⟨t, (exec_forward s tag n).trans (congrArg _ ht), ?_, ?_⟩
    · exact ⟨hdone.run, htreplies, hdone.lockout, hdone.travel, hdone.pos, hdone.filledEnd, hdone.monitor, hdone.change,
        hdone.cfg⟩
    · rw [htgaps, hforward.2]
      exact hgaps

end Sys2Proof.Machine

/-!
PROOF. A DESIGN BLOCK that is accepted (sections 2.3 to 2.5, 3.4, 1.6; O25).
-/

namespace Sys2Proof.Machine
set_option Elab.async false

theorem State.SameRecords.windowNow {s t : State} (h : s.SameRecords t) (hs : t.shaft = s.shaft) (hg : t.gov = s.gov) :
    t.windowNow = s.windowNow := by
  obtain ⟨-, -, -, -, -, -, -, hcarry⟩ := h.fields
  unfold State.windowNow State.windowKept
  simp only [hcarry, h.cursor, h.outlook, h.windowAt, hs, hg]

/-! ## The acceptance -/

/-- The state with a block accepted and all that follows from it, but for the run that goes on. -/
def State.accepted (s : State) (body : List Byte) (rs : List DesignRecord) : State :=
  (((s.openWindowEnd.acceptBlock (blockSeq body) (blockLast body) (rs.map s.cfg.clampRecord)).pace).enterAccepted
    (s.run.mainCursor == s.store.filledEnd)).refreshWindow

theorem State.takeBlock_eq (s : State) (body : List Byte) (rs : List DesignRecord) :
    s.takeBlock body rs = (s.accepted body rs).tryResume.finish := rfl

theorem State.acceptBlock_withReplies (s : State) (places : List ReplyPlace) (seq : Nat) (last : Bool)
    (rs : List DesignRecord) :
    (s.withReplies places).acceptBlock seq last rs = (s.acceptBlock seq last rs).withReplies places := by
  cases last <;> rfl

theorem State.accepted_withReplies (body : List Byte) (rs : List DesignRecord) (s : State) (places : List ReplyPlace) :
    (s.withReplies places).accepted body rs = (s.accepted body rs).withReplies places := by
  have hopen : (s.withReplies places).openWindowEnd = s.openWindowEnd.withReplies places := rfl
  have henter : ∀ (t : State) (b : Bool), (t.withReplies places).enterAccepted b =
      (t.enterAccepted b).withReplies places := fun t b => by
    cases b
    · rfl
    · exact t.release_withReplies places
  have hrefresh : ∀ t : State, (t.withReplies places).refreshWindow = t.refreshWindow.withReplies places := fun t => by
    have hsame : t.SameRecords (t.withReplies places) := ⟨rfl, rfl, rfl, rfl, rfl⟩
    unfold State.refreshWindow
    rw [hsame.windowNow rfl rfl]
    rfl
  unfold State.accepted
  rw [hopen, State.acceptBlock_withReplies, State.pace_withReplies]
  exact (congrArg State.refreshWindow (henter _ _)).trans (hrefresh _)

theorem State.enterAccepted_store (s : State) (b : Bool) :
    (s.enterAccepted b).store.filledEnd = s.store.filledEnd ∧
      (s.enterAccepted b).store.design = s.store.design := by
  cases b with
  | false => exact ⟨rfl, rfl⟩
  | true =>
    have hdesign : s.release.store.design = s.store.design := by
      rw [s.release_store]
    exact ⟨s.release_filledEnd, hdesign⟩

theorem State.pace_design (s : State) : s.pace.store.design = s.store.design := by
  unfold State.pace
  dsimp only
  split_ifs <;> rfl

theorem State.accepted_keeps (s : State) (body : List Byte) (rs : List DesignRecord) :
    let v := s.accepted body rs
    v.run = s.run ∧ v.frame = s.frame ∧ v.shaft = s.shaft ∧ v.monitor = s.monitor ∧ v.cfg = s.cfg ∧
      v.store.filledEnd = s.store.filledEnd + rs.length ∧
      v.store.design = if blockLast body then .complete else s.store.design := by
  let b := s.openWindowEnd.acceptBlock (blockSeq body) (blockLast body) (rs.map s.cfg.clampRecord)
  obtain ⟨hbrun, -, hbframe, hbshaft, -, -, hbmonitor, -, hbcfg, -⟩ :=
    s.openWindowEnd.acceptBlock_keeps (blockSeq body) (blockLast body) (rs.map s.cfg.clampRecord)
  obtain ⟨hprun, -, hpframe, hpshaft, -, -, hpmonitor, -, hpcfg, -⟩ := b.pace_keeps
  obtain ⟨hrun, -, hframe, hshaft, -, -, hmonitor, -, hcfg, -⟩ :=
    b.pace.enterAccepted_keeps (s.run.mainCursor == s.store.filledEnd)
  obtain ⟨hend, hdesign⟩ := b.pace.enterAccepted_store (s.run.mainCursor == s.store.filledEnd)
  refine ⟨hrun.trans (hprun.trans hbrun), hframe.trans (hpframe.trans hbframe), hshaft.trans (hpshaft.trans hbshaft),
    hmonitor.trans (hpmonitor.trans hbmonitor), hcfg.trans (hpcfg.trans hbcfg), ?_, ?_⟩
  · refine (hend.trans b.pace_filledEnd).trans ?_
    show b.store.filledEnd = _
    have hb : b.store.filledEnd = s.store.filledEnd + (rs.map s.cfg.clampRecord).length := by
      unfold b State.acceptBlock
      split <;> rfl
    rw [hb, List.length_map]
  · refine (hdesign.trans b.pace_design).trans ?_
    unfold b State.acceptBlock
    split <;> rfl

/-! ## The slot of the block -/

/-- The slot that a block takes (R36 to R38). -/
def State.blockSlot (s : State) (seq : Nat) (last : Bool) (kept : List DesignRecord) : Slot :=
  ⟨if s.store.filledEnd ≤ s.run.mainCursor ∧ s.run.mainCursor < s.store.filledEnd + kept.length then .active
    else if s.run.pass = .patch ∧ s.run.patchCursor.any (fun c => s.store.filledEnd ≤ c &&
      c < s.store.filledEnd + kept.length) then .active
    else if s.run.mainCursor ≤ s.store.filledEnd then .filled else .retained,
    seq, s.store.tail.isNone, last, s.store.filledEnd, kept, s.tailStamp, s.tailStamp.through kept⟩

theorem State.slotState_fresh (s : State) (seq : Nat) (first last : Bool) (start : Nat) (rs : List DesignRecord)
    (entry exit : Stamp) : s.slotState ⟨.filled, seq, first, last, start, rs, entry, exit⟩ =
      if start ≤ s.run.mainCursor ∧ s.run.mainCursor < start + rs.length then .active
      else if s.run.pass = .patch ∧ s.run.patchCursor.any (fun c => start ≤ c && c < start + rs.length) then .active
      else if s.run.mainCursor ≤ start then .filled else .retained := by
  have hholds : ∀ i, (⟨.filled, seq, first, last, start, rs, entry, exit⟩ : Slot).holds i =
      (decide (start ≤ i) && decide (i < start + rs.length)) := fun i => by
    show (true && decide (start ≤ i) && decide (i < start + rs.length)) = _
    rw [Bool.true_and]
  unfold State.slotState
  simp only [hholds, Bool.and_eq_true, decide_eq_true_eq]

/-- The store after a block has been accepted (R36 to R38, R30). -/
def State.blockStore (s : State) (seq : Nat) (last : Bool) (kept : List DesignRecord) : Store where
  design := if last then .complete else .loading
  slots := s.store.slots.set (s.store.slots.findIdx (fun sl => sl.state == .free)) (s.blockSlot seq last kept)
  nextSeq := (s.store.nextSeq + 1) % 65536
  granted := if last then 0 else s.store.granted - 1
  filledEnd := s.store.filledEnd + kept.length
  tail := some (s.tailStamp.through kept)

theorem State.acceptBlock_eq {s : State} (hd : s.store.design = .loading) (seq : Nat) (last : Bool)
    (kept : List DesignRecord) : s.acceptBlock seq last kept =
      (s.setStore (s.blockStore seq last kept)).setLink
        { s.link with grant := if last then none else grantUsed s.link.grant seq } := by
  unfold State.acceptBlock
  dsimp only
  rw [State.slotState_fresh]
  cases last with
  | true => rfl
  | false =>
    rw [hd]
    rfl

/-! ## The run that goes on -/

section GoesOn

variable {s : State}

theorem State.tryResume_of_not (h : ¬ (s.run.state = .waiting ∧ s.mayResume = true)) : s.tryResume = s := if_neg h

/-- A WAITING run that resumes by itself, with no head that waits to join (R20). -/
theorem State.tryResume_of (h : s.run.state = .waiting ∧ s.mayResume = true) (hj : s.joinsWaiting = false) :
    s.tryResume = (((s.setRun { s.run with
      state := .running, activity := .none, cause := none, tieIn := s.cfg.speeds.tieIn }).setMonitor { s.monitor with
        heads := s.monitor.heads.map (fun w => { w with armed := false }) }).setLink
      (s.link.post ⟨.runStarted, 0, s.cursor, 4⟩)) := by
  unfold State.tryResume
  rw [if_pos h]
  unfold State.aboutToRun
  rw [if_neg]
  · rfl
  · rintro ⟨-, hjoins⟩
    exact absurd (hj.symm.trans hjoins) Bool.false_ne_true

theorem State.mayResume_iff : s.mayResume = true ↔ s.heldFault = false ∧ s.anyAble = true ∧
    (16 ≤ s.motionAhead ∨ (s.store.design = .complete ∧ s.run.mainCursor < s.store.filledEnd)) := by
  simp [State.mayResume]
  tauto

end GoesOn

/-! ## The obligation -/

theorem exec_designBlock (s : State) (tag : Byte) (body : List Byte) :
    exec (.designBlock (.addressed tag) body) s = .next (s.takeAddressed tag (serveDesignBlock body)) := rfl

/-- The code that an accepted block is answered with (R38). -/
def State.blockCode (s : State) (rs : List DesignRecord) : ResultCode :=
  if rs.map s.cfg.clampRecord = rs then .ok else .clamped

theorem serveDesignBlock_accepted {s : State} {body : List Byte} {rs : List DesignRecord} (h4 : 4 ≤ body.length)
    (hd : s.store.design = .loading) (hg : s.store.granted ≠ 0) (hq : twoAt body 0 = s.store.nextSeq)
    (hf : blockForm body = some rs) (hr : s.blockInRange rs = true) :
    serveDesignBlock body s = ((s.accepted body rs).tryResume.finish, some ⟨s.blockCode rs, []⟩) := by
  have hpassed : s.blockRefused body = none := by
    unfold State.blockRefused blockSeq
    rw [if_neg (by omega), if_neg (not_not.2 hd), if_neg hg, if_neg (not_not.2 hq)]
  unfold serveDesignBlock
  rw [hpassed, hf]
  exact if_pos hr

/-- Settles O25: the block taken, as the statement spells it, then the run that goes on or stays. -/
theorem designBlockAccepted : Obligations.DesignBlockAccepted := by
  unfold Obligations.DesignBlockAccepted
  intro s tag body rs hh h4 hd hg hq hf hend hpos last kept code exit slot accepted v run goesOn
  have hrange : ∀ places, (s.withReplies places).blockInRange rs = true := fun places => by
    show (decide (s.store.filledEnd + rs.length ≤ 16777216) && positionsInDesign s.tailStamp rs) = true
    rw [hpos, decide_eq_true hend]
    rfl
  have haccepted : ∀ l : Link, l.grant = s.link.grant → accepted (s.setLink l) = (s.setLink l).accepted body rs := by
    intro l hl
    have hlen : (rs.map (s.setLink l).cfg.clampRecord).length = rs.length := List.length_map _
    have hgrant : grantUsed (s.setLink l).openWindowEnd.link.grant (twoAt body 0) = match s.link.grant with
        | none => none
        | some g => if g.seq = twoAt body 0 then
            (if g.count ≤ 1 then none else some ⟨(g.seq + 1) % 65536, g.count - 1⟩) else some g := by
      show grantUsed l.grant (twoAt body 0) = _
      rw [hl]
      cases s.link.grant <;> rfl
    have hwaited : ∀ u : State, (if s.run.mainCursor = s.store.filledEnd then u.release else u) =
        u.enterAccepted (s.run.mainCursor == s.store.filledEnd) := fun u => by
      unfold State.enterAccepted
      by_cases h : s.run.mainCursor = s.store.filledEnd <;> simp [h]
    have htaken : (s.setLink l).openWindowEnd.acceptBlock (blockSeq body) (blockLast body)
        (rs.map (s.setLink l).cfg.clampRecord) = _ := State.acceptBlock_eq (s := (s.setLink l).openWindowEnd) hd _ _ _
    unfold State.accepted
    rw [htaken]
    unfold State.blockStore State.blockSlot blockSeq
    rw [hlen, hgrant]
    exact congrArg State.refreshWindow (hwaited _)
  have hv : v = s.accepted body rs := haccepted s.link rfl
  obtain ⟨hvrun, hvframe, hvshaft, hvmonitor, hvcfg, hvend, hvdesign⟩ := s.accepted_keeps body rs
  rw [← hv] at hvrun hvframe hvshaft hvmonitor hvcfg hvend hvdesign
  have hgoes : goesOn ↔ v.run.state = .waiting ∧ v.mayResume = true := by
    have hcomplete : v.store.design = .complete ↔ last = true := by
      rw [hvdesign, hd]
      show (if last = true then DesignState.complete else .loading) = _ ↔ _
      cases last <;> simp
    rw [State.mayResume_iff, hcomplete, hvend, hvrun]
  have hserve : ∀ places, serveDesignBlock body (s.withReplies places) =
      ((v.withReplies places).tryResume.finish, some ⟨code, []⟩) := fun places => by
    rw [hv, ← State.accepted_withReplies]
    exact serveDesignBlock_accepted (s := s.withReplies places) h4 hd hg hq hf (hrange places)
  refine ⟨fun hstill hnot => ?_, fun hon hj => ?_⟩
  · have hadvance : ∀ places, (v.withReplies places).advance = none := fun places => by
      rcases hstill with hquiet | ⟨hcalm, hturns⟩
      · refine State.advance_quiet _ ?_
        rw [← hquiet]
        exact State.quiet_congr (congrArg Run.activity hvrun) (congrArg Run.state hvrun) hvframe
      · have hvcalm : (v.withReplies places).calm = true := by
          rw [State.calm_iff, State.withReplies_run, State.withReplies_frame, hvrun, hvframe]
          exact s.calm_iff.1 hcalm
        refine State.advance_of_turning hvcalm ?_
        rw [State.withReplies_shaft, hvshaft]
        exact hturns.imp_right .inl
    have hdone : ∀ places, (v.withReplies places).tryResume.finish = (v.withReplies places).pump := fun places => by
      rw [State.tryResume_of_not (s := v.withReplies places) (mt hgoes.2 hnot), State.finish_of_none (hadvance places)]
    refine congrArg _ ((State.takeAddressed_of_commutes s tag _ (fun b => (b.accepted body rs).pump) code [] hh
      (fun b places => ?_) ?_).trans ?_)
    · rw [State.accepted_withReplies, State.pump_withReplies]
    · refine (hserve _).trans ?_
      rw [hdone, hv, ← State.accepted_withReplies]
    · rw [hv]
  · intro a
    have ha : a = v.withReplies (s.link.replies ++ [⟨tag, none⟩]) := by
      rw [hv, ← State.accepted_withReplies]
      exact haccepted (s.link.reserve tag) rfl
    have hjoins : a.joinsWaiting = false := by
      unfold State.joinsWaiting State.watchAt
      rw [ha, State.withReplies_monitor, hvmonitor]
      exact hj
    have hmay : a.run.state = .waiting ∧ a.mayResume = true := by
      rw [ha]
      exact hgoes.1 hon
    have hcursor : a.cursor = s.cursor := by
      unfold State.cursor
      rw [ha, State.withReplies_run, hvrun]
    have hserved : serveDesignBlock body (s.setLink (s.link.reserve tag)) = (a.tryResume.finish, some ⟨code, []⟩) := by
      rw [ha]
      exact hserve _
    refine (exec_designBlock s tag body).trans (congrArg _ ((State.takeAddressed_hears s tag _ hh).trans ?_))
    rw [hserved, State.tryResume_of hmay hjoins, hcursor]
    have harun : a.run = s.run := by
      rw [ha]
      exact hvrun
    have hamonitor : a.monitor = s.monitor := by
      rw [ha]
      exact hvmonitor
    have hacfg : a.cfg = s.cfg := by
      rw [ha]
      exact hvcfg
    rw [harun, hamonitor, hacfg]

end Sys2Proof.Machine

/-!
PROOF. Travel moves (sections 4.6 and 4.8; O54): the steps of a travel, and its end.
-/

namespace Sys2Proof.Machine
set_option Elab.async false

/-! ## One step of a travel -/

/-- A travel on its next leg. -/
def Travel.onLeg (t : Travel) (pos p : Point) (rest : List Point) : Travel := { t with
  legs := rest, origin := pos, shift := p.sub pos, count := segmentCount (p.sub pos), made := 0 }

section Steps

variable {s : State} {t : Travel}

/-- The next segment of a travel, by the displacement to its end. -/
theorem State.beginSegment_eq {d : Point} (h : (t.segmentEnd (t.made + 1)).sub s.frame.pos = d) : s.beginSegment t =
    s.setFrame { s.frame with
      x := s.frame.x.begin s.cfg.machine.kX .segment d.x, y := s.frame.y.begin s.cfg.machine.kY .segment d.y
      travel := some { t with index := some (moveIndex d.x d.y) } } := by
  subst h
  rfl

/-- The displacement to the end of segment `n`. -/
theorem Travel.segmentEnd_sub (t : Travel) (n : Nat) (p : Point) : (t.segmentEnd n).sub p =
    ⟨t.origin.x + t.shift.x * n / t.count - p.x, t.origin.y + t.shift.y * n / t.count - p.y⟩ := rfl

variable (ht : s.frame.travel = some t)
include ht

theorem State.advance_of_segmentDue (h : s.frameAtRest) (hi : t.index = none) (hs : t.stopAsked = false)
    (hm : t.made < t.count) : s.advance = some (s.beginSegment t) := by
  rw [State.advance_of_travel ht, State.advanceTravel_of_atRest h hi hs, if_pos hm]

theorem State.advance_of_legDue {p : Point} {rest : List Point} (h : s.frameAtRest) (hi : t.index = none)
    (hs : t.stopAsked = false) (hm : t.count ≤ t.made) (hl : t.legs = p :: rest) :
    s.advance = some (s.beginLeg t p rest) := by
  rw [State.advance_of_travel ht, State.advanceTravel_of_atRest h hi hs, if_neg (Nat.not_lt.2 hm), hl]

/-- A travel that ends: a stop was asked for, or its last segment is made (R76, R78). -/
theorem State.advance_of_ending (hst : s.frame.stitch = none) (hx : s.frame.x.move = none) (hy : s.frame.y.move = none)
    (hi : t.index = none) (h : t.stopAsked = true ∨
      (s.frame.x.offPath = none ∧ s.frame.y.offPath = none) ∧ t.count ≤ t.made ∧ t.legs = []) :
    s.advance = some (s.endTravel t.stopAsked) := by
  rw [State.advance_of_travel ht]
  unfold State.advanceTravel
  rw [if_neg (by simp [hst, hx, hy, hi])]
  by_cases hs : t.stopAsked = true
  · rw [if_pos hs, hs]
  · obtain ⟨⟨hox, hoy⟩, hm, hl⟩ := h.resolve_left hs
    rw [if_neg hs, if_neg (by simp [hox, hoy]), if_neg (Nat.not_lt.2 hm), hl, Bool.eq_false_iff.2 hs]

theorem State.finish_nextSegment (h : s.frameAtRest) (hi : t.index = none) (hs : t.stopAsked = false)
    (hm : t.made < t.count) : s.finish = (s.beginSegment t).pump := by
  refine State.finish_of_one (State.advance_of_segmentDue ht h hi hs hm) ?_
  rw [State.advance_of_travel rfl]
  exact State.advanceTravel_of_segment _ rfl

/-- The next leg of a chain begins with its first segment. -/
theorem State.finish_nextLeg {p : Point} {rest : List Point} (h : s.frameAtRest) (hi : t.index = none)
    (hs : t.stopAsked = false) (hm : t.count ≤ t.made) (hl : t.legs = p :: rest) (hp : p ≠ s.frame.pos) :
    s.finish = ((s.beginLeg t p rest).beginSegment (t.onLeg s.frame.pos p rest)).pump := by
  refine State.finish_of_two (State.advance_of_legDue ht h hi hs hm hl)
    (State.advance_of_segmentDue (s := s.beginLeg t p rest) (t := t.onLeg s.frame.pos p rest) rfl h hi hs
      (segmentCount_pos (Point.sub_moves hp))) ?_
  rw [State.advance_of_travel rfl]
  exact State.advanceTravel_of_segment _ rfl

end Steps

/-! ## What a segment and a re-seat complete -/

theorem exec_travelSegmentComplete_none {s : State} (h : ∀ t, s.frame.travel = some t → t.index = none) :
    exec .travelSegmentComplete s = .next s := by
  show Host.Outcome.next (match s.frame.travel with
    | some t => if t.index.isSome then (s.completeSegment t).finish else s
    | none => s) = _
  cases ht : s.frame.travel with
  | none => rfl
  | some t =>
    have hi := h t ht
    simp [hi]

theorem exec_travelSegmentComplete {s : State} {t : Travel} {k : Nat} (ht : s.frame.travel = some t)
    (hi : t.index = some k) : exec .travelSegmentComplete s = .next (s.completeSegment t).finish := by
  show Host.Outcome.next (match s.frame.travel with
    | some t => if t.index.isSome then (s.completeSegment t).finish else s
    | none => s) = _
  rw [ht]
  simp [hi]

theorem Axis.reseating_iff (a : Axis) : a.reseating = true ↔ ∃ v, a.move = some v ∧ v.kind = .reseat := by
  unfold Axis.reseating
  cases a.move with
  | none => simp
  | some v => simp

theorem Axis.completeReseat_of {a : Axis} {v : AxisMove} (hv : a.move = some v) (hk : v.kind = .reseat) :
    a.completeReseat = { a with steps := a.steps + v.steps, move := none, offPath := none } := by
  unfold Axis.completeReseat
  rw [hv]
  exact if_pos hk

theorem exec_reseatComplete (s : State) (a : AxisName) : exec (.reseatComplete a) s =
    .next (if (s.frame.axis a).reseating then (s.modAxis a Axis.completeReseat).finish else s) := rfl

theorem exec_reseatComplete_none {s : State} {a : AxisName}
    (h : ∀ v, (s.frame.axis a).move = some v → v.kind ≠ .reseat) : exec (.reseatComplete a) s = .next s := by
  rw [exec_reseatComplete, if_neg]
  rw [Axis.reseating_iff]
  rintro ⟨v, hv, hk⟩
  exact h v hv hk

theorem exec_reseatComplete_of {s : State} {a : AxisName} {v : AxisMove} (hv : (s.frame.axis a).move = some v)
    (hk : v.kind = .reseat) : exec (.reseatComplete a) s = .next (s.modAxis a Axis.completeReseat).finish := by
  rw [exec_reseatComplete, if_pos ((Axis.reseating_iff _).2 ⟨v, hv, hk⟩)]

/-- A travel waits while an axis moves. -/
theorem State.advance_of_axisMoves {s : State} {t : Travel} (ht : s.frame.travel = some t)
    (h : s.frame.x.move ≠ none ∨ s.frame.y.move ≠ none) : s.advance = none := by
  rw [State.advance_of_travel ht]
  unfold State.advanceTravel
  refine if_pos ?_
  rcases h with h | h <;> simp [Option.isSome_iff_ne_none.2 h]

/-! ## The end of a travel -/

/-- The lockout released and the travel over (R78). -/
def State.travelOver (s : State) : State :=
  (s.setFrame { s.frame with travel := none }).modLockout (fun l => { l with travel := false })

theorem State.liftHead_link (s : State) (h : Nat) : (s.liftHead h).link = s.link := by
  unfold State.liftHead
  split
  · split
    · rfl
    · simp
  next hnot =>
    split
    · rw [State.setHeadState_link, if_neg]
      rw [State.calmsHead_iff]
      exact fun hcalms => hnot hcalms.1.1
    · rfl

theorem State.liftAll_link (s : State) : s.liftAll.link = s.link := by
  unfold State.liftAll
  exact foldl_keeps (fun t => t.link) State.liftHead (fun t h => t.liftHead_link h) headNumbers s

theorem State.liftAll_bare (s : State) : s.liftAll.run.bare = s.run.bare := by
  unfold State.liftAll
  exact foldl_runBare State.liftHead State.liftHead_bare headNumbers s

theorem State.cursor_of_bare {s t : State} (h : t.run.bare = s.run.bare) : t.cursor = s.cursor := by
  unfold State.cursor
  rw [Run.of_bare h]

/-- The run broken off with the start that it belonged to: what ends with it has ended. -/
def State.brokenOff (s : State) (state : RunState) : State := s.travelOver.setRun { s.run.ended with state := state }

/-- The start from IDLE ends with its cause, its heads lifted (R14, R17, log 66). -/
theorem State.endStart_idle {s : State} (hr : s.run.startReturn = some .idle) (hj : s.joinsWaiting = false) :
    s.endStart = (((s.setRun { s.run.ended with state := .idle }).liftAll).setLink
      (s.link.post ⟨.stopped, 0, s.cursor, causeCode s.run.cause⟩)) := by
  have hresolve : ((s.setRun s.run.ended).enter .idle).resolveJoins = (s.setRun s.run.ended).enter .idle :=
    State.resolveJoins_of_none hj
  unfold State.endStart
  rw [hr]
  dsimp only
  rw [hresolve]
  have hlink := ((s.setRun s.run.ended).enter .idle).liftAll_link
  have hbare := ((s.setRun s.run.ended).enter .idle).liftAll_bare
  have hcursor : ((s.setRun s.run.ended).enter .idle).liftAll.cursor = s.cursor :=
    (State.cursor_of_bare hbare).trans rfl
  obtain ⟨-, -, -, hcause, -⟩ := Run.fields_of_bare hbare
  unfold State.post State.postAt
  rw [hlink, hcursor, hcause]
  rfl

/-- The run at the end of a patch pass, PATCH DONE posted (R154). -/
def State.patchEnded (s : State) : State :=
  (s.post .patchDone 0 s.run.patchSewn).setRun { s.run.ended with
    state := s.run.passReturn.getD .paused, pass := .main, patchCursor := none, cause := none, passReturn := none
    patchDone := none, patchSewn := 0 }

theorem State.endPatch_eq (s : State) :
    s.endPatch = s.patchEnded.refreshSlots.release.writePendings.resolveJoins.liftAll := rfl

/-- The end of a pass keeps nothing of the work that it breaks off. -/
theorem State.endPatch_of_ended (s : State) (r : Run) (state : RunState) :
    (s.setRun r).endPatch = (s.setRun { r.ended with state := state }).endPatch := by
  have hsame : (s.setRun r).patchEnded = (s.setRun { r.ended with state := state }).patchEnded := rfl
  rw [State.endPatch_eq, State.endPatch_eq, hsame]

/-! ### By what the travel was made for -/

/-- A return travel over: step 2 of the start is due (R14). -/
def State.returnOver (s : State) : State :=
  s.travelOver.setRun { s.run with state := .arming, travelReturn := none, activity := .dueReference }

/-- A patch travel over (R151). -/
def State.legOver (s : State) : State := s.travelOver.setRun { s.run with travelReturn := none }

section Ends

variable {s : State} (hr : s.link.resetBy = none)
include hr

theorem State.endTravel_return (ha : s.run.activity = .returnTravel) (stopped : Bool) : s.endTravel stopped =
    if stopped then s.returnOver.unlessOver s.returnOver.endStart else s.returnOver := by
  have hnone : s.travelOver.link.resetBy.isSome = false := by
    show s.link.resetBy.isSome = false
    rw [hr]
    rfl
  unfold State.endTravel State.returnOver
  dsimp only
  rw [show (s.setFrame { s.frame with travel := none }).modLockout (fun l => { l with travel := false }) = s.travelOver
    from rfl, hnone, if_neg Bool.false_ne_true, show s.travelOver.run = s.run from rfl, ha]

theorem State.endTravel_patch (ha : s.run.activity = .patchTravel) (stopped : Bool) : s.endTravel stopped =
    if stopped then (if s.legOver.run.cause.isNone && s.legOver.patchOver then s.legOver.endPatch else s.legOver.toPaused)
    else (s.legOver.enter .changing).doing (.joining s.legOver.joinStops .pick .patch) := by
  have hnone : s.travelOver.link.resetBy.isSome = false := by
    show s.link.resetBy.isSome = false
    rw [hr]
    rfl
  unfold State.endTravel State.legOver
  dsimp only
  rw [show (s.setFrame { s.frame with travel := none }).modLockout (fun l => { l with travel := false }) = s.travelOver
    from rfl, hnone, if_neg Bool.false_ne_true, show s.travelOver.run = s.run from rfl, ha]
  rfl

end Ends

theorem State.patchOver_of_over {s : State} (h : s.passGoesOn = false) : s.patchOver = true := by
  rw [State.patchOver_eq_not_passGoesOn, h]
  rfl

/-- A RESET that changes what a RESET sets anyway. -/
theorem State.resetEffect_setLink (s : State) (r : Option Sender) (by_ : Sender) (places : List ReplyPlace) :
    (s.setLink { s.link with resetBy := r, replies := places }).resetEffect 0 by_ = s.resetEffect 0 by_ := by
  rw [State.resetEffect_lifts, State.resetEffect_lifts]
  rfl

end Sys2Proof.Machine

/-!
PROOF. Travel moves (sections 4.6 and 4.8; O54): the obligation.
-/

namespace Sys2Proof.Machine
set_option Elab.async false

section Ends

variable {s : State} {t : Travel}

/-- A travel that ends while a CONTROLLED RESET waits for it (R169). -/
theorem State.endTravel_reset {src : Sender} (hr : s.link.resetBy = some src)
    (hsrc : src = .broadcast ∨ s.link.addressStraps ≠ 15)
    (hs : s.shaft.state = .atRest ∨ s.shaft.state = .unreferenced) (stopped : Bool) :
    exec (.reset src 0) (s.travelOver.setLink { s.link with resetBy := none, replies := [] }) =
      .next (s.endTravel stopped).pump := by
  let e := s.travelOver.setLink { s.link with resetBy := none, replies := [] }
  have hend : s.endTravel stopped = s.travelOver.resetEffect 0 src := by
    have hsome : s.travelOver.link.resetBy = some src := hr
    unfold State.endTravel
    dsimp only
    rw [show (s.setFrame { s.frame with travel := none }).modLockout (fun l => { l with travel := false }) = s.travelOver
      from rfl, hsome]
    show s.travelOver.pendingReset = _
    unfold State.pendingReset
    rw [hsome]
  have hserve : serveReset src 0 (e.served src) = ((s.endTravel stopped).pump, none) := by
    have hwaits : (e.served src).resetWaits = false := by
      rw [Bool.eq_false_iff, Ne, State.resetWaits_iff, State.served_eq]
      have hstill : ∀ x, .atRest ≠ x → .unreferenced ≠ x → s.shaft.state ≠ x := fun x hrest hunref h => by
        rcases hs with hs | hs
        · exact hrest (hs.symm.trans h)
        · exact hunref (hs.symm.trans h)
      rintro (h | h | h | h | h)
      · exact hstill _ ShaftState.noConfusion ShaftState.noConfusion h
      · exact hstill _ ShaftState.noConfusion ShaftState.noConfusion h
      · exact hstill _ ShaftState.noConfusion ShaftState.noConfusion h
      · exact hstill _ ShaftState.noConfusion ShaftState.noConfusion h
      · exact h rfl
    have heffect : (e.served src).resetEffect 0 src = s.travelOver.resetEffect 0 src := by
      rw [State.served_eq]
      exact s.travelOver.resetEffect_setLink none src _
    unfold serveReset
    rw [if_neg (by decide), if_neg (by simp [hwaits]), heffect, hend,
      State.finish_quiet _ (s.travelOver.resetEffect_quiet 0 src)]
  refine exec_reset_of_taken ?_ hserve
  cases src with
  | addressed tag =>
    refine .inl ⟨tag, rfl, ?_⟩
    rw [State.hears_iff]
    exact ⟨hsrc.resolve_left Sender.noConfusion, Nat.zero_lt_succ 3, rfl⟩
  | broadcast => exact .inr ⟨rfl, rfl⟩

variable (hr : s.link.resetBy = none) (ha : s.run.activity = .returnTravel)
include hr ha

theorem State.endTravel_return_caused {k : StopCause} (hk : s.run.cause = some k) :
    s.endTravel true = s.returnOver.endStart := by
  rw [State.endTravel_return hr ha, if_pos rfl]
  exact if_pos (show s.run.cause.isSome = true by rw [hk]; rfl)

theorem State.endTravel_return_idle {k : StopCause} (hk : s.run.cause = some k) (hj : s.joinsWaiting = false)
    (hret : s.run.startReturn = some .idle) : s.endTravel true =
      ((s.brokenOff .idle).liftAll).setLink (s.link.post ⟨.stopped, 0, s.cursor, k.code⟩) := by
  have hcode : k.code = causeCode s.returnOver.run.cause := by
    show k.code = causeCode s.run.cause
    rw [hk]
    rfl
  rw [State.endTravel_return_caused hr ha hk, State.endStart_idle (s := s.returnOver) hret hj, hcode]
  rfl

theorem State.endTravel_return_paused {k : StopCause} (hk : s.run.cause = some k) (hj : s.joinsWaiting = false)
    (hret : s.run.startReturn = some .paused) (hp : s.passGoesOn = true) : s.endTravel true =
      (s.brokenOff .paused).setLink (s.link.post ⟨.stopped, 0, s.cursor, k.code⟩) := by
  have hcode : k.code = causeCode s.returnOver.run.cause := by
    show k.code = causeCode s.run.cause
    rw [hk]
    rfl
  rw [State.endTravel_return_caused hr ha hk, State.endStart_of_paused (s := s.returnOver) hret,
    State.toPaused_eq (s := s.returnOver) hj hp, hcode]
  rfl

theorem State.endTravel_return_over (hk : s.run.cause = none) (hp : s.passGoesOn = false) :
    s.endTravel true = (s.brokenOff .arming).endPatch := by
  have hover : s.returnOver.unlessOver s.returnOver.endStart = s.returnOver.endPatch := by
    unfold State.unlessOver
    rw [if_neg (show ¬ s.returnOver.run.cause.isSome = true from (show ¬ s.run.cause.isSome = true by simp [hk]))]
    exact if_pos (State.patchOver_of_over (s := s.returnOver) hp)
  rw [State.endTravel_return hr ha, if_pos rfl, hover]
  exact State.endPatch_of_ended s.travelOver _ .arming

omit ha

theorem State.endTravel_patch_paused (ha : s.run.activity = .patchTravel) {k : StopCause} (hk : s.run.cause = some k)
    (hj : s.joinsWaiting = false) (hp : s.passGoesOn = true) : s.endTravel true =
      (s.brokenOff .paused).setLink (s.link.post ⟨.stopped, 0, s.cursor, k.code⟩) := by
  have hcaused : ¬ (s.legOver.run.cause.isNone && s.legOver.patchOver) = true := by
    show ¬ (s.run.cause.isNone && s.legOver.patchOver) = true
    simp [hk]
  have hcode : k.code = causeCode s.legOver.run.cause := by
    show k.code = causeCode s.run.cause
    rw [hk]
    rfl
  rw [State.endTravel_patch hr ha, if_pos rfl, if_neg hcaused, State.toPaused_eq (s := s.legOver) hj hp, hcode]
  rfl

theorem State.endTravel_patch_over (ha : s.run.activity = .patchTravel) (hk : s.run.cause = none)
    (hp : s.passGoesOn = false) : s.endTravel true = (s.brokenOff .travelling).endPatch := by
  have hover : (s.legOver.run.cause.isNone && s.legOver.patchOver) = true := by
    rw [State.patchOver_of_over (s := s.legOver) hp]
    show (s.run.cause.isNone && true) = true
    rw [hk]
    rfl
  rw [State.endTravel_patch hr ha, if_pos rfl, if_pos hover]
  exact State.endPatch_of_ended s.travelOver _ .travelling

end Ends

/-! ## The last move of an axis -/

/-- A re-seat that ends while the other axis moves (R82). -/
theorem exec_reseat_first {s : State} {t : Travel} {a : AxisName} {v : AxisMove} (ht : s.frame.travel = some t)
    (hv : (s.frame.axis a).move = some v) (hk : v.kind = .reseat)
    (hother : ∀ b, b ≠ a → (s.frame.axis b).move ≠ none) :
    exec (.reseatComplete a) s = .next (s.modAxis a Axis.completeReseat).pump := by
  rw [exec_reseatComplete_of hv hk]
  refine congrArg _ (State.finish_of_none (State.advance_of_axisMoves (t := t) ?_ ?_))
  · cases a <;> exact ht
  · cases a with
    | x => exact .inr (hother .y AxisName.noConfusion)
    | y => exact .inl (hother .x AxisName.noConfusion)

theorem Axis.begin_keeps (a : Axis) (k : Nat) (kind : MoveKind) (d : Int) :
    (a.begin k kind d).offPath = a.offPath ∧ (a.begin k kind d).steps = a.steps := by
  unfold Axis.begin
  split <;> exact ⟨rfl, rfl⟩

/-- The last re-seat of a leg's end: the next leg begins (R82, R76). -/
theorem exec_reseat_last {s : State} {t : Travel} {a : AxisName} {v : AxisMove} {p : Point} {rest : List Point}
    (ht : s.frame.travel = some t) (hi : t.index = none) (hs : t.stopAsked = false) (hm : t.count ≤ t.made)
    (hl : t.legs = p :: rest) (hp : p ≠ s.frame.pos) (hst : s.frame.stitch = none) (hv : (s.frame.axis a).move = some v)
    (hk : v.kind = .reseat) (hother : ∀ b, b ≠ a → (s.frame.axis b).move = none ∧ (s.frame.axis b).offPath = none) :
    ∃ u tr, exec (.reseatComplete a) s = .next u ∧ (u.frame.axis a).offPath = none ∧ u.frame.pos = s.frame.pos ∧
      (u.frame.axis a).steps = (s.frame.axis a).steps + v.steps ∧ u.frame.travel = some tr ∧ tr.legs = rest ∧
      tr.origin = s.frame.pos ∧ tr.shift = p.sub s.frame.pos ∧ tr.made = 0 ∧ tr.index ≠ none ∧ u.run = s.run ∧
      u.shaft = s.shaft := by
  let seated := s.modAxis a Axis.completeReseat
  obtain ⟨hseat, htravel, hrun, hshaft, hpos, hrest⟩ : seated.frame.axis a = (s.frame.axis a).completeReseat ∧
      seated.frame.travel = some t ∧ seated.run = s.run ∧ seated.shaft = s.shaft ∧ seated.frame.pos = s.frame.pos ∧
      seated.frameAtRest := by
    have hdone := Axis.completeReseat_of hv hk
    cases a with
    | x =>
      obtain ⟨hmove, hoff⟩ := hother .y AxisName.noConfusion
      have hx : seated.frame.x = (s.frame.axis .x).completeReseat := rfl
      have hpx : seated.frame.x.pos = s.frame.x.pos := by
        rw [hx, hdone]
        rfl
      refine ⟨rfl, ht, rfl, rfl, congrArg₂ Point.mk hpx rfl, hst, ?_, hmove, ?_, hoff⟩ <;> rw [hx, hdone]
    | y =>
      obtain ⟨hmove, hoff⟩ := hother .x AxisName.noConfusion
      have hy : seated.frame.y = (s.frame.axis .y).completeReseat := rfl
      have hpy : seated.frame.y.pos = s.frame.y.pos := by
        rw [hy, hdone]
        rfl
      refine ⟨rfl, ht, rfl, rfl, congrArg₂ Point.mk rfl hpy, hst, hmove, ?_, hoff, ?_⟩ <;> rw [hy, hdone]
  let begun := (seated.beginLeg t p rest).beginSegment (t.onLeg seated.frame.pos p rest)
  have hexec : exec (.reseatComplete a) s = .next begun.pump := by
    rw [exec_reseatComplete_of hv hk]
    exact congrArg _ (State.finish_nextLeg htravel hrest hi hs hm hl (by rw [hpos]; exact hp))
  obtain ⟨hprun, -, -, hpframe, hpshaft, -⟩ := begun.pump_keeps
  obtain ⟨k, d, haxis⟩ : ∃ (k : Nat) (d : Int), begun.frame.axis a = (seated.frame.axis a).begin k .segment d := by
    cases a <;> exact ⟨_, _, rfl⟩
  obtain ⟨hoff, hsteps⟩ := Axis.begin_keeps (seated.frame.axis a) k .segment d
  rw [← haxis, hseat, Axis.completeReseat_of hv hk] at hoff hsteps
  refine ⟨begun.pump, _, hexec, ?_, ?_, ?_, congrArg FrameDrive.travel hpframe, rfl, hpos, ?_, rfl, Option.some_ne_none _,
    hprun.trans hrun, hpshaft.trans hshaft⟩
  · rw [hpframe]
    exact hoff
  · rw [hpframe, ← hpos]
    exact congrArg₂ Point.mk (Axis.begin_pos _ _ _ _) (Axis.begin_pos _ _ _ _)
  · rw [hpframe]
    exact hsteps
  · show p.sub seated.frame.pos = _
    rw [hpos]

/-! ## The obligation -/

/-- The frame with a segment completed. -/
theorem State.completeSegment_atRest {s : State} {t : Travel} (hst : s.frame.stitch = none)
    (hx : (s.completeSegment t).frame.x.move = none) (hy : (s.completeSegment t).frame.y.move = none)
    (hox : (s.completeSegment t).frame.x.offPath = none) (hoy : (s.completeSegment t).frame.y.offPath = none) :
    (s.completeSegment t).frameAtRest := ⟨hst, hx, hy, hox, hoy⟩

/-- Settles O54: a completion with nothing in flight; what completes, and the step that follows; the end by what the
travel was made for. -/
theorem travelRunsByItsSegments : Obligations.TravelRunsByItsSegments := by
  unfold Obligations.TravelRunsByItsSegments
  intro s run seat m made x y begun reseated onPath ended brokenOff stopped
  refine ⟨exec_travelSegmentComplete_none, fun t k ht hi hst hx hy hox hoy => ⟨fun hs hm => ?_, ?_⟩,
    fun a h => exec_reseatComplete_none h, fun t v w ht => ⟨fun hv hk hw => ?_, fun hv hk hw => ?_⟩,
    fun a t v p rest ht hi hs hm hl hp hst hv hk hother => exec_reseat_last ht hi hs hm hl hp hst hv hk hother,
    fun t k ht hi => ?_, fun t ht hi hst hx hy => ⟨fun hs hon hm => ?_, fun p rest hs hon hm hl => ?_, fun hover => ?_⟩⟩
  · intro n dx dy
    let u := s.completeSegment t
    let next : Travel := { t with index := none, made := t.made + 1 }
    have hd : (next.segmentEnd (next.made + 1)).sub u.frame.pos = ⟨dx, dy⟩ := by
      rw [Travel.segmentEnd_sub]
      have hn : ((next.made + 1 : Nat) : Int) = n := by
        show ((t.made + 1 + 1 : Nat) : Int) = t.made + 2
        push_cast
        ring
      rw [hn]
      rfl
    refine (exec_travelSegmentComplete ht hi).trans (congrArg _ ?_)
    rw [State.finish_nextSegment (s := s.completeSegment t) (t := next) rfl
      (State.completeSegment_atRest hst hx hy hox hoy) rfl hs hm, State.beginSegment_eq hd]
    rfl
  · intro back hover hact hback hwhere hhoming hreset hj hp
    let u := s.completeSegment t
    let next : Travel := { t with index := none, made := t.made + 1 }
    have hto : u.run.travelReturn.getD .idle = back := by
      rw [show u.run.travelReturn = some back from hback]
      rfl
    have hwhich : u.run.travelReturn = some .idle ∨ u.passGoesOn = true :=
      hp.imp_left fun h => hback.trans (congrArg some h)
    have hend := State.endTravel_of_host (s := u) hreset hact hj hwhich t.stopAsked
    have hadvance : u.advance = some (u.endTravel t.stopAsked) :=
      State.advance_of_ending (s := u) (t := next) rfl hst hx hy rfl (hover.imp_right fun h => ⟨⟨hox, hoy⟩, h⟩)
    have hquiet : (u.endTravel t.stopAsked).advance = none := by
      rw [hend]
      refine State.advance_of_quiet_parts rfl ?_ ?_ rfl ?_
      · show u.run.travelReturn.getD .idle ≠ _
        rw [hto]
        rcases hwhere with rfl | rfl <;> exact RunState.noConfusion
      · show u.run.travelReturn.getD .idle ≠ _
        rw [hto]
        rcases hwhere with rfl | rfl <;> exact RunState.noConfusion
      · show FrameDrive.homingHeld { u.frame with travel := none } = true
        unfold FrameDrive.homingHeld
        rw [show u.frame.homing = none from hhoming]
    refine (exec_travelSegmentComplete ht hi).trans (congrArg _ ?_)
    rw [State.finish_of_one hadvance hquiet, hend, hto]
    rfl
  · refine (exec_reseat_first (a := .x) ht hv hk ?_).trans (congrArg (fun f => Host.Outcome.next (State.pump f)) ?_)
    · intro b hb
      cases b with
      | x => exact absurd rfl hb
      | y => exact fun h => Option.some_ne_none w (hw.symm.trans h)
    · show s.setFrame { s.frame with x := s.frame.x.completeReseat } = _
      rw [Axis.completeReseat_of hv hk]
  · refine (exec_reseat_first (a := .y) ht hv hk ?_).trans (congrArg (fun f => Host.Outcome.next (State.pump f)) ?_)
    · intro b hb
      cases b with
      | x => exact fun h => Option.some_ne_none w (hw.symm.trans h)
      | y => exact absurd rfl hb
    · show s.setFrame { s.frame with y := s.frame.y.completeReseat } = _
      rw [Axis.completeReseat_of hv hk]
  · exact exec_travelSegmentComplete ht hi
  · intro n dx dy
    have hd : (t.segmentEnd (t.made + 1)).sub s.frame.pos = ⟨dx, dy⟩ := by
      rw [Travel.segmentEnd_sub]
      have hn : ((t.made + 1 : Nat) : Int) = n := Nat.cast_succ t.made
      rw [hn]
      rfl
    rw [State.advance_of_segmentDue ht ⟨hst, hx, hy, hon.1, hon.2⟩ hi hs hm, State.beginSegment_eq hd]
    rfl
  · exact State.advance_of_legDue ht ⟨hst, hx, hy, hon.1, hon.2⟩ hi hs hm hl
  · have hadvance : s.advance = some (s.endTravel t.stopAsked) :=
      State.advance_of_ending ht hst hx hy hi hover
    refine ⟨fun src hr hsrc hs => ⟨_, hadvance, State.endTravel_reset hr hsrc hs t.stopAsked⟩, fun hr hact =>
      ⟨fun hs => ?_, fun k hs hk hj => ⟨fun hret => ?_, fun hret hp => ?_⟩, fun hs hk hp => ?_⟩, fun hr hact =>
      ⟨fun hs => ?_, fun k hs hk hj hp => ?_, fun hs hk hp => ?_⟩⟩
    all_goals rw [hadvance, hs]
    · rw [State.endTravel_return hr hact, if_neg Bool.false_ne_true]
      rfl
    · rw [State.endTravel_return_idle hr hact hk hj hret]
      rfl
    · rw [State.endTravel_return_paused hr hact hk hj hret hp]
      rfl
    · rw [State.endTravel_return_over hr hact hk hp]
      rfl
    · rw [State.endTravel_patch hr hact, if_neg Bool.false_ne_true]
      rfl
    · rw [State.endTravel_patch_paused hr hact hk hj hp]
      rfl
    · rw [State.endTravel_patch_over hr hact hk hp]
      rfl

end Sys2Proof.Machine

/-!
PROOF. The start sequence (section 1.4; O56): the end of the warning hold, and the steps to the travel and the
referencing.
-/

namespace Sys2Proof.Machine
set_option Elab.async false

/-- Three steps are due, and none after them. -/
theorem State.finish_of_three {s t u v : State} (h : s.advance = some t) (ht : t.advance = some u)
    (hu : u.advance = some v) (hv : v.advance = none) : s.finish = v.pump := by
  rw [State.finish, settleSteps, State.settle_of_step 262143 h, State.settle_of_step 262142 ht,
    State.settle_of_step 262141 hu, State.settle_of_none _ hv]

theorem exec_warningHoldExpiry (s : State) :
    exec .warningHoldExpiry s = .next (if s.run.activity = .hold then (s.doing .dueTravel).finish else s) := rfl

section Start

variable {s : State}

theorem State.unlessOver_of_goesOn (hc : s.run.cause = none) (hp : s.passGoesOn = true) (next : State) :
    s.unlessOver next = next := by
  unfold State.unlessOver
  rw [if_neg (by simp [hc]), if_neg (by rw [State.patchOver_eq_not_passGoesOn]; simp [hp])]

theorem State.mayTravel_iff : s.mayTravel = true ↔ s.frame.stitch = none ∧ s.link.resetBy = none ∧
    (s.shaft.state ≠ .referencing ∨ s.offPath = false) := by
  simp [State.mayTravel, and_assoc]

theorem State.advance_of_activity (ht : s.frame.travel = none) (hh : s.frame.homing = none) :
    s.advance = s.advanceActivity := State.advance_of_still ht hh

/-! ### The step that each activity is due to make -/

theorem State.advanceActivity_dueTravel (ha : s.run.activity = .dueTravel) :
    s.advanceActivity = if s.mayTravel then some s.stepTravel else none := by
  unfold State.advanceActivity
  rw [ha]

theorem State.advanceActivity_dueReference (ha : s.run.activity = .dueReference) :
    s.advanceActivity = if s.link.resetBy.isSome then none else some (s.unlessOver s.stepReference) := by
  unfold State.advanceActivity
  rw [ha]

theorem State.advanceActivity_referencing (ha : s.run.activity = .referencing) :
    s.advanceActivity = if s.shaft.state = .atRest then some (s.unlessOver (s.doing .dueAlign)) else none := by
  unfold State.advanceActivity
  rw [ha]

theorem State.advanceActivity_dueAlign (ha : s.run.activity = .dueAlign) :
    s.advanceActivity = some (s.unlessOver s.stepAlign) := by
  unfold State.advanceActivity
  rw [ha]

theorem State.advanceActivity_aligning (ha : s.run.activity = .aligning) : s.advanceActivity =
    if s.casesOver then some (s.clearWork.unlessOver ((s.clearWork.enter .arming).aboutToRun .stepEngage)) else none := by
  unfold State.advanceActivity
  rw [ha]

theorem State.advanceActivity_dueEngage (ha : s.run.activity = .dueEngage) :
    s.advanceActivity = some (s.unlessOver s.stepEngage) := by
  unfold State.advanceActivity
  rw [ha]

theorem State.advanceActivity_engaging (ha : s.run.activity = .engaging) :
    s.advanceActivity = if s.bus.startOutstanding then none else some (s.unlessOver s.stepRun) := by
  unfold State.advanceActivity
  rw [ha]

/-! ### From the hold on -/

/-- The hold is over: step 1 is due. -/
def State.holdOver (s : State) : State := s.doing .dueTravel

section HoldOver

variable (ht : s.frame.travel = none) (hh : s.frame.homing = none) (hst : s.frame.stitch = none)
  (hr : s.link.resetBy = none)
include ht hh hst hr

theorem State.holdOver_steps (h : s.shaft.state ≠ .referencing ∨ s.offPath = false) :
    s.holdOver.advance = some s.holdOver.stepTravel := by
  rw [State.advance_of_activity (s := s.holdOver) ht hh, State.advanceActivity_dueTravel rfl,
    if_pos (State.mayTravel_iff (s := s.holdOver) |>.2 ⟨hst, hr, h⟩)]

omit hst hr in
theorem State.holdOver_waits (h : s.shaft.state = .referencing) (ho : s.offPath = true) :
    s.holdOver.finish = (s.doing .dueTravel).pump := by
  refine State.finish_of_none ?_
  rw [State.advance_of_activity (s := s.holdOver) ht hh, State.advanceActivity_dueTravel rfl, if_neg]
  rw [State.mayTravel_iff]
  rintro ⟨-, -, hn | hn⟩
  · exact hn h
  · exact absurd (hn.symm.trans ho) Bool.false_ne_true

theorem State.holdOver_onPath (hc : s.run.cause = none) (hp : s.passGoesOn = true) (ho : s.offPath = false) :
    s.holdOver.advance = some (s.doing .dueReference) ∧
      (s.doing .dueReference).advance =
        some (s.doing .dueReference).stepReference := by
  have hstep : s.holdOver.stepTravel = s.doing .dueReference := by
    unfold State.stepTravel
    exact if_neg (show ¬ s.offPath = true by simp [ho])
  refine ⟨by rw [State.holdOver_steps ht hh hst hr (.inr ho), hstep], ?_⟩
  rw [State.advance_of_activity (s := s.doing .dueReference) ht hh,
    State.advanceActivity_dueReference rfl, show (s.doing .dueReference).link.resetBy = none from hr,
    State.unlessOver_of_goesOn (s := s.doing .dueReference) hc hp]
  rfl

/-- An unreferenced shaft is referenced (R14, R93). -/
theorem State.holdOver_references (hc : s.run.cause = none) (hp : s.passGoesOn = true) (ho : s.offPath = false)
    (href : s.shaft.referenced = false) (hs : s.shaft.state = .unreferenced) : s.holdOver.finish =
      ((s.doing .referencing).setShaft (s.referencingShaft false)).pump := by
  let v := s.doing .dueReference
  obtain ⟨hfirst, hsecond⟩ := s.holdOver_onPath ht hh hst hr hc hp ho
  have hstep : v.stepReference =
      (s.doing .referencing).setShaft (s.referencingShaft false) := by
    have hnot : v.shaft.state ≠ .referencing := by
      show s.shaft.state ≠ _
      rw [hs]
      exact ShaftState.noConfusion
    unfold State.stepReference
    rw [if_neg hnot, if_neg (show ¬ v.shaft.referenced = true from (show ¬ s.shaft.referenced = true by simp [href])),
      State.beginReferencing_of_not_polling (s := v) false (by show s.shaft.state.pollsByAngle = false; rw [hs]; rfl)]
    rfl
  rw [hstep] at hsecond
  refine State.finish_of_two hfirst hsecond ?_
  rw [State.advance_of_activity (s := (s.doing .referencing).setShaft (s.referencingShaft false)) ht hh,
    State.advanceActivity_referencing rfl]
  exact if_neg ShaftState.noConfusion

/-- A referencing in progress is waited for (R93). -/
theorem State.holdOver_waitsOnPath (hc : s.run.cause = none) (hp : s.passGoesOn = true) (ho : s.offPath = false)
    (hs : s.shaft.state = .referencing) :
    s.holdOver.finish = (s.doing .referencing).pump := by
  obtain ⟨hfirst, hsecond⟩ := s.holdOver_onPath ht hh hst hr hc hp ho
  have hstep : (s.doing .dueReference).stepReference =
      s.doing .referencing := by
    unfold State.stepReference
    exact if_pos hs
  rw [hstep] at hsecond
  refine State.finish_of_two hfirst hsecond ?_
  rw [State.advance_of_activity (s := s.doing .referencing) ht hh, State.advanceActivity_referencing rfl]
  refine if_neg ?_
  show s.shaft.state ≠ _
  rw [hs]
  exact ShaftState.noConfusion

end HoldOver

theorem State.target_away (ho : s.offPath = true) (hx : s.frame.x.offPath = none) (hy : s.frame.y.offPath = none) :
    s.framePosAt s.cursor ≠ s.frame.pos := by
  unfold State.offPath at ho
  unfold State.framePosAt State.originPos
  rw [hx, hy] at ho
  cases horigin : s.frame.origin with
  | none =>
    rw [horigin] at ho
    exact absurd ho Bool.false_ne_true
  | some o =>
    rw [horigin] at ho
    exact fun h => (bne_iff_ne.1 ho) h.symm

/-- The return travel that a start begins off its path (R14, R79). -/
def State.returning (s : State) : State :=
  (s.setRun { s.run with state := .travelling, travelReturn := some .arming, activity := .returnTravel }).beginTravel
    [s.framePosAt s.cursor]

section OffPath

variable (ht : s.frame.travel = none) (hh : s.frame.homing = none) (hr : s.link.resetBy = none) (hrest : s.frameAtRest)
  (ho : s.offPath = true) (hs : s.shaft.state ≠ .referencing)
include ht hh hr hrest ho hs

theorem State.holdOver_travels (hin : inField s.cfg.machine (s.framePosAt s.cursor) = true) :
    ∃ t, s.holdOver.finish = t ∧ t.run = { s.run with
        state := .travelling, travelReturn := some .arming, activity := .returnTravel } ∧
      t.shaft = { s.shaft with lockout := { s.shaft.lockout with travel := true } } ∧ t.frame.pos = s.frame.pos ∧
      ∃ tr, t.frame.travel = some tr ∧ tr.legs = [] ∧ tr.origin = s.frame.pos ∧
        tr.shift = (s.framePosAt s.cursor).sub s.frame.pos ∧ tr.made = 0 ∧ tr.index ≠ none := by
  let target := s.framePosAt s.cursor
  let first : Travel := ⟨[target], s.frame.pos, ⟨0, 0⟩, 0, 0, none, false⟩
  let leg := s.returning.beginLeg first target []
  have haway : target ≠ s.frame.pos := State.target_away ho hrest.2.2.2.1 hrest.2.2.2.2
  have hstep : s.holdOver.stepTravel = s.returning := by
    unfold State.stepTravel
    exact (if_pos ho).trans (if_pos hin)
  have hfirst := State.holdOver_steps ht hh hrest.1 hr (.inl hs)
  rw [hstep] at hfirst
  have hsecond : s.returning.advance = some leg :=
    State.advance_of_legDue (s := s.returning) (t := first) rfl hrest rfl rfl (Nat.le_refl 0) rfl
  have hthird : leg.advance = some (leg.beginSegment (s.legOf target [])) :=
    State.advance_of_segmentDue (s := leg) (t := s.legOf target []) rfl hrest rfl rfl
      (segmentCount_pos (Point.sub_moves haway))
  have hlast : (leg.beginSegment (s.legOf target [])).advance = none := by
    rw [State.advance_of_travel rfl]
    exact State.advanceTravel_of_segment _ rfl
  obtain ⟨hrun, -, -, hframe, hshaft, -⟩ := State.pump_keeps (leg.beginSegment (s.legOf target []))
  refine ⟨_, State.finish_of_three hfirst hsecond hthird hlast, hrun, hshaft, ?_, _, congrArg FrameDrive.travel hframe, rfl,
    rfl, rfl, rfl, Option.some_ne_none _⟩
  rw [hframe]
  exact congrArg₂ Point.mk (Axis.begin_pos _ _ _ _) (Axis.begin_pos _ _ _ _)

/-- A start off its path whose target lies outside the field ends there (R79). -/
theorem State.holdOver_fails (hc : s.run.cause = none)
    (hout : inField s.cfg.machine (s.framePosAt s.cursor) = false) :
    s.holdOver.advance = some ((s.holdOver.setRun { s.holdOver.run with cause := some .frameLimit }).endStart) := by
  have hrecord : s.holdOver.recordCause .frameLimit =
      s.holdOver.setRun { s.holdOver.run with cause := some .frameLimit } := by
    rw [State.recordCause_eq, show s.holdOver.run.cause = none from hc]
    rfl
  have hstep : s.holdOver.stepTravel = (s.holdOver.recordCause .frameLimit).endStart := by
    unfold State.stepTravel
    exact (if_pos ho).trans (if_neg (show ¬ inField s.cfg.machine (s.framePosAt s.cursor) = true by simp [hout]))
  rw [State.holdOver_steps ht hh hrest.1 hr (.inl hs), hstep, hrecord]

end OffPath

end Start

end Sys2Proof.Machine

/-!
PROOF. The start sequence (section 1.4; O56): what the steps over the heads leave alone.
-/

namespace Sys2Proof.Machine
set_option Elab.async false

/-! ## A fold over the heads, seen from one of them -/

/-- What a head's step brings about, when the steps of the other heads leave its items and undo nothing. -/
theorem foldl_heads_from {f : State → Nat → State} {h : Nat} (hlow : 1 ≤ h) (hhigh : h ≤ 8) {P Q : State → Prop}
    (hP : ∀ s j, 1 ≤ j → j ≤ 8 → P s → P (f s j))
    (hother : ∀ (s : State) j, P s → 1 ≤ j → j ≤ 8 → j ≠ h → s.SameHead (f s j) h)
    (hkeep : ∀ (s : State) j, P s → 1 ≤ j → j ≤ 8 → j ≠ h → Q s → Q (f s j)) (s : State) (hs : P s)
    (hstep : ∀ u, P u → s.SameHead u h → Q (f u h)) : Q (headNumbers.foldl f s) := by
  obtain ⟨front, back, hsplit, hfront, hback⟩ := headNumbers_split hlow hhigh
  have hmem : ∀ x, x ∈ front ∨ x ∈ back → x ≤ 8 := fun x hx => by
    refine ((mem_headNumbers x).1 ?_).2
    rw [hsplit, List.mem_append, List.mem_cons]
    exact hx.imp_right .inr
  obtain ⟨hinv, hsame⟩ : P (front.foldl f s) ∧ s.SameHead (front.foldl f s) h := by
    refine List.foldlRecOn (motive := fun u => P u ∧ s.SameHead u h) front f ⟨hs, .refl s h⟩ fun u hu x hx => ?_
    obtain ⟨h1, hne⟩ := hfront x hx
    exact ⟨hP u x h1 (hmem x (.inl hx)) hu.1, hu.2.trans (hother u x hu.1 h1 (hmem x (.inl hx)) hne)⟩
  rw [hsplit, List.foldl_append, List.foldl_cons]
  refine (List.foldlRecOn (motive := fun u => P u ∧ Q u) back f
    ⟨hP _ h hlow hhigh hinv, hstep _ hinv hsame⟩ fun u hu x hx => ?_).2
  obtain ⟨h1, hne⟩ := hback x hx
  exact ⟨hP u x h1 (hmem x (.inr hx)) hu.1, hkeep u x hu.1 h1 (hmem x (.inr hx)) hne hu.2⟩

/-! ## What work on the heads leaves alone -/

/-- The blocks, the run but for its head table, and the needles are the same. -/
structure State.SameAround (s u : State) : Prop where
  frame : u.frame = s.frame
  shaft : u.shaft = s.shaft
  link : u.link = s.link
  monitor : u.monitor = s.monitor
  gaps : u.gaps = s.gaps
  store : u.store = s.store
  gov : u.gov = s.gov
  cfg : u.cfg = s.cfg
  bare : u.run.bare = s.run.bare
  needles : u.change.SameMap s.change

namespace State.SameAround

variable {s u v : State}

theorem refl (s : State) : s.SameAround s := ⟨rfl, rfl, rfl, rfl, rfl, rfl, rfl, rfl, rfl, rfl, rfl⟩

theorem trans (h : s.SameAround u) (h' : u.SameAround v) : s.SameAround v where
  frame := h'.frame.trans h.frame
  shaft := h'.shaft.trans h.shaft
  link := h'.link.trans h.link
  monitor := h'.monitor.trans h.monitor
  gaps := h'.gaps.trans h.gaps
  store := h'.store.trans h.store
  gov := h'.gov.trans h.gov
  cfg := h'.cfg.trans h.cfg
  bare := h'.bare.trans h.bare
  needles := ⟨h'.needles.1.trans h.needles.1, h'.needles.2.trans h.needles.2⟩

theorem issue (h : s.SameAround u) (c : BusCommand) : s.SameAround (u.issue c) := by
  obtain ⟨hstore, hgov, hframe, hshaft, hmonitor, hgaps, hlink, hcfg, -, -⟩ := u.issue_keeps c
  exact h.trans ⟨hframe, hshaft, hlink, hmonitor, hgaps, hstore, hgov, hcfg, by simp, u.issue_sameMap c⟩

theorem modWork (h : s.SameAround u) (j : Nat) (f : HeadWork → HeadWork) : s.SameAround (u.modWork j f) :=
  h.trans ⟨rfl, rfl, rfl, rfl, rfl, rfl, rfl, rfl, rfl, rfl, rfl⟩

theorem modHead (h : s.SameAround u) (j : Nat) (f : HeadEntry → HeadEntry) : s.SameAround (u.modHead j f) :=
  h.trans ⟨rfl, rfl, rfl, rfl, rfl, rfl, rfl, rfl, rfl, rfl, rfl⟩

theorem run (h : s.SameAround u) : u.run = { s.run with heads := u.run.heads } := Run.of_bare h.bare

theorem cursor (h : s.SameAround u) : u.cursor = s.cursor := State.cursor_of_bare h.bare

theorem colourNow (h : s.SameAround u) : u.colourNow = s.colourNow := by
  unfold State.colourNow
  rw [h.cursor, State.stampAt_congr h.store h.cfg]

theorem needle (h : s.SameAround u) (slot j : Nat) : u.change.needle slot j = s.change.needle slot j := by
  unfold ThreadChange.needle ThreadChange.waitingFor ThreadChange.mapAt
  rw [h.needles.1, h.needles.2]

theorem watchAt (h : s.SameAround u) (j : Nat) : u.watchAt j = s.watchAt j :=
  State.watchAt_congr (congrArg Monitor.heads h.monitor) j

theorem pass (h : s.SameAround u) : u.run.pass = s.run.pass := by
  rw [h.run]

theorem inPatchSet (h : s.SameAround u) (j : Nat) : u.inPatchSet u.cursor j = s.inPatchSet s.cursor j := by
  unfold State.inPatchSet
  rw [h.cursor, h.gaps, h.run]

theorem able (h : s.SameAround u) {j : Nat} (hh : (u.headAt j).state = (s.headAt j).state) : u.able j = s.able j := by
  unfold State.able State.ableFor
  rw [hh, h.watchAt, h.needle, h.colourNow, h.pass]

end State.SameAround

/-! ## A command sent -/

/-- The command stands in the queue or the held-back list (R104). -/
def State.sent (u : State) (c : BusCommand) : Prop := c ∈ u.bus.queue ++ u.bus.held

theorem State.sent_issue_same {u : State} {c : BusCommand} (hl : (u.linkAt c.head).lost = false) : (u.issue c).sent c :=
  State.mem_issue hl

theorem State.sent_issue_other {u : State} {c d : BusCommand} (hne : d.head ≠ c.head) (hd : u.sent d) :
    (u.issue c).sent d := by
  by_cases hl : (u.linkAt c.head).lost = true
  · have hbus : (u.issue c).bus = u.bus := by
      unfold State.issue
      rw [if_pos hl]
      unfold State.notDelivered State.handOver
      dsimp only
      split_ifs <;> rfl
    unfold State.sent
    rw [hbus]
    exact hd
  · have hreplace : ∀ l : List BusCommand, d ∈ l → d ∈ replaceEngage c l := fun l hdl => by
      refine List.mem_map.2 ⟨d, hdl, if_neg ?_⟩
      simp [BusCommand.engages, hne]
    unfold State.sent at hd ⊢
    rw [State.issue_of_delivered (Bool.eq_false_iff.2 hl), State.setBus_bus]
    rw [List.mem_append] at hd ⊢
    split_ifs
    · exact hd.imp (hreplace _) (hreplace _)
    · exact hd.imp_left (List.mem_append_left _)
    · exact hd.imp_right (List.mem_append_left _)

end Sys2Proof.Machine

/-!
PROOF. The start sequence (section 1.4; O56): what the steps over the heads do for one head.
-/

namespace Sys2Proof.Machine
set_option Elab.async false

/-! ## What is done for one head, seen from another -/

/-- The items of head `j` are the same, and no command sent for it is lost. -/
structure State.Aside (s t : State) (j : Nat) : Prop where
  items : s.SameHead t j
  commands : ∀ c : BusCommand, c.head = j → s.sent c → t.sent c

namespace State.Aside

variable {s t u : State} {h j : Nat}

theorem refl (s : State) (j : Nat) : s.Aside s j := ⟨.refl s j, fun _ _ => id⟩

theorem trans (a : s.Aside t j) (b : t.Aside u j) : s.Aside u j :=
  ⟨a.items.trans b.items, fun c hc hs => b.commands c hc (a.commands c hc hs)⟩

theorem issue (a : s.Aside t j) {c : BusCommand} (hc : 1 ≤ c.head) (hj : 1 ≤ j) (hne : c.head ≠ j) :
    s.Aside (t.issue c) j :=
  a.trans ⟨State.issue_sameHead (by omega), fun d hd => State.sent_issue_other (by rw [hd]; exact Ne.symm hne)⟩

theorem modWork (a : s.Aside t j) (f : HeadWork → HeadWork) (hh : 1 ≤ h) (hj : 1 ≤ j) (hne : h ≠ j) :
    s.Aside (t.modWork h f) j := a.trans ⟨State.modWork_sameHead f (by omega), fun _ _ => id⟩

theorem modHead (a : s.Aside t j) (f : HeadEntry → HeadEntry) (hh : 1 ≤ h) (hj : 1 ≤ j) (hne : h ≠ j) :
    s.Aside (t.modHead h f) j := a.trans ⟨State.modHead_sameHead f (by omega), fun _ _ => id⟩

end State.Aside

/-- A fold over the heads, each step aside from every other head: what it shows of one head. -/
theorem foldl_heads_seen {f : State → Nat → State} {h : Nat} (hlow : 1 ≤ h) (hhigh : h ≤ 8) {P : State → Prop}
    (hP : ∀ s j, 1 ≤ j → j ≤ 8 → P s → P (f s j))
    (hother : ∀ (s : State) j, P s → 1 ≤ j → j ≤ 8 → j ≠ h → s.Aside (f s j) h) (s : State) (hs : P s) :
    ∃ u, P u ∧ s.SameHead u h ∧ (f u h).Aside (headNumbers.foldl f s) h :=
  foldl_heads_from (Q := fun w => ∃ u, P u ∧ s.SameHead u h ∧ (f u h).Aside w h) hlow hhigh hP
    (fun u j hu h1 h8 hne => (hother u j hu h1 h8 hne).items)
    (fun u j hu h1 h8 hne ⟨v, hv, hsame, ha⟩ => ⟨v, hv, hsame, ha.trans (hother u j hu h1 h8 hne)⟩) s hs
    (fun u hu hsame => ⟨u, hu, hsame, .refl _ h⟩)

theorem State.setHeadState_of_lifted {s : State} {h : Nat} (he : s.engagedHead h = false) (new : HeadState) :
    s.setHeadState h new = s.modHead h (fun e => { e with state := new }) := by
  rw [State.setHeadState_cases, if_neg (by simp [he]), if_neg (by simp [he]), if_neg (by simp [he])]

/-! ## Step 4 (R25, R150) -/

/-- A head that rests in step 4: in hand, without a fault, and without a needle. -/
def State.restsNow (s : State) (h : Nat) : Bool :=
  (match (s.headAt h).state with
    | .idle => true
    | .sewing => true
    | .resting => true
    | .patch => s.run.pass == .patch
    | .off => false
    | .dropped => false
    | .lost => false)
    && (s.watchAt h).fault.isNone && s.change.needle s.colourNow h == 0

/-- Step 4 for one head, in either pass. -/
def State.engageOne (s : State) (h : Nat) : State :=
  if s.alignable h then
    if s.able h then s.issueLower h s.sewingState false true
    else if s.restsNow h then
      (if s.engagedHead h then s.issueLift h .resting true else s.setHeadState h .resting)
    else s
  else if s.engagedHead h then s.issueLift h .idle true
  else if (s.headAt h).state = .resting then s.setHeadState h .idle
  else s

theorem State.engageMain_eq {s : State} (hm : s.run.pass = .main) (h : Nat) : s.engageMain h = s.engageOne h := by
  have hmember : s.alignable h = true := by simp [State.alignable, hm]
  have hsews : s.sewingState = .sewing := by simp [State.sewingState, hm]
  unfold State.engageOne State.engageMain
  rw [if_pos hmember, hsews]
  dsimp only
  split
  · rfl
  · cases hst : (s.headAt h).state <;> simp [State.restsNow, hst, hm]

theorem State.engagePatch_eq {s : State} (hp : s.run.pass = .patch) (h : Nat) : s.engagePatch h = s.engageOne h := by
  have hmember : s.alignable h = s.inPatchSet s.cursor h := by simp [State.alignable, hp]
  have hsews : s.sewingState = .patch := by simp [State.sewingState, hp]
  unfold State.engageOne State.engagePatch
  rw [hmember, hsews]
  split
  · split
    · rfl
    next hable =>
      unfold State.able State.ableFor at hable
      cases hst : (s.headAt h).state <;> cases hf : (s.watchAt h).fault <;> simp_all [State.restsNow]
  · rfl

section EngageOne

variable {s u : State} {h j : Nat}

theorem State.SameAround.engageOne (a : s.SameAround u) : s.SameAround (u.engageOne h) := by
  unfold State.engageOne
  split
  · split
    · exact a.issue _
    · split
      · split
        · exact a.issue _
        next he =>
          rw [State.setHeadState_of_lifted (Bool.eq_false_iff.2 he)]
          exact a.modHead _ _
      · exact a
  · split
    · exact a.issue _
    next he =>
      split
      · rw [State.setHeadState_of_lifted (Bool.eq_false_iff.2 he)]
        exact a.modHead _ _
      · exact a

theorem State.Aside.engageOne (hh : 1 ≤ h) (hj : 1 ≤ j) (hne : h ≠ j) : s.Aside (s.engageOne h) j := by
  have hissue : ∀ w, s.Aside (s.issue ⟨h, w⟩) j := fun w => (State.Aside.refl s j).issue (c := ⟨h, w⟩) hh hj hne
  have hmod : ∀ f, s.Aside (s.modHead h f) j := fun f => (State.Aside.refl s j).modHead f hh hj hne
  unfold State.engageOne
  split
  · split
    · exact hissue _
    · split
      · split
        · exact hissue _
        next he =>
          rw [State.setHeadState_of_lifted (Bool.eq_false_iff.2 he)]
          exact hmod _
      · exact .refl s j
  · split
    · exact hissue _
    next he =>
      split
      · rw [State.setHeadState_of_lifted (Bool.eq_false_iff.2 he)]
        exact hmod _
      · exact .refl s j

end EngageOne

/-- Step 4 begun. -/
def State.engagingNow (s : State) : State := (s.enter .arming).doing .engaging

theorem State.alignable_congr {s u : State} (a : s.SameAround u) (h : Nat) : u.alignable h = s.alignable h := by
  unfold State.alignable
  rw [a.pass, a.inPatchSet]

theorem State.restsNow_congr {s u : State} (a : s.SameAround u) {h : Nat} (hh : (u.headAt h).state = (s.headAt h).state) :
    u.restsNow h = s.restsNow h := by
  unfold State.restsNow
  rw [hh, a.pass, a.watchAt, a.needle, a.colourNow]

/-- What step 4 shows of one head: its own step, made on its items as they were. -/
theorem State.stepEngage_seen (s : State) {h : Nat} (hlow : 1 ≤ h) (hhigh : h ≤ 8) :
    s.engagingNow.SameAround s.stepEngage ∧ ∃ u, s.engagingNow.SameAround u ∧ s.engagingNow.SameHead u h ∧
      (u.engageOne h).Aside s.stepEngage h := by
  let f : State → Nat → State := if s.run.pass = .patch then State.engagePatch else State.engageMain
  have hfold : s.stepEngage = headNumbers.foldl f s.engagingNow := rfl
  have hf : ∀ (u : State) (j : Nat), s.engagingNow.SameAround u → f u j = u.engageOne j := fun u j a => by
    have hpass : u.run.pass = s.run.pass := a.pass
    by_cases hp : s.run.pass = .patch
    · rw [show f = State.engagePatch from if_pos hp]
      exact State.engagePatch_eq (hpass.trans hp) j
    · rw [show f = State.engageMain from if_neg hp]
      refine State.engageMain_eq ?_ j
      rw [hpass]
      cases hpm : s.run.pass with
      | main => rfl
      | patch => exact absurd hpm hp
  have hP : ∀ (u : State) (j : Nat), 1 ≤ j → j ≤ 8 → s.engagingNow.SameAround u → s.engagingNow.SameAround (f u j) :=
    fun u j _ _ a => by
      rw [hf u j a]
      exact a.engageOne
  rw [hfold]
  refine ⟨foldl_heads_keeps hP _ (.refl _), ?_⟩
  obtain ⟨u, a, hsame, hseen⟩ := foldl_heads_seen (P := fun u => s.engagingNow.SameAround u) hlow hhigh hP
    (fun u j a h1 h8 hne => by
      rw [hf u j a]
      exact .engageOne h1 hlow hne) s.engagingNow (.refl _)
  rw [hf u h a] at hseen
  exact ⟨u, a, hsame, hseen⟩

/-- What step 4 gives each head (R25, R150). -/
theorem State.stepEngage_head (s : State) {h : Nat} (hlow : 1 ≤ h) (hhigh : h ≤ 8) :
    let u := s.stepEngage
    (u.headAt h).needle = (s.headAt h).needle ∧
    (s.alignable h = true → s.able h = true → (u.headAt h).state = (s.headAt h).state ∧
      ((s.linkAt h).lost = false → u.sent ⟨h, .engage ⟨.lower, s.sewingState, false, true⟩⟩)) ∧
    (s.alignable h = true → s.able h = false → s.restsNow h = true → s.engagedHead h = true →
      (u.headAt h).state = (s.headAt h).state ∧
      ((s.linkAt h).lost = false → u.sent ⟨h, .engage ⟨.lift, .resting, false, true⟩⟩)) ∧
    (s.alignable h = true → s.able h = false → s.restsNow h = true → s.engagedHead h = false →
      (u.headAt h).state = .resting) ∧
    (s.alignable h = false → s.engagedHead h = true → (u.headAt h).state = (s.headAt h).state ∧
      ((s.linkAt h).lost = false → u.sent ⟨h, .engage ⟨.lift, .idle, false, true⟩⟩)) ∧
    (s.alignable h = false → s.engagedHead h = false →
      (u.headAt h).state = (if (s.headAt h).state = .resting then .idle else (s.headAt h).state)) ∧
    (s.alignable h = true → s.able h = false → s.restsNow h = false → u.headAt h = s.headAt h) := by
  obtain ⟨-, v, a, hsame, hseen⟩ := s.stepEngage_seen hlow hhigh
  have hhead : v.headAt h = s.headAt h := hsame.head
  have hmember : v.alignable h = s.alignable h := State.alignable_congr a h
  have hable : v.able h = s.able h := a.able (congrArg HeadEntry.state hhead)
  have hrests : v.restsNow h = s.restsNow h := State.restsNow_congr a (congrArg HeadEntry.state hhead)
  have hengaged : v.engagedHead h = s.engagedHead h := State.engagedHead_congr hhead
  have hsews : v.sewingState = s.sewingState := by
    unfold State.sewingState
    rw [a.pass]
    rfl
  have hset : ∀ new, (v.headAt h).state ≠ .off → (v.modHead h (fun e => { e with state := new })).headAt h =
      { s.headAt h with state := new } := fun new hon => by
    rw [State.headAt_modHead_same v _ (headAt_in hon), hhead]
  have hentry : ∀ w, ((v.issue ⟨h, w⟩).headAt h).state = (s.headAt h).state ∧
      ((v.issue ⟨h, w⟩).headAt h).needle = (s.headAt h).needle := fun w => by
    rw [← hhead]
    exact State.issue_entry h
  have hsent : ∀ w, (s.linkAt h).lost = false → (v.issue ⟨h, w⟩).sent ⟨h, w⟩ := fun w hl =>
    State.sent_issue_same (c := ⟨h, w⟩) ((congrArg HeadLink.lost hsame.link).trans hl)
  have hrested : s.restsNow h = true → s.engagedHead h = false → (v.headAt h).state ≠ .off := fun hr _ hoff => by
    rw [hhead] at hoff
    simp [State.restsNow, hoff] at hr
  have hlifted : ∀ new, s.engagedHead h = false → v.setHeadState h new = v.modHead h (fun e => { e with state := new }) :=
    fun new he => State.setHeadState_of_lifted (hengaged.trans he) new
  have hseenhead := hseen.items.head
  have hseensent := fun w => hseen.commands ⟨h, w⟩ rfl
  unfold State.engageOne at hseenhead hseensent
  rw [hmember, hable, hrests, hengaged, hsews] at hseenhead hseensent
  dsimp only
  rw [hseenhead]
  cases hm : s.alignable h with
  | true =>
    rw [hm, if_pos rfl] at hseensent
    rw [if_pos rfl]
    cases ha : s.able h with
    | true =>
      rw [ha, if_pos rfl] at hseensent
      rw [if_pos rfl]
      exact ⟨(hentry _).2, fun _ _ => ⟨(hentry _).1, fun hl => hseensent _ (hsent _ hl)⟩, nofun, nofun, nofun, nofun, nofun⟩
    | false =>
      rw [ha, if_neg Bool.false_ne_true] at hseensent
      rw [if_neg Bool.false_ne_true]
      cases hr : s.restsNow h with
      | true =>
        rw [hr, if_pos rfl] at hseensent
        rw [if_pos rfl]
        cases he : s.engagedHead h with
        | true =>
          rw [he, if_pos rfl] at hseensent
          rw [if_pos rfl]
          exact ⟨(hentry _).2, nofun, fun _ _ _ _ => ⟨(hentry _).1, fun hl => hseensent _ (hsent _ hl)⟩, nofun, nofun,
            nofun, nofun⟩
        | false =>
          rw [if_neg Bool.false_ne_true, hlifted _ he, hset _ (hrested hr he)]
          exact ⟨rfl, nofun, nofun, fun _ _ _ _ => rfl, nofun, nofun, nofun⟩
      | false =>
        rw [if_neg Bool.false_ne_true, hhead]
        exact ⟨rfl, nofun, nofun, nofun, nofun, nofun, fun _ _ _ => rfl⟩
  | false =>
    rw [hm, if_neg Bool.false_ne_true] at hseensent
    rw [if_neg Bool.false_ne_true]
    cases he : s.engagedHead h with
    | true =>
      rw [he, if_pos rfl] at hseensent
      rw [if_pos rfl]
      exact ⟨(hentry _).2, nofun, nofun, nofun, fun _ _ => ⟨(hentry _).1, fun hl => hseensent _ (hsent _ hl)⟩, nofun, nofun⟩
    | false =>
      rw [if_neg Bool.false_ne_true, hhead]
      by_cases hr : (s.headAt h).state = .resting
      · rw [if_pos hr, hlifted _ he, hset _ (by rw [hhead, hr]; exact HeadState.noConfusion), if_pos hr]
        exact ⟨rfl, nofun, nofun, nofun, nofun, fun _ _ => rfl, nofun⟩
      · rw [if_neg hr, hhead, if_neg hr]
        exact ⟨rfl, nofun, nofun, nofun, nofun, fun _ _ => rfl, nofun⟩

end Sys2Proof.Machine

/-!
PROOF. The start sequence (section 1.4; O56): the alignment of all heads (section 7.6).
-/

namespace Sys2Proof.Machine
set_option Elab.async false

/-! ## The part of a head's work that a move leaves -/

/-- What a head's work keeps while its case is being moved: its part, its target, its attempt, its last known position. -/
def HeadWork.plan (w : HeadWork) : Bool × Nat × Nat × Option Nat := (w.part, w.target, w.caseAttempt, w.lastKnown)

theorem State.modWork_plan (u : State) (h k : Nat) {g : HeadWork → HeadWork} (hg : ∀ w, (g w).plan = w.plan) :
    ((u.modWork h g).workAt k).plan = (u.workAt k).plan := by
  unfold State.workAt State.modWork
  simp only [State.setChange_change, List.getD_eq_getElem?_getD, List.getElem?_modify]
  cases u.change.heads[k - 1]? with
  | none => rfl
  | some w =>
    simp only [Option.getD_some]
    split
    · exact hg w
    · rfl

theorem State.issue_plan (u : State) (c : BusCommand) (k : Nat) : ((u.issue c).workAt k).plan = (u.workAt k).plan := by
  by_cases hl : (u.linkAt c.head).lost = true
  · have hhand : ((u.handOver c.head).workAt k).plan = (u.workAt k).plan := by
      unfold State.handOver
      split
      · exact u.modWork_plan c.head k fun w => rfl
      · rfl
    rw [← hhand]
    unfold State.issue
    rw [if_pos hl]
    unfold State.notDelivered
    dsimp only
    split <;> rfl
  · unfold State.workAt
    rw [State.issue_change (Bool.eq_false_iff.2 hl)]

theorem State.issue_workKind (u : State) (c : BusCommand) : (u.issue c).change.work = u.change.work := by
  by_cases hl : (u.linkAt c.head).lost = true
  · unfold State.issue
    rw [if_pos hl]
    unfold State.notDelivered State.handOver
    dsimp only
    split_ifs <;> rfl
  · rw [State.issue_change (Bool.eq_false_iff.2 hl)]

theorem work_in {s : State} {h : Nat} (hp : (s.workAt h).part = true) : h - 1 < s.change.heads.length := by
  by_contra hout
  unfold State.workAt at hp
  rw [List.getD_eq_default _ _ (by omega)] at hp
  cases hp

/-! ## One head's move begun -/

/-- Commands for head `x` after a change of its work that keeps its plan. -/
structure State.WorkedOn (u : State) (x : Nat) (t : State) : Prop where
  form : ∃ (g : HeadWork → HeadWork) (cs : List BusCommand), (∀ w, (g w).plan = w.plan) ∧ (∀ c ∈ cs, c.head = x) ∧
    t = cs.foldl State.issue (u.modWork x g)

theorem State.liftThenMove_workedOn {u : State} {x : Nat} (ha : (u.workAt x).caseAttempt < 3)
    (ht : (u.workAt x).lastKnown ≠ some (u.workAt x).target) : u.WorkedOn x (u.liftThenMove x) := by
  unfold State.liftThenMove
  split
  · exact ⟨fun w => { w with case := .lifting }, [⟨x, .engage ⟨.lift, .idle, false, false⟩⟩], fun w => rfl, by simp,
      rfl⟩
  · unfold State.caseMove
    cases hp : (u.workAt x).lastKnown with
    | none =>
      have hfailed : u.caseFailed x = ((u.modWork x (fun w => { w with case := .clearing, caseTimer := none })).issue
          ⟨x, .clear⟩).issue ⟨x, .poll⟩ := if_pos ha
      refine ⟨_, [⟨x, .clear⟩, ⟨x, .poll⟩], fun w => ?_, by simp, hfailed⟩
      rfl
    | some p =>
      have hne : p ≠ (u.workAt x).target := fun h => ht (hp.trans (congrArg some h))
      dsimp only
      rw [if_neg hne]
      let m := ringMove p (u.workAt x).target
      exact ⟨fun w => { w with case := .moving, ahead := m.1, distance := m.2, caseTimer := none },
        [⟨x, .caseMove m.1 m.2⟩], fun w => rfl, by simp, rfl⟩

namespace State.WorkedOn

variable {s u t : State} {x j : Nat} (w : u.WorkedOn x t)
include w

theorem around (a : s.SameAround u) : s.SameAround t := by
  obtain ⟨g, cs, -, -, rfl⟩ := w.form
  exact List.foldlRecOn (motive := fun v => s.SameAround v) cs State.issue (a.modWork x g) fun v hv c _ => hv.issue c

theorem aside (hx : 1 ≤ x) (hj : 1 ≤ j) (hne : x ≠ j) : u.Aside t j := by
  obtain ⟨g, cs, -, hcs, rfl⟩ := w.form
  refine List.foldlRecOn (motive := fun v => u.Aside v j) cs State.issue ((State.Aside.refl u j).modWork g hx hj hne)
    fun v hv c hc => ?_
  rw [← hcs c hc] at hx hne
  exact hv.issue hx hj hne

theorem plan (k : Nat) : (t.workAt k).plan = (u.workAt k).plan := by
  obtain ⟨g, cs, hg, -, rfl⟩ := w.form
  exact List.foldlRecOn (motive := fun v => (v.workAt k).plan = (u.workAt k).plan) cs State.issue (u.modWork_plan x k hg)
    fun v hv c _ => (v.issue_plan c k).trans hv

theorem workKind : t.change.work = u.change.work := by
  obtain ⟨g, cs, -, -, rfl⟩ := w.form
  exact List.foldlRecOn (motive := fun v => v.change.work = u.change.work) cs State.issue
    (show (u.modWork x g).change.work = u.change.work from rfl) fun v hv c _ => (v.issue_workKind c).trans hv

theorem headState (k : Nat) : (t.headAt k).state = (u.headAt k).state := by
  obtain ⟨g, cs, -, -, rfl⟩ := w.form
  exact List.foldlRecOn (motive := fun v => (v.headAt k).state = (u.headAt k).state) cs State.issue
    (show ((u.modWork x g).headAt k).state = (u.headAt k).state from rfl) fun v hv c _ => (State.issue_entry (s := v) (c := c) k).1.trans hv

end State.WorkedOn

/-! ## The heads that turn -/

/-- A head whose case is moved in the alignment of all heads (R128). -/
def State.turns (s : State) (h : Nat) : Bool :=
  s.aligns h && (s.change.needle s.colourNow h != 0 && (s.workAt h).lastKnown != some (s.change.needle s.colourNow h))

/-- The alignment of all heads begun, no participant fixed yet. -/
def State.aligningNow (s : State) : State :=
  ((s.enter .changing).doing .aligning).setChange { s.change with work := .alignAll }

/-- The participants fixed, one by one (R123, R128). -/
def State.fixOne (s : State) (u : State) (x : Nat) : State :=
  if s.turns x then u.modWork x (fun w =>
    { w with part := true, target := u.change.needle s.colourNow x, caseAttempt := 1 }) else u

def State.fixed (s : State) : State := headNumbers.foldl s.fixOne s.aligningNow

/-- The moves begun, one by one. -/
def State.turnOne (s : State) (u : State) (x : Nat) : State := if s.turns x then u.liftThenMove x else u

theorem State.beginAlign_turns {s : State} (h : ∃ x ∈ headNumbers, s.aligns x = true ∧ s.change.needle s.colourNow x ≠ 0) :
    s.beginAlign = headNumbers.foldl s.turnOne s.fixed := by
  have hsome : ¬ ((headNumbers.filter s.aligns).all fun h => s.change.needle s.colourNow h == 0) = true := by
    obtain ⟨x, hx, ha, hq⟩ := h
    intro hall
    have := List.all_eq_true.1 hall x (List.mem_filter.2 ⟨hx, ha⟩)
    exact hq (beq_iff_eq.1 this)
  have hmoved : (headNumbers.filter s.aligns).filter (fun h => s.change.needle s.colourNow h != 0 &&
      (s.workAt h).lastKnown != some (s.change.needle s.colourNow h)) = headNumbers.filter s.turns := by
    rw [List.filter_filter]
    refine List.filter_congr fun x _ => ?_
    unfold State.turns
    rw [Bool.and_comm]
  unfold State.beginAlign
  dsimp only
  rw [if_neg hsome, hmoved]
  unfold State.fixParticipants
  rw [List.foldl_filter, List.foldl_filter]
  rfl

theorem State.fixOne_around {s u : State} (a : s.aligningNow.SameAround u) (x : Nat) :
    s.aligningNow.SameAround (s.fixOne u x) := by
  unfold State.fixOne
  split
  · exact a.modWork x _
  · exact a

/-- What is fixed for one head. -/
theorem State.fixed_seen (s : State) (hroom : s.change.heads.length = 8) {h : Nat} (hlow : 1 ≤ h) (hhigh : h ≤ 8) :
    s.aligningNow.SameAround s.fixed ∧ s.fixed.headAt h = s.headAt h ∧ s.fixed.linkAt h = s.linkAt h ∧
      s.fixed.workAt h = if s.turns h then
        { s.workAt h with part := true, target := s.change.needle s.colourNow h, caseAttempt := 1 } else s.workAt h := by
  have hP : ∀ (u : State) (j : Nat), 1 ≤ j → j ≤ 8 → (s.aligningNow.SameAround u ∧ u.change.heads.length = 8) →
      s.aligningNow.SameAround (s.fixOne u j) ∧ (s.fixOne u j).change.heads.length = 8 := fun u j _ _ ⟨a, hl⟩ => by
    refine ⟨State.fixOne_around a j, ?_⟩
    unfold State.fixOne
    split
    · exact (List.length_modify ..).trans hl
    · exact hl
  obtain ⟨ha, -⟩ : s.aligningNow.SameAround s.fixed ∧ s.fixed.change.heads.length = 8 :=
    foldl_heads_keeps hP _ ⟨.refl _, hroom⟩
  obtain ⟨u, ⟨au, hlen⟩, hsame, hseen⟩ := foldl_heads_seen (f := s.fixOne) hlow hhigh hP (fun u j _ h1 _ hne => by
    unfold State.fixOne
    split
    · exact (State.Aside.refl u h).modWork _ h1 hlow hne
    · exact .refl u h) s.aligningNow ⟨.refl _, hroom⟩
  refine ⟨ha, ?_, ?_, ?_⟩
  · refine hseen.items.head.trans (Eq.trans ?_ hsame.head)
    unfold State.fixOne
    split <;> rfl
  · refine hseen.items.link.trans (Eq.trans ?_ hsame.link)
    unfold State.fixOne
    split <;> rfl
  · refine hseen.items.work.trans ?_
    have hwork : u.workAt h = s.workAt h := hsame.work
    have hq : u.change.needle s.colourNow h = s.change.needle s.colourNow h := au.needle _ _
    unfold State.fixOne
    split
    · rw [State.workAt_modWork_same u _ (by omega), hwork, hq]
    · exact hwork

theorem State.fixed_workKind (s : State) : s.fixed.change.work = .alignAll := by
  refine List.foldlRecOn (motive := fun u => u.change.work = .alignAll) headNumbers s.fixOne
    (show s.aligningNow.change.work = .alignAll from rfl) fun u hu x _ => ?_
  unfold State.fixOne
  split
  · exact hu
  · exact hu

/-! ## The moves -/

/-- What the moves begun so far keep. -/
structure State.TurningFrom (s u : State) : Prop where
  around : s.fixed.SameAround u
  kind : u.change.work = .alignAll
  plan : ∀ k, (u.workAt k).plan = (s.fixed.workAt k).plan
  states : ∀ k, (u.headAt k).state = (s.fixed.headAt k).state

section Turning

variable {s u : State} (hroom : s.change.heads.length = 8)
include hroom

theorem State.TurningFrom.workedOn (p : s.TurningFrom u) {x : Nat} (h1 : 1 ≤ x) (h8 : x ≤ 8) (ht : s.turns x = true) :
    u.WorkedOn x (u.liftThenMove x) := by
  have hfixed := (s.fixed_seen hroom h1 h8).2.2.2
  rw [if_pos ht] at hfixed
  have hplan := p.plan x
  rw [hfixed] at hplan
  obtain ⟨-, htarget, hattempt, hlast⟩ : (u.workAt x).part = true ∧
      (u.workAt x).target = s.change.needle s.colourNow x ∧ (u.workAt x).caseAttempt = 1 ∧
      (u.workAt x).lastKnown = (s.workAt x).lastKnown := by
    simpa only [HeadWork.plan, Prod.mk.injEq] using hplan
  refine State.liftThenMove_workedOn (by omega) ?_
  rw [hlast, htarget]
  have hturn : (s.workAt x).lastKnown != some (s.change.needle s.colourNow x) := by
    unfold State.turns at ht
    exact (Bool.and_eq_true_iff.1 (Bool.and_eq_true_iff.1 ht).2).2
  exact bne_iff_ne.1 hturn

theorem State.TurningFrom.turnOne (p : s.TurningFrom u) {x : Nat} (h1 : 1 ≤ x) (h8 : x ≤ 8) :
    s.TurningFrom (s.turnOne u x) := by
  unfold State.turnOne
  split
  next ht =>
    have w := p.workedOn hroom h1 h8 ht
    exact ⟨w.around p.around, w.workKind.trans p.kind, fun k => (w.plan k).trans (p.plan k),
      fun k => (w.headState k).trans (p.states k)⟩
  · exact p

theorem State.turned_from : s.TurningFrom (headNumbers.foldl s.turnOne s.fixed) :=
  foldl_heads_keeps (P := s.TurningFrom) (fun _ _ h1 h8 p => p.turnOne hroom h1 h8) s.fixed
    ⟨.refl _, s.fixed_workKind, fun _ => rfl, fun _ => rfl⟩

/-- What the alignment shows of one head: its own step, made on its items as they were fixed. -/
theorem State.turned_seen {h : Nat} (hlow : 1 ≤ h) (hhigh : h ≤ 8) : ∃ u, s.TurningFrom u ∧ s.fixed.SameHead u h ∧
    (s.turnOne u h).Aside (headNumbers.foldl s.turnOne s.fixed) h :=
  foldl_heads_seen hlow hhigh (fun _ _ h1 h8 p => p.turnOne hroom h1 h8)
    (fun u j p h1 h8 hne => by
      unfold State.turnOne
      split
      next ht => exact (p.workedOn hroom h1 h8 ht).aside h1 hlow hne
      · exact .refl u h) s.fixed ⟨.refl _, s.fixed_workKind, fun _ => rfl, fun _ => rfl⟩

theorem State.turned_unmoved {h : Nat} (hlow : 1 ≤ h) (hhigh : h ≤ 8) (ht : s.turns h = false) :
    (headNumbers.foldl s.turnOne s.fixed).workAt h = s.workAt h := by
  obtain ⟨u, p, hsame, hseen⟩ := State.turned_seen hroom hlow hhigh
  have hfixed := (s.fixed_seen hroom hlow hhigh).2.2.2
  rw [if_neg (by simp [ht])] at hfixed
  refine hseen.items.work.trans (Eq.trans ?_ (hsame.work.trans hfixed))
  unfold State.turnOne
  rw [if_neg (by simp [ht])]

/-- A head whose case is moved: its plan, and the LIFT or the CASE MOVE it is given (R125, R128). -/
theorem State.turned_moved {h : Nat} (hlow : 1 ≤ h) (hhigh : h ≤ 8) (ht : s.turns h = true)
    (hl : (s.linkAt h).lost = false) :
    let t := headNumbers.foldl s.turnOne s.fixed
    (t.workAt h).part = true ∧ (t.workAt h).target = s.change.needle s.colourNow h ∧ (t.workAt h).caseAttempt = 1 ∧
      (s.engagedHead h = true → (t.workAt h).case = .lifting ∧ t.sent ⟨h, .engage ⟨.lift, .idle, false, false⟩⟩) ∧
      ∀ p, s.engagedHead h = false → (s.workAt h).lastKnown = some p → (t.workAt h).case = .moving ∧
        t.sent ⟨h, .caseMove (ringMove p (s.change.needle s.colourNow h)).1
          (ringMove p (s.change.needle s.colourNow h)).2⟩ := by
  intro t
  obtain ⟨u, p, hsame, hseen⟩ := State.turned_seen hroom hlow hhigh
  obtain ⟨-, hhead, hlink, hfixed⟩ := s.fixed_seen hroom hlow hhigh
  rw [if_pos ht] at hfixed
  have hstep : s.turnOne u h = u.liftThenMove h := if_pos ht
  have hwork : u.workAt h = { s.workAt h with
      part := true, target := s.change.needle s.colourNow h, caseAttempt := 1 } := hsame.work.trans hfixed
  have hengaged : u.engagedHead h = s.engagedHead h := State.engagedHead_congr (hsame.head.trans hhead)
  have hlost : (u.linkAt h).lost = false := by
    rw [hsame.link, hlink]
    exact hl
  have hin : h - 1 < u.change.heads.length := work_in (by rw [hwork])
  rw [hstep] at hseen
  have hplan := (p.workedOn hroom hlow hhigh ht).plan h
  rw [← hseen.items.work, hwork] at hplan
  obtain ⟨hpart, htarget, hattempt, -⟩ : (t.workAt h).part = true ∧
      (t.workAt h).target = s.change.needle s.colourNow h ∧ (t.workAt h).caseAttempt = 1 ∧
      (t.workAt h).lastKnown = (s.workAt h).lastKnown := by
    simpa only [HeadWork.plan, Prod.mk.injEq] using hplan
  have hgiven : ∀ (g : HeadWork → HeadWork) (w : BusWork), u.liftThenMove h = (u.modWork h g).issue ⟨h, w⟩ →
      t.workAt h = g (u.workAt h) ∧ t.sent ⟨h, w⟩ := fun g w hform => by
    have hdelivered : ((u.modWork h g).linkAt (⟨h, w⟩ : BusCommand).head).lost = false := hlost
    rw [hform] at hseen
    refine ⟨hseen.items.work.trans ?_, hseen.commands _ rfl (State.sent_issue_same hdelivered)⟩
    unfold State.workAt
    rw [State.issue_change hdelivered]
    exact State.workAt_modWork_same u g hin
  refine ⟨hpart, htarget, hattempt, fun he => ?_, fun p he hp => ?_⟩
  · obtain ⟨hcase, hsent⟩ := hgiven (fun w => { w with case := .lifting }) _ (if_pos (hengaged.trans he))
    exact ⟨by rw [hcase], hsent⟩
  · have hne : p ≠ s.change.needle s.colourNow h := fun heq => by
      unfold State.turns at ht
      have hturn := (Bool.and_eq_true_iff.1 (Bool.and_eq_true_iff.1 ht).2).2
      rw [hp, heq] at hturn
      simp at hturn
    have hmove : u.liftThenMove h = u.caseMoveFrom h p := by
      unfold State.liftThenMove State.caseMove
      rw [if_neg (by rw [hengaged, he]; exact Bool.false_ne_true), hwork, hp]
      exact if_neg hne
    obtain ⟨hcase, hsent⟩ := hgiven (fun w => { w with
      case := .moving, ahead := (ringMove p (u.workAt h).target).1, distance := (ringMove p (u.workAt h).target).2
      caseTimer := none }) _ hmove
    rw [hwork] at hsent
    exact ⟨by rw [hcase], hsent⟩

end Turning

/-- The ring of twelve: the move reaches the target (R119). -/
theorem ringMove_reaches {p q : Nat} (hp : p ≤ 12) (hq : q ≤ 12) :
    (q : Int) % 12 = ((p : Int) + (if (ringMove p q).1 then ((ringMove p q).2 : Int) else -(ringMove p q).2)) % 12 := by
  unfold ringMove
  dsimp only
  by_cases h : (q + 12 - p) % 12 ≤ (p + 12 - q) % 12
  · rw [if_pos h]
    simp only [if_true]
    omega
  · rw [if_neg h]
    simp only [Bool.false_eq_true, if_false]
    omega

end Sys2Proof.Machine

/-!
PROOF. The start sequence (section 1.4; O56): the obligation.
-/

namespace Sys2Proof.Machine
set_option Elab.async false

/-! ## The conditions of the steps -/

section Conditions

variable (s : State)

theorem State.inPatchSet_iff (i h : Nat) : s.inPatchSet i h = true ↔
    ∃ g ∈ s.gaps, g.state = .sewing ∧ g.head = h ∧ g.start ≤ i ∧ i < g.stop.getD s.run.mainCursor := by
  simp only [State.inPatchSet, Gap.selected, Gap.covers, List.any_eq_true, Bool.and_eq_true, beq_iff_eq,
    decide_eq_true_eq, and_assoc]
  rfl

theorem State.alignable_iff (h : Nat) : s.alignable h = true ↔ s.run.pass = .main ∨
    ∃ g ∈ s.gaps, g.state = .sewing ∧ g.head = h ∧ g.start ≤ s.cursor ∧ s.cursor < g.stop.getD s.run.mainCursor := by
  rw [← State.inPatchSet_iff]
  simp [State.alignable]

/-- A head that is in hand, without a fault pending (R128). -/
def State.up (s : State) (h : Nat) : Prop := (s.watchAt h).fault = none ∧
  ((s.headAt h).state = .idle ∨ (s.headAt h).state = .sewing ∨ (s.headAt h).state = .resting ∨ (s.headAt h).state = .patch)

theorem State.aligns_iff (h : Nat) : s.aligns h = true ↔ s.alignable h = true ∧ s.up h := by
  unfold State.aligns State.up
  cases (s.headAt h).state <;> simp

theorem State.turns_iff (h : Nat) : s.turns h = true ↔ s.alignable h = true ∧ s.up h ∧
    s.change.needle s.colourNow h ≠ 0 ∧ ¬ (s.workAt h).lastKnown = some (s.change.needle s.colourNow h) := by
  simp [State.turns, State.aligns_iff, and_assoc]

theorem State.restsNow_iff (h : Nat) : s.restsNow h = true ↔ s.up h ∧ s.change.needle s.colourNow h = 0 ∧
    (s.run.pass = .patch ∨ (s.headAt h).state ≠ .patch) := by
  unfold State.restsNow State.up
  cases (s.headAt h).state with
  | patch =>
    simp only [beq_iff_eq, Bool.and_eq_true, Option.isNone_iff_eq_none]
    tauto
  | _ => simp

theorem State.alignNeeded_iff : s.alignNeeded = true ↔ (∃ h ∈ headNumbers, s.alignable h = true) ∧
    ((∀ h ∈ headNumbers, s.alignable h = true → s.able h = false) ∨ ∃ h ∈ headNumbers, s.alignable h = true ∧
      s.able h = true ∧ ¬ (s.workAt h).lastKnown = some (s.change.needle s.colourNow h)) := by
  have hnone : (headNumbers.filter s.alignable).isEmpty = true ↔ ¬ ∃ h ∈ headNumbers, s.alignable h = true := by
    simp [List.isEmpty_iff, List.filter_eq_nil_iff]
  unfold State.alignNeeded
  dsimp only
  by_cases h : ∃ h ∈ headNumbers, s.alignable h = true
  · rw [if_neg (mt hnone.1 (not_not.2 h))]
    simp only [Bool.or_eq_true, List.isEmpty_iff, List.filter_eq_nil_iff, List.any_eq_true, List.mem_filter, bne_iff_ne,
      and_iff_right h, ne_eq, and_assoc]
    refine or_congr ⟨fun hall x hx ha => ?_, fun hall x hx => ?_⟩ Iff.rfl
    · exact Bool.eq_false_iff.2 (hall x ⟨hx, ha⟩)
    · exact Bool.eq_false_iff.1 (hall x hx.1 hx.2)
  · rw [if_pos (hnone.2 h)]
    simp only [h, false_and, Bool.false_eq_true]

theorem State.casesOver_iff : s.casesOver = true ↔ ∀ h ∈ headNumbers, (s.workAt h).part = true →
    (s.workAt h).case = .arrived ∨ (s.workAt h).case = .resting ∨ (s.workAt h).case = .handedOver := by
  unfold State.casesOver State.participants
  rw [List.all_eq_true]
  refine ⟨fun hall h hh hp => ?_, fun hall h hh => ?_⟩
  · have := hall h (List.mem_filter.2 ⟨hh, hp⟩)
    cases hc : (s.workAt h).case <;> simp_all
  · obtain ⟨hh, hp⟩ := List.mem_filter.1 hh
    rcases hall h hh hp with hc | hc | hc <;> rw [hc]

end Conditions

/-! ## What the alignment is, where no head waits to join -/

section Align

variable {s : State} (hj : s.joinsWaiting = false) (hc : s.run.cause = none)
include hj hc

/-- Step 3 is over: step 4 is due (R14). -/
theorem State.aboutToEngage : s.aboutToRun .stepEngage = (s.enter .arming).doing .dueEngage := by
  unfold State.aboutToRun
  rw [if_neg (by simp [hj])]
  unfold State.afterJoins
  exact if_neg (by simp [hc])

omit hj in
theorem State.beginAlign_none (h : ∀ x ∈ headNumbers, s.aligns x = true → s.change.needle s.colourNow x = 0) :
    s.beginAlign = (s.setRun { s.run with cause := some .noHead }).endStart := by
  have hall : ((headNumbers.filter s.aligns).all fun h => s.change.needle s.colourNow h == 0) = true := by
    rw [List.all_eq_true]
    intro x hx
    obtain ⟨hx, ha⟩ := List.mem_filter.1 hx
    exact beq_iff_eq.2 (h x hx ha)
  unfold State.beginAlign
  dsimp only
  rw [if_pos hall, State.recordCause_eq, hc]
  rfl

end Align

/-! ## A start that ends -/

/-- A start with a cause ends where it came from (R14, R17). -/
theorem State.endStart_of_cause {b s : State} (hrun : b.run = s.run) (hlink : b.link = s.link)
    (hj : b.joinsWaiting = false) {k : StopCause} (hk : s.run.cause = some k) :
    (s.run.startReturn = some .paused → b.passGoesOn = true → b.endStart = (b.setRun { s.run with
      state := .paused, cause := some k, activity := .none, carry := false, stepping := false, stepDone := false
      keepTieIn := false, point := none, startReturn := none, travelReturn := none, warning := false }).setLink
      (s.link.post ⟨.stopped, 0, s.cursor, k.code⟩)) ∧
    (s.run.startReturn = some .idle → b.endStart = ((b.setRun { s.run with
      state := .idle, cause := some k, activity := .none, carry := false, stepping := false, stepDone := false
      keepTieIn := false, point := none, startReturn := none, travelReturn := none, warning := false }).liftAll).setLink
      (s.link.post ⟨.stopped, 0, s.cursor, k.code⟩)) := by
  have hcursor : b.cursor = s.cursor := by
    unfold State.cursor
    rw [hrun]
  have hcode : causeCode b.run.cause = k.code := by
    rw [hrun, hk]
    rfl
  refine ⟨fun hret hp => ?_, fun hret => ?_⟩
  · rw [State.endStart_of_paused (by rw [hrun]; exact hret), State.toPaused_eq hj hp, hlink, hcursor, hcode, hrun, ← hk]
    rfl
  · rw [State.endStart_idle (by rw [hrun]; exact hret) hj, hlink, hcursor, hcode, hrun, ← hk]
    rfl

/-! ## The obligation -/

theorem State.liftAll_quiet {u : State} {l : Link} (ha : u.run.activity = .none) (hr : u.run.state ≠ .running)
    (hs : u.run.state ≠ .stopping) (ht : u.frame.travel = none) (hh : u.frame.homingHeld = true) :
    (u.liftAll.setLink l).advance = none := by
  obtain ⟨hstate, hact, -⟩ := Run.fields_of_bare u.liftAll_bare
  obtain ⟨-, hframe, -⟩ := u.liftAll_keeps
  refine State.advance_of_quiet_parts ?_ ?_ ?_ ?_ ?_
  · rw [State.setLink_run, hact, ha]
  · rw [State.setLink_run, hstate]
    exact hr
  · rw [State.setLink_run, hstate]
    exact hs
  · rw [State.setLink_frame, hframe, ht]
  · rw [State.setLink_frame, hframe, hh]

/-- The first part of O56: the end of the warning hold. -/
theorem holdExpiry_begins (s : State) :
    let run := exec .warningHoldExpiry s
    let still := s.frame.stitch = none ∧ s.frame.x.move = none ∧ s.frame.y.move = none ∧ s.frame.x.offPath = none ∧
      s.frame.y.offPath = none ∧ s.frame.travel = none ∧ s.frame.homing = none ∧ s.link.resetBy = none ∧
      s.passGoesOn = true
    (s.run.activity ≠ .hold → run = .next s) ∧ (s.run.activity = .hold → run = .next s.holdOver.finish) ∧
    (s.run.activity = .hold → s.run.cause = none → still → s.joinsWaiting = false → s.offPath = true →
      s.shaft.state ≠ .referencing → inField s.cfg.machine (s.framePosAt s.cursor) = false →
      (s.run.startReturn = some .paused → s.holdOver.finish = ((s.setRun { s.run with
        state := .paused, cause := some .frameLimit, activity := .none, carry := false, stepping := false
        stepDone := false, keepTieIn := false, point := none, startReturn := none, travelReturn := none
        warning := false }).setLink (s.link.post ⟨.stopped, 0, s.cursor, 7⟩)).pump) ∧
      (s.run.startReturn = some .idle → s.holdOver.finish = (((s.setRun { s.run with
        state := .idle, cause := some .frameLimit, activity := .none, carry := false, stepping := false
        stepDone := false, keepTieIn := false, point := none, startReturn := none, travelReturn := none
        warning := false }).liftAll).setLink (s.link.post ⟨.stopped, 0, s.cursor, 7⟩)).pump)) := by
  intro run still
  refine ⟨fun h => (exec_warningHoldExpiry s).trans (by rw [if_neg h]), fun h => (exec_warningHoldExpiry s).trans (by
    rw [if_pos h]; rfl), fun h hc hstill hj ho hs hout => ?_⟩
  obtain ⟨hst, hx, hy, hox, hoy, ht, hh, hr, hp⟩ := hstill
  let b := s.holdOver.setRun { s.holdOver.run with cause := some .frameLimit }
  obtain ⟨hpaused, hidle⟩ := State.endStart_of_cause (b := b) (s := b) rfl rfl hj (k := .frameLimit) rfl
  have hfirst := State.holdOver_fails ht hh hr ⟨hst, hx, hy, hox, hoy⟩ ho hs hc hout
  have hheld : FrameDrive.homingHeld s.frame = true := by
    unfold FrameDrive.homingHeld
    rw [hh]
  refine ⟨fun hret => ?_, fun hret => ?_⟩
  · rw [hpaused hret hp] at hfirst
    exact State.finish_of_one hfirst
      (State.advance_of_quiet_parts rfl RunState.noConfusion RunState.noConfusion ht hheld)
  · rw [hidle hret] at hfirst
    exact State.finish_of_one hfirst
      (State.liftAll_quiet rfl RunState.noConfusion RunState.noConfusion ht hheld)

/-- Settles O56: the hold, then each step by the activity that is due, seen from the base that it works on. -/
theorem holdExpiryBeginsTheStart : Obligations.HoldExpiryBeginsTheStart := by
  unfold Obligations.HoldExpiryBeginsTheStart
  refine ⟨fun s => ?_, fun s ht hh hshapes hj => ?_⟩
  · intro run still target failed stopped
    obtain ⟨hother, hrun, hfails⟩ := holdExpiry_begins s
    refine ⟨hother, fun hact _ hc hstill hj => ?_⟩
    obtain ⟨hst, hx, hy, hox, hoy, ht, hh, hr, hp⟩ := hstill
    have hexec := hrun hact
    refine ⟨fun ho href hs => ?_, fun ho hs => ?_, fun ho hs => ?_, fun ho hs hin => ?_, fun ho hs hout =>
      ⟨fun hret _ => ?_, fun hret => ?_⟩⟩
    · exact hexec.trans (congrArg _ (State.holdOver_references ht hh hst hr hc hp ho href hs))
    · exact hexec.trans (congrArg _ (State.holdOver_waitsOnPath ht hh hst hr hc hp ho hs))
    · exact hexec.trans (congrArg _ (State.holdOver_waits ht hh hs ho))
    · obtain ⟨t, hfinish, hrest⟩ := State.holdOver_travels ht hh hr ⟨hst, hx, hy, hox, hoy⟩ ho hs hin
      exact ⟨t, hexec.trans (congrArg _ hfinish), hrest⟩
    · exact hexec.trans (congrArg _ ((hfails hact hc ⟨hst, hx, hy, hox, hoy, ht, hh, hr, hp⟩ hj ho hs hout).1 hret))
    · exact hexec.trans (congrArg _ ((hfails hact hc ⟨hst, hx, hy, hox, hoy, ht, hh, hr, hp⟩ hj ho hs hout).2 hret))
  · intro c q member up there needed moves aligned base at_ broken stopped ends sent kept due
    have hadvance : s.advance = s.advanceActivity := State.advance_of_activity ht hh
    have hplain : s.run.activity ≠ .aligning → base = s := fun h => if_neg h
    have haligning : s.run.activity = .aligning → base = s.clearWork := fun h => if_pos h
    have hmember : ∀ h, member h ↔ s.alignable h = true := fun h => (s.alignable_iff h).symm
    have hneeded : needed ↔ s.alignNeeded = true := by
      rw [State.alignNeeded_iff]
      simp only [needed, hmember]
      rfl
    have hover : ∀ h : s.run.activity = .aligning, aligned ↔ s.casesOver = true := fun h => by
      rw [State.casesOver_iff]
      exact and_iff_right h
    obtain ⟨hbrun, hblink, hbjoins, hbpass⟩ : base.run = s.run ∧ base.link = s.link ∧ base.joinsWaiting = false ∧
        base.passGoesOn = s.passGoesOn := by
      by_cases h : s.run.activity = .aligning
      · rw [haligning h]
        exact ⟨rfl, rfl, hj, rfl⟩
      · rw [hplain h]
        exact ⟨rfl, rfl, hj, rfl⟩
    have hdue : due → ∃ next, s.advance = some (base.unlessOver next) := by
      rintro (⟨ha, hr⟩ | ⟨ha, hs⟩ | ha | hal | ha | ⟨ha, hs⟩)
      · rw [hadvance, State.advanceActivity_dueReference ha, hr, hplain (by rw [ha]; exact Activity.noConfusion)]
        exact ⟨_, rfl⟩
      · rw [hadvance, State.advanceActivity_referencing ha, if_pos hs, hplain (by rw [ha]; exact Activity.noConfusion)]
        exact ⟨_, rfl⟩
      · rw [hadvance, State.advanceActivity_dueAlign ha, hplain (by rw [ha]; exact Activity.noConfusion)]
        exact ⟨_, rfl⟩
      · rw [hadvance, State.advanceActivity_aligning hal.1, if_pos ((hover hal.1).1 hal), haligning hal.1]
        exact ⟨_, rfl⟩
      · rw [hadvance, State.advanceActivity_dueEngage ha, hplain (by rw [ha]; exact Activity.noConfusion)]
        exact ⟨_, rfl⟩
      · rw [hadvance, State.advanceActivity_engaging ha, hs, hplain (by rw [ha]; exact Activity.noConfusion)]
        exact ⟨_, rfl⟩
    refine ⟨fun k hd hk => ?_, fun hd hc hp => ?_, fun hc hp => ⟨fun ha hr hs href => ?_, fun ha => ?_, fun ha =>
      ⟨fun hnot => ?_, fun hn hall => ?_, fun hn hsome => ?_⟩, fun ha => ⟨fun hnot => ?_, fun hal => ?_⟩, fun ha => ?_⟩⟩
    · obtain ⟨next, hnext⟩ := hdue hd
      have hends : base.unlessOver next = base.endStart := if_pos (by rw [hbrun, hk]; rfl)
      rw [hends] at hnext
      obtain ⟨hpaused, hidle⟩ := State.endStart_of_cause hbrun hblink hbjoins hk
      exact ⟨fun hret hpass => hnext.trans (congrArg some (hpaused hret (hbpass.trans hpass))),
        fun hret => hnext.trans (congrArg some (hidle hret))⟩
    · obtain ⟨next, hnext⟩ := hdue hd
      rw [hnext]
      refine congrArg some ((if_neg (by rw [hbrun, hc]; exact Bool.false_ne_true)).trans (if_pos ?_))
      exact State.patchOver_of_over (hbpass.trans hp)
    · show s.advance = some (base.setRun { s.run with state := s.run.state, activity := .dueAlign })
      rw [hplain (by rw [ha]; exact Activity.noConfusion), hadvance, State.advanceActivity_dueReference ha, hr,
        State.unlessOver_of_goesOn hc hp]
      unfold State.stepReference
      rw [if_neg hs, if_pos href]
      rfl
    · show s.advance = if s.shaft.state = .atRest then
        some (base.setRun { s.run with state := s.run.state, activity := .dueAlign }) else none
      rw [hplain (by rw [ha]; exact Activity.noConfusion), hadvance, State.advanceActivity_referencing ha,
        State.unlessOver_of_goesOn hc hp]
      rfl
    · show s.advance = some (base.setRun { s.run with state := .arming, activity := .dueEngage })
      rw [hplain (by rw [ha]; exact Activity.noConfusion), hadvance, State.advanceActivity_dueAlign ha,
        State.unlessOver_of_goesOn hc hp]
      unfold State.stepAlign
      rw [if_neg (mt hneeded.2 hnot), State.aboutToEngage hj hc]
      rfl
    · have hnone : s.beginAlign = (s.setRun { s.run with cause := some .noHead }).endStart :=
        State.beginAlign_none hc fun x hx halign => by
          obtain ⟨hm, hup⟩ := (s.aligns_iff x).1 halign
          exact hall x hx ((hmember x).2 hm) hup
      have hnext : s.advance = some (s.setRun { s.run with cause := some .noHead }).endStart := by
        rw [hadvance, State.advanceActivity_dueAlign ha, State.unlessOver_of_goesOn hc hp]
        unfold State.stepAlign
        rw [if_pos (hneeded.1 hn), hnone]
      obtain ⟨hpaused, hidle⟩ := State.endStart_of_cause (b := s.setRun { s.run with cause := some .noHead })
        (s := s.setRun { s.run with cause := some .noHead }) rfl rfl hj (k := .noHead) rfl
      refine ⟨fun hret hpass => ?_, fun hret => ?_⟩
      · show s.advance = some ((base.setRun _).setLink _)
        rw [hplain (by rw [ha]; exact Activity.noConfusion), hnext, hpaused hret hpass]
        rfl
      · show s.advance = some (((base.setRun _).liftAll).setLink _)
        rw [hplain (by rw [ha]; exact Activity.noConfusion), hnext, hidle hret]
        rfl
    · have hroom : s.change.heads.length = 8 := (State.roomy_of_shapes hshapes).2.2.1
      have hturns : ∀ h, moves h ↔ s.turns h = true := fun h => by
        rw [State.turns_iff, ← hmember]
        rfl
      obtain ⟨x, hx, hm, hup, hq⟩ := hsome
      have hbegin := State.beginAlign_turns (s := s) ⟨x, hx, (s.aligns_iff x).2 ⟨(hmember x).1 hm, hup⟩, hq⟩
      have hnext : s.advance = some (headNumbers.foldl s.turnOne s.fixed) := by
        rw [hadvance, State.advanceActivity_dueAlign ha, State.unlessOver_of_goesOn hc hp, ← hbegin]
        exact congrArg some (if_pos (hneeded.1 hn))
      have hfrom := State.turned_from hroom
      have haround := (s.fixed_seen hroom (h := 1) (by decide) (by decide)).1.trans hfrom.around
      refine ⟨_, hnext, ⟨haround.frame, haround.shaft, haround.link, haround.monitor, haround.gaps, haround.store,
        haround.gov, haround.cfg⟩, hfrom.kind, haround.run, fun h hlow hhigh => ⟨?_, fun hstay => ?_, fun hmove hl => ?_⟩⟩
      · rw [hfrom.states h, (s.fixed_seen hroom hlow hhigh).2.1]
      · exact State.turned_unmoved hroom hlow hhigh (Bool.eq_false_iff.2 (mt (hturns h).2 hstay))
      · obtain ⟨hpart, htarget, hattempt, hlifted, hmoved⟩ := State.turned_moved hroom hlow hhigh ((hturns h).1 hmove) hl
        refine ⟨hpart, htarget, hattempt, hlifted, fun p he hp hp12 hq12 => ?_⟩
        obtain ⟨hcase, hsent⟩ := hmoved p he hp
        exact ⟨hcase, _, _, hsent, ringMove_reaches hp12 hq12⟩
    · rw [hadvance, State.advanceActivity_aligning ha, if_neg (mt (hover ha).2 hnot)]
    · show s.advance = some (base.setRun { s.run with state := .arming, activity := .dueEngage })
      rw [haligning ha, hadvance, State.advanceActivity_aligning ha, if_pos ((hover ha).1 hal),
        State.unlessOver_of_goesOn (s := s.clearWork) hc hp, State.aboutToEngage (s := s.clearWork.enter .arming) hj hc]
      rfl
    · intro sews rests
      have hrests : ∀ h, rests h ↔ s.alignable h = true ∧ s.restsNow h = true := fun h => by
        rw [State.restsNow_iff, ← hmember]
        rfl
      have hnext : s.advance = some s.stepEngage := by
        rw [hadvance, State.advanceActivity_dueEngage ha, State.unlessOver_of_goesOn hc hp]
      have haround := (s.stepEngage_seen (h := 1) (by decide) (by decide)).1
      refine ⟨_, hnext, ⟨haround.frame, haround.shaft, haround.link, haround.monitor, haround.gaps, haround.store,
        haround.gov, haround.cfg⟩, haround.run, fun h hlow hhigh => ?_⟩
      obtain ⟨hneedle, hable, hlift, hrest, hout, hidle, hpass⟩ := s.stepEngage_head hlow hhigh
      have hunable : ∀ {h}, s.restsNow h = true → s.able h = false := fun {h} hr => by
        have hzero := ((s.restsNow_iff h).1 hr).2.1
        simp [State.able, State.ableFor, hzero]
      have hmain : ∀ {h}, ¬ member h → s.alignable h = false := fun {h} hn => Bool.eq_false_iff.2 (mt (hmember h).2 hn)
      refine ⟨hneedle, fun hm => hable ((hmember h).1 hm), fun hr he => ?_, fun hr he => ?_,
        fun hn => hout (hmain hn), fun hn => hidle (hmain hn), fun hm hab hnr => ?_⟩
      · obtain ⟨hm, hr⟩ := (hrests h).1 hr
        exact hlift hm (hunable hr) hr he
      · obtain ⟨hm, hr⟩ := (hrests h).1 hr
        exact hrest hm (hunable hr) hr he
      · refine hpass ((hmember h).1 hm) hab (Bool.eq_false_iff.2 fun hr => hnr ((hrests h).2 ⟨(hmember h).1 hm, hr⟩))

end Sys2Proof.Machine

/-!
PROOF. The crossings of a revolution that sews (sections 1.3, 3.6, 4.3, 5.2; O49): the parts that they are made of.
-/

namespace Sys2Proof.Machine
set_option Elab.async false

/-! ## The cursor passes one record -/

theorem State.setShaft_pace (s : State) (u : Shaft) : (s.setShaft u).pace = s.pace.setShaft u := by
  show (if s.store.design = .loading then _ else _) = _
  unfold State.pace
  split
  · show (if min (s.pacingTarget - s.store.granted) (s.store.freeCount - s.store.granted) = 0 then _ else _) = _
    dsimp only
    split <;> rfl
  · rfl

theorem State.setShaft_release (s : State) (u : Shaft) : (s.setShaft u).release = s.release.setShaft u := by
  show (if s.store.slots.any s.releasable = true then (s.releaseSlots.setShaft u).pace else _) = _
  unfold State.release
  split
  · exact State.setShaft_pace _ u
  · rfl

theorem State.setShaft_advanceCursor (s : State) (u : Shaft) :
    (s.setShaft u).advanceCursor = s.advanceCursor.setShaft u := by
  have hpatch : ∀ i, (s.setShaft u).movePatch i = (s.movePatch i).setShaft u := fun i => by
    let v := (s.setRun { s.run with patchCursor := some i }).refreshSlots
    show (if (s.store.blockOf (s.run.patchCursor.getD s.run.mainCursor) != s.store.blockOf i) = true
      then (v.setShaft u).release else v.setShaft u) = (if _ then v.release else v).setShaft u
    split
    · exact State.setShaft_release v u
    · rfl
  have hmain : ∀ i, (s.setShaft u).moveMain i = (s.moveMain i).setShaft u := fun i => by
    let v := (s.setRun { s.run with mainCursor := i }).refreshSlots
    show (if s.store.entersBlock s.run.mainCursor i = true then (v.releaseSlots.setShaft u).pace else v.setShaft u) =
      (if _ then v.releaseSlots.pace else v).setShaft u
    split
    · exact State.setShaft_pace v.releaseSlots u
    · rfl
  show (if s.run.pass = .patch then (s.setShaft u).movePatch (s.cursor + 1)
    else (s.setShaft u).moveMain (s.run.mainCursor + 1)) = _
  unfold State.advanceCursor
  split
  · exact hpatch _
  · exact hmain _

/-- The run when the cursor has passed a record (R4). -/
def State.runPast (s : State) : Run := { s.run with
  mainCursor := if s.run.pass = .patch then s.run.mainCursor else s.run.mainCursor + 1
  patchCursor := if s.run.pass = .patch then some (s.cursor + 1) else s.run.patchCursor }

/-- A state whose cursor has passed a record, with all that stays. -/
structure State.Passed (s t : State) : Prop where
  run : t.run = s.runPast
  gov : t.gov = s.gov
  frame : t.frame = s.frame
  shaft : t.shaft = s.shaft
  bus : t.bus = s.bus
  change : t.change = s.change
  monitor : t.monitor = s.monitor
  gaps : t.gaps = s.gaps
  cfg : t.cfg = s.cfg
  link : t.link.SameButGrant s.link
  filledEnd : t.store.filledEnd = s.store.filledEnd

theorem State.advanceCursor_passed (s : State) : s.Passed s.advanceCursor := by
  obtain ⟨hgov, hframe, hshaft, hbus, hchange, hmonitor, hgaps, hcfg, -⟩ := s.advanceCursor_keeps
  have hpatch : ∀ i, (s.movePatch i).store.filledEnd = s.store.filledEnd := fun i => by
    unfold State.movePatch
    dsimp only
    split
    · exact State.release_filledEnd _
    · rfl
  have hlink : ∀ i, (s.moveMain i).link.SameButGrant s.link := fun i => by
    unfold State.moveMain
    dsimp only
    split
    · exact State.pace_link _
    · exact ⟨_, rfl⟩
  have hrest : s.advanceCursor.run = s.runPast ∧ s.advanceCursor.link.SameButGrant s.link ∧
      s.advanceCursor.store.filledEnd = s.store.filledEnd := by
    unfold State.advanceCursor State.runPast
    by_cases hp : s.run.pass = .patch
    · obtain ⟨hrun, -, -, -, -, -, -, -, -, hl⟩ := s.movePatch_blocks (s.cursor + 1)
      simp only [if_pos hp]
      exact ⟨hrun, hl, hpatch _⟩
    · simp only [if_neg hp]
      exact ⟨(s.moveMain_cursorAt _).1.run, hlink _, (s.moveMain_cursorAt _).1.filledEnd⟩
  exact ⟨hrest.1, hgov, hframe, hshaft, hbus, hchange, hmonitor, hgaps, hcfg, hrest.2.1, hrest.2.2⟩

theorem State.Passed.cursor {s t : State} (h : s.Passed t) : t.cursor = s.cursor + 1 := by
  unfold State.cursor
  rw [h.run]
  unfold State.runPast
  by_cases hp : s.run.pass = .patch
  · simp only [if_pos hp, Option.getD_some]
    unfold State.cursor
    rw [if_pos hp]
  · simp only [if_neg hp]

/-! ## Effect records at the cursor (R7) -/

/-- No effect record stands at the cursor that is to be passed. -/
theorem State.passEffects_of_none {s : State} (h : s.stopKindAt s.cursor = none →
    ∀ r, s.store.recordAt s.cursor = some r → s.isEffect r = false) : s.passEffects = s := by
  unfold State.passEffects
  cases s.store.filledEnd - s.cursor with
  | zero => rfl
  | succ n =>
    unfold State.passUpTo
    by_cases hs : s.stopKindAt s.cursor = none
    · rw [if_neg (by simp [hs])]
      cases hr : s.store.recordAt s.cursor with
      | none => rfl
      | some r =>
        dsimp only
        rw [h hs r hr]
        rfl
    · exact if_pos (Option.isSome_iff_ne_none.2 hs)

/-- An effect record at the cursor is passed, and the rest as from the next one. -/
theorem State.passEffects_of_effect {s : State} {r : DesignRecord} (hs : s.stopKindAt s.cursor = none)
    (hr : s.store.recordAt s.cursor = some r) (he : s.isEffect r = true) (hc : s.cursor < s.store.filledEnd) :
    s.passEffects = s.advanceCursor.passEffects := by
  have hpassed := s.advanceCursor_passed
  have hcount : s.store.filledEnd - s.cursor =
      s.advanceCursor.store.filledEnd - s.advanceCursor.cursor + 1 := by
    rw [hpassed.filledEnd, hpassed.cursor]
    omega
  rw [State.passEffects, hcount, State.passUpTo, if_neg (by simp [hs]), hr]
  exact if_pos he

theorem State.isEffect_of_motion {s : State} {r : DesignRecord} (h : (motionOf r).isSome = true) :
    s.isEffect r = false := by
  obtain ⟨dx, dy, -, hr⟩ := motion_record_iff h
  rw [hr]
  split <;> rfl

/-- A SPEED record, or a MARK that stops nothing (R7). -/
theorem State.isEffect_of_passed {s : State} {i : Nat} {r : DesignRecord} (hs : s.stopKindAt i = none)
    (hr : s.store.recordAt i = some r) (h : (∃ limit, r = .speed limit) ∨ (∃ label, r = .mark label)) :
    s.isEffect r = true := by
  obtain ⟨limit, rfl⟩ | ⟨label, rfl⟩ := h
  · rfl
  · have hrecord : s.recordStop i (.mark label) = none := by
      unfold State.stopKindAt at hs
      rw [hr] at hs
      by_cases h1 : s.run.pass = .patch ∧ s.patchStop i = true
      · rw [if_pos h1] at hs
        cases hs
      · rw [if_neg h1] at hs
        by_cases h2 : s.run.pass = .main ∧ s.run.point = some i
        · rw [if_pos h2] at hs
          cases hs
        · rwa [if_neg h2] at hs
    have hmark : s.run.mark ≠ some label := fun h => by
      have : s.recordStop i (.mark label) = some (.mark label) := if_pos h
      rw [this] at hrecord
      cases hrecord
    exact bne_iff_ne.2 hmark

/-! ## The stop order of a running shaft (R89) -/

theorem State.orderStop_running {s : State} (h : s.shaft.state = .running) (hold : Bool) : s.orderStop hold =
    (s.setShaft { s.shaft with state := .stopping, hold := hold }).setBus { s.bus with restTimer := none } := by
  unfold State.orderStop
  rw [if_pos h]
  rfl

/-! ## The Open angle, as it is decided (R5, R18, R21, R61) -/

/-- The motion record at the cursor, taken up. -/
theorem State.openDecide_begins {s : State} {r : DesignRecord} (hstep : s.run.stepDone = false)
    (hgo : ¬ (s.run.state = .stopping ∧ s.gov.last = some s.cfg.speeds.crawl)) (hs : s.stopKindAt s.cursor = none)
    (hr : s.store.recordAt s.cursor = some r) (hm : (motionOf r).isSome = true) : s.openDecide =
      if s.cfg.heldRecord r then ((s.beginRecord r).takeSpeed).orderStop true else (s.beginRecord r).takeSpeed := by
  have hpass : s.passEffects = s := State.passEffects_of_none fun _ r' hr' => by
    rw [hr] at hr'
    exact Option.some.inj hr' ▸ State.isEffect_of_motion hm
  unfold State.openDecide
  rw [if_neg (by simp [hstep])]
  dsimp only
  rw [hpass, if_neg hgo, if_neg (by simp [hs]), hr]

/-- A stop is ordered. -/
theorem State.openDecide_stops {s : State} (h : s.run.stepDone = true ∨ s.stopKindAt s.cursor ≠ none ∨
    (s.run.state = .stopping ∧ s.gov.last = some s.cfg.speeds.crawl ∧
      ∃ r, s.store.recordAt s.cursor = some r ∧ (motionOf r).isSome = true)) : s.openDecide = s.orderStop false := by
  unfold State.openDecide
  by_cases hstep : s.run.stepDone = true
  · exact if_pos hstep
  · rw [if_neg hstep]
    have hpass : s.passEffects = s := State.passEffects_of_none fun hs r hr => by
      obtain h | h | ⟨-, -, r', hr', hm⟩ := h
      · exact absurd h hstep
      · exact absurd hs h
      · rw [hr] at hr'
        exact Option.some.inj hr' ▸ State.isEffect_of_motion hm
    dsimp only
    rw [hpass]
    by_cases hgo : s.run.state = .stopping ∧ s.gov.last = some s.cfg.speeds.crawl
    · exact if_pos hgo
    · obtain h | h | ⟨h1, h2, -⟩ := h
      · exact absurd h hstep
      · rw [if_neg hgo]
        exact if_pos (Option.isSome_iff_ne_none.2 h)
      · exact absurd ⟨h1, h2⟩ hgo

/-- An effect record is passed first. -/
theorem State.openDecide_passes {s : State} {r : DesignRecord} (hstep : s.run.stepDone = false)
    (hs : s.stopKindAt s.cursor = none) (hr : s.store.recordAt s.cursor = some r) (he : s.isEffect r = true)
    (hc : s.cursor < s.store.filledEnd) : s.openDecide = s.advanceCursor.openDecide := by
  have hstep' : s.advanceCursor.run.stepDone = false := by
    rw [s.advanceCursor_passed.run]
    exact hstep
  rw [State.openDecide, State.openDecide, if_neg (ne_true_of_eq_false hstep), if_neg (ne_true_of_eq_false hstep'),
    State.passEffects_of_effect hs hr he hc]

/-! ## Which angles a count crosses -/

theorem State.closeAction_shaft (s : State) : s.closeAction.shaft = s.shaft := by
  unfold State.closeAction
  split
  · split
    · split
      · split
        · exact (State.penetrate_keeps _ _).2.1
        · rfl
      · exact (State.penetrate_keeps _ _).2.1
    · rfl
  · rfl

section Crossed

variable {s : State} {a : Nat} (h0 : a ≠ 0) (hpoll : a ≠ s.cfg.pollAngle)
include h0 hpoll

/-- The Open angle alone is crossed. -/
theorem State.crossings_of_open (hopen : a = s.shaft.openAngle) (hseen : s.shaft.seenOpen = false)
    (hlate : a ≠ lateAngle s.shaft.closeAngle) (hclose : a ≠ s.shaft.closeAngle) :
    s.crossings a = (s.setShaft { s.shaft with seenOpen := true }).openAction := by
  rw [State.crossings_eq, State.crossTdc_of_ne h0, State.crossPoll_of_seen (fun h => absurd h hpoll),
    State.crossLate_of_seen (fun h => absurd h hlate), State.crossClose_of_seen (fun h => absurd h hclose)]
  exact if_pos ⟨hopen, hseen⟩

/-- The late angle alone is crossed, by a shaft that was not braked. -/
theorem State.crossings_of_late (hlate : a = lateAngle s.shaft.closeAngle) (hseen : s.shaft.seenLate = false)
    (hcoast : s.shaft.coasting = false) (hopen : a ≠ s.shaft.openAngle) :
    s.crossings a = (s.setShaft { s.shaft with seenLate := true }).judgeLate := by
  have hcross : s.crossLate a s.shaft.coasting = (s.setShaft { s.shaft with seenLate := true }).judgeLate := by
    rw [hcoast]
    exact if_pos ⟨hlate, hseen⟩
  have hangles : (s.crossLate a s.shaft.coasting).shaft.closeAngle = s.shaft.closeAngle ∧
      (s.crossLate a s.shaft.coasting).shaft.openAngle = s.shaft.openAngle := by
    rw [hcross]
    rcases (s.setShaft { s.shaft with seenLate := true }).judgeLate_shaft with h' | h' <;> rw [h'] <;> exact ⟨rfl, rfl⟩
  rw [State.crossings_eq, State.crossTdc_of_ne h0, State.crossPoll_of_seen (fun h => absurd h hpoll),
    State.crossClose_of_seen (fun h => absurd (hlate.symm.trans (h.trans hangles.1)) (lateAngle_ne _)),
    State.crossOpen_of_seen (fun h => absurd (h.trans hangles.2) hopen), hcross]

/-- The Close angle alone is crossed. -/
theorem State.crossings_of_close (hclose : a = s.shaft.closeAngle) (hseen : s.shaft.seenClose = false)
    (hopen : s.shaft.openAngle ≠ s.shaft.closeAngle) :
    s.crossings a = (s.setShaft { s.shaft with seenClose := true }).closeAction := by
  have hcross : s.crossClose a = (s.setShaft { s.shaft with seenClose := true }).closeAction := if_pos ⟨hclose, hseen⟩
  have hangle : (s.crossClose a).shaft.openAngle = s.shaft.openAngle := by
    rw [hcross, State.closeAction_shaft]
    rfl
  rw [State.crossings_eq, State.crossTdc_of_ne h0, State.crossPoll_of_seen (fun h => absurd h hpoll),
    State.crossLate_of_seen (fun h => absurd (hclose.symm.trans h).symm (lateAngle_ne _)),
    State.crossOpen_of_seen (fun h => absurd ((h.trans hangle).symm.trans hclose) hopen), hcross]

end Crossed

/-! ## The commanded speed of a held STITCH (R59, R63) -/

theorem le_lookBound_iff {d m c : Nat} {w : List WindowEntry} :
    c ≤ lookBound d m w ↔ c ≤ m ∧ ∀ e ∈ w, c ≤ e.bound + e.distance * d := by
  unfold lookBound
  induction w generalizing m with
  | nil => simp
  | cons e w ih =>
    rw [List.foldl_cons, ih, le_min_iff, List.forall_mem_cons, and_assoc]

theorem State.crawl_le_effectiveCeiling (s : State) : s.cfg.speeds.crawl ≤ s.effectiveCeiling := le_max_left _ _

/-- At a bound of crawl the commanded speed is crawl. -/
theorem State.speedFrom_crawl (s : State) (hlast : ∀ p, s.gov.last = some p → s.cfg.speeds.crawl ≤ p) :
    s.speedFrom s.cfg.speeds.crawl s.effectiveCeiling = s.cfg.speeds.crawl := by
  have hceiling := s.crawl_le_effectiveCeiling
  unfold State.speedFrom
  cases hl : s.gov.last with
  | none => rfl
  | some p =>
    have hp := hlast p hl
    dsimp only
    split_ifs <;> omega

theorem State.crawl_le_boundAt (s : State) (i : Nat) : s.cfg.speeds.crawl ≤ s.boundAt i := by
  unfold State.boundAt
  split
  · unfold Settings.recordBound
    split
    · exact le_max_left _ _
    · exact le_rfl
  · exact le_rfl

theorem State.crawl_le_window (s : State) (n : Nat) : ∀ i dist, ∀ e ∈ s.windowFrom n i dist,
    s.cfg.speeds.crawl ≤ e.bound := by
  induction n with
  | zero => nofun
  | succ n ih =>
    intro i dist e he
    unfold State.windowFrom at he
    cases ho : s.outlook (i + 1) with
    | stop =>
      rw [ho] at he
      rw [List.mem_singleton.1 he]
    | nothing =>
      rw [ho] at he
      rw [List.mem_singleton.1 he]
      exact s.crawl_le_boundAt i
    | motion j held =>
      rw [ho] at he
      obtain rfl | he := List.mem_cons.1 he
      · dsimp only
        split
        · exact le_rfl
        · exact s.crawl_le_boundAt i
      · exact ih _ _ e he

/-- The window of a computation opens with the bound of its record, or crawl. -/
theorem State.windowAt_head (s : State) (i : Nat) : ∃ e l, s.windowAt i = e :: l ∧ e.distance = 0 ∧
    (e.bound = s.cfg.speeds.crawl ∨ e.bound = s.boundAt i) := by
  unfold State.windowAt
  rw [show Config.windowSize = 15 + 1 from rfl, State.windowFrom]
  cases s.outlook (i + 1) with
  | stop => exact ⟨_, _, rfl, rfl, .inl rfl⟩
  | nothing => exact ⟨_, _, rfl, rfl, .inr rfl⟩
  | motion j held =>
    refine ⟨_, _, rfl, rfl, ?_⟩
    dsimp only
    split
    · exact .inl rfl
    · exact .inr rfl

theorem WindowEntry.keeping_bound (e : WindowEntry) (old : List WindowEntry) : (e.keeping old).distance = e.distance ∧
    (e.keeping old).bound ≤ e.bound ∧
    ∀ c, c ≤ e.bound → (∀ k ∈ old, c ≤ k.bound) → c ≤ (e.keeping old).bound := by
  unfold WindowEntry.keeping
  cases hf : old.find? (fun k => k.index == e.index) with
  | none => exact ⟨rfl, le_rfl, fun c h _ => h⟩
  | some k => exact ⟨rfl, min_le_right _ _, fun c h h' => le_min (h' k (List.mem_of_find?_eq_some hf)) h⟩

/-- At a held STITCH the lookahead bound is crawl (R52, R55). -/
theorem State.lookBound_held {s : State} {i : Nat} {old : List WindowEntry} (hb : s.boundAt i = s.cfg.speeds.crawl)
    (hmax : s.cfg.speeds.crawl ≤ s.cfg.speeds.maxSpeed) (hold : ∀ k ∈ old, s.cfg.speeds.crawl ≤ k.bound) :
    lookBound s.cfg.speeds.decel s.cfg.speeds.maxSpeed ((s.windowAt i).map (fun e => e.keeping old)) =
      s.cfg.speeds.crawl := by
  refine Nat.le_antisymm ?_ (le_lookBound_iff.2 ⟨hmax, fun e he => ?_⟩)
  · obtain ⟨e, l, hw, hdist, hbound⟩ := s.windowAt_head i
    obtain ⟨hd, hle, -⟩ := e.keeping_bound old
    have hfirst := (le_lookBound_iff.1 (le_refl (lookBound s.cfg.speeds.decel s.cfg.speeds.maxSpeed
      ((s.windowAt i).map (fun e => e.keeping old))))).2 (e.keeping old) (by rw [hw]; simp)
    rw [hd, hdist, Nat.zero_mul, Nat.add_zero] at hfirst
    have hcrawl : e.bound = s.cfg.speeds.crawl := hbound.elim id (fun h => h.trans hb)
    omega
  · obtain ⟨f, hf, rfl⟩ := List.mem_map.1 he
    obtain ⟨-, -, hle⟩ := f.keeping_bound old
    exact le_trans (hle _ (s.crawl_le_window _ _ _ f hf) hold) (Nat.le_add_right _ _)

/-- The record bound of a held STITCH is crawl (R52). -/
theorem State.boundAt_held {s : State} {i : Nat} {dx dy : Int} (hr : s.store.recordAt i = some (.stitch dx dy))
    (hheld : s.cfg.heldIndex (moveIndex dx dy) = true) : s.boundAt i = s.cfg.speeds.crawl := by
  have hlow : s.cfg.timeBound (moveIndex dx dy) true < s.cfg.speeds.crawl := of_decide_eq_true hheld
  rw [State.boundAt_of_motion hr rfl, show isStitch (.stitch dx dy) = true from rfl]
  omega

end Sys2Proof.Machine

/-!
PROOF. The crossings of a revolution that sews (sections 1.3, 3.6, 4.3, 5.2; O49): the obligation.
-/

namespace Sys2Proof.Machine
set_option Elab.async false

theorem State.sameRecords_setShaft (s : State) (u : Shaft) : s.SameRecords (s.setShaft u) := ⟨rfl, rfl, rfl, rfl, rfl⟩

/-! ## The move of the motion record at the cursor (R5, R59) -/

/-- The state in which the move of a motion record has begun, at a shaft that turns for the run. -/
def State.movingNow (s : State) (dx dy : Int) (jump : Bool) (window : List WindowEntry) (bound speed : Nat) : State :=
  ((s.setGov { s.gov with last := some speed, bound := some bound, window := window }).setFrame
    { s.frame with
      x := s.frame.x.begin s.cfg.machine.kX .stitch dx, y := s.frame.y.begin s.cfg.machine.kY .stitch dy
      stitch := some ⟨moveIndex dx dy, jump, s.cursor, false⟩ }).setRun { s.run with carry := true }

/-- The shaft that takes the commanded speed, and the JUMP reason with a JUMP (R88). -/
def Shaft.takes (u : Shaft) (speed : Nat) (jump : Bool) : Shaft :=
  { u with speed := speed, lockout := { u.lockout with jump := u.lockout.jump || jump } }

theorem State.beginRecord_takeSpeed {s : State} {u : Shaft} (hu : u.state.pollsByAngle = true) (dx dy : Int)
    (jump : Bool) :
    let window := (s.windowAt s.cursor).map (fun e => e.keeping s.gov.window)
    let bound := lookBound s.cfg.speeds.decel s.cfg.speeds.maxSpeed window
    let speed := s.speedFrom bound s.effectiveCeiling
    ((s.setShaft u).beginRecord (if jump then .jump dx dy else .stitch dx dy)).takeSpeed =
      (s.movingNow dx dy jump window bound speed).setShaft (u.takes speed jump) := by
  have hwindow : (s.setShaft u).windowKept (s.setShaft u).cursor =
      (s.windowAt s.cursor).map (fun e => e.keeping s.gov.window) := by
    have hat := (s.sameRecords_setShaft u).windowAt s.cursor
    unfold State.windowKept
    rw [show (s.setShaft u).shaft.state.pollsByAngle = true from hu, if_pos rfl]
    exact congrArg (List.map _) hat
  dsimp only
  have hcompute : (s.setShaft u).computeSpeed (s.setShaft u).cursor = (s.setShaft u).setGov { s.gov with
      window := (s.windowAt s.cursor).map (fun e => e.keeping s.gov.window)
      bound := some (lookBound s.cfg.speeds.decel s.cfg.speeds.maxSpeed
        ((s.windowAt s.cursor).map (fun e => e.keeping s.gov.window)))
      last := some (s.speedFrom (lookBound s.cfg.speeds.decel s.cfg.speeds.maxSpeed
        ((s.windowAt s.cursor).map (fun e => e.keeping s.gov.window))) s.effectiveCeiling) } := by
    unfold State.computeSpeed
    rw [hwindow]
    rfl
  unfold State.beginRecord
  cases jump with
  | false =>
    dsimp only [motionOf]
    rw [hcompute]
    unfold Shaft.takes
    rw [Bool.or_false]
    rfl
  | true =>
    dsimp only [motionOf]
    rw [hcompute]
    unfold Shaft.takes
    rw [Bool.or_true]
    rfl

/-! ## The Close angle (R5, R168) -/

/-- The run when a record has been executed. -/
def State.runExecuted (s : State) (r : DesignRecord) : Run := { s.runPast with
  carry := false, stepDone := s.run.stepping, tieIn := if isStitch r then s.run.tieIn - 1 else s.run.tieIn }

/-- The state in which the cursor has passed the record executed. -/
def State.executed (s : State) (r : DesignRecord) : State := s.advanceCursor.setRun (s.runExecuted r)

theorem State.penetrate_eq (s : State) (r : DesignRecord) :
    s.penetrate r = (s.executed r).refreshWindow.countProgress s.cursor := by
  have hrun : s.advanceCursor.run = s.runPast := s.advanceCursor_passed.run
  have hexecuted : s.advanceCursor.setRun { s.advanceCursor.run with
      carry := false, stepDone := s.advanceCursor.run.stepping
      tieIn := if isStitch r then s.advanceCursor.run.tieIn - 1 else s.advanceCursor.run.tieIn } = s.executed r := by
    rw [hrun]
    rfl
  exact congrArg (fun t : State => t.refreshWindow.countProgress s.cursor) hexecuted

theorem State.countProgress_link (s : State) (i : Nat) :
    (s.countProgress i).link.progressCount = (if s.cfg.progressPeriod = 0 then s.link.progressCount
      else if s.link.progressCount + 1 < s.cfg.progressPeriod then s.link.progressCount + 1 else 0) ∧
    (s.countProgress i).link.progress =
      (if s.cfg.progressPeriod = 0 ∨ s.link.progressCount + 1 < s.cfg.progressPeriod then s.link.progress
      else some ⟨i, s.gov.last.getD 0, (s.stampAt s.cursor).pos, s.run.pass⟩) := by
  unfold State.countProgress
  by_cases h0 : s.cfg.progressPeriod = 0
  · rw [if_pos h0, if_pos h0, if_pos (.inl h0)]
    exact ⟨rfl, rfl⟩
  · rw [if_neg h0, if_neg h0]
    by_cases hn : s.link.progressCount + 1 < s.cfg.progressPeriod
    · dsimp only
      rw [if_pos hn, if_pos hn, if_pos (.inr hn)]
      exact ⟨rfl, rfl⟩
    · dsimp only
      rw [if_neg hn, if_neg hn, if_neg (not_or.2 ⟨h0, hn⟩)]
      exact ⟨rfl, rfl⟩

/-- What an executed record leaves (R5, R11, R21, R53, R168). -/
structure State.Executes (s : State) (r : DesignRecord) (t : State) : Prop where
  run : t.run = s.runExecuted r
  frame : t.frame = s.frame
  shaft : t.shaft = s.shaft
  gov : t.gov = { s.gov with window := (t.setGov s.gov).windowNow }
  gaps : t.gaps = s.gaps
  monitor : t.monitor = s.monitor
  change : t.change = s.change
  cfg : t.cfg = s.cfg
  filledEnd : t.store.filledEnd = s.store.filledEnd
  progressCount : t.link.progressCount = (if s.cfg.progressPeriod = 0 then s.link.progressCount
    else if s.link.progressCount + 1 < s.cfg.progressPeriod then s.link.progressCount + 1 else 0)
  progress : t.link.progress = (if s.cfg.progressPeriod = 0 ∨ s.link.progressCount + 1 < s.cfg.progressPeriod
    then s.link.progress else some ⟨s.cursor, s.gov.last.getD 0, (t.stampAt (s.cursor + 1)).pos, s.run.pass⟩)

theorem State.penetrate_executes (s : State) (r : DesignRecord) : s.Executes r (s.penetrate r).pump := by
  have hpassed := s.advanceCursor_passed
  have hlink : (s.executed r).link.SameButGrant s.link := hpassed.link
  obtain ⟨hrun, hstore, hgov, hframe, hshaft, -, hchange, hmonitor, hgaps, hcfg, -⟩ :=
    (s.executed r).refreshWindow.countProgress_keeps s.cursor
  obtain ⟨hcount, hprogress⟩ := (s.executed r).refreshWindow.countProgress_link s.cursor
  rw [← State.penetrate_eq] at hrun hstore hgov hframe hshaft hchange hmonitor hgaps hcfg hcount hprogress
  obtain ⟨prun, pstore, pgov, pframe, pshaft, pchange, pmonitor, pgaps, plink, pcfg, -, -⟩ :=
    State.pump_keeps (s.penetrate r)
  have hcursor : (s.executed r).cursor = s.cursor + 1 := by
    refine Eq.trans ?_ hpassed.cursor
    unfold State.cursor
    rw [hpassed.run]
    rfl
  have hcfg' : (s.penetrate r).pump.cfg = s.cfg := pcfg.trans (hcfg.trans hpassed.cfg)
  have hstore' : (s.penetrate r).pump.store = (s.executed r).store := pstore.trans hstore
  have hstamp : ∀ i, (s.executed r).refreshWindow.stampAt i = (s.penetrate r).pump.stampAt i := fun i =>
    State.stampAt_congr hstore'.symm ((hpassed.cfg).trans hcfg'.symm) i
  refine ⟨prun.trans (hrun.trans rfl), pframe.trans (hframe.trans hpassed.frame),
    pshaft.trans (hshaft.trans hpassed.shaft), ?_, pgaps.trans (hgaps.trans hpassed.gaps),
    pmonitor.trans (hmonitor.trans hpassed.monitor), pchange.trans (hchange.trans hpassed.change), hcfg',
    (congrArg Store.filledEnd hstore').trans hpassed.filledEnd, ?_, ?_⟩
  · have hsame : (s.executed r).SameRecords ((s.penetrate r).pump.setGov s.gov) :=
      ⟨hstore', hcfg'.trans hpassed.cfg.symm, pgaps.trans hgaps, pframe.trans hframe,
        congrArg Run.bare (prun.trans hrun)⟩
    rw [hsame.windowNow (pshaft.trans hshaft) hpassed.gov.symm]
    refine pgov.trans (hgov.trans ?_)
    show { (s.executed r).gov with window := (s.executed r).windowNow } = _
    rw [show (s.executed r).gov = s.gov from hpassed.gov]
  · rw [plink]
    refine hcount.trans ?_
    show (if (s.executed r).cfg.progressPeriod = 0 then (s.executed r).link.progressCount
      else if (s.executed r).link.progressCount + 1 < (s.executed r).cfg.progressPeriod then
        (s.executed r).link.progressCount + 1 else 0) = _
    obtain ⟨g, hg⟩ := hlink
    rw [hg, show (s.executed r).cfg = s.cfg from hpassed.cfg]
  · rw [plink]
    refine hprogress.trans ?_
    rw [hstamp]
    show (if (s.executed r).cfg.progressPeriod = 0 ∨
      (s.executed r).link.progressCount + 1 < (s.executed r).cfg.progressPeriod then (s.executed r).link.progress
      else some ⟨s.cursor, (s.executed r).gov.last.getD 0,
        ((s.penetrate r).pump.stampAt (s.executed r).cursor).pos, s.run.pass⟩) = _
    obtain ⟨g, hg⟩ := hlink
    rw [hg, show (s.executed r).cfg = s.cfg from hpassed.cfg, hcursor,
      show (s.executed r).gov = s.gov from hpassed.gov]

end Sys2Proof.Machine

/-!
PROOF. The crossings of a revolution that sews (sections 1.3, 3.6, 4.3, 5.2; O49): the obligation.
-/

namespace Sys2Proof.Machine
set_option Elab.async false

/-! ## A count away from TDC with no other crossing -/

/-- The shaft when the Open angle has been crossed, the JUMP and Late reasons ended (R91). -/
def Shaft.opened (u : Shaft) : Shaft := { u with
  angle := (u.angle + 1) % 1024, seenOpen := true, lockout := { u.lockout with jump := false, late := false } }

/-- The premises of a revolution that sews, at a count away from TDC and the poll angle. -/
structure State.Sews (s : State) : Prop where
  referenced : s.shaft.referenced = true
  running : s.shaft.state = .running
  wraps : s.shaft.wraps = 0
  braked : s.shaft.braked = false
  calm : s.calm = true
  away : (s.shaft.angle + 1) % 1024 ≠ 0
  noPoll : (s.shaft.angle + 1) % 1024 ≠ s.cfg.pollAngle
  openClose : s.shaft.openAngle ≠ s.shaft.closeAngle
  openLate : s.shaft.openAngle ≠ lateAngle s.shaft.closeAngle

namespace State.Sews

variable {s : State} (h : s.Sews)
include h

theorem reports : s.shaft.reports = true := s.shaft.reports_iff.2 ⟨h.referenced, .inr (.inl h.running)⟩

/-- What a count does whose crossing leaves a shaft that turns for the run. -/
theorem exec_of_crossing {t : State}
    (hcross : (s.setShaft { s.shaft with angle := (s.shaft.angle + 1) % 1024 }).crossings
      ((s.shaft.angle + 1) % 1024) = t)
    (hcalm : t.calm = true) (hturns : t.shaft.state = .running ∨ t.shaft.state = .stopping) :
    exec (.encoderCount true) s = .next t.pump := by
  rw [exec_encoderCount_away h.reports h.wraps h.away, hcross,
    State.finish_of_none (State.advance_of_turning hcalm (hturns.imp id Or.inl))]

/-- The Open angle (R5). -/
theorem crossings_open (ha : (s.shaft.angle + 1) % 1024 = s.shaft.openAngle) (hseen : s.shaft.seenOpen = false) :
    (s.setShaft { s.shaft with angle := (s.shaft.angle + 1) % 1024 }).crossings ((s.shaft.angle + 1) % 1024) =
      match s.frame.stitch with
      | some m => (s.setShaft s.shaft.opened).openInFlight m
      | none => if (s.run.state = .running ∨ s.run.state = .stopping) ∧ s.run.carry = false then
          (s.setShaft s.shaft.opened).openDecide else s.setShaft s.shaft.opened := by
  rw [State.crossings_of_open (s := s.setShaft { s.shaft with angle := (s.shaft.angle + 1) % 1024 }) h.away h.noPoll ha
    hseen (fun h' => h.openLate (ha.symm.trans h')) (fun h' => h.openClose (ha.symm.trans h'))]
  show State.openAction (s.setShaft { s.shaft with angle := (s.shaft.angle + 1) % 1024, seenOpen := true }) = _
  have hopened : (s.setShaft { s.shaft with angle := (s.shaft.angle + 1) % 1024, seenOpen := true }).modLockout
    (fun l => { l with jump := false, late := false }) = s.setShaft s.shaft.opened := rfl
  unfold State.openAction
  dsimp only
  rw [hopened, show (s.setShaft s.shaft.opened).frame.stitch = s.frame.stitch from rfl]
  cases s.frame.stitch with
  | some m => rfl
  | none =>
    have hrun : (s.setShaft s.shaft.opened).shaft.state = .running := h.running
    simp only [hrun, true_and]
    rfl

theorem crossings_decide (ha : (s.shaft.angle + 1) % 1024 = s.shaft.openAngle) (hseen : s.shaft.seenOpen = false)
    (hstitch : s.frame.stitch = none) (hcarry : s.run.carry = false)
    (hstate : s.run.state = .running ∨ s.run.state = .stopping) :
    (s.setShaft { s.shaft with angle := (s.shaft.angle + 1) % 1024 }).crossings ((s.shaft.angle + 1) % 1024) =
      (s.setShaft s.shaft.opened).openDecide := by
  rw [h.crossings_open ha hseen, hstitch]
  exact if_pos ⟨hstate, hcarry⟩

/-- Calm is kept by what leaves activity, travel and homing. -/
theorem calm_of {t : State} (hact : t.run.activity = s.run.activity) (htravel : t.frame.travel = s.frame.travel)
    (hhoming : t.frame.homing = s.frame.homing) : t.calm = true := by
  obtain ⟨h1, h2, h3⟩ := s.calm_iff.1 h.calm
  exact t.calm_iff.2 ⟨hact.trans h1, htravel.trans h2, hhoming.trans h3⟩

end State.Sews

/-! ## The Open angle: a motion record's move begins -/

section Opens

variable {s : State} (h : s.Sews) {dx dy : Int} {jump : Bool}
include h

/-- The commanded speed of this revolution (R59). -/
def State.nextSpeed (s : State) : Nat :=
  s.speedFrom (lookBound s.cfg.speeds.decel s.cfg.speeds.maxSpeed
    ((s.windowAt s.cursor).map (fun e => e.keeping s.gov.window))) s.effectiveCeiling

/-- The state in which the move of this revolution has begun. -/
def State.movingOpen (s : State) (dx dy : Int) (jump : Bool) : State :=
  s.movingNow dx dy jump ((s.windowAt s.cursor).map (fun e => e.keeping s.gov.window))
    (lookBound s.cfg.speeds.decel s.cfg.speeds.maxSpeed
      ((s.windowAt s.cursor).map (fun e => e.keeping s.gov.window))) s.nextSpeed

omit h in
/-- The record at the cursor of the opened revolution, and what stands there. -/
theorem State.openDecide_opened (hrun : s.shaft.state = .running) (hstep : s.run.stepDone = false)
    (hgo : s.run.state = .running ∨ (s.run.state = .stopping ∧ s.gov.last ≠ some s.cfg.speeds.crawl))
    (hs : s.stopKindAt s.cursor = none)
    (hr : s.store.recordAt s.cursor = some (if jump then .jump dx dy else .stitch dx dy)) :
    (s.setShaft s.shaft.opened).openDecide =
      if s.cfg.heldRecord (if jump then .jump dx dy else .stitch dx dy) then
        ((s.movingOpen dx dy jump).setShaft (s.shaft.opened.takes s.nextSpeed jump)).orderStop true
      else (s.movingOpen dx dy jump).setShaft (s.shaft.opened.takes s.nextSpeed jump) := by
  have hbegin := State.beginRecord_takeSpeed (s := s) (u := s.shaft.opened)
    (show s.shaft.opened.state.pollsByAngle = true by rw [show s.shaft.opened.state = s.shaft.state from rfl, hrun]; rfl)
    dx dy jump
  have hmotion : (motionOf (if jump then .jump dx dy else .stitch dx dy)).isSome = true := by
    cases jump <;> rfl
  have hnot : ¬ (s.run.state = .stopping ∧ s.gov.last = some s.cfg.speeds.crawl) := fun ⟨h1, h2⟩ =>
    hgo.elim (fun h' => by rw [h1] at h'; cases h') (fun h' => h'.2 h2)
  rw [State.openDecide_begins (s := s.setShaft s.shaft.opened) hstep hnot
    (((s.sameRecords_setShaft _).stopKindAt s.cursor).trans hs) hr hmotion, hbegin]
  rfl

/-- The move begins, and the shaft runs on (R5). -/
theorem exec_open_runs (ha : (s.shaft.angle + 1) % 1024 = s.shaft.openAngle) (hseen : s.shaft.seenOpen = false)
    (hstitch : s.frame.stitch = none) (hcarry : s.run.carry = false) (hstep : s.run.stepDone = false)
    (hgo : s.run.state = .running ∨ (s.run.state = .stopping ∧ s.gov.last ≠ some s.cfg.speeds.crawl))
    (hs : s.stopKindAt s.cursor = none)
    (hr : s.store.recordAt s.cursor = some (if jump then .jump dx dy else .stitch dx dy))
    (hheld : s.cfg.heldRecord (if jump then .jump dx dy else .stitch dx dy) = false) :
    exec (.encoderCount true) s =
      .next ((s.movingOpen dx dy jump).setShaft (s.shaft.opened.takes s.nextSpeed jump)).pump := by
  refine h.exec_of_crossing ?_ (h.calm_of rfl rfl rfl) (.inl h.running)
  rw [h.crossings_decide ha hseen hstitch hcarry (hgo.imp_right And.left),
    State.openDecide_opened h.running hstep hgo hs hr]
  exact if_neg (ne_true_of_eq_false hheld)

/-- The move of a held STITCH begins, and a stop is ordered (R63). -/
theorem exec_open_holds (ha : (s.shaft.angle + 1) % 1024 = s.shaft.openAngle) (hseen : s.shaft.seenOpen = false)
    (hstitch : s.frame.stitch = none) (hcarry : s.run.carry = false) (hstep : s.run.stepDone = false)
    (hgo : s.run.state = .running ∨ (s.run.state = .stopping ∧ s.gov.last ≠ some s.cfg.speeds.crawl))
    (hs : s.stopKindAt s.cursor = none)
    (hr : s.store.recordAt s.cursor = some (if jump then .jump dx dy else .stitch dx dy))
    (hheld : s.cfg.heldRecord (if jump then .jump dx dy else .stitch dx dy) = true) :
    exec (.encoderCount true) s = .next (((s.movingOpen dx dy jump).setShaft
      { s.shaft.opened.takes s.nextSpeed jump with state := .stopping, hold := true }).setBus
        { s.bus with restTimer := none }).pump := by
  refine h.exec_of_crossing ?_ (h.calm_of rfl rfl rfl) (.inr rfl)
  rw [h.crossings_decide ha hseen hstitch hcarry (hgo.imp_right And.left),
    State.openDecide_opened h.running hstep hgo hs hr, if_pos hheld]
  exact State.orderStop_running
    (s := (s.movingOpen dx dy jump).setShaft (s.shaft.opened.takes s.nextSpeed jump)) h.running true

/-- A stop is ordered (R5, R18, R21, R61). -/
theorem exec_open_stops (ha : (s.shaft.angle + 1) % 1024 = s.shaft.openAngle) (hseen : s.shaft.seenOpen = false)
    (hstitch : s.frame.stitch = none) (hcarry : s.run.carry = false)
    (hstate : s.run.state = .running ∨ s.run.state = .stopping)
    (hstop : s.run.stepDone = true ∨ s.stopKindAt s.cursor ≠ none ∨
      (s.run.state = .stopping ∧ s.gov.last = some s.cfg.speeds.crawl ∧
        ∃ r, s.store.recordAt s.cursor = some r ∧ (motionOf r).isSome = true)) :
    exec (.encoderCount true) s = .next ((s.setShaft { s.shaft.opened with state := .stopping, hold := false }).setBus
      { s.bus with restTimer := none }).pump := by
  refine h.exec_of_crossing ?_ (h.calm_of rfl rfl rfl) (.inr rfl)
  have hkind : (s.setShaft s.shaft.opened).stopKindAt s.cursor = s.stopKindAt s.cursor :=
    (s.sameRecords_setShaft _).stopKindAt s.cursor
  rw [h.crossings_decide ha hseen hstitch hcarry hstate,
    State.openDecide_stops (s := s.setShaft s.shaft.opened) (hstop.imp_right (Or.imp_left fun h' => by
      rwa [show (s.setShaft s.shaft.opened).cursor = s.cursor from rfl, hkind]))]
  exact State.orderStop_running (s := s.setShaft s.shaft.opened) h.running false

/-- An effect record is passed, and the crossing goes on from the next record (R7). -/
theorem exec_open_passes (ha : (s.shaft.angle + 1) % 1024 = s.shaft.openAngle) (hseen : s.shaft.seenOpen = false)
    (hstitch : s.frame.stitch = none) (hcarry : s.run.carry = false)
    (hstate : s.run.state = .running ∨ s.run.state = .stopping) (hstep : s.run.stepDone = false)
    (hs : s.stopKindAt s.cursor = none) {r : DesignRecord} (hr : s.store.recordAt s.cursor = some r)
    (he : s.isEffect r = true) (hc : s.cursor < s.store.filledEnd) :
    exec (.encoderCount true) s = exec (.encoderCount true) s.advanceCursor := by
  have hpassed := s.advanceCursor_passed
  have hshaft : s.advanceCursor.shaft = s.shaft := hpassed.shaft
  have hsews : s.advanceCursor.Sews := by
    refine ⟨by rw [hshaft]; exact h.referenced, by rw [hshaft]; exact h.running, by rw [hshaft]; exact h.wraps,
      by rw [hshaft]; exact h.braked, h.calm_of (by rw [hpassed.run]; rfl) (by rw [hpassed.frame]) (by rw [hpassed.frame]),
      by rw [hshaft]; exact h.away, by rw [hshaft, hpassed.cfg]; exact h.noPoll, by rw [hshaft]; exact h.openClose,
      by rw [hshaft]; exact h.openLate⟩
  have hnext := hsews.crossings_decide (by rw [hshaft]; exact ha) (by rw [hshaft]; exact hseen)
    (by rw [hpassed.frame]; exact hstitch) (by rw [hpassed.run]; exact hcarry) (by rw [hpassed.run]; exact hstate)
  rw [exec_encoderCount_away h.reports h.wraps h.away, h.crossings_decide ha hseen hstitch hcarry hstate,
    exec_encoderCount_away hsews.reports hsews.wraps hsews.away, hnext,
    State.openDecide_passes (s := s.setShaft s.shaft.opened) hstep
      (((s.sameRecords_setShaft _).stopKindAt s.cursor).trans hs) hr he hc, State.setShaft_advanceCursor, hshaft]

end Opens

/-! ## The commanded speed, as the statement writes it -/

theorem State.nextSpeed_eq (s : State) {bound : Nat} (hb : lookBound s.cfg.speeds.decel s.cfg.speeds.maxSpeed
    ((s.windowAt s.cursor).map (fun e => e.keeping s.gov.window)) = bound) (plain : Nat → Nat)
    (hplain : ∀ p, plain p = min bound (min (p + s.cfg.speeds.accel)
      (max s.effectiveCeiling (p - s.cfg.speeds.decel)))) :
    s.nextSpeed = match s.gov.last with
      | none => s.cfg.speeds.crawl
      | some p => if 0 < s.run.tieIn then s.cfg.speeds.crawl
        else if s.run.state = .stopping then
          min (plain p) (max s.cfg.speeds.crawl (p - s.cfg.speeds.decel)) else plain p := by
  unfold State.nextSpeed State.speedFrom
  rw [hb]
  cases s.gov.last with
  | none => rfl
  | some p =>
    dsimp only
    rw [hplain p]

/-! ## A move still in flight (R69, R70) -/

theorem State.judgeLate_of_new {s : State} {m : StitchMove} (hm : s.frame.stitch = some m) (hj : m.jump = false)
    (hp : m.latePosted = false) : s.judgeLate = ((s.setShaft { s.shaft with
      lockout := { s.shaft.lockout with late := true } }).setLink (s.link.post ⟨.lateMove, 0, s.cursor, m.index⟩)).setFrame
        { s.frame with stitch := some { m with latePosted := true } } := by
  unfold State.judgeLate
  rw [hm]
  dsimp only
  rw [if_neg (ne_true_of_eq_false hj), if_neg (ne_true_of_eq_false hp)]
  rfl

theorem State.openInFlight_of_jump {s : State} {m : StitchMove} (hj : m.jump = true) : s.openInFlight m =
    ((s.setShaft { s.shaft with lockout := { s.shaft.lockout with late := true } }).setLink
      (if m.latePosted then s.link else s.link.post ⟨.lateMove, 0, m.record, m.index⟩)).setFrame
        { s.frame with stitch := some { m with latePosted := true } } := by
  unfold State.openInFlight
  rw [if_pos hj]
  dsimp only
  split <;> rfl

/-! ## The Close angle -/

section Closes

variable {s : State} {dx dy : Int} {jump : Bool} (hcarry : s.run.carry = true)
  (hr : s.store.recordAt s.cursor = some (if jump then .jump dx dy else .stitch dx dy))
include hcarry hr

theorem State.closeAction_waits (hj : jump = false) (hlate : s.frame.stitch ≠ none ∨ s.shaft.lockout.late = true) :
    s.closeAction = s := by
  subst hj
  have hnot : ¬ (s.frame.stitch.isNone && !s.shaft.lockout.late) = true := fun hboth => by
    rw [Bool.and_eq_true, Bool.not_eq_true', Option.isNone_iff_eq_none] at hboth
    obtain h | h := hlate
    · exact h hboth.1
    · rw [h] at hboth
      exact Bool.noConfusion hboth.2
  unfold State.closeAction
  rw [if_pos hcarry, hr]
  exact if_neg hnot

theorem State.closeAction_executes (hdone : jump = true ∨ (s.frame.stitch = none ∧ s.shaft.lockout.late = false)) :
    s.closeAction = s.penetrate (if jump then .jump dx dy else .stitch dx dy) := by
  unfold State.closeAction
  rw [if_pos hcarry, hr]
  cases jump with
  | true => rfl
  | false =>
    obtain ⟨hstitch, hlate⟩ := hdone.resolve_left Bool.false_ne_true
    have hfree : (s.frame.stitch.isNone && !s.shaft.lockout.late) = true := by
      rw [hstitch, hlate]
      rfl
    exact if_pos hfree

end Closes

/-- Settles O49: by the angle that the count brings the shaft to. -/
theorem crossingsCarryTheStitch : Obligations.CrossingsCarryTheStitch := by
  intro s dx dy jump u a late run g window bound plain speed goesOn begun opened href hrunning hwraps hbraked
    hcalm haway hpoll hoc hol
  have h : s.Sews := ⟨href, hrunning, hwraps, hbraked, hcalm, haway, hpoll, hoc, hol⟩
  have hspeed : speed = s.nextSpeed := (s.nextSpeed_eq (bound := bound) rfl plain (fun _ => rfl)).symm
  refine ⟨fun ha hseen hstitch hcarry => ⟨fun hgo hstep hs hr => ?_, fun hstate hstop => ?_,
    fun r hstate hstep hs hr heffect hc => ?_⟩, fun m ha hseen hm hj hposted => ?_, fun m ha hseen hm => ⟨fun hj => ?_, fun hj => ?_⟩,
    fun ha hseen hcarry hr => ⟨fun hj hlate => ?_, fun hdone => ?_⟩⟩
  · intro moving
    have hmoving : moving = s.movingOpen dx dy jump := by
      unfold State.movingOpen
      rw [← hspeed]
      rfl
    rw [hmoving, hspeed]
    refine ⟨fun hfree => ?_, fun hj hheld => ⟨?_, fun hmax hold hlast => ?_⟩⟩
    · have hnot : s.cfg.heldRecord (if jump then .jump dx dy else .stitch dx dy) = false := by
        cases jump with
        | true => rfl
        | false => exact hfree.resolve_left Bool.false_ne_true
      exact exec_open_runs h ha hseen hstitch hcarry hstep hgo hs hr hnot
    · subst hj
      exact exec_open_holds h ha hseen hstitch hcarry hstep hgo hs hr hheld
    · subst hj
      have hbound := State.lookBound_held (State.boundAt_held hr hheld) hmax hold
      unfold State.nextSpeed
      rw [hbound]
      exact s.speedFrom_crawl hlast
  · exact exec_open_stops h ha hseen hstitch hcarry hstate hstop
  · have hpassed := s.advanceCursor_passed
    obtain ⟨grant, hgrant⟩ := hpassed.link
    refine ⟨s.advanceCursor, exec_open_passes h ha hseen hstitch hcarry hstate hstep hs hr
      (State.isEffect_of_passed hs hr heffect) hc, hpassed.run, hpassed.frame, hpassed.shaft, hpassed.gov, hpassed.bus,
      hpassed.gaps, hpassed.monitor, hpassed.change, hpassed.cfg, ?_, hpassed.filledEnd⟩
    rw [hgrant]
  · have hcoast : s.shaft.coasting = false := by
      unfold Shaft.coasting
      rw [hbraked]
      rfl
    refine h.exec_of_crossing ?_ (h.calm_of rfl rfl rfl) (.inl h.running)
    rw [State.crossings_of_late (s := s.setShaft { s.shaft with angle := a }) haway hpoll ha hseen hcoast
      (fun h' => hol (h'.symm.trans ha))]
    exact State.judgeLate_of_new (s := s.setShaft { s.shaft with angle := a, seenLate := true }) hm hj hposted
  · refine h.exec_of_crossing ?_ (h.calm_of rfl rfl rfl) (.inl h.running)
    rw [h.crossings_open ha hseen, hm]
    exact if_neg (ne_true_of_eq_false hj)
  · refine h.exec_of_crossing ?_ (h.calm_of rfl rfl rfl) (.inl h.running)
    rw [h.crossings_open ha hseen, hm]
    exact State.openInFlight_of_jump (s := s.setShaft s.shaft.opened) hj
  · refine h.exec_of_crossing ?_ (h.calm_of rfl rfl rfl) (.inl h.running)
    rw [State.crossings_of_close (s := s.setShaft { s.shaft with angle := a }) haway hpoll ha hseen hoc]
    exact State.closeAction_waits (s := s.setShaft { s.shaft with angle := a, seenClose := true }) hcarry hr hj hlate
  · let v := s.setShaft { s.shaft with angle := a, seenClose := true }
    have hexec := State.penetrate_executes v (if jump then .jump dx dy else .stitch dx dy)
    obtain ⟨hframe, hshaft, -⟩ := v.penetrate_keeps (if jump then .jump dx dy else .stitch dx dy)
    have hactivity : (v.penetrate (if jump then .jump dx dy else .stitch dx dy)).run.activity = s.run.activity := by
      rw [← (State.pump_keeps (v.penetrate (if jump then .jump dx dy else .stitch dx dy))).1, hexec.run]
      rfl
    have hrunning' : (v.penetrate (if jump then .jump dx dy else .stitch dx dy)).shaft.state = .running := by
      rw [hshaft]
      exact hrunning
    refine ⟨_, h.exec_of_crossing ?_ (h.calm_of hactivity (by rw [hframe]; rfl) (by rw [hframe]; rfl))
      (.inl hrunning'), hexec.run.trans ?_, hexec.frame, hexec.shaft, hexec.gov, hexec.gaps, hexec.monitor,
      hexec.change, hexec.cfg, hexec.filledEnd, hexec.progressCount, hexec.progress⟩
    · rw [State.crossings_of_close (s := s.setShaft { s.shaft with angle := a }) haway hpoll ha hseen hoc]
      exact State.closeAction_executes (s := v) hcarry hr hdone
    · cases jump <;> rfl

end Sys2Proof.Machine

/-!
PROOF. The index pulse (sections 5.1, 5.5; O50).
-/

namespace Sys2Proof.Machine
set_option Elab.async false

/-- The stall timer that the index restarts (R94). -/
def State.stallRestarted (s : State) : Option Nat :=
  if s.shaft.stall = none then none else some (120000 / s.cfg.speeds.crawl)

theorem State.restartStall_eq (s : State) : s.restartStall = s.setShaft { s.shaft with stall := s.stallRestarted } := by
  unfold State.restartStall State.stallRestarted
  cases s.shaft.stall <;> rfl

/-! ## A shaft that is not referenced -/

theorem exec_indexPulse_of_unreferenced {s : State} (href : s.shaft.referenced = false) : exec .indexPulse s =
    .next (if s.shaft.state = .referencing then s.restartStall.indexFound.finish
      else s.setShaft { s.shaft with angle := 0, wraps := 0, stall := s.stallRestarted }) := by
  rw [exec_indexPulse, State.restartStall_eq]
  have hnot : (!(s.setShaft { s.shaft with stall := s.stallRestarted }).shaft.referenced) = true := by
    show (!s.shaft.referenced) = true
    rw [href]
    rfl
  rw [if_pos hnot]
  rfl

/-- The index ends the search of a referencing (R93). -/
theorem State.indexFound_finish {s : State} (hstate : s.shaft.state = .referencing)
    (hact : s.run.activity = .none ∨ s.run.activity = .referencing) (ht : s.frame.travel = none)
    (hh : s.frame.homing = none) : s.indexFound.finish = (s.setShaft { s.shaft with
      angle := 0, referenced := true, wraps := 0, seenOpen := false, seenLate := false, seenClose := false
      seenPoll := false, speed := 0, braked := true, stall := none
      lockout := { s.shaft.lockout with rest := true } }).pump := by
  have hfound : s.indexFound = s.setShaft { s.shaft with
      angle := 0, referenced := true, wraps := 0, seenOpen := false, seenLate := false, seenClose := false
      seenPoll := false, speed := 0, braked := true, stall := none
      lockout := { s.shaft.lockout with rest := true } } := rfl
  refine (State.finish_of_none (s := s.indexFound) ?_).trans (congrArg State.pump hfound)
  rcases hact with hact | hact
  · exact State.advance_of_turning (s := s.indexFound) (s.calm_iff.2 ⟨hact, ht, hh⟩) (.inr (.inr (.inr hstate)))
  · have hstill : s.indexFound.advance = s.indexFound.advanceActivity :=
      State.advance_of_still (s := s.indexFound) ht hh
    rw [hstill]
    unfold State.advanceActivity
    rw [show s.indexFound.run.activity = .referencing from hact]
    exact if_neg (by rw [show s.indexFound.shaft.state = .referencing from hstate]; nofun)

/-! ## A referenced shaft (R84) -/

theorem exec_indexPulse_of_right {s : State} (href : s.shaft.referenced = true)
    (hright : s.shaft.angle ≤ 4 ∨ 1020 ≤ s.shaft.angle) :
    exec .indexPulse s = .next (s.setShaft { s.shaft with stall := s.stallRestarted }).indexCorrects := by
  have hangle : indexRight s.shaft.angle = true := by
    rw [indexRight, Bool.or_eq_true, decide_eq_true_eq, decide_eq_true_eq]
    exact hright
  have hnot : ¬ (!(s.setShaft { s.shaft with stall := s.stallRestarted }).shaft.referenced) = true := by
    show ¬ (!s.shaft.referenced) = true
    rw [href]
    exact Bool.false_ne_true
  rw [exec_indexPulse, State.restartStall_eq, if_neg hnot, if_pos hangle]

theorem State.indexCorrects_of_past {s : State} (h : s.shaft.angle ≤ 4) :
    s.indexCorrects = s.setShaft { s.shaft with angle := 0 } := by
  have hbelow : ¬ 1020 ≤ s.shaft.angle := by omega
  unfold State.indexCorrects
  dsimp only
  rw [decide_eq_false hbelow, if_neg hbelow, if_neg (fun h' : 1020 ≤ s.shaft.angle ∧ s.shaft.wraps = 0 => hbelow h'.1),
    Bool.false_and, Bool.false_and]
  rfl

/-- The count that brings the angle to 0. -/
theorem Shaft.forward_of_top (u : Shaft) : Shaft.forward { u with angle := 1023 } =
    if u.wraps = 0 then { u with
      angle := 0, wraps := u.wraps - 1, seenOpen := false, seenLate := false, seenClose := false, seenPoll := false }
    else { u with angle := 0, wraps := u.wraps - 1 } := by
  have hzero : (1023 + 1) % 1024 = 0 := by decide
  unfold Shaft.forward Shaft.counted Shaft.reopened
  simp only [hzero, true_and, if_true]

/-- Raised to 0 by the index, the angle crosses TDC as on a count. -/
theorem State.indexCorrects_of_below {s : State} (h : 1020 ≤ s.shaft.angle) : s.indexCorrects =
    if s.shaft.reports = true ∧ s.shaft.wraps = 0
    then ((s.setShaft (Shaft.forward { s.shaft with angle := 1023 })).crossings 0).finish
    else s.setShaft (Shaft.forward { s.shaft with angle := 1023 }) := by
  have hshaft : (if 1020 ≤ s.shaft.angle ∧ s.shaft.wraps = 0
      then (s.setShaft { s.shaft with angle := 0, wraps := s.shaft.wraps - 1 }).newRevolution
      else s.setShaft { s.shaft with angle := 0, wraps := s.shaft.wraps - 1 }) =
      s.setShaft (Shaft.forward { s.shaft with angle := 1023 }) := by
    rw [Shaft.forward_of_top]
    by_cases hw : s.shaft.wraps = 0
    · rw [if_pos ⟨h, hw⟩, if_pos hw]
      rfl
    · rw [if_neg (fun h' => hw h'.2), if_neg hw]
  have hreports : (s.setShaft (Shaft.forward { s.shaft with angle := 1023 })).shaft.reports = s.shaft.reports :=
    Shaft.forward_reports { s.shaft with angle := 1023 }
  unfold State.indexCorrects
  dsimp only
  rw [if_pos h, hshaft, hreports, decide_eq_true h]
  simp only [Bool.true_and, Bool.and_eq_true, beq_iff_eq]

theorem exec_indexPulse_of_below {s : State} (href : s.shaft.referenced = true) (h : 1020 ≤ s.shaft.angle) :
    exec .indexPulse s =
      exec (.encoderCount true) (s.setShaft { s.shaft with angle := 1023, stall := s.stallRestarted }) := by
  have hcount := exec_encoderCount_forward (s.setShaft { s.shaft with angle := 1023, stall := s.stallRestarted })
  have hangle : ((s.setShaft { s.shaft with angle := 1023, stall := s.stallRestarted }).shaft.angle + 1) % 1024 = 0 := by
    show (1023 + 1) % 1024 = 0
    decide
  rw [hangle] at hcount
  rw [exec_indexPulse_of_right href (.inr h), hcount,
    State.indexCorrects_of_below (s := s.setShaft { s.shaft with stall := s.stallRestarted }) h]
  rfl

/-- A shaft that does not turn is corrected, and its crossing of TDC is not reported (log 60). -/
theorem exec_indexPulse_of_still {s : State} (href : s.shaft.referenced = true) (h : 1020 ≤ s.shaft.angle)
    (hstate : s.shaft.state = .unreferenced ∨ s.shaft.state = .atRest ∨ s.shaft.state = .holding) :
    exec .indexPulse s =
      .next (s.setShaft (Shaft.forward { s.shaft with angle := 1023, stall := s.stallRestarted })) := by
  rw [exec_indexPulse_of_below href h, exec_encoderCount_unreported]
  · rfl
  · exact .inr (hstate.imp_right (Or.imp_right .inl))

end Sys2Proof.Machine

/-!
PROOF. Rest at the end of a stop (section 5.3; O50): direct joins, and the CONTROLLED RESET that waited for it.
-/

namespace Sys2Proof.Machine
set_option Elab.async false

/-- A fold over the heads, read at one of them: before its step, at it, and after it. -/
theorem foldl_heads_through {f : State → Nat → State} {h : Nat} (hlow : 1 ≤ h) (hhigh : h ≤ 8) {A B : State → Prop}
    (hA : ∀ s j, 1 ≤ j → j ≤ 8 → j ≠ h → A s → A (f s j)) (hB : ∀ s j, 1 ≤ j → j ≤ 8 → j ≠ h → B s → B (f s j))
    (hstep : ∀ u, A u → B (f u h)) (s : State) (hs : A s) : B (headNumbers.foldl f s) := by
  obtain ⟨front, back, hsplit, hfront, hback⟩ := headNumbers_split hlow hhigh
  have hmem : ∀ x, x ∈ front ∨ x ∈ back → x ≤ 8 := fun x hx => by
    refine ((mem_headNumbers x).1 ?_).2
    rw [hsplit, List.mem_append, List.mem_cons]
    exact hx.imp_right .inr
  rw [hsplit, List.foldl_append, List.foldl_cons]
  refine List.foldlRecOn back f (hstep _ (List.foldlRecOn front f hs fun u hu x hx => ?_)) fun u hu x hx => ?_
  · exact hA u x (hfront x hx).1 (hmem x (.inl hx)) (hfront x hx).2 hu
  · exact hB u x (hback x hx).1 (hmem x (.inr hx)) (hback x hx).2 hu

/-! ## The join order of a head (R143) -/

/-- No join order of the head is on the bus. -/
theorem Bus.joinOrder_eq_none_iff (b : Bus) (h : Nat) : b.joinOrder h = none ↔
    (∀ c, c ∈ b.queue ∨ c ∈ b.held → c.head = h → ∀ o, c.work.order? = some o → o.join = false) ∧
    (∀ t, b.inFlight = some t → t.reported = true → t.head = h →
      ∀ w, t.kind.work? = some w → ∀ o, w.order? = some o → o.join = false) := by
  unfold Bus.joinOrder
  dsimp only
  rw [List.find?_append, Option.or_eq_none_iff, and_comm]
  refine and_congr ?_ ?_
  · simp only [List.find?_eq_none, List.mem_filterMap, List.mem_filter, List.mem_append, beq_iff_eq,
      Bool.not_eq_true]
    exact ⟨fun hall c hc hh o ho => hall o ⟨c, ⟨hc, hh⟩, ho⟩, fun hall o ⟨c, ⟨hc, hh⟩, ho⟩ => hall c hc hh o ho⟩
  · cases b.inFlight with
    | none => simp
    | some t =>
      dsimp only
      by_cases ht : (t.reported && t.head == h) = true
      · rw [if_pos ht]
        rw [Bool.and_eq_true, beq_iff_eq] at ht
        simp only [List.find?_eq_none, Option.mem_toList, Option.bind_eq_some_iff, Bool.not_eq_true]
        exact ⟨fun hall t' ht' _ _ w hw o ho => by
            obtain rfl := Option.some.inj ht'
            exact hall o ⟨w, hw, ho⟩,
          fun hall o ⟨w, hw, ho⟩ => hall t rfl ht.1 ht.2 w hw o ho⟩
      · rw [if_neg ht]
        rw [Bool.and_eq_true, beq_iff_eq] at ht
        exact iff_of_true rfl fun t' ht' hr hh => by
          obtain rfl := Option.some.inj ht'
          exact absurd ⟨hr, hh⟩ ht

theorem BusWork.joined_order (w : BusWork) {o : EngageOrder} (h : w.joined.order? = some o) : o.join = false := by
  cases w with
  | engage e =>
    obtain rfl := Option.some.inj h
    rfl
  | caseMove a p => exact absurd h (Option.some_ne_none o).symm
  | trim => exact absurd h (Option.some_ne_none o).symm
  | clear => exact absurd h (Option.some_ne_none o).symm
  | poll => exact absurd h (Option.some_ne_none o).symm

theorem BusCommand.joined_head (c : BusCommand) (h : Nat) : (c.joined h).head = c.head := by
  unfold BusCommand.joined
  split <;> rfl

theorem BusCommand.joined_other {c : BusCommand} {h : Nat} (hne : c.head ≠ h) : c.joined h = c := if_neg hne

theorem Transaction.joined_other {t : Transaction} {h : Nat} (hne : t.head ≠ h) : t.joined h = t := by
  unfold Transaction.joined
  split
  · exact if_neg hne
  · rfl
  · rfl

theorem Transaction.joined_head (t : Transaction) (h : Nat) :
    (t.joined h).head = t.head ∧ (t.joined h).reported = t.reported := by
  unfold Transaction.joined
  split
  · split <;> exact ⟨rfl, rfl⟩
  · exact ⟨rfl, rfl⟩
  · exact ⟨rfl, rfl⟩

theorem Transaction.joined_work {t : Transaction} {h : Nat} (hh : t.head = h) {w : BusWork}
    (hw : (t.joined h).kind.work? = some w) : ∃ v : BusWork, w = v.joined := by
  unfold Transaction.joined at hw
  cases hk : t.kind with
  | command v =>
    rw [hk] at hw
    dsimp only at hw
    rw [if_pos hh] at hw
    exact ⟨v, (Option.some.inj hw).symm⟩
  | probe =>
    rw [hk] at hw
    dsimp only at hw
    rw [hk] at hw
    exact absurd hw (Option.some_ne_none w).symm
  | roundPoll =>
    rw [hk] at hw
    dsimp only at hw
    rw [hk] at hw
    exact absurd hw (Option.some_ne_none w).symm

/-- A join that is made leaves no order for it. -/
theorem Bus.joinOrder_joined_same (b : Bus) (h : Nat) : (b.joined h).joinOrder h = none := by
  rw [Bus.joinOrder_eq_none_iff]
  refine ⟨fun c hc hh o ho => ?_, fun t ht _ hh w hw o ho => ?_⟩
  · obtain ⟨d, rfl⟩ : ∃ d : BusCommand, c = d.joined h := by
      rcases hc with hc | hc
      · obtain ⟨d, -, hd⟩ := List.mem_map.1 hc
        exact ⟨d, hd.symm⟩
      · obtain ⟨d, -, hd⟩ := List.mem_map.1 hc
        exact ⟨d, hd.symm⟩
    rw [BusCommand.joined_head] at hh
    rw [BusCommand.joined, if_pos hh] at ho
    exact d.work.joined_order ho
  · obtain ⟨u, -, rfl⟩ := Option.map_eq_some_iff.1 ht
    rw [(u.joined_head h).1] at hh
    obtain ⟨v, rfl⟩ := Transaction.joined_work hh hw
    exact v.joined_order ho

/-- The join of one head leaves the order for another's. -/
theorem Bus.joinOrder_joined_other (b : Bus) {h j : Nat} (hne : j ≠ h) : (b.joined j).joinOrder h = b.joinOrder h := by
  have hlist : ∀ l : List BusCommand, (l.map (fun c => c.joined j)).filter (fun c => c.head == h) =
      l.filter (fun c => c.head == h) := fun l => by
    induction l with
    | nil => rfl
    | cons c l ih =>
      rw [List.map_cons, List.filter_cons, List.filter_cons, ih, BusCommand.joined_head]
      by_cases hc : c.head = h
      · rw [if_pos (beq_iff_eq.2 hc), if_pos (beq_iff_eq.2 hc), BusCommand.joined_other (hc.trans_ne hne.symm)]
      · rw [if_neg (fun h' => hc (beq_iff_eq.1 h')), if_neg (fun h' => hc (beq_iff_eq.1 h'))]
  unfold Bus.joinOrder
  dsimp only
  have hqueue : ((b.joined j).queue ++ (b.joined j).held).filter (fun c => c.head == h) =
      (b.queue ++ b.held).filter (fun c => c.head == h) := by
    rw [List.filter_append, List.filter_append]
    exact congrArg₂ (· ++ ·) (hlist _) (hlist _)
  rw [hqueue]
  congr 2
  show (match b.inFlight.map (fun t => t.joined j) with | some t => _ | none => _) = _
  cases b.inFlight with
  | none => rfl
  | some t =>
    dsimp only [Option.map_some]
    rw [(t.joined_head j).1, (t.joined_head j).2]
    by_cases ht : t.head = h
    · rw [Transaction.joined_other (ht.trans_ne hne.symm)]
    · have hnot : ¬ (t.reported && t.head == h) = true := by simp [ht]
      rw [if_neg hnot, if_neg hnot]

/-- The beginning of a transaction brings no join order (R105). -/
theorem State.pump_joinOrder {s : State} {h : Nat} (hnone : s.bus.joinOrder h = none) :
    s.pump.bus.joinOrder h = none := by
  unfold State.pump
  by_cases hf : s.bus.inFlight.isSome = true
  · rwa [if_pos hf]
  · rw [if_neg hf]
    rw [Bus.joinOrder_eq_none_iff] at hnone
    obtain ⟨hq, -⟩ := hnone
    have hcarries : ∀ (t : State) (kind : TransactionKind) (k : Nat), (∀ c, c ∈ t.bus.queue ∨ c ∈ t.bus.held →
        c.head = h → ∀ o, c.work.order? = some o → o.join = false) →
        (k = h → ∀ w, kind.work? = some w → ∀ o, w.order? = some o → o.join = false) →
        (t.beginTransaction kind k).bus.joinOrder h = none := fun t kind k hc hk => by
      rw [Bus.joinOrder_eq_none_iff]
      refine ⟨hc, fun t' ht' _ hh => ?_⟩
      obtain rfl := Option.some.inj ht'
      exact hk hh
    have hnowork : ∀ kind : TransactionKind, kind.work? = none → ∀ k, k = h →
        ∀ w, kind.work? = some w → ∀ o, w.order? = some o → o.join = false := fun kind hkind k _ w hw => by
      rw [hkind] at hw
      cases hw
    cases hqueue : s.bus.queue with
    | cons c rest =>
      rw [hqueue] at hq
      refine hcarries _ _ _ (fun d hd => hq d ?_) (fun hh w hw => ?_)
      · have hmem : d ∈ rest ∨ d ∈ s.bus.held := by
          rcases hd with hd | hd
          · rcases List.mem_append.1 hd with hd | hd
            · exact .inl hd
            · exact .inr (List.mem_of_mem_take hd)
          · exact .inr (List.mem_of_mem_drop hd)
        exact hmem.imp_left (List.mem_cons_of_mem _)
      · obtain rfl := Option.some.inj hw
        exact hq c (.inl List.mem_cons_self) hh
    | nil =>
      rw [hqueue] at hq
      have hall : s.bus.joinOrder h = none := by
        rw [Bus.joinOrder_eq_none_iff, hqueue]
        exact ⟨hq, fun t ht => absurd (by rw [ht]; rfl) hf⟩
      have hq' : ∀ c, c ∈ s.bus.queue ∨ c ∈ s.bus.held → c.head = h → ∀ o, c.work.order? = some o → o.join = false := by
        rw [hqueue]
        exact hq
      dsimp only
      split
      · exact hcarries _ _ _ hq' (hnowork _ rfl _)
      · split
        · exact hall
        · split
          · exact hall
          · exact hcarries _ _ _ hq' (hnowork _ rfl _)

/-! ## Direct joins at rest (R143) -/

/-- No direct join is outstanding: none acknowledged and none on the bus. -/
theorem State.joinsAtRest_of_none {s : State} (h : ∀ h, 1 ≤ h → h ≤ 8 →
    (∀ o, (s.headAt h).acked = some o → o.join = false) ∧ s.bus.joinOrder h = none) : s.joinsAtRest = s := by
  have hone : ∀ x ∈ headNumbers, s.joinAtRest x = s := fun x hx => by
    obtain ⟨hlow, hhigh⟩ := (mem_headNumbers x).1 hx
    obtain ⟨hacked, hbus⟩ := h x hlow hhigh
    unfold State.joinAtRest
    cases ha : (s.headAt x).acked with
    | none =>
      dsimp only
      rw [hbus]
    | some o => exact if_neg (ne_true_of_eq_false (hacked o ha))
  unfold State.joinsAtRest
  exact List.foldlRecOn (motive := fun u => u = s) headNumbers State.joinAtRest rfl fun u hu x hx => by
    rw [hu]
    exact hone x hx

section Direct

variable {s : State} {h j : Nat}

theorem State.setBus_joined_sameHead (s : State) (j h : Nat) : s.SameHead (s.setBus (s.bus.joined j)) h :=
  State.SameHead.of_lists (s := s) (t := s.setBus (s.bus.joined j)) rfl rfl rfl rfl h

theorem State.joinAtRest_sameHead (hne : j - 1 ≠ h - 1) : s.SameHead (s.joinAtRest j) h := by
  unfold State.joinAtRest
  split
  · split
    · exact State.takeOrder_sameHead _ hne
    · exact .refl _ _
  · split
    · exact (s.setBus_joined_sameHead j h).trans (State.engagedBy_sameHead _ hne)
    · exact .refl _ _

theorem State.joinAtRest_joinOrder (hne : j ≠ h) : (s.joinAtRest j).bus.joinOrder h = s.bus.joinOrder h := by
  unfold State.joinAtRest
  split
  · split
    · rw [(State.takeOrder_keeps _ _ _).2.2.1]
    · rfl
  · split
    · rw [(State.engagedBy_keeps _ _ _).2.2.1]
      exact s.bus.joinOrder_joined_other hne
    · rfl

theorem State.joinAtRest_roomy (hs : s.roomy) : (s.joinAtRest j).roomy := by
  unfold State.joinAtRest
  split
  · split
    · exact State.takeOrder_roomy _ hs
    · exact hs
  · split
    · exact State.engagedBy_roomy _ hs
    · exact hs

/-- A direct join that is made at rest: the head is in, waits no more, and loads its tie-in count (R143, R142). -/
theorem State.joinsAtRest_joins {o : EngageOrder} (hs : s.roomy) (hlow : 1 ≤ h) (hhigh : h ≤ 8)
    (hacked : (s.headAt h).acked = none) (ho : s.bus.joinOrder h = some o) (hcmd : o.cmd = .lower)
    (hdropped : (s.headAt h).state = .dropped) (hfault : (s.watchAt h).fault = none) :
    (s.joinsAtRest.headAt h).state = o.becomes ∧ (s.joinsAtRest.watchAt h).joining = false ∧
      (s.joinsAtRest.watchAt h).ownTieIn = s.cfg.speeds.tieIn ∧ s.joinsAtRest.bus.joinOrder h = none := by
  have hne : ∀ j, 1 ≤ j → j ≠ h → j - 1 ≠ h - 1 := fun j hj hjh => by omega
  refine foldl_heads_through (f := State.joinAtRest) (A := fun u => u.roomy ∧ u.cfg = s.cfg ∧ s.SameHead u h ∧
      u.bus.joinOrder h = s.bus.joinOrder h) (B := fun u => (u.headAt h).state = o.becomes ∧
      (u.watchAt h).joining = false ∧ (u.watchAt h).ownTieIn = s.cfg.speeds.tieIn ∧ u.bus.joinOrder h = none)
    hlow hhigh ?_ ?_ ?_ s ⟨hs, rfl, .refl s h, rfl⟩
  · rintro u j hj - hjh ⟨hroomy, hcfg, hsame, hbus⟩
    exact ⟨State.joinAtRest_roomy hroomy, (u.joinAtRest_keeps j).2.2.1.trans hcfg,
      hsame.trans (State.joinAtRest_sameHead (hne j hj hjh)), (State.joinAtRest_joinOrder hjh).trans hbus⟩
  · rintro u j hj - hjh ⟨h1, h2, h3, h4⟩
    have hsame := State.joinAtRest_sameHead (s := u) (hne j hj hjh)
    rw [hsame.head, hsame.watch, State.joinAtRest_joinOrder hjh]
    exact ⟨h1, h2, h3, h4⟩
  · rintro u ⟨hroomy, hcfg, hsame, hbus⟩
    have hjoin : o.join = true := List.find?_some ho
    let v := u.setBus (u.bus.joined h)
    have hsamev := hsame.trans (u.setBus_joined_sameHead h h)
    have hlowers : v.lowers h = true := State.lowers_of h (by
      rw [hsamev.head, hsamev.watch]
      exact .inr (.inr (.inr (.inr ⟨hdropped, hfault⟩))))
    have hvroomy : v.roomy := hroomy
    have hstep : u.joinAtRest h = (v.setHeadState h o.becomes).joinEffect h := by
      unfold State.joinAtRest
      rw [hsame.head, hacked, hbus, ho]
      show v.engagedBy h o = _
      rw [State.engagedBy_lower hcmd hlowers, if_pos hjoin]
    have hmonitor : (v.setHeadState h o.becomes).monitor.heads.length = 8 := (State.setHeadState_roomy _ hvroomy).2.1
    have hbusnone : (u.joinAtRest h).bus.joinOrder h = none := by
      have hkeeps : (u.joinAtRest h).bus = u.bus.joined h := by
        rw [hstep]
        simp only [State.joinEffect_keeps, State.setHeadState_bus]
        rfl
      rw [hkeeps]
      exact u.bus.joinOrder_joined_same h
    rw [hstep] at hbusnone ⊢
    refine ⟨?_, ?_, ?_, hbusnone⟩
    · rw [State.joinEffect_head, State.headAt_setHeadState_same _ _ _ (by rw [hvroomy.1]; omega)]
    · rw [State.joinEffect_watch (by rw [hmonitor]; omega)]
    · rw [State.joinEffect_watch (by rw [hmonitor]; omega)]
      show (v.setHeadState h o.becomes).cfg.speeds.tieIn = _
      rw [(State.setHeadState_keeps v h o.becomes).2.2.2.2.2.1]
      exact congrArg (fun c : Settings => c.speeds.tieIn) hcfg

end Direct

/-! ## A CONTROLLED RESET that waited (R169) -/

/-- It takes effect once nothing is left that it waits for. -/
theorem State.exec_reset_due {v : State} {src : Sender} (hr : v.link.resetBy = some src)
    (hsrc : src = .broadcast ∨ v.link.addressStraps ≠ 15)
    (hs : v.shaft.state = .atRest) (ht : v.frame.travel = none) :
    exec (.reset src 0) (v.setLink { v.link with resetBy := none, replies := [] }) = .next v.resetIfDue.finish := by
  have hwaits : ∀ w : State, w.shaft = v.shaft → w.frame = v.frame → w.resetWaits = false := fun w hshaft hframe => by
    rw [Bool.eq_false_iff, Ne, State.resetWaits_iff, hshaft, hframe, hs, ht]
    simp
  have hdue : v.resetIfDue = v.resetEffect 0 src := by
    unfold State.resetIfDue State.pendingReset
    rw [hwaits v rfl rfl, hr]
    rfl
  let e := v.setLink { v.link with resetBy := none, replies := [] }
  have hserve : serveReset src 0 (e.served src) = (v.resetIfDue.finish, none) := by
    have heffect : (e.served src).resetEffect 0 src = v.resetEffect 0 src := by
      rw [State.served_eq]
      exact v.resetEffect_setLink none src _
    have hstill : (e.served src).resetWaits = false := by
      rw [State.served_eq]
      exact hwaits _ rfl rfl
    unfold serveReset
    rw [if_neg (by decide), if_neg (by simp [hstill]), heffect, hdue]
  refine exec_reset_of_taken ?_ hserve
  cases src with
  | addressed tag =>
    refine .inl ⟨tag, rfl, ?_⟩
    rw [State.hears_iff]
    exact ⟨hsrc.resolve_left Sender.noConfusion, Nat.zero_lt_succ 3, rfl⟩
  | broadcast => exact .inr ⟨rfl, rfl⟩

/-- The point placed ends with the run that a RESET ends. -/
theorem State.resetEffect_point (s : State) (p : Option Nat) (src : Sender) :
    (s.setRun { s.run with point := p }).resetEffect 0 src = s.resetEffect 0 src := by
  rw [State.resetEffect_lifts, State.resetEffect_lifts]
  rfl

theorem State.clearPoint_eq (s : State) : ∃ p, s.clearPoint = s.setRun { s.run with point := p } := by
  unfold State.clearPoint
  dsimp only
  split
  · exact ⟨s.run.point, rfl⟩
  · split
    · exact ⟨_, rfl⟩
    · exact ⟨_, rfl⟩

end Sys2Proof.Machine

/-!
PROOF. Rest at the end of a stop (sections 5.3, 1.3, 1.5; O50): the state at rest, and what the record at the cursor says.
-/

namespace Sys2Proof.Machine
set_option Elab.async false

/-! ## The state at rest (R89, R64, R49, R108) -/

/-- The frame with the pending zones in force (R64). -/
def FrameDrive.zoned (f : FrameDrive) : FrameDrive := { f with zones := f.zones.map (fun z =>
  match z.waiting with
  | some w => ⟨w, none⟩
  | none => z) }

theorem State.applyZones_eq (s : State) : s.applyZones = s.setFrame s.frame.zoned := rfl

/-- The state at rest at the end of a stop, before joins and a waiting RESET are looked at. -/
def State.restedNow (s : State) : State :=
  (((s.setShaft { s.shaft with state := .atRest }).setFrame s.frame.zoned).setGov { s.gov with
    last := none, bound := none }).setBus { s.bus with restTimer := some s.cfg.pollPeriod }

theorem State.stopRests_of_free {s : State} (hs : s.shaft.state = .stopping) (hh : s.shaft.hold = false) :
    s.stopRests = s.restedNow.applyAcked.joinsAtRest.clearPoint.resetIfDue := by
  unfold State.stopRests
  rw [if_neg (ne_true_of_eq_false hh), State.shaftTo_rest (t := .atRest) rfl, hs]
  rfl

theorem State.stopRests_of_held {s : State} (hs : s.shaft.state = .stopping) (hh : s.shaft.hold = true) :
    s.stopRests = (((s.setShaft { s.shaft with state := .holding }).setFrame s.frame.zoned).setBus { s.bus with
      restTimer := some s.cfg.pollPeriod }).joinsAtRest := by
  unfold State.stopRests
  rw [if_pos hh, State.shaftTo_rest (t := .holding) rfl, hs]
  rfl

theorem exec_shaftRestDeclared_of_stopping {s : State} (hb : s.shaft.braked = true) (hs : s.shaft.state = .stopping) :
    exec .shaftRestDeclared s = .next s.stopRests.finish := by
  show Host.Outcome.next (if s.shaft.braked = true then _ else s) = _
  rw [if_pos hb, hs]

theorem exec_shaftRestDeclared_of_referencing {s : State} (hb : s.shaft.braked = true)
    (hs : s.shaft.state = .referencing) : exec .shaftRestDeclared s = .next s.referencingRests.finish := by
  show Host.Outcome.next (if s.shaft.braked = true then _ else s) = _
  rw [if_pos hb, hs]

theorem exec_shaftRestDeclared_of_none {s : State}
    (h : s.shaft.braked = false ∨ (s.shaft.state ≠ .stopping ∧ s.shaft.state ≠ .referencing)) :
    exec .shaftRestDeclared s = .next s := by
  show Host.Outcome.next (if s.shaft.braked = true then _ else s) = _
  by_cases hb : s.shaft.braked = true
  · rw [if_pos hb]
    obtain h | ⟨h1, h2⟩ := h
    · rw [hb] at h
      cases h
    · cases hs : s.shaft.state with
      | stopping => exact absurd hs h1
      | referencing => exact absurd hs h2
      | unreferenced => rfl
      | atRest => rfl
      | running => rfl
      | holding => rfl
  · rw [if_neg hb]

/-! ## The end of a referencing (R93) -/

/-- The shaft at rest after a referencing, reported (R93). -/
def State.referencedNow (s : State) : State :=
  ((s.setShaft { s.shaft with
    state := .atRest, hostReference := false, lockout := { s.shaft.lockout with referencing := false } }).setFrame
      s.frame.zoned).setLink (s.link.post ⟨.shaftReferenced, 0, s.cursor, s.shaft.angle⟩)

theorem State.referencingRests_eq {s : State} (hs : s.shaft.state = .referencing) :
    s.referencingRests = s.referencedNow.resetIfDue := by
  unfold State.referencingRests
  dsimp only
  rw [State.shaftTo_rest (s := s.setShaft { s.shaft with hostReference := false }) (t := .atRest) rfl]
  have hbus : (if (s.setShaft { s.shaft with hostReference := false }).shaft.state.pollsByAngle
      then { (s.setShaft { s.shaft with hostReference := false }).bus with
        restTimer := some (s.setShaft { s.shaft with hostReference := false }).cfg.pollPeriod }
      else (s.setShaft { s.shaft with hostReference := false }).bus) = s.bus := by
    rw [show (s.setShaft { s.shaft with hostReference := false }).shaft.state = .referencing from hs]
    rfl
  rw [hbus]
  rfl

/-! ## What is due at rest -/

/-- A run that is at rest with nothing under way, at a record whose move has not begun. -/
structure State.RestsNow (v : State) : Prop where
  calm : v.calm = true
  stitch : v.frame.stitch = none
  shaft : v.shaft.state = .atRest
  carry : v.run.carry = false

theorem State.RestsNow.advance_stopping {v : State} (h : v.RestsNow) (hs : v.run.state = .stopping) :
    v.advance = some v.stoppingEnd := by
  rw [State.advance_of_calm h.calm, if_pos (.inr hs)]
  unfold State.advanceRun
  rw [h.stitch, h.shaft, h.carry, hs]
  rfl

theorem State.RestsNow.advance_running {v : State} (h : v.RestsNow) (hs : v.run.state = .running) :
    v.advance = some v.actAtRest := by
  rw [State.advance_of_calm h.calm, if_pos (.inl hs)]
  unfold State.advanceRun
  rw [h.stitch, h.shaft, h.carry, hs]
  rfl

/-- Nothing is due with a stitch move in flight. -/
theorem State.advance_of_stitch {v : State} (h : v.calm = true) (hstitch : v.frame.stitch ≠ none) :
    v.advance = none := by
  rw [State.advance_of_calm h]
  split
  · exact if_pos (Option.isSome_iff_ne_none.2 hstitch)
  · rfl

/-- A step that leaves the run where nothing is due. -/
theorem State.finish_into {v w : State} (hv : v.advance = some w) (hact : w.run.activity = .none)
    (hrun : w.run.state ≠ .running) (hstop : w.run.state ≠ .stopping) (ht : w.frame.travel = none)
    (hh : w.frame.homing = none) : v.finish = w.pump := by
  refine State.finish_of_one hv ?_
  rw [State.advance_of_calm (w.calm_iff.2 ⟨hact, ht, hh⟩), if_neg (not_or.2 ⟨hrun, hstop⟩)]

/-! ## What a record is as a stop point (R8) -/

section Kind

variable {s : State} {i : Nat}

/-- A STOP, a target MARK or an END as a stop point is the record itself. -/
theorem State.recordStop_of_stopKindAt {k : StopKind} (hk : k = .stop ∨ k = .finish ∨ ∃ l, k = .mark l)
    (h : s.stopKindAt i = some k) : ∃ r, s.store.recordAt i = some r ∧ s.recordStop i r = some k := by
  unfold State.stopKindAt at h
  split at h
  · obtain rfl := Option.some.inj h
    simp at hk
  · split at h
    · obtain rfl := Option.some.inj h
      simp at hk
    · cases hr : s.store.recordAt i with
      | none =>
        rw [hr] at h
        obtain rfl := Option.some.inj h
        simp at hk
      | some r =>
        rw [hr] at h
        exact ⟨r, rfl, h⟩

theorem State.judgeMotion_ne {i : Nat} {dx dy : Int} {b : Bool} {k : StopKind}
    (hk : k = .stop ∨ k = .finish ∨ ∃ l, k = .mark l) : s.judgeMotion i dx dy b ≠ some k := by
  unfold State.judgeMotion
  dsimp only
  split
  · rintro h
    obtain rfl := Option.some.inj h
    simp at hk
  · split
    · rintro h
      obtain rfl := Option.some.inj h
      simp at hk
    · exact (Option.some_ne_none k).symm

/-- Which record stops as a STOP, an END, or a MARK (R8). -/
theorem State.recordStop_eq {r : DesignRecord} {k : StopKind} (hk : k = .stop ∨ k = .finish ∨ ∃ l, k = .mark l)
    (h : s.recordStop i r = some k) : (r = .stop ∧ k = .stop) ∨ (r = .finish ∧ k = .finish) ∨
      ∃ l, r = .mark l ∧ s.run.mark = some l ∧ k = .mark l := by
  cases r with
  | stitch dx dy => exact absurd h (State.judgeMotion_ne hk)
  | jump dx dy => exact absurd h (State.judgeMotion_ne hk)
  | trim =>
    obtain rfl := Option.some.inj h
    simp at hk
  | colour c =>
    obtain rfl := Option.some.inj h
    simp at hk
  | speed l => exact absurd h (Option.some_ne_none k).symm
  | stop => exact .inl ⟨rfl, (Option.some.inj h).symm⟩
  | mark l =>
    unfold State.recordStop at h
    dsimp only at h
    split at h
    · next hm => exact .inr (.inr ⟨l, rfl, hm, (Option.some.inj h).symm⟩)
    · cases h
  | finish => exact .inr (.inl ⟨rfl, (Option.some.inj h).symm⟩)

end Kind

/-! ## The end of a stop (R18) -/

/-- The record at the cursor is none that the end of a stop acts on. -/
def State.restsHere (s : State) : Prop := ∀ r, s.store.recordAt s.cursor = some r →
  r ≠ .stop ∧ r ≠ .finish ∧ ∀ label, r = .mark label → s.run.mark ≠ some label

/-- The state that the end of a stop looks at the cursor in. -/
def State.looked (s : State) : State := if s.run.pass = .main then s.setRun { s.run with point := none } else s

theorem State.looked_keeps (s : State) : s.looked.store = s.store ∧ s.looked.run.mark = s.run.mark := by
  unfold State.looked
  split <;> exact ⟨rfl, rfl⟩

theorem State.looked_cursor (s : State) : s.looked.cursor = s.cursor := by
  unfold State.looked
  split <;> rfl

theorem State.restKind_eq (s : State) : s.restKind = s.looked.stopKindAt s.cursor := rfl

/-- At any other record the run is PAUSED there. -/
theorem State.stoppingEnd_of_none {s : State} (h : s.restsHere) : s.stoppingEnd = s.toPaused := by
  obtain ⟨hstore, hmark⟩ := s.looked_keeps
  have hnot : ∀ k : StopKind, k = .stop ∨ k = .finish ∨ (∃ l, k = .mark l) → s.restKind ≠ some k := fun k hk hkind => by
    rw [State.restKind_eq] at hkind
    obtain ⟨r, hr, hstop⟩ := State.recordStop_of_stopKindAt hk hkind
    rw [hstore] at hr
    obtain ⟨h1, h2, h3⟩ := h r hr
    obtain ⟨h, -⟩ | ⟨h, -⟩ | ⟨l, h, hm, -⟩ := State.recordStop_eq hk hstop
    · exact h1 h
    · exact h2 h
    · rw [hmark] at hm
      exact h3 l h hm
  unfold State.stoppingEnd
  cases hk : s.restKind with
  | none => rfl
  | some k =>
    cases k with
    | stop => exact absurd hk (hnot _ (.inl rfl))
    | mark l => exact absurd hk (hnot _ (.inr (.inr ⟨l, rfl⟩)))
    | finish => exact absurd hk (hnot _ (.inr (.inl rfl)))
    | patch => rfl
    | join => rfl
    | colour c => rfl
    | trim => rfl
    | fieldLimit => rfl
    | zone => rfl
    | filledEnd => rfl

/-- In the main pass with no point placed, the stop point at the cursor is the record's own. -/
theorem State.stopKindAt_main {s : State} {i : Nat} (hp : s.run.pass = .main) (hpoint : s.run.point = none) :
    s.stopKindAt i = match s.store.recordAt i with
      | some r => s.recordStop i r
      | none => some .filledEnd := by
  have hpatch : ¬ (s.run.pass = .patch ∧ s.patchStop i = true) := by
    rw [hp]
    simp
  have hjoin : ¬ (s.run.pass = .main ∧ s.run.point = some i) := by
    rw [hpoint]
    simp
  unfold State.stopKindAt
  exact (if_neg hpatch).trans (if_neg hjoin)

theorem State.restKind_main {s : State} (hp : s.run.pass = .main) {r : DesignRecord}
    (hr : s.store.recordAt s.cursor = some r) :
    s.restKind = (s.setRun { s.run with point := none }).recordStop s.cursor r := by
  have hlooked : s.looked = s.setRun { s.run with point := none } := if_pos hp
  rw [State.restKind_eq, hlooked, State.stopKindAt_main (s := s.setRun { s.run with point := none }) hp rfl,
    show (s.setRun { s.run with point := none }).store = s.store from rfl, hr]

theorem State.stoppingEnd_of_stop {s : State} (hp : s.run.pass = .main)
    (hr : s.store.recordAt s.cursor = some .stop) : s.stoppingEnd = s.passStop.toPaused := by
  unfold State.stoppingEnd
  rw [State.restKind_main hp hr]
  rfl

theorem State.stoppingEnd_of_mark {s : State} (hp : s.run.pass = .main) {l : Nat}
    (hr : s.store.recordAt s.cursor = some (.mark l)) (hm : s.run.mark = some l) :
    s.stoppingEnd = (s.passMark l).toPaused := by
  unfold State.stoppingEnd
  rw [State.restKind_main hp hr, show (s.setRun { s.run with point := none }).recordStop s.cursor (.mark l) =
    some (.mark l) from if_pos hm]

theorem State.stoppingEnd_of_finish {s : State} (hp : s.run.pass = .main)
    (hr : s.store.recordAt s.cursor = some .finish) : s.stoppingEnd = s.toFinished := by
  unfold State.stoppingEnd
  rw [State.restKind_main hp hr]
  exact if_neg (by rw [hp]; exact Pass.noConfusion)

/-! ## The Run Controller at the record at the cursor (R9, Table 1-4) -/

/-- At a stop point of the main pass no effect record is passed. -/
theorem State.actAtRest_of_stop {s : State} (hstep : s.run.stepDone = false) (hs : s.stopKindAt s.cursor ≠ none) :
    s.actAtRest = s.actOn := by
  unfold State.actAtRest
  rw [if_neg (ne_true_of_eq_false hstep), State.passEffects_of_none fun h => absurd h hs]

theorem State.actOn_main {s : State} (hp : s.run.pass = .main) : s.actOn = match s.stopKindAt s.cursor with
    | some .patch => ((s.setRun { s.run with point := none }).enter .changing).doing (.endStops .pick)
    | some .join => (s.setRun { s.run with point := none }).aboutToRun .running
    | some .stop => s.passStop.pauseFor .programmed
    | some (.colour c) => s.beginColour c
    | some .trim => s.takeTrim
    | some .finish => s.toFinished
    | some (.mark l) => (s.passMark l).pauseFor .mark
    | some .fieldLimit => s.pauseFor .frameLimit
    | some .zone => s.pauseFor .zone
    | some .filledEnd => s.starve
    | none => match s.store.recordAt s.cursor with
      | some r => s.beginFromRest r
      | none => s := by
  have hpatch : ¬ (s.run.pass = .patch ∧ s.patchCovers s.cursor = false) := by
    rw [hp]
    simp
  unfold State.actOn
  exact if_neg hpatch

/-! ## The run as a stop leaves it (R3) -/

/-- The run PAUSED at the end of a stop, but for its cause. -/
def Run.stopped (r : Run) : Run := { r with
  state := .paused, startReturn := none, travelReturn := none, warning := false, stepping := false
  stepDone := false, keepTieIn := false, point := none }

theorem Run.ended_paused {r : Run} (hact : r.activity = .none) (hcarry : r.carry = false) :
    { r.ended with state := .paused } = r.stopped := by
  rw [Run.ended_of_idle hact]
  cases r
  subst hcarry
  rfl

end Sys2Proof.Machine

/-!
PROOF. The end of a design (sections 1.3, 1.7, 9.1; O50): heads lifted, gaps closed one head after another, and the joins that
a stop resolves.
-/

namespace Sys2Proof.Machine
set_option Elab.async false

/-! ## Heads lifted (R25) -/

section Lifts

variable {s : State} {h j : Nat}

theorem State.liftHead_of_engaged (he : s.engagedHead h = true) (hd : s.dropping h = false) :
    s.liftHead h = s.issueLift h .idle false := by
  unfold State.liftHead
  rw [if_pos he, if_neg (ne_true_of_eq_false hd)]

theorem State.liftHead_sameHead (hne : h - 1 ≠ j - 1) : s.SameHead (s.liftHead h) j := by
  unfold State.liftHead
  split_ifs
  · exact .refl s j
  · exact State.issue_sameHead (c := ⟨h, _⟩) hne
  · exact State.setHeadState_sameHead _ hne
  · exact .refl s j

theorem State.liftOnItsWay_liftHead (hj : 1 ≤ j) (hh : 1 ≤ h) (hne : j ≠ h) (hl : s.liftOnItsWay h .idle = true) :
    (s.liftHead j).liftOnItsWay h .idle = true := by
  unfold State.liftHead
  split_ifs
  · exact hl
  · exact State.liftOnItsWay_issue (c := ⟨j, _⟩) hj hh hne hl
  · rw [State.liftOnItsWay_congr (State.setHeadState_sameHead _ (pred_ne_pred hj hh hne.symm)).head
      (State.setHeadState_bus s j .idle)]
    exact hl
  · exact hl

/-- Every engaged head that no fault is taking out is given its LIFT. -/
theorem State.liftAll_lift (hlow : 1 ≤ h) (hhigh : h ≤ 8) (he : s.engagedHead h = true) (hd : s.dropping h = false)
    (hl : (s.linkAt h).lost = false) : s.liftAll.liftOnItsWay h .idle = true :=
  foldl_heads_after (f := State.liftHead) hlow hhigh (Q := fun u => u.liftOnItsWay h .idle = true)
    (fun _ j _ _ hne => State.liftHead_sameHead (by omega))
    (fun _ j hj _ hne hu => State.liftOnItsWay_liftHead hj hlow hne hu) s
    fun u hu => by
      have heu : u.engagedHead h = true := (State.engagedHead_congr hu.head).trans he
      have hdu : u.dropping h = false := by
        unfold State.dropping
        rw [hu.watch]
        exact hd
      rw [State.liftHead_of_engaged heu hdu]
      exact State.issueLift_onItsWay u .idle (by rw [hu.link]; exact hl) (headAt_in (State.engaged_on heu))

theorem State.liftAll_at (s : State) (hlow : 1 ≤ h) (hhigh : h ≤ 8) :
    ∃ u : State, s.SameHead u h ∧ (u.liftHead h).SameHead s.liftAll h := by
  obtain ⟨u, -, hu, hfold⟩ := foldl_at_head (f := State.liftHead) (P := fun _ => True) hlow hhigh
    (fun _ _ _ _ _ => trivial) (fun s j _ hj _ hne => State.liftHead_sameHead (pred_ne_pred hj hlow (Ne.symm hne))) s trivial
  exact ⟨u, hu, hfold⟩

theorem State.engagedHead_of_resting (hr : (s.headAt h).state = .resting) : s.engagedHead h = false := by
  unfold State.engagedHead
  rw [hr]
  rfl

/-- A RESTING head is IDLE at once. -/
theorem State.liftAll_resting (hlow : 1 ≤ h) (hhigh : h ≤ 8) (hr : (s.headAt h).state = .resting) :
    (s.liftAll.headAt h).state = .idle := by
  obtain ⟨u, hu, hfold⟩ := s.liftAll_at hlow hhigh
  have hru : (u.headAt h).state = .resting := by rw [hu.head, hr]
  have hin : h - 1 < u.run.heads.length := headAt_in (by rw [hru]; exact HeadState.noConfusion)
  have hlift : u.liftHead h = u.setHeadState h .idle := by
    unfold State.liftHead
    rw [if_neg (ne_true_of_eq_false (State.engagedHead_of_resting hru)), if_pos hru]
  rw [hfold.head, hlift, State.headAt_setHeadState_same _ _ _ hin]

/-- A head neither engaged nor RESTING is left as it is. -/
theorem State.liftAll_other (hlow : 1 ≤ h) (hhigh : h ≤ 8) (he : s.engagedHead h = false)
    (hr : (s.headAt h).state ≠ .resting) : s.SameHead s.liftAll h := by
  obtain ⟨u, hu, hfold⟩ := s.liftAll_at hlow hhigh
  have hlift : u.liftHead h = u := by
    unfold State.liftHead
    rw [if_neg (ne_true_of_eq_false ((State.engagedHead_congr hu.head).trans he)), if_neg (by rw [hu.head]; exact hr)]
  rw [hlift] at hfold
  exact hu.trans hfold

end Lifts

/-! ## Gaps closed, one head after another (R148) -/

/-- Is it an OPEN gap of a head that is closed? -/
def Gap.closes (p : Nat → Bool) (l : List Nat) (g : Gap) : Bool := l.contains g.head && g.state == .opened && p g.head

/-- A gap closed at an index. -/
def Gap.closedAt (g : Gap) (c : Nat) : Gap := { g with stop := some c, state := .closed }

/-- A gap closed at an index when it is one of a kind. -/
def Gap.closedIf (q : Gap → Bool) (c : Nat) (g : Gap) : Gap := if q g then g.closedAt c else g

theorem Gap.closedIf_keeps (q : Gap → Bool) (c : Nat) (g : Gap) :
    (g.closedIf q c).head = g.head ∧ (g.closedIf q c).start = g.start := by
  unfold Gap.closedIf
  split <;> exact ⟨rfl, rfl⟩

theorem Gap.closedIf_of_not {q : Gap → Bool} {c : Nat} {g : Gap} (h : q g = false) : g.closedIf q c = g :=
  if_neg (ne_true_of_eq_false h)

/-- The gaps when the OPEN ones of some heads have been closed at an index, the empty ones removed. -/
def gapsClosed (q : Gap → Bool) (c : Nat) (gaps : List Gap) : List Gap :=
  (gaps.filter (fun g => !(q g && decide (c ≤ g.start)))).map (Gap.closedIf q c)

theorem gapsClosed_congr {p q : Gap → Bool} {c : Nat} {gaps : List Gap} (h : ∀ g ∈ gaps, p g = q g) :
    gapsClosed p c gaps = gapsClosed q c gaps := by
  unfold gapsClosed Gap.closedIf
  rw [List.filter_congr fun g hg => by rw [h g hg]]
  refine List.map_congr_left fun g hg => ?_
  rw [h g (List.mem_of_mem_filter hg)]

theorem gapsClosed_of_none {q : Gap → Bool} {c : Nat} {gaps : List Gap} (h : ∀ g ∈ gaps, q g = false) :
    gapsClosed q c gaps = gaps := by
  unfold gapsClosed
  rw [List.filter_eq_self.2 fun g hg => by rw [h g hg]; rfl]
  exact (List.map_congr_left fun g hg => Gap.closedIf_of_not (h g hg)).trans (List.map_id _)

/-- Closing two kinds of gaps one after the other closes both; the closed ones are of neither kind any more. -/
theorem gapsClosed_gapsClosed {p q : Gap → Bool} {c : Nat} (gaps : List Gap) (hp : ∀ g : Gap, p (g.closedAt c) = false) :
    gapsClosed p c (gapsClosed q c gaps) = gapsClosed (fun g => p g || q g) c gaps := by
  have hkind : ∀ g, p (g.closedIf q c) = (p g && !q g) := fun g => by
    unfold Gap.closedIf
    cases hq : q g with
    | true =>
      rw [if_pos rfl, hp g, Bool.not_true, Bool.and_false]
    | false => rw [if_neg Bool.false_ne_true, Bool.not_false, Bool.and_true]
  unfold gapsClosed
  rw [List.filter_map, List.map_map, List.filter_filter]
  have hfilter : ∀ g : Gap, (((fun g : Gap => !(p g && decide (c ≤ g.start))) ∘ Gap.closedIf q c) g &&
      !(q g && decide (c ≤ g.start))) = !((p g || q g) && decide (c ≤ g.start)) := fun g => by
    show (!(p (g.closedIf q c) && decide (c ≤ (g.closedIf q c).start)) && _) = _
    rw [hkind, (g.closedIf_keeps q c).2]
    cases p g <;> cases q g <;> cases decide (c ≤ g.start) <;> rfl
  rw [List.filter_congr fun g _ => hfilter g]
  refine List.map_congr_left fun g _ => ?_
  show (if p (g.closedIf q c) then (g.closedIf q c).closedAt c else g.closedIf q c) =
    if (p g || q g) then g.closedAt c else g
  rw [hkind]
  unfold Gap.closedIf
  cases p g <;> cases q g <;> rfl

/-- A list with at most one element of a kind. -/
theorem eq_of_countP_le_one {α : Type} {p : α → Bool} {l : List α} (h : l.countP p ≤ 1) {a b : α} (ha : a ∈ l)
    (hb : b ∈ l) (hpa : p a = true) (hpb : p b = true) : a = b := by
  rw [List.countP_eq_length_filter] at h
  have ha' : a ∈ l.filter p := List.mem_filter.2 ⟨ha, hpa⟩
  have hb' : b ∈ l.filter p := List.mem_filter.2 ⟨hb, hpb⟩
  match hl : l.filter p, h with
  | [], _ => rw [hl] at ha'; cases ha'
  | [x], _ =>
    rw [hl] at ha' hb'
    rw [List.mem_singleton.1 ha', List.mem_singleton.1 hb']

/-- Is it the OPEN gap of a head? -/
def Gap.openOf (h : Nat) (g : Gap) : Bool := g.head == h && g.state == .opened

/-- With one OPEN gap of the head at most, closing it is closing all that there are. -/
theorem closedGaps_eq {gaps : List Gap} {h c : Nat} (hone : gaps.countP (fun g => g.head == h && g.state == .opened) ≤ 1) :
    closedGaps gaps h c = gapsClosed (Gap.openOf h) c gaps := by
  unfold closedGaps
  cases hf : gaps.find? (fun g => g.head == h && g.state == .opened) with
  | none =>
    exact (gapsClosed_of_none fun g hg => by
      have := List.find?_eq_none.1 hf g hg
      exact Bool.eq_false_iff.2 this).symm
  | some g =>
    have hg := List.mem_of_find?_eq_some hf
    have hopen := List.find?_some hf
    have hall : ∀ x ∈ gaps, Gap.openOf h x = true → x = g := fun x hx hox =>
      eq_of_countP_le_one hone hx hg hox hopen
    dsimp only
    unfold gapsClosed
    by_cases hstart : g.start < c
    · rw [if_pos hstart, List.filter_eq_self.2 fun x hx => ?_]
      · rfl
      · cases hox : Gap.openOf h x with
        | false => rfl
        | true =>
          rw [hall x hx hox, decide_eq_false (by omega)]
          rfl
    · rw [if_neg hstart]
      have hfilter : gaps.filter (fun x => !(x.head == h && x.state == .opened)) =
          gaps.filter (fun x => !(Gap.openOf h x && decide (c ≤ x.start))) := by
        refine List.filter_congr fun x hx => ?_
        show (!Gap.openOf h x) = _
        cases hox : Gap.openOf h x with
        | false => rfl
        | true =>
          rw [hall x hx hox, decide_eq_true (by omega)]
          rfl
      rw [hfilter]
      refine ((List.map_congr_left fun x hx => if_neg fun hox => ?_).trans (List.map_id _)).symm
      obtain ⟨hmem, hkept⟩ := List.mem_filter.1 hx
      rw [hox, hall x hmem hox, decide_eq_true (by omega)] at hkept
      cases hkept

/-- The OPEN gaps of the heads of a list that satisfy a test, closed in the order of the list, with the events told. -/
def closeInOrder (p : Nat → Bool) (l : List Nat) (c : Nat) (gaps : List Gap) (link : Link) : List Gap × Link :=
  l.foldl (fun x h => if p h then (closedGaps x.1 h c, x.2.postClosed x.1 h c) else x) (gaps, link)

/-- The events of gaps closed in head order. -/
def Link.toldClosed (p : Nat → Bool) (l : List Nat) (c : Nat) (gaps : List Gap) (link : Link) : Link :=
  l.foldl (fun k h => if p h then k.postClosed gaps h c else k) link

theorem Gap.closes_nil (p : Nat → Bool) (g : Gap) : g.closes p [] = false := rfl

theorem Gap.closes_cons (p : Nat → Bool) (h : Nat) (l : List Nat) (hnot : h ∉ l) (g : Gap) :
    g.closes p (h :: l) = ((p h && g.openOf h) || g.closes p l) := by
  unfold Gap.closes Gap.openOf
  rw [List.contains_cons]
  by_cases hg : g.head = h
  · have hl : l.contains g.head = false := by
      rw [hg]
      exact Bool.eq_false_iff.2 fun h' => hnot (List.contains_iff_mem.1 h')
    rw [hl, hg, beq_self_eq_true]
    cases p h <;> cases (g.state == GapState.opened) <;> rfl
  · rw [beq_eq_false_iff_ne.2 hg]
    cases p h <;> rfl

/-- The gap of one head closed leaves what another's is. -/
theorem gapsClosed_find {c h j : Nat} (hne : j ≠ h) (gaps : List Gap) :
    (gapsClosed (Gap.openOf h) c gaps).find? (Gap.openOf j) = gaps.find? (Gap.openOf j) := by
  have hother : ∀ g, Gap.openOf j g = true → Gap.openOf h g = false := fun g hg => by
    have hhead : g.head = j := beq_iff_eq.1 (Bool.and_eq_true_iff.1 hg).1
    unfold Gap.openOf
    rw [hhead, beq_eq_false_iff_ne.2 hne]
    rfl
  have hsame : ∀ g, (Gap.openOf j ∘ Gap.closedIf (Gap.openOf h) c) g = Gap.openOf j g := fun g => by
    show Gap.openOf j (g.closedIf (Gap.openOf h) c) = _
    cases hg : Gap.openOf h g with
    | false => rw [Gap.closedIf_of_not hg]
    | true =>
      have hhead : g.head = h := beq_iff_eq.1 (Bool.and_eq_true_iff.1 hg).1
      unfold Gap.openOf
      rw [(g.closedIf_keeps _ c).1, hhead, beq_eq_false_iff_ne.2 hne.symm]
      rfl
  have hkept : ∀ g, decide ((!(Gap.openOf h g && decide (c ≤ g.start))) = true ∧ Gap.openOf j g = true) =
      Gap.openOf j g := fun g => by
    cases hg : Gap.openOf j g with
    | false => simp
    | true => simp [hother g hg]
  unfold gapsClosed
  rw [List.find?_map, List.find?_congr fun g _ => hsame g, List.find?_filter, List.find?_congr fun g _ => hkept g]
  cases hf : gaps.find? (Gap.openOf j) with
  | none => rfl
  | some g => exact congrArg some (Gap.closedIf_of_not (hother g (List.find?_some hf)))

/-- Gaps closed head by head are all closed, each told with the start that it had (R148). -/
theorem closeInOrder_eq (p : Nat → Bool) (c : Nat) (l : List Nat) : ∀ (gaps : List Gap) (link : Link), l.Nodup →
    (∀ h ∈ l, gaps.countP (Gap.openOf h) ≤ 1) → closeInOrder p l c gaps link =
      (gapsClosed (Gap.closes p l) c gaps, link.toldClosed p l c gaps) := by
  induction l with
  | nil =>
    intro gaps link _ _
    rw [gapsClosed_of_none fun g _ => Gap.closes_nil p g]
    rfl
  | cons h l ih =>
    intro gaps link hnodup hone
    obtain ⟨hnot, hrest⟩ := List.nodup_cons.1 hnodup
    have hne : ∀ j ∈ l, j ≠ h := fun j hj hjh => hnot (hjh ▸ hj)
    by_cases hp : p h = true
    · have hclosed : closedGaps gaps h c = gapsClosed (Gap.openOf h) c gaps :=
        closedGaps_eq (hone h List.mem_cons_self)
      have hcount : ∀ j ∈ l, (gapsClosed (Gap.openOf h) c gaps).countP (Gap.openOf j) ≤ 1 := fun j hj => by
        refine le_trans ?_ (hone j (List.mem_cons_of_mem _ hj))
        unfold gapsClosed
        rw [List.countP_map]
        refine le_trans (List.countP_mono_left fun g _ hg => ?_) List.filter_sublist.countP_le
        have hg' : Gap.openOf j (g.closedIf (Gap.openOf h) c) = true := hg
        cases ho : Gap.openOf h g with
        | false => rwa [Gap.closedIf_of_not ho] at hg'
        | true =>
          rw [Gap.closedIf, if_pos ho] at hg'
          exact absurd (Bool.and_eq_true_iff.1 hg').2 (show ¬ (GapState.closed == GapState.opened) = true by decide)
      have hstep : closeInOrder p (h :: l) c gaps link =
          closeInOrder p l c (gapsClosed (Gap.openOf h) c gaps) (link.postClosed gaps h c) := by
        unfold closeInOrder
        rw [List.foldl_cons, if_pos hp, ← hclosed]
      have htold : ∀ (l' : List Nat) (k : Link), (∀ j ∈ l', j ≠ h) →
          k.toldClosed p l' c (gapsClosed (Gap.openOf h) c gaps) = k.toldClosed p l' c gaps := by
        intro l'
        induction l' with
        | nil => exact fun _ _ => rfl
        | cons j l' ihl =>
          intro k hj
          have hfind := gapsClosed_find (c := c) (hj j List.mem_cons_self) gaps
          have hpost : k.postClosed (gapsClosed (Gap.openOf h) c gaps) j c = k.postClosed gaps j c := by
            unfold Link.postClosed
            exact congrArg (fun f : Option Gap => match f with
              | none => k
              | some g => k.post ⟨.gapClosed, j, c, c - g.start⟩) hfind
          unfold Link.toldClosed at ihl ⊢
          rw [List.foldl_cons, List.foldl_cons, hpost]
          exact ihl _ fun x hx => hj x (List.mem_cons_of_mem _ hx)
      rw [hstep, ih _ _ hrest hcount, htold l _ hne, gapsClosed_gapsClosed]
      · have hall : gapsClosed (fun g => Gap.closes p l g || Gap.openOf h g) c gaps =
            gapsClosed (Gap.closes p (h :: l)) c gaps := gapsClosed_congr fun g _ => by
          rw [Gap.closes_cons p h l hnot g, hp, Bool.true_and, Bool.or_comm]
        have htell : (link.postClosed gaps h c).toldClosed p l c gaps = link.toldClosed p (h :: l) c gaps := by
          unfold Link.toldClosed
          rw [List.foldl_cons, if_pos hp]
        rw [hall, htell]
      · intro g
        unfold Gap.closes Gap.closedAt
        rw [show (GapState.closed == GapState.opened) = false from rfl, Bool.and_false, Bool.false_and]
    · have hfalse : p h = false := Bool.eq_false_iff.2 hp
      have hstep : closeInOrder p (h :: l) c gaps link = closeInOrder p l c gaps link := by
        unfold closeInOrder
        rw [List.foldl_cons, if_neg hp]
      have htell : link.toldClosed p l c gaps = link.toldClosed p (h :: l) c gaps := by
        unfold Link.toldClosed
        rw [List.foldl_cons, if_neg hp]
      rw [hstep, ih _ _ hrest fun j hj => hone j (List.mem_cons_of_mem _ hj), htell]
      refine congrArg (·, _) (gapsClosed_congr fun g _ => ?_)
      rw [Gap.closes_cons p h l hnot g, hfalse, Bool.false_and, Bool.false_or]

end Sys2Proof.Machine

/-!
PROOF. The end of a design and the joins that a stop resolves (sections 1.3, 8.6, 9.1; O50): the state.
-/

namespace Sys2Proof.Machine
set_option Elab.async false

/-! ## Every OPEN gap closed (R148) -/

theorem Link.SameButGrant.post {l m : Link} (h : l.SameButGrant m) (e : Event) : (l.post e).SameButGrant (m.post e) := by
  obtain ⟨g, rfl⟩ := h
  unfold Link.post
  dsimp only
  split <;> exact ⟨g, rfl⟩

theorem Link.SameButGrant.trans {l m k : Link} (h : l.SameButGrant m) (h' : m.SameButGrant k) : l.SameButGrant k := by
  obtain ⟨g, rfl⟩ := h
  obtain ⟨g', rfl⟩ := h'
  exact ⟨g, rfl⟩

theorem Link.SameButGrant.refl (l : Link) : l.SameButGrant l := ⟨l.grant, rfl⟩

theorem Link.SameButGrant.postClosed {l m : Link} (h : l.SameButGrant m) (gaps : List Gap) (j c : Nat) :
    (l.postClosed gaps j c).SameButGrant (m.postClosed gaps j c) := by
  unfold Link.postClosed
  cases gaps.find? (fun g => g.head == j && g.state == .opened) with
  | none => exact h
  | some g => exact h.post _

theorem State.closeGap_run (s : State) (h : Nat) : (s.closeGap h).run = s.run := (s.closeGap_keeps h).1

/-- The OPEN gap of each head of a list is closed in turn. -/
theorem State.closeGaps_fold (l : List Nat) : ∀ (s : State) (k : Link), s.link.SameButGrant k →
    (l.foldl State.closeGap s).gaps = (closeInOrder (fun _ => true) l s.run.mainCursor s.gaps k).1 ∧
      (l.foldl State.closeGap s).link.SameButGrant (closeInOrder (fun _ => true) l s.run.mainCursor s.gaps k).2 := by
  induction l with
  | nil => exact fun s k hk => ⟨rfl, hk⟩
  | cons h l ih =>
    intro s k hk
    have hlink := (s.closeGap_link h).trans (hk.postClosed s.gaps h s.run.mainCursor)
    obtain ⟨hgaps, hevents⟩ := ih (s.closeGap h) _ hlink
    rw [State.closeGap_run, State.closeGap_gaps] at hgaps hevents
    exact ⟨hgaps, hevents⟩

section CloseAll

variable {s : State} (hone : ∀ h, s.gaps.countP (Gap.openOf h) ≤ 1)
include hone

theorem State.closeAllGaps_closed :
    s.closeAllGaps.gaps = gapsClosed (Gap.closes (fun _ => true) headNumbers) s.run.mainCursor s.gaps ∧
      s.closeAllGaps.link.SameButGrant (s.link.toldClosed (fun _ => true) headNumbers s.run.mainCursor s.gaps) := by
  have hfold := State.closeGaps_fold headNumbers s s.link (.refl _)
  rw [closeInOrder_eq _ _ _ _ _ (by decide) fun h _ => hone h] at hfold
  exact hfold

end CloseAll

theorem State.closeAllGaps_of_none {s : State} (h : ∀ g ∈ s.gaps, Gap.closes (fun _ => true) headNumbers g = false) :
    s.closeAllGaps = s := by
  unfold State.closeAllGaps
  refine List.foldlRecOn (motive := fun u => u = s) headNumbers State.closeGap rfl fun u hu x hx => ?_
  rw [hu]
  have hnone : s.openGap x = none := List.find?_eq_none.2 fun g hg ho => by
    have hno := h g hg
    rw [Bool.and_eq_true, beq_iff_eq, beq_iff_eq] at ho
    unfold Gap.closes at hno
    rw [ho.1, ho.2, List.contains_iff_mem.2 hx] at hno
    cases hno
  unfold State.closeGap
  rw [hnone]

/-! ## The joins that a stop resolves (R144) -/

/-- What a stop does with one head that may wait to join. -/
def State.resolveJoin (s : State) (h : Nat) : State := if (s.watchAt h).joining then s.bringBack h else s

theorem State.resolveJoins_eq (s : State) : s.resolveJoins = headNumbers.foldl State.resolveJoin s := rfl

section Resolve

variable {s : State} {h j : Nat}

/-- A DROPPED head brought back: its own two items, and its gap. -/
theorem State.bringBack_of_dropped (hd : (s.headAt h).state = .dropped) : s.bringBack h =
    ((s.modWatch h (fun w => { w with joining := false })).modHead h (fun e => { e with state := .idle })).closeGap h := by
  have he : (s.modWatch h (fun w => { w with joining := false })).engagedHead h = false := by
    unfold State.engagedHead
    rw [show (s.modWatch h (fun w => { w with joining := false })).headAt h = s.headAt h from rfl, hd]
    rfl
  unfold State.bringBack
  rw [State.setHeadState_of_lifted he]

theorem State.resolveJoin_of_not (hj : (s.watchAt h).joining = false) : s.resolveJoin h = s :=
  if_neg (ne_true_of_eq_false hj)

theorem State.resolveJoin_of (hj : (s.watchAt h).joining = true) : s.resolveJoin h = s.bringBack h := if_pos hj

theorem State.bringBack_sameHead (hne : h - 1 ≠ j - 1) : s.SameHead (s.bringBack h) j :=
  ((State.modWatch_sameHead _ hne).trans (State.setHeadState_sameHead _ hne)).trans (State.closeGap_sameHead h)

theorem State.resolveJoin_sameHead (hne : h - 1 ≠ j - 1) : s.SameHead (s.resolveJoin h) j := by
  unfold State.resolveJoin
  split
  · exact State.bringBack_sameHead hne
  · exact .refl s j

/-- A DROPPED head that waits is IDLE, and waits no more. -/
theorem State.resolveJoins_freed (hs : s.roomy) (hlow : 1 ≤ h) (hhigh : h ≤ 8) (hj : (s.watchAt h).joining = true)
    (hd : (s.headAt h).state = .dropped) : (s.resolveJoins.headAt h).state = .idle ∧
      s.resolveJoins.watchAt h = { s.watchAt h with joining := false } := by
  rw [State.resolveJoins_eq]
  refine foldl_heads_through (f := State.resolveJoin)
    (A := fun u => u.run.heads.length = 8 ∧ u.monitor.heads.length = 8 ∧ s.SameHead u h)
    (B := fun u => (u.headAt h).state = .idle ∧ u.watchAt h = { s.watchAt h with joining := false })
    hlow hhigh ?_ ?_ ?_ s ⟨hs.1, hs.2.1, .refl s h⟩
  · rintro u i hi - hih ⟨hr, hm, hsame⟩
    refine ⟨?_, ?_, hsame.trans (State.resolveJoin_sameHead (by omega))⟩
    · unfold State.resolveJoin State.bringBack
      split
      · rw [State.closeGap_run, (State.setHeadState_headsLength .idle).1]
        exact hr
      · exact hr
    · unfold State.resolveJoin State.bringBack
      split
      · rw [(State.closeGap_keeps _ _).2.2.2.2.2.2.1, (State.setHeadState_headsLength .idle).2]
        exact (List.length_modify ..).trans hm
      · exact hm
  · rintro u i hi - hih ⟨h1, h2⟩
    have hsame := State.resolveJoin_sameHead (s := u) (h := i) (j := h) (by omega)
    rw [hsame.head, hsame.watch]
    exact ⟨h1, h2⟩
  · rintro u ⟨hr, hm, hsame⟩
    have hju : (u.watchAt h).joining = true := by rw [hsame.watch]; exact hj
    have hdu : (u.headAt h).state = .dropped := by rw [hsame.head]; exact hd
    let v := (u.modWatch h (fun w => { w with joining := false })).modHead h (fun e => { e with state := .idle })
    have hclose : v.SameHead (u.resolveJoin h) h := by
      rw [State.resolveJoin_of hju, State.bringBack_of_dropped hdu]
      exact State.closeGap_sameHead h
    rw [hclose.head, hclose.watch]
    refine ⟨?_, ?_⟩
    · exact congrArg HeadEntry.state (State.headAt_modHead_same
        (u.modWatch h (fun w => { w with joining := false })) (fun e => { e with state := .idle })
        (by rw [show (u.modWatch h (fun w => { w with joining := false })).run = u.run from rfl, hr]; omega))
    · refine (State.watchAt_modWatch_same u _ (by rw [hm]; omega)).trans ?_
      rw [hsame.watch]

/-- A head that does not wait is left as it is. -/
theorem State.resolveJoins_other (hlow : 1 ≤ h) (hhigh : h ≤ 8) (hj : (s.watchAt h).joining = false) :
    s.SameHead s.resolveJoins h := by
  rw [State.resolveJoins_eq]
  refine foldl_heads_through (f := State.resolveJoin) (A := fun u => s.SameHead u h) (B := fun u => s.SameHead u h)
    hlow hhigh ?_ ?_ ?_ s (.refl s h)
  · rintro u i hi - hih hsame
    exact hsame.trans (State.resolveJoin_sameHead (by omega))
  · rintro u i hi - hih hsame
    exact hsame.trans (State.resolveJoin_sameHead (by omega))
  · intro u hsame
    rw [State.resolveJoin_of_not (by rw [hsame.watch]; exact hj)]
    exact hsame

/-- The gaps of the heads that wait are closed in turn. -/
theorem State.resolveJoins_fold (l : List Nat) : ∀ (s : State) (k : Link) (p : Nat → Bool), s.link.SameButGrant k →
    l.Nodup → (∀ h ∈ l, 1 ≤ h) → (∀ h ∈ l, (s.watchAt h).joining = p h) →
    (∀ h ∈ l, p h = true → (s.headAt h).state = .dropped) →
    (l.foldl State.resolveJoin s).gaps = (closeInOrder p l s.run.mainCursor s.gaps k).1 ∧
      (l.foldl State.resolveJoin s).link.SameButGrant (closeInOrder p l s.run.mainCursor s.gaps k).2 := by
  induction l with
  | nil => exact fun s k p hk _ _ _ _ => ⟨rfl, hk⟩
  | cons h l ih =>
    intro s k p hk hnodup hlow hjoin hdrop
    obtain ⟨hnot, hrest⟩ := List.nodup_cons.1 hnodup
    have hother : ∀ j ∈ l, s.SameHead (s.resolveJoin h) j := fun j hj => by
      refine State.resolveJoin_sameHead (pred_ne_pred (hlow h List.mem_cons_self)
        (hlow j (List.mem_cons_of_mem _ hj)) fun hjh => hnot (hjh ▸ hj))
    have hnext : ∀ k' : Link, (s.resolveJoin h).link.SameButGrant k' →
        (l.foldl State.resolveJoin (s.resolveJoin h)).gaps =
          (closeInOrder p l (s.resolveJoin h).run.mainCursor (s.resolveJoin h).gaps k').1 ∧
        (l.foldl State.resolveJoin (s.resolveJoin h)).link.SameButGrant
          (closeInOrder p l (s.resolveJoin h).run.mainCursor (s.resolveJoin h).gaps k').2 := fun k' hk' =>
      ih _ k' p hk' hrest (fun j hj => hlow j (List.mem_cons_of_mem _ hj))
        (fun j hj => by rw [(hother j hj).watch]; exact hjoin j (List.mem_cons_of_mem _ hj))
        (fun j hj hpj => by rw [(hother j hj).head]; exact hdrop j (List.mem_cons_of_mem _ hj) hpj)
    unfold closeInOrder at hnext ⊢
    rw [List.foldl_cons, List.foldl_cons]
    cases hp : p h with
    | false =>
      rw [if_neg Bool.false_ne_true]
      have hstep : s.resolveJoin h = s := State.resolveJoin_of_not ((hjoin h List.mem_cons_self).trans hp)
      rw [hstep] at hnext ⊢
      exact hnext k hk
    | true =>
      rw [if_pos rfl]
      let v := (s.modWatch h (fun w => { w with joining := false })).modHead h (fun e => { e with state := .idle })
      have hstep : s.resolveJoin h = v.closeGap h := by
        rw [State.resolveJoin_of ((hjoin h List.mem_cons_self).trans hp),
          State.bringBack_of_dropped (hdrop h List.mem_cons_self hp)]
      have hcursor : (s.resolveJoin h).run.mainCursor = s.run.mainCursor := by
        rw [hstep, State.closeGap_run]
        rfl
      have hgaps : (s.resolveJoin h).gaps = closedGaps s.gaps h s.run.mainCursor := by
        rw [hstep]
        exact v.closeGap_gaps h
      have hlink : (s.resolveJoin h).link.SameButGrant (k.postClosed s.gaps h s.run.mainCursor) := by
        rw [hstep]
        exact (v.closeGap_link h).trans (hk.postClosed _ _ _)
      have hall := hnext _ hlink
      rw [hcursor, hgaps] at hall
      exact hall

end Resolve

section Resolved

variable {s : State} (hone : ∀ h, s.gaps.countP (Gap.openOf h) ≤ 1)
  (hdrop : ∀ h, 1 ≤ h → h ≤ 8 → (s.watchAt h).joining = true → (s.headAt h).state = .dropped)
include hone hdrop

theorem State.resolveJoins_closed :
    s.resolveJoins.gaps = gapsClosed (Gap.closes (fun h => (s.watchAt h).joining) headNumbers) s.run.mainCursor s.gaps ∧
      s.resolveJoins.link.SameButGrant
        (s.link.toldClosed (fun h => (s.watchAt h).joining) headNumbers s.run.mainCursor s.gaps) := by
  have hfold := State.resolveJoins_fold headNumbers s s.link (fun h => (s.watchAt h).joining) (.refl _) (by decide)
    (fun h hh => ((mem_headNumbers h).1 hh).1) (fun _ _ => rfl)
    (fun h hh hj => hdrop h ((mem_headNumbers h).1 hh).1 ((mem_headNumbers h).1 hh).2 hj)
  rw [closeInOrder_eq _ _ _ _ _ (by decide) fun h _ => hone h] at hfold
  exact hfold

end Resolved

/-! ## What lifting the heads keeps -/

theorem State.liftHead_gov (s : State) (h : Nat) : (s.liftHead h).gov = s.gov := by
  unfold State.liftHead
  split_ifs with he
  · rfl
  · simp
  · rw [State.setHeadState_gov, if_neg]
    rw [State.calmsHead_iff]
    exact fun hcalms => he hcalms.1.1
  · rfl

theorem State.liftAll_gov (s : State) : s.liftAll.gov = s.gov := by
  unfold State.liftAll
  exact foldl_keeps (fun t => t.gov) State.liftHead (fun t h => t.liftHead_gov h) headNumbers s

end Sys2Proof.Machine

/-!
PROOF. A trim and a colour change begun at rest (sections 7.3, 7.5; O50).
-/

namespace Sys2Proof.Machine
set_option Elab.async false

/-! ## TRIM issued for a head (R117) -/

/-- A command on its way, or handed back, changes the Thread Change Unit's items of heads alone. -/
theorem State.issue_setup (s : State) (c : BusCommand) :
    (s.issue c).change = { s.change with heads := (s.issue c).change.heads } := by
  by_cases hl : (s.linkAt c.head).lost = true
  · unfold State.issue
    rw [if_pos hl]
    unfold State.notDelivered State.handOver
    dsimp only
    split_ifs <;> rfl
  · rw [State.issue_change (Bool.eq_false_iff.2 hl)]

theorem State.issue_workLength (s : State) (c : BusCommand) :
    (s.issue c).change.heads.length = s.change.heads.length := by
  by_cases hl : (s.linkAt c.head).lost = true
  · have hhand : (s.handOver c.head).change.heads.length = s.change.heads.length := by
      unfold State.handOver
      split
      · exact List.length_modify ..
      · rfl
    unfold State.issue
    rw [if_pos hl]
    unfold State.notDelivered
    dsimp only
    split <;> exact hhand
  · rw [State.issue_change (Bool.eq_false_iff.2 hl)]

/-- A TRIM says nothing to the head table. -/
theorem State.issue_trim_run (s : State) (h : Nat) : (s.issue ⟨h, .trim⟩).run = s.run := by
  by_cases hl : (s.linkAt h).lost = true
  · have hissue : s.issue ⟨h, .trim⟩ = s.handOver h := if_pos hl
    rw [hissue]
    unfold State.handOver
    split <;> rfl
  · exact State.issue_run s ⟨h, .trim⟩ (Bool.eq_false_iff.2 hl)

theorem State.beginTrim_run (s : State) (h : Nat) : (s.beginTrim h).run = s.run :=
  State.issue_trim_run (s.modWork h _) h

/-- The work of a head whose trim is under way, attempt 1. -/
def HeadWork.trims (w : HeadWork) : HeadWork :=
  { w with part := true, trim := .waiting, trimAttempt := 1, trimTimer := false }

section Trim

variable {s : State} {h j : Nat}

theorem State.beginTrim_sameHead (hne : h - 1 ≠ j - 1) : s.SameHead (s.beginTrim h) j :=
  (State.modWork_sameHead _ hne).trans (State.issue_sameHead (c := ⟨h, .trim⟩) hne)

theorem State.beginTrim_setup (s : State) (h : Nat) :
    (s.beginTrim h).change = { s.change with heads := (s.beginTrim h).change.heads } :=
  ((s.modWork h HeadWork.trims).issue_setup ⟨h, .trim⟩).trans rfl

theorem State.beginTrim_workLength (s : State) (h : Nat) :
    (s.beginTrim h).change.heads.length = s.change.heads.length :=
  ((s.modWork h HeadWork.trims).issue_workLength ⟨h, .trim⟩).trans (List.length_modify ..)

theorem State.beginTrim_work (hin : h - 1 < s.change.heads.length) (hl : (s.linkAt h).lost = false) :
    (s.beginTrim h).workAt h = (s.workAt h).trims := by
  have hchange : (s.beginTrim h).change = (s.modWork h HeadWork.trims).change :=
    State.issue_change (s := s.modWork h HeadWork.trims) (c := ⟨h, .trim⟩) hl
  rw [State.workAt_congr (congrArg ThreadChange.heads hchange)]
  exact State.workAt_modWork_same s HeadWork.trims hin

end Trim

theorem foldl_filter_heads (f : State → Nat → State) (p : Nat → Bool) (s : State) :
    (headNumbers.filter p).foldl f s = headNumbers.foldl (fun s h => if p h then f s h else s) s :=
  List.foldl_filter ..

/-! ## The trims of some heads -/

section Trims

variable (s : State) (p : Nat → Bool)

/-- The TRIMs of the heads that satisfy a test. -/
def State.trimmed (s : State) (p : Nat → Bool) : State := s.trimHeads (headNumbers.filter p)

theorem State.trimmed_eq : s.trimmed p = headNumbers.foldl (fun s h => if p h then s.beginTrim h else s) s :=
  foldl_filter_heads State.beginTrim p s

theorem State.trimmed_run : (s.trimmed p).run = s.run :=
  foldl_keeps State.run State.beginTrim State.beginTrim_run _ s

theorem State.trimmed_setup : (s.trimmed p).change = { s.change with heads := (s.trimmed p).change.heads } :=
  List.foldlRecOn (motive := fun u => u.change = { s.change with heads := u.change.heads }) _ State.beginTrim rfl
    fun u hu x _ => by
      rw [u.beginTrim_setup x, hu]

variable {s p}

theorem State.trimmed_work {h : Nat} (hlow : 1 ≤ h) (hhigh : h ≤ 8) (hroom : s.change.heads.length = 8)
    (hp : p h = true) (hl : (s.linkAt h).lost = false) : (s.trimmed p).workAt h = (s.workAt h).trims := by
  rw [State.trimmed_eq]
  refine foldl_heads_through (f := fun s h => if p h then s.beginTrim h else s)
    (A := fun u => s.SameHead u h ∧ u.change.heads.length = 8) (B := fun u => u.workAt h = (s.workAt h).trims)
    hlow hhigh ?_ ?_ ?_ s ⟨.refl s h, hroom⟩
  · rintro u i hi - hih ⟨hsame, hlen⟩
    split
    · exact ⟨hsame.trans (State.beginTrim_sameHead (by omega)), (u.beginTrim_workLength i).trans hlen⟩
    · exact ⟨hsame, hlen⟩
  · rintro u i hi - hih hu
    split
    · rw [(State.beginTrim_sameHead (s := u) (h := i) (j := h) (by omega)).work]
      exact hu
    · exact hu
  · rintro u ⟨hsame, hlen⟩
    rw [if_pos hp, State.beginTrim_work (by rw [hlen]; omega) (by rw [hsame.link]; exact hl), hsame.work]

/-- With a TRIM under way the trim is not complete (R117). -/
theorem State.trimmed_over {h : Nat} (hlow : 1 ≤ h) (hhigh : h ≤ 8) (hroom : s.change.heads.length = 8)
    (hp : p h = true) (hl : (s.linkAt h).lost = false) : (s.trimmed p).trimOver = false := by
  rw [Bool.eq_false_iff]
  intro hall
  have hat := List.all_eq_true.1 hall h ((mem_headNumbers h).2 ⟨hlow, hhigh⟩)
  rw [State.trimmed_work hlow hhigh hroom hp hl] at hat
  cases hat

end Trims

/-! ## The participants of a colour change (R123) -/

section Fixed

variable {s : State} {slot : Nat}

/-- A head that takes part, with its target for a slot. -/
def State.fixOneFor (slot : Nat) (s : State) (h : Nat) : State :=
  s.modWork h (fun w => { w with part := true, target := s.change.needle slot h, caseAttempt := 1 })

theorem State.fixParticipants_eq (s : State) (p : Nat → Bool) (slot : Nat) :
    s.fixParticipants (headNumbers.filter p) slot =
      headNumbers.foldl (fun s h => if p h then State.fixOneFor slot s h else s) s :=
  foldl_filter_heads (State.fixOneFor slot) p s

theorem State.fixParticipants_setup (s : State) (l : List Nat) (slot : Nat) :
    (s.fixParticipants l slot).change = { s.change with heads := (s.fixParticipants l slot).change.heads } :=
  List.foldlRecOn (motive := fun u => u.change = { s.change with heads := u.change.heads }) l (State.fixOneFor slot) rfl
    fun u hu x _ => by
      have hstep : (State.fixOneFor slot u x).change = { u.change with heads := (State.fixOneFor slot u x).change.heads } := rfl
      rw [hstep, hu]

theorem State.fixParticipants_length (s : State) (l : List Nat) (slot : Nat) :
    (s.fixParticipants l slot).change.heads.length = s.change.heads.length :=
  List.foldlRecOn (motive := fun u => u.change.heads.length = s.change.heads.length) l (State.fixOneFor slot) rfl
    fun _ hu _ _ => (List.length_modify ..).trans hu

theorem State.fixParticipants_link (s : State) (l : List Nat) (slot k : Nat) :
    (s.fixParticipants l slot).linkAt k = s.linkAt k :=
  State.linkAt_congr (congrArg Bus.heads (s.fixParticipants_keeps l slot).2.2.2.2.2.1) k

theorem State.fixParticipants_target {p : Nat → Bool} {h : Nat} (hlow : 1 ≤ h) (hhigh : h ≤ 8)
    (hroom : s.change.heads.length = 8) (hp : p h = true) :
    ((s.fixParticipants (headNumbers.filter p) slot).workAt h).target = s.change.needle slot h := by
  rw [State.fixParticipants_eq]
  refine foldl_heads_through (f := fun s h => if p h then State.fixOneFor slot s h else s)
    (A := fun u => u.change.heads.length = 8 ∧ u.change.needle slot h = s.change.needle slot h)
    (B := fun u => (u.workAt h).target = s.change.needle slot h) hlow hhigh ?_ ?_ ?_ s ⟨hroom, rfl⟩
  · rintro u i - - - ⟨hlen, hneedle⟩
    split
    · exact ⟨(List.length_modify ..).trans hlen, hneedle⟩
    · exact ⟨hlen, hneedle⟩
  · rintro u i hi - hih hu
    split
    · unfold State.fixOneFor
      rw [State.workAt_modWork_other u _ (by omega)]
      exact hu
    · exact hu
  · rintro u ⟨hlen, hneedle⟩
    rw [if_pos hp]
    unfold State.fixOneFor
    rw [State.workAt_modWork_same u _ (by rw [hlen]; omega)]
    exact hneedle

end Fixed

end Sys2Proof.Machine

/-!
PROOF. Rest at the end of a stop (sections 1.3, 1.5, 5.3, 7.3, 7.5; O50): what follows from the record at the cursor.
-/

namespace Sys2Proof.Machine
set_option Elab.async false

/-! ## A pass over a STOP or a matched MARK -/

section Passes

variable {v : State} (h : v.RestsNow) (hp : v.run.pass = .main) (hj : v.joinsWaiting = false)
include h hp hj

/-- What is left when the run is PAUSED behind the record that stopped it (R9, R18). -/
structure State.PassedBy (v : State) (mark : Option Nat) (c : Option StopCause) (l : Link) (t : State) : Prop where
  run : t.run = { v.run.stopped with mainCursor := v.run.mainCursor + 1, mark := mark, cause := c }
  shaft : t.shaft = v.shaft
  frame : t.frame = v.frame
  gov : t.gov = v.gov
  gaps : t.gaps = v.gaps
  monitor : t.monitor = v.monitor
  change : t.change = v.change
  cfg : t.cfg = v.cfg
  bus : t.bus = v.pump.bus
  events : t.link.events = (l.post ⟨.stopped, 0, v.run.mainCursor + 1, causeCode c⟩).events

/-- A run that becomes PAUSED in a state whose cursor has passed a record. -/
theorem State.toPaused_passed {u : State} (mark : Option Nat) (c : Option StopCause) {l : Link}
    (hrun : u.run = { v.runPast with mark := mark, cause := c }) (hshaft : u.shaft = v.shaft) (hframe : u.frame = v.frame)
    (hgov : u.gov = v.gov) (hgaps : u.gaps = v.gaps) (hmonitor : u.monitor = v.monitor) (hchange : u.change = v.change)
    (hcfg : u.cfg = v.cfg) (hbus : u.bus = v.bus) (hlink : u.link.SameButGrant l) :
    u.toPaused.run.activity = .none ∧ u.toPaused.run.state = .paused ∧ u.toPaused.frame = v.frame ∧
      v.PassedBy mark c l u.toPaused.pump := by
  have hact : v.run.activity = .none := (v.calm_iff.1 h.calm).1
  have hpast : v.runPast = { v.run with mainCursor := v.run.mainCursor + 1 } := by
    unfold State.runPast
    simp only [if_neg (show ¬ v.run.pass = .patch by rw [hp]; exact Pass.noConfusion)]
  rw [hpast] at hrun
  have hpass : u.passGoesOn = true := by
    unfold State.passGoesOn
    rw [hrun]
    simp [hp]
  have hjoin : u.joinsWaiting = false := by
    unfold State.joinsWaiting State.watchAt at hj ⊢
    rw [hmonitor]
    exact hj
  have hcursor : u.cursor = v.run.mainCursor + 1 := by
    unfold State.cursor
    rw [hrun]
    exact if_neg (by rw [hp]; exact Pass.noConfusion)
  have hpaused := State.toPaused_eq hjoin hpass
  have hended : { u.run.ended with state := .paused } =
      { v.run.stopped with mainCursor := v.run.mainCursor + 1, mark := mark, cause := c } := by
    have hu : u.run.activity = .none := by rw [hrun]; exact hact
    have hc : u.run.carry = false := by rw [hrun]; exact h.carry
    rw [Run.ended_paused hu hc, hrun]
    rfl
  have hcause : u.run.cause = c := by rw [hrun]
  rw [hended, hcursor, hcause] at hpaused
  obtain ⟨prun, -, pgov, pframe, pshaft, pchange, pmonitor, pgaps, plink, pcfg, -⟩ := u.toPaused.pump_keeps
  have hheads : u.toPaused.run.heads = v.run.heads := by rw [hpaused]; rfl
  have hbus' : u.toPaused.bus = v.bus := by rw [hpaused]; exact hbus
  refine ⟨by rw [hpaused]; exact hact, by rw [hpaused]; rfl, by rw [hpaused]; exact hframe,
    ⟨by rw [prun, hpaused]; rfl, by rw [pshaft, hpaused]; exact hshaft, by rw [pframe, hpaused]; exact hframe,
      by rw [pgov, hpaused]; exact hgov, by rw [pgaps, hpaused]; exact hgaps, by rw [pmonitor, hpaused]; exact hmonitor,
      by rw [pchange, hpaused]; exact hchange, by rw [pcfg, hpaused]; exact hcfg,
      State.pump_bus_congr hbus' hheads, ?_⟩⟩
  rw [plink, hpaused]
  exact (hlink.post _).events

/-- Behind a STOP. -/
theorem State.passStop_paused (c : Option StopCause) :
    let w := ((v.passStop).setRun { v.passStop.run with cause := c }).toPaused
    w.run.activity = .none ∧ w.run.state = .paused ∧ w.frame = v.frame ∧ v.PassedBy v.run.mark c v.link w.pump := by
  have hpassed := v.advanceCursor_passed
  refine State.toPaused_passed (u := (v.passStop).setRun { v.passStop.run with cause := c }) h hp hj v.run.mark c ?_
    hpassed.shaft hpassed.frame hpassed.gov hpassed.gaps hpassed.monitor hpassed.change hpassed.cfg hpassed.bus hpassed.link
  show { v.advanceCursor.run with cause := c } = _
  rw [hpassed.run]
  rfl

/-- Behind a matched MARK. -/
theorem State.passMark_paused (label : Nat) (c : Option StopCause) :
    let w := ((v.passMark label).setRun { (v.passMark label).run with cause := c }).toPaused
    w.run.activity = .none ∧ w.run.state = .paused ∧ w.frame = v.frame ∧
      v.PassedBy none c (v.link.post ⟨.markReached, 0, v.run.mainCursor + 1, label⟩) w.pump := by
  have hpassed := v.advanceCursor_passed
  have hcursor : v.advanceCursor.cursor = v.run.mainCursor + 1 := by
    rw [hpassed.cursor]
    unfold State.cursor
    rw [if_neg (by rw [hp]; nofun)]
  refine State.toPaused_passed (u := (v.passMark label).setRun { (v.passMark label).run with cause := c }) h hp hj none c ?_
    hpassed.shaft hpassed.frame hpassed.gov hpassed.gaps hpassed.monitor hpassed.change hpassed.cfg hpassed.bus ?_
  · show { v.advanceCursor.run with mark := none, cause := c } = _
    rw [hpassed.run]
  · show (v.advanceCursor.link.post ⟨.markReached, 0, v.advanceCursor.cursor, label⟩).SameButGrant _
    rw [hcursor]
    exact hpassed.link.post _

end Passes

/-! ## The end of the design (R9) -/

/-- The state at the end of the design before its gaps are closed. -/
def State.atEnd (v : State) : State := v.setRun { v.run.ended with state := .finished }

theorem State.toFinished_stages (v : State) : ∃ u w, u = v.atEnd.closeAllGaps ∧ w = u.resolveJoins.liftAll ∧
    v.toFinished = w.post .designEnded 0 w.gaps.length := ⟨_, _, rfl, rfl, rfl⟩

section Finished

variable {v : State}

/-- The run as the end of the design leaves it, but for its heads. -/
theorem State.toFinished_bare : v.toFinished.run.bare = Run.bare { v.run.ended with state := .finished } := by
  obtain ⟨u, w, hu, hw, hv⟩ := v.toFinished_stages
  have hbare : w.run.bare = u.run.bare := by rw [hw, State.liftAll_bare, State.resolveJoins_bare]
  have hrun : u.run = { v.run.ended with state := .finished } := by
    rw [hu, (State.closeAllGaps_keeps _).1]
    rfl
  rw [hv, (State.post_keeps _ _ _ _).1, hbare, hrun]

theorem State.toFinished_blocks : v.toFinished.run.activity = .none ∧ v.toFinished.run.state = .finished ∧
    v.toFinished.run.cause = v.run.cause ∧ v.toFinished.run.mainCursor = v.run.mainCursor ∧
    v.toFinished.frame = v.frame ∧ v.toFinished.shaft = v.shaft := by
  obtain ⟨u, w, hu, hw, hv⟩ := v.toFinished_stages
  have hrun := Run.of_bare (State.toFinished_bare (v := v))
  have hframe : w.frame = v.frame := by
    rw [hw, (State.liftAll_keeps _).2.1, (State.resolveJoins_keeps _).1, hu, (State.closeAllGaps_keeps _).2.2.1]
    rfl
  have hshaft : w.shaft = v.shaft := by
    rw [hw, (State.liftAll_keeps _).2.2.1, (State.resolveJoins_keeps _).2.1, hu, (State.closeAllGaps_keeps _).2.2.2.1]
    rfl
  generalize v.toFinished = t at *
  refine ⟨by rw [hrun]; rfl, by rw [hrun], by rw [hrun]; rfl, by rw [hrun]; rfl, ?_, ?_⟩
  · rw [hv]
    exact hframe
  · rw [hv]
    exact hshaft

/-- A head that waited to join is IDLE at the end (R144). -/
theorem State.toFinished_freed (hs : v.roomy) {h : Nat} (hlow : 1 ≤ h) (hhigh : h ≤ 8)
    (hj : (v.watchAt h).joining = true) (hd : (v.headAt h).state = .dropped) :
    (v.toFinished.headAt h).state = .idle ∧ v.toFinished.watchAt h = { v.watchAt h with joining := false } := by
  obtain ⟨u, w, hu, hw, hv⟩ := v.toFinished_stages
  obtain ⟨hrun, -, -, -, hbus, hchange, hmonitor, -⟩ := v.atEnd.closeAllGaps_keeps
  rw [← hu] at hrun hbus hchange hmonitor
  have hheads : u.run.heads = v.run.heads := by
    rw [hrun]
    rfl
  have hwatch : u.watchAt h = v.watchAt h := State.watchAt_congr (congrArg Monitor.heads hmonitor) h
  have hhead : u.headAt h = v.headAt h := State.headAt_congr hheads h
  have hroomy : u.roomy := State.roomy_of_lengths hs (congrArg List.length hheads)
    (congrArg (fun m : Monitor => m.heads.length) hmonitor) (congrArg (fun c : ThreadChange => c.heads.length) hchange)
    (congrArg (fun b : Bus => b.heads.length) hbus)
  obtain ⟨hstate, hfree⟩ := State.resolveJoins_freed hroomy hlow hhigh (by rw [hwatch]; exact hj) (by rw [hhead]; exact hd)
  have hother := State.liftAll_other (s := u.resolveJoins) hlow hhigh
    (by unfold State.engagedHead; rw [hstate]; rfl) (by rw [hstate]; exact HeadState.noConfusion)
  rw [← hw] at hother
  have hpost : v.toFinished.headAt h = w.headAt h ∧ v.toFinished.watchAt h = w.watchAt h := by
    rw [hv]
    exact ⟨rfl, rfl⟩
  rw [hpost.1, hpost.2, hother.head, hother.watch, hfree, hwatch]
  exact ⟨hstate, rfl⟩

/-- The end of the design where no head waits: the gaps closed, the heads lifted, and DESIGN ENDED told. -/
theorem State.toFinished_unjoined (hp : v.run.pass = .main) (hj : v.joinsWaiting = false)
    (hone : ∀ h, v.gaps.countP (Gap.openOf h) ≤ 1) : v.toFinished.gov = v.gov ∧
    v.toFinished.gaps = gapsClosed (Gap.closes (fun _ => true) headNumbers) v.run.mainCursor v.gaps ∧
    v.toFinished.link.SameButGrant ((v.link.toldClosed (fun _ => true) headNumbers v.run.mainCursor v.gaps).post
      ⟨.designEnded, 0, v.run.mainCursor, v.toFinished.gaps.length⟩) ∧
    ((∀ g ∈ v.gaps, Gap.closes (fun _ => true) headNumbers g = false) →
      v.toFinished.link.grant = v.link.grant ∧ v.toFinished.store = v.store) ∧
    ∀ h, 1 ≤ h → h ≤ 8 →
      (v.engagedHead h = true → (v.linkAt h).lost = false → v.dropping h = false →
        v.toFinished.liftOnItsWay h .idle = true) ∧
      ((v.headAt h).state = .resting → (v.toFinished.headAt h).state = .idle) := by
  obtain ⟨u, w, hu, hw, hv⟩ := v.toFinished_stages
  obtain ⟨hgaps, hlink⟩ := State.closeAllGaps_closed (s := v.atEnd) hone
  obtain ⟨hrun, hgov, -, -, hbus, -, hmonitor, -⟩ := v.atEnd.closeAllGaps_keeps
  have hunopened : (∀ g ∈ v.gaps, Gap.closes (fun _ => true) headNumbers g = false) → u = v.atEnd := fun hnone =>
    hu.trans (State.closeAllGaps_of_none hnone)
  rw [← hu] at hgaps hlink hrun hgov hbus hmonitor
  have hresolve : u.resolveJoins = u := by
    refine State.resolveJoins_of_none ?_
    unfold State.joinsWaiting State.watchAt at hj ⊢
    rw [hmonitor]
    exact hj
  rw [hresolve] at hw
  have hcursor : w.cursor = v.run.mainCursor := by
    have hbare : w.run.bare = u.run.bare := by rw [hw, State.liftAll_bare]
    rw [State.cursor_of_bare hbare]
    unfold State.cursor
    rw [hrun]
    exact if_neg (show ¬ v.run.pass = .patch by rw [hp]; exact Pass.noConfusion)
  have hheads : ∀ h, u.headAt h = v.headAt h := State.headAt_congr (by rw [hrun]; rfl)
  have hlift := fun h hlow hhigh => State.liftAll_lift (s := u) (h := h) hlow hhigh
  have hrest := fun h hlow hhigh => State.liftAll_resting (s := u) (h := h) hlow hhigh
  obtain ⟨wstore, -, -, wgaps, -⟩ := u.liftAll_keeps
  have wgov := u.liftAll_gov
  have wlink := u.liftAll_link
  rw [← hw] at hlift hrest wstore wgaps wgov wlink
  generalize v.toFinished = t at *
  have htgaps : t.gaps = w.gaps := by
    rw [hv]
    rfl
  refine ⟨?_, ?_, ?_, fun hnone => ⟨?_, ?_⟩, fun h hlow hhigh => ⟨fun he hl hd => ?_, fun hr => ?_⟩⟩
  · rw [hv]
    exact wgov.trans hgov
  · exact htgaps.trans (wgaps.trans hgaps)
  · rw [htgaps, hv]
    show (w.link.post ⟨.designEnded, 0, w.cursor, w.gaps.length⟩).SameButGrant _
    rw [hcursor, wlink]
    exact hlink.post _
  · have hgrant : ∀ (l : Link) (e : Event), (l.post e).grant = l.grant := fun l e => by
      unfold Link.post
      split <;> rfl
    rw [hv]
    refine (hgrant _ _).trans ?_
    rw [wlink, hunopened hnone]
    rfl
  · rw [hv]
    refine wstore.trans ?_
    rw [hunopened hnone]
    rfl
  · have hl' : (u.linkAt h).lost = false := by
      rw [State.linkAt_congr (congrArg Bus.heads hbus)]
      exact hl
    have hd' : u.dropping h = false := by
      unfold State.dropping
      rw [State.watchAt_congr (congrArg Monitor.heads hmonitor)]
      exact hd
    rw [hv]
    exact hlift h hlow hhigh ((State.engagedHead_congr (hheads h)).trans he) hd' hl'
  · rw [hv]
    exact hrest h hlow hhigh (by rw [hheads]; exact hr)

end Finished

end Sys2Proof.Machine

/-!
PROOF. Rest at the end of a stop (sections 1.3, 1.5, 7.3, 7.5, 8.6; O50): heads that wait to join at a stop, and the changes
begun at rest.
-/

namespace Sys2Proof.Machine
set_option Elab.async false

/-! ## A stop at which heads wait to join (R144) -/

section Joined

variable {v : State} (hp : v.run.pass = .main)

/-- The state in which a run has just become PAUSED. -/
def State.atPause (v : State) : State := v.setRun { v.run.ended with state := .paused }

include hp

theorem State.toPaused_stages : ∃ u, u = v.atPause.resolveJoins ∧
    v.toPaused = u.post .stopped 0 (causeCode u.run.cause) := by
  refine ⟨_, rfl, ?_⟩
  have hpass : v.atPause.resolveJoins.run.pass = .main := by
    rw [Run.of_bare v.atPause.resolveJoins_bare]
    exact hp
  have hkeeps : v.toPaused =
      (v.atPause.resolveJoins.post .stopped 0 (causeCode v.atPause.resolveJoins.run.cause)).endPatchIfOver := by
    have hpause : (v.setRun v.run.ended).enter .paused = v.atPause := rfl
    unfold State.toPaused
    dsimp only
    rw [hpause]
  rw [hkeeps]
  generalize v.atPause.resolveJoins = u at *
  refine State.endPatchIfOver_of_goesOn ?_
  unfold State.passGoesOn
  rw [(State.post_keeps _ _ _ _).1, hpass]
  rfl

/-- What becoming PAUSED leaves, the waiting heads brought back. -/
theorem State.toPaused_joined (hs : v.roomy) (hone : ∀ h, v.gaps.countP (Gap.openOf h) ≤ 1)
    (hdrop : ∀ h, 1 ≤ h → h ≤ 8 → (v.watchAt h).joining = true → (v.headAt h).state = .dropped) :
    v.toPaused.run = { v.run.ended with state := .paused, heads := v.toPaused.run.heads } ∧
    v.toPaused.gaps = gapsClosed (Gap.closes (fun h => (v.watchAt h).joining) headNumbers) v.run.mainCursor v.gaps ∧
    v.toPaused.link.SameButGrant ((v.link.toldClosed (fun h => (v.watchAt h).joining) headNumbers v.run.mainCursor
      v.gaps).post ⟨.stopped, 0, v.run.mainCursor, causeCode v.run.cause⟩) ∧
    v.toPaused.shaft = v.shaft ∧ v.toPaused.frame = v.frame ∧
    ∀ h, 1 ≤ h → h ≤ 8 → ((v.watchAt h).joining = true → (v.toPaused.headAt h).state = .idle ∧
        v.toPaused.watchAt h = { v.watchAt h with joining := false }) ∧
      ((v.watchAt h).joining = false →
        v.toPaused.headAt h = v.headAt h ∧ v.toPaused.watchAt h = v.watchAt h) := by
  obtain ⟨u, hu, hv⟩ := State.toPaused_stages hp
  have hbare : u.run.bare = v.atPause.run.bare := by rw [hu, State.resolveJoins_bare]
  have hrun : u.run = { v.run.ended with state := .paused, heads := u.run.heads } := Run.of_bare hbare
  obtain ⟨hgaps, hlink⟩ := State.resolveJoins_closed (s := v.atPause) hone hdrop
  obtain ⟨hframe, hshaft, -⟩ := v.atPause.resolveJoins_keeps
  have hfreed := fun h hlow hhigh hj hd => State.resolveJoins_freed (s := v.atPause) (h := h) hs hlow hhigh hj hd
  have hother := fun h hlow hhigh hj => State.resolveJoins_other (s := v.atPause) (h := h) hlow hhigh hj
  rw [← hu] at hgaps hlink hframe hshaft hfreed hother
  have hcursor : u.cursor = v.run.mainCursor := by
    rw [State.cursor_of_bare hbare]
    exact if_neg (show ¬ v.run.pass = .patch by rw [hp]; exact Pass.noConfusion)
  have hcause : u.run.cause = v.run.cause := by rw [hrun]; rfl
  generalize v.toPaused = t at *
  have htrun : t.run = u.run := by rw [hv]; rfl
  refine ⟨by rw [htrun]; exact hrun, by rw [hv]; exact hgaps, ?_, by rw [hv]; exact hshaft, by rw [hv]; exact hframe,
    fun h hlow hhigh => ⟨fun hj => ?_, fun hj => ?_⟩⟩
  · rw [hv]
    show (u.link.post ⟨.stopped, 0, u.cursor, causeCode u.run.cause⟩).SameButGrant _
    rw [hcursor, hcause]
    exact hlink.post _
  · rw [hv]
    exact hfreed h hlow hhigh hj (hdrop h hlow hhigh hj)
  · rw [hv]
    exact ⟨(hother h hlow hhigh hj).head, (hother h hlow hhigh hj).watch⟩

end Joined

/-! ## A trim at a TRIM record (R117) -/

section Changes

variable {v : State} (h : v.RestsNow)
include h

/-- The state in which a change begins. -/
def State.changingNow (v : State) (c : ThreadChange) : State :=
  (v.setRun { v.run with state := .changing, activity := .changing }).setChange c

omit h in
theorem State.takeTrim_eq : v.takeTrim = (v.changingNow { v.change with work := .trim }).trimmed v.engagedHead := rfl

/-- Nothing is due while a trim waits for a head's answer. -/
theorem State.advance_of_trimming {t : State} (hact : t.run.activity = .changing) (hf : t.frame = v.frame)
    (hover : t.trimOver = false) (hwork : t.change.work = .trim ∨
      (t.change.work = .colourChange ∧ t.change.casing = false)) : t.advance = none := by
  obtain ⟨-, htravel, hhoming⟩ := v.calm_iff.1 h.calm
  rw [State.advance_of_still (by rw [hf]; exact htravel) (by rw [hf]; exact hhoming)]
  unfold State.advanceActivity
  rw [hact]
  rcases hwork with hw | ⟨hw, hc⟩
  · rw [hw, hover]
    rfl
  · rw [hw, hc, hover]
    rfl

/-- A trim that has begun at some head on the bus. -/
theorem State.takeTrim_begins (hroom : v.change.heads.length = 8)
    (hbusy : ∃ h, 1 ≤ h ∧ h ≤ 8 ∧ v.engagedHead h = true ∧ (v.linkAt h).lost = false) :
    v.takeTrim.advance = none ∧ v.takeTrim.run = { v.run with state := .changing, activity := .changing } ∧
    v.takeTrim.link = v.link ∧ v.takeTrim.shaft = v.shaft ∧ v.takeTrim.frame = v.frame ∧
    v.takeTrim.change.work = .trim ∧ ∀ h, (1 ≤ h ∧ h ≤ 8 ∧ v.engagedHead h = true ∧ (v.linkAt h).lost = false) →
      (v.takeTrim.workAt h).trim = .waiting ∧ (v.takeTrim.workAt h).trimAttempt = 1 := by
  let x := v.changingNow { v.change with work := .trim }
  obtain ⟨-, -, hframe, hshaft, -, -, hlink, -⟩ := x.trimHeads_keeps (headNumbers.filter v.engagedHead)
  have hrun : (x.trimmed v.engagedHead).run = x.run := x.trimmed_run _
  have hsetup := x.trimmed_setup v.engagedHead
  have hwork : (x.trimmed v.engagedHead).change.work = .trim := by rw [hsetup]; rfl
  rw [State.takeTrim_eq]
  refine ⟨?_, hrun, hlink, hshaft, hframe, hwork, fun k ⟨hlow, hhigh, he, hl⟩ => ?_⟩
  · obtain ⟨k, hlow, hhigh, he, hl⟩ := hbusy
    exact State.advance_of_trimming h (by rw [show (x.trimmed v.engagedHead).run = x.run from hrun]; rfl) hframe
      (State.trimmed_over (s := x) hlow hhigh hroom he hl) (.inl hwork)
  · rw [show (x.trimmed v.engagedHead).workAt k = (x.workAt k).trims from
      State.trimmed_work (s := x) hlow hhigh hroom he hl]
    exact ⟨rfl, rfl⟩

/-! ## A colour change (R123) -/

omit h in
theorem State.beginColour_none {slot : Nat} (hnone : ∀ h, 1 ≤ h → h ≤ 8 → v.changes h = true → v.change.needle slot h = 0) :
    v.beginColour slot = (v.post .colourBegun 0 slot).pauseFor .noHead := by
  refine if_pos (List.all_eq_true.2 fun k hk => ?_)
  obtain ⟨hmem, hc⟩ := List.mem_filter.1 hk
  obtain ⟨hlow, hhigh⟩ := (mem_headNumbers k).1 hmem
  exact beq_iff_eq.2 (hnone k hlow hhigh hc)

/-- The participants of a colour change, fixed. -/
def State.colourFixed (v : State) (slot : Nat) : State :=
  ((v.post .colourBegun 0 slot).changingNow { v.change with
    work := .colourChange, newSlot := slot, casing := false }).fixParticipants (headNumbers.filter v.changes) slot

omit h in
theorem State.colourFixed_store (slot : Nat) : (v.colourFixed slot).store = v.store ∧
    (v.colourFixed slot).cfg = v.cfg ∧
    (v.colourFixed slot).run = { v.run with state := .changing, activity := .changing } := by
  obtain ⟨hrun, hstore, -, -, -, -, -, -, -, hcfg, -⟩ := ((v.post .colourBegun 0 slot).changingNow { v.change with
    work := .colourChange, newSlot := slot, casing := false }).fixParticipants_keeps (headNumbers.filter v.changes) slot
  exact ⟨hstore, hcfg, hrun⟩

omit h in
theorem State.beginColour_trims {slot : Nat} (hsome : ∃ h, 1 ≤ h ∧ h ≤ 8 ∧ v.changes h = true ∧ v.change.needle slot h ≠ 0)
    (hbefore : v.trimmedBefore = false) : v.beginColour slot =
      (v.colourFixed slot).trimmed (fun k => v.changes k && v.engagedHead k) := by
  obtain ⟨hstore, hcfg, hrun⟩ := v.colourFixed_store slot
  have hnot : ¬ (headNumbers.filter v.changes).all (fun k => v.change.needle slot k == 0) = true := fun hall => by
    obtain ⟨k, hlow, hhigh, hc, hne⟩ := hsome
    exact hne (beq_iff_eq.1 (List.all_eq_true.1 hall k
      (List.mem_filter.2 ⟨(mem_headNumbers k).2 ⟨hlow, hhigh⟩, hc⟩)))
  have hcursor : (v.colourFixed slot).cursor = v.cursor := by
    unfold State.cursor
    rw [hrun]
  have htrimmed : (v.colourFixed slot).trimmedBefore = false := by
    unfold State.trimmedBefore at hbefore ⊢
    rw [hcursor, State.stampAt_congr hstore hcfg]
    exact hbefore
  have hengaged : (headNumbers.filter v.changes).filter (v.colourFixed slot).engagedHead =
      headNumbers.filter (fun k => v.changes k && v.engagedHead k) := by
    rw [List.filter_filter]
    refine List.filter_congr fun k _ => ?_
    have hheads : (v.colourFixed slot).run.heads = v.run.heads := by rw [hrun]
    have hsame : (v.colourFixed slot).engagedHead k = v.engagedHead k :=
      State.engagedHead_congr (State.headAt_congr hheads k)
    rw [hsame, Bool.and_comm]
  have hstages : v.beginColour slot = if (headNumbers.filter v.changes).all (fun k => v.change.needle slot k == 0) then
      (v.post .colourBegun 0 slot).pauseFor .noHead
    else if (v.colourFixed slot).trimmedBefore then (v.colourFixed slot).beginCaseStep
    else (v.colourFixed slot).trimHeads ((headNumbers.filter v.changes).filter (v.colourFixed slot).engagedHead) := rfl
  rw [hstages, if_neg hnot, if_neg (ne_true_of_eq_false htrimmed), hengaged]
  rfl

/-- A colour change that has begun with the trim of some head on the bus. -/
theorem State.beginColour_begins {slot : Nat} (hroom : v.change.heads.length = 8)
    (hbusy : ∃ h, (1 ≤ h ∧ h ≤ 8 ∧ v.engagedHead h = true ∧ (v.linkAt h).lost = false) ∧ v.changes h = true ∧
      v.change.needle slot h ≠ 0) (hbefore : v.trimmedBefore = false) :
    let t := v.beginColour slot
    t.advance = none ∧ t.run = { v.run with state := .changing, activity := .changing } ∧
    t.link = v.link.post ⟨.colourBegun, 0, v.cursor, slot⟩ ∧ t.shaft = v.shaft ∧ t.frame = v.frame ∧
    t.change.work = .colourChange ∧ t.change.newSlot = slot ∧ t.change.casing = false ∧
    ∀ h, (1 ≤ h ∧ h ≤ 8 ∧ v.engagedHead h = true ∧ (v.linkAt h).lost = false) → v.changes h = true →
      (t.workAt h).trim = .waiting ∧ (t.workAt h).target = v.change.needle slot h := by
  intro t
  obtain ⟨k0, ⟨hlow0, hhigh0, he0, hl0⟩, hc0, hne0⟩ := hbusy
  have ht : t = (v.colourFixed slot).trimmed (fun k => v.changes k && v.engagedHead k) :=
    State.beginColour_trims ⟨k0, hlow0, hhigh0, hc0, hne0⟩ hbefore
  let x := (v.post .colourBegun 0 slot).changingNow { v.change with
    work := .colourChange, newSlot := slot, casing := false }
  obtain ⟨-, -, -, xframe, xshaft, -, -, -, xlink, -⟩ := x.fixParticipants_keeps (headNumbers.filter v.changes) slot
  obtain ⟨-, -, hframe, hshaft, -, -, hlink, -⟩ :=
    (v.colourFixed slot).trimHeads_keeps (headNumbers.filter (fun k => v.changes k && v.engagedHead k))
  have hrun : t.run = { v.run with state := .changing, activity := .changing } := by
    rw [ht, State.trimmed_run, (v.colourFixed_store slot).2.2]
  have hsetup : t.change = { v.change with
      work := .colourChange, newSlot := slot, casing := false, heads := t.change.heads } := by
    rw [ht, State.trimmed_setup, show (v.colourFixed slot).change = { x.change with
      heads := (v.colourFixed slot).change.heads } from x.fixParticipants_setup _ _]
    rfl
  have hlen : (v.colourFixed slot).change.heads.length = 8 := (x.fixParticipants_length _ _).trans hroom
  have hlost : ∀ k, (v.colourFixed slot).linkAt k = v.linkAt k := fun k => x.fixParticipants_link _ _ k
  have hboth : ∀ k, v.changes k = true → v.engagedHead k = true → (v.changes k && v.engagedHead k) = true :=
    fun k hc he => by rw [hc, he]; rfl
  have htframe : t.frame = v.frame := by
    rw [ht]
    exact hframe.trans xframe
  refine ⟨?_, hrun, by rw [ht]; exact hlink.trans xlink, by rw [ht]; exact hshaft.trans xshaft, htframe,
    by rw [hsetup], by rw [hsetup], by rw [hsetup], fun k ⟨hlow, hhigh, he, hl⟩ hc => ?_⟩
  · refine State.advance_of_trimming h (by rw [hrun]) htframe ?_ (.inr ⟨by rw [hsetup], by rw [hsetup]⟩)
    rw [ht]
    exact State.trimmed_over hlow0 hhigh0 hlen (hboth k0 hc0 he0) (by rw [hlost]; exact hl0)
  · have hwork := State.trimmed_work (s := v.colourFixed slot) (p := fun k => v.changes k && v.engagedHead k) hlow hhigh hlen
      (hboth k hc he) (by rw [hlost]; exact hl)
    rw [ht, hwork]
    exact ⟨rfl, State.fixParticipants_target (s := x) hlow hhigh hroom hc⟩

end Changes

end Sys2Proof.Machine

/-!
PROOF. INDEX_PULSE and SHAFT_REST_DECLARED (sections 5.1, 5.3, 1.3, 1.5; O50): the obligation.
-/

namespace Sys2Proof.Machine
set_option Elab.async false

/-! ## The point placed, as the shaft comes to rest (R143) -/

theorem State.stillWaiting_of_none {s : State} (hj : s.joinsWaiting = false) : s.stillWaiting = [] := by
  have hwaiting : s.waitingHeads = [] := List.filter_eq_nil_iff.2 fun h hh => by
    rw [s.joinsWaiting_eq_false_iff.1 hj h hh]
    exact Bool.false_ne_true
  unfold State.stillWaiting
  rw [hwaiting]
  split <;> rfl

theorem State.clearPoint_of_none {s : State} (hpoint : s.run.point = none)
    (h : s.joinsWaiting = false ∨ s.stopKindAt s.cursor ≠ none) : s.clearPoint = s := by
  have hsame : s.setRun { s.run with point := none } = s := by
    rw [← hpoint]
    rfl
  have hnot : ¬ (s.stillWaiting.isEmpty = false ∧ (s.setRun { s.run with point := none }).stopKindAt s.cursor = none) := by
    rw [hsame]
    rintro ⟨hempty, hkind⟩
    rcases h with h | h
    · rw [State.stillWaiting_of_none h] at hempty
      cases hempty
    · exact h hkind
  have hpoint' : ¬ s.run.point = some s.cursor := by
    rw [hpoint]
    exact (Option.some_ne_none _).symm
  unfold State.clearPoint
  dsimp only
  rw [if_neg hpoint', if_neg hnot, hsame]

theorem State.resetIfDue_point (s : State) (p : Option Nat) {src : Sender} (hr : s.link.resetBy = some src)
    (hw : s.resetWaits = false) : (s.setRun { s.run with point := p }).resetIfDue = s.resetIfDue := by
  have hdue : ∀ t : State, t.resetWaits = false → t.link.resetBy = some src → t.resetIfDue = t.resetEffect 0 src :=
    fun t hw hr => by
      unfold State.resetIfDue State.pendingReset
      rw [hw, hr]
      rfl
  rw [hdue s hw hr, hdue (s.setRun { s.run with point := p }) hw hr, State.resetEffect_point]

/-! ## Rest with nothing acknowledged and no direct join -/

/-- No direct join is outstanding. -/
def State.noJoins (s : State) : Prop := ∀ h, 1 ≤ h → h ≤ 8 →
  (∀ o, (s.headAt h).acked = some o → o.join = false) ∧ s.bus.joinOrder h = none

section Rests

variable {s : State} (hb : s.shaft.braked = true) (hs : s.shaft.state = .stopping) (hc : s.calm = true)
include hb hs hc

/-- A stop that leaves the shaft HOLDING (R90). -/
theorem exec_rest_held (hh : s.shaft.hold = true) (hstitch : s.frame.stitch ≠ none) (hn : s.noJoins) :
    exec .shaftRestDeclared s = .next (((s.setShaft { s.shaft with state := .holding }).setFrame s.frame.zoned).setBus
      { s.bus with restTimer := some s.cfg.pollPeriod }).pump := by
  let w := ((s.setShaft { s.shaft with state := .holding }).setFrame s.frame.zoned).setBus
    { s.bus with restTimer := some s.cfg.pollPeriod }
  have hnone : w.joinsAtRest = w := State.joinsAtRest_of_none (s := w) hn
  rw [exec_shaftRestDeclared_of_stopping hb hs, State.stopRests_of_held hs hh, hnone]
  exact congrArg _ (State.finish_of_none (State.advance_of_stitch (v := w) hc hstitch))

omit hc in
theorem exec_rest_free (hh : s.shaft.hold = false) (ha : s.ackedNone = true) (hn : s.noJoins) :
    exec .shaftRestDeclared s = .next s.restedNow.clearPoint.resetIfDue.finish := by
  have hacked : s.restedNow.applyAcked = s.restedNow := State.applyAcked_of_none (s := s.restedNow) (s.ackedNone_iff ha)
  have hnone : s.restedNow.joinsAtRest = s.restedNow := State.joinsAtRest_of_none (s := s.restedNow) hn
  rw [exec_shaftRestDeclared_of_stopping hb hs, State.stopRests_of_free hs hh, hacked, hnone]

/-- A CONTROLLED RESET that waited for the stop (R169). -/
theorem exec_rest_reset {src : Sender} (hh : s.shaft.hold = false) (ha : s.ackedNone = true) (hn : s.noJoins)
    (hr : s.link.resetBy = some src) (hsrc : src = .broadcast ∨ s.link.addressStraps ≠ 15) :
    exec .shaftRestDeclared s =
      exec (.reset src 0) (s.restedNow.setLink { s.link with resetBy := none, replies := [] }) := by
  have hdue := State.exec_reset_due (v := s.restedNow) hr hsrc rfl (s.calm_iff.1 hc).2.1
  have hwaits : s.restedNow.resetWaits = false := by
    rw [Bool.eq_false_iff, Ne, State.resetWaits_iff]
    have htravel : s.restedNow.frame.travel = none := (s.calm_iff.1 hc).2.1
    rw [htravel, show s.restedNow.shaft.state = .atRest from rfl]
    simp
  obtain ⟨p, hp⟩ := s.restedNow.clearPoint_eq
  rw [exec_rest_free hb hs hh ha hn, hp, State.resetIfDue_point s.restedNow p hr hwaits]
  exact hdue.symm

omit hc in
/-- Rest with no RESET in progress. -/
theorem exec_rest_run (hh : s.shaft.hold = false) (ha : s.ackedNone = true) (hn : s.noJoins)
    (hr : s.link.resetBy = none) : exec .shaftRestDeclared s = .next s.restedNow.clearPoint.finish := by
  have hreset : s.restedNow.clearPoint.resetIfDue = s.restedNow.clearPoint := by
    obtain ⟨p, hp⟩ := s.restedNow.clearPoint_eq
    rw [hp]
    exact State.resetIfDue_of_none (s := s.restedNow.setRun { s.restedNow.run with point := p }) hr
  rw [exec_rest_free hb hs hh ha hn, hreset]

end Rests

/-! ## Direct joins with a stitch move in flight (R143, log 53) -/

theorem State.joinAtRest_bare (s : State) (h : Nat) : (s.joinAtRest h).run.bare = s.run.bare := by
  unfold State.joinAtRest
  split
  · split
    · exact State.takeOrder_bare _ _ _
    · rfl
  · split
    · exact State.engagedBy_bare _ _ _
    · rfl

theorem State.joinsAtRest_bare (s : State) : s.joinsAtRest.run.bare = s.run.bare :=
  foldl_runBare State.joinAtRest State.joinAtRest_bare headNumbers s

theorem State.setRun_point_self (s : State) : s = s.setRun { s.run with point := s.run.point } := rfl

/-- What direct joins at rest leave, with the point placed set anew and a stitch move in flight. -/
theorem State.joinsAtRest_finish {s w u : State} {p : Option Nat} (hc : s.calm = true) (hstitch : s.frame.stitch ≠ none)
    (hw : w.roomy) (hwf : w.frame = s.frame.zoned) (hwact : w.run.activity = s.run.activity) (hwcfg : w.cfg = s.cfg)
    (hwbus : w.bus.joinOrder = s.bus.joinOrder)
    (hwsame : ∀ h, 1 ≤ h → h ≤ 8 → (s.headAt h).acked = none → s.SameHead w h)
    (hu : u = w.joinsAtRest.setRun { w.joinsAtRest.run with point := p }) :
    u.finish = u.pump ∧ u.shaft = w.shaft ∧ ∀ h o, 1 ≤ h → h ≤ 8 → (s.headAt h).acked = none →
      s.bus.joinOrder h = some o → o.cmd = .lower → (s.headAt h).state = .dropped → (s.watchAt h).fault = none →
      (u.pump.headAt h).state = o.becomes ∧ (u.pump.watchAt h).joining = false ∧
      (u.pump.watchAt h).ownTieIn = s.cfg.speeds.tieIn ∧ u.pump.bus.joinOrder h = none := by
  obtain ⟨hact, htravel, hhoming⟩ := s.calm_iff.1 hc
  have hjoins := fun h o => State.joinsAtRest_joins (s := w) (h := h) (o := o) hw
  have hbare := Run.of_bare w.joinsAtRest_bare
  obtain ⟨hframe, hshaft, -⟩ := w.joinsAtRest_keeps
  generalize w.joinsAtRest = x at *
  have huframe : u.frame = s.frame.zoned := by
    rw [hu]
    exact hframe.trans hwf
  have hcalm : u.calm = true := by
    rw [State.calm_iff, huframe]
    refine ⟨?_, htravel, hhoming⟩
    rw [hu, ← hact, ← hwact]
    show x.run.activity = _
    rw [hbare]
  have hmoving : u.frame.stitch ≠ none := by
    rw [huframe]
    exact hstitch
  refine ⟨State.finish_of_none (State.advance_of_stitch hcalm hmoving), by rw [hu]; exact hshaft,
    fun h o hlow hhigh hacked ho hcmd hd hf => ?_⟩
  have hsame := hwsame h hlow hhigh hacked
  obtain ⟨h1, h2, h3, h4⟩ := hjoins h o hlow hhigh (by rw [hsame.head]; exact hacked)
    (by rw [hwbus]; exact ho) hcmd (by rw [hsame.head]; exact hd) (by rw [hsame.watch]; exact hf)
  obtain ⟨prun, -, -, -, -, -, pmonitor, -⟩ := u.pump_keeps
  have hheads : u.run.heads = x.run.heads := by
    rw [hu]
    rfl
  have hmonitor : u.monitor = x.monitor := by
    rw [hu]
    rfl
  have hbus : u.bus = x.bus := by
    rw [hu]
    rfl
  rw [State.headAt_congr (congrArg Run.heads prun), State.watchAt_congr (congrArg Monitor.heads pmonitor),
    State.headAt_congr hheads, State.watchAt_congr (congrArg Monitor.heads hmonitor), ← hwcfg]
  exact ⟨h1, h2, h3, State.pump_joinOrder (by rw [hbus]; exact h4)⟩

section Joins

variable {s : State} (hb : s.shaft.braked = true) (hs : s.shaft.state = .stopping) (hc : s.calm = true)
include hb hs hc

/-- The shaft after the stop, and a direct join that was outstanding. -/
structure State.JoinedAtRest (s t : State) : Prop where
  shaft : t.shaft.state = (if s.shaft.hold = true then .holding else .atRest)
  heads : ∀ h o, 1 ≤ h → h ≤ 8 → (s.headAt h).acked = none → s.bus.joinOrder h = some o → o.cmd = .lower →
    (s.headAt h).state = .dropped → (s.watchAt h).fault = none →
    (t.headAt h).state = o.becomes ∧ (t.watchAt h).joining = false ∧
    (t.watchAt h).ownTieIn = s.cfg.speeds.tieIn ∧ t.bus.joinOrder h = none

theorem exec_rest_joins_held (hh : s.shaft.hold = true) (hstitch : s.frame.stitch ≠ none) (hroomy : s.roomy) :
    ∃ t, exec .shaftRestDeclared s = .next t ∧ s.JoinedAtRest t := by
  let w := ((s.setShaft { s.shaft with state := .holding }).setFrame s.frame.zoned).setBus
    { s.bus with restTimer := some s.cfg.pollPeriod }
  obtain ⟨hfin, hshaft, hall⟩ := State.joinsAtRest_finish (w := w) hc hstitch hroomy rfl rfl rfl rfl
    (fun h _ _ _ => State.SameHead.of_lists (s := s) (t := w) rfl rfl rfl rfl h) w.joinsAtRest.setRun_point_self
  refine ⟨w.joinsAtRest.pump, ?_, ⟨?_, hall⟩⟩
  · rw [exec_shaftRestDeclared_of_stopping hb hs, State.stopRests_of_held hs hh]
    exact congrArg _ hfin
  · rw [(State.pump_keeps _).2.2.2.2.1, hshaft, if_pos hh]
    rfl

theorem exec_rest_joins_free (hh : s.shaft.hold = false) (hstitch : s.frame.stitch ≠ none) (hr : s.link.resetBy = none)
    (hroomy : s.roomy) : ∃ t, exec .shaftRestDeclared s = .next t ∧ s.JoinedAtRest t := by
  obtain ⟨kframe, kshaft, kbus, kcfg, -, -, -, -, kreset⟩ := s.restedNow.applyAcked_keeps
  have hwroomy : s.restedNow.applyAcked.roomy := foldl_heads_keeps (f := State.takeAcked) (P := State.roomy)
    (fun u j _ _ hu => by
      unfold State.takeAcked
      split
      · exact State.takeOrder_roomy _ hu
      · exact hu) s.restedNow hroomy
  have hbare := Run.of_bare s.restedNow.applyAcked_bare
  have hwsame : ∀ h, 1 ≤ h → h ≤ 8 → (s.headAt h).acked = none → s.SameHead s.restedNow.applyAcked h :=
    fun h hlow hhigh hacked => by
      obtain ⟨x, -, hx, hafter⟩ := State.applyAcked_at (s := s.restedNow) hlow hhigh hroomy
      have htake : x.takeAcked h = x := by
        unfold State.takeAcked
        rw [hx.head, show s.restedNow.headAt h = s.headAt h from rfl, hacked]
      rw [htake] at hafter
      have hrest : s.SameHead s.restedNow h := State.SameHead.of_lists (s := s) (t := s.restedNow) rfl rfl rfl rfl h
      exact hrest.trans (hx.trans hafter)
  have hexec := exec_shaftRestDeclared_of_stopping hb hs
  rw [State.stopRests_of_free hs hh] at hexec
  generalize s.restedNow.applyAcked = w at *
  obtain ⟨p, hp⟩ := w.joinsAtRest.clearPoint_eq
  have hlink : w.joinsAtRest.link.resetBy = none := by
    rw [w.joinsAtRest_keeps.2.2.2.2.2.2.2, kreset]
    exact hr
  obtain ⟨hfin, hshaft, hall⟩ := State.joinsAtRest_finish (w := w) hc hstitch hwroomy kframe
    (by rw [hbare]; rfl) kcfg (hwbus := by rw [kbus]; rfl) hwsame hp
  have hreset : w.joinsAtRest.clearPoint.resetIfDue = w.joinsAtRest.clearPoint := by
    refine State.resetIfDue_of_none ?_
    rw [hp]
    exact hlink
  rw [hreset, hfin] at hexec
  refine ⟨_, hexec, ⟨?_, hall⟩⟩
  rw [(State.pump_keeps _).2.2.2.2.1, hshaft, kshaft, if_neg (ne_true_of_eq_false hh)]
  rfl

end Joins

end Sys2Proof.Machine

/-!
PROOF. INDEX_PULSE and SHAFT_REST_DECLARED (sections 5.1, 5.3, 1.3, 1.5; O50): the obligation.
-/

namespace Sys2Proof.Machine
set_option Elab.async false

/-! ## The gaps as the statement writes them -/

theorem toldClosed_of_find {p : Nat → Bool} {c : Nat} {gaps : List Gap} {link : Link} (back : Gap → Bool)
    (hback : ∀ g, (headNumbers.contains g.head && g.state == .opened && p g.head) = back g) :
    headNumbers.foldl (fun l h => match gaps.find? (fun g => g.head == h && back g) with
      | some g => l.post ⟨.gapClosed, h, c, c - g.start⟩
      | none => l) link = link.toldClosed p headNumbers c gaps := by
  refine List.foldl_ext _ _ _ fun l h hh => ?_
  have hat : ∀ g : Gap, (g.head == h && back g) = (p h && (g.head == h && g.state == .opened)) := fun g => by
    rw [← hback]
    by_cases hg : g.head = h
    · rw [hg, beq_self_eq_true, List.contains_iff_mem.2 hh]
      cases p h <;> cases (g.state == GapState.opened) <;> rfl
    · rw [beq_eq_false_iff_ne.2 hg]
      cases p h <;> rfl
  have hfun : (fun g : Gap => g.head == h && back g) = fun g => p h && (g.head == h && g.state == .opened) := funext hat
  rw [hfun]
  cases hp : p h with
  | false =>
    have hnone : gaps.find? (fun g => false && (g.head == h && g.state == .opened)) = none :=
      List.find?_eq_none.2 fun _ _ => Bool.false_ne_true
    rw [hnone, if_neg Bool.false_ne_true]
  | true =>
    rw [if_pos rfl]
    simp only [Bool.true_and]
    unfold Link.postClosed
    cases gaps.find? (fun g => g.head == h && g.state == .opened) <;> rfl

theorem Gap.closes_eq (p : Nat → Bool) (g : Gap) :
    g.closes p headNumbers = (decide (1 ≤ g.head) && decide (g.head ≤ 8) && g.state == .opened && p g.head) := by
  unfold Gap.closes
  rw [headNumbers_contains]

/-! ## Rest where no head waits to join -/

section Unjoined

variable {s : State} (hb : s.shaft.braked = true) (hs : s.shaft.state = .stopping) (hc : s.calm = true)
  (hh : s.shaft.hold = false) (hstitch : s.frame.stitch = none) (hcarry : s.run.carry = false)
  (hr : s.link.resetBy = none) (ha : s.ackedNone = true) (hn : s.noJoins)
include hb hs hc hh hstitch hcarry hr ha hn

omit hb hs hh hr ha hn in
theorem State.restsNow_point (p : Option Nat) :
    (s.restedNow.setRun { s.restedNow.run with point := p }).RestsNow := ⟨hc, hstitch, rfl, hcarry⟩

omit hb hs hh hstitch hr ha hn in
/-- The run PAUSED at the cursor. -/
theorem State.toPaused_rested (p : Option Nat) (c : Option StopCause) (hj : s.joinsWaiting = false)
    (hgo : s.passGoesOn = true) :
    (s.restedNow.setRun { s.run with point := p, cause := c }).toPaused =
      (s.restedNow.setRun { s.run.stopped with cause := c }).setLink
        (s.link.post ⟨.stopped, 0, s.cursor, causeCode c⟩) := by
  have hpaused := State.toPaused_eq (s := s.restedNow.setRun { s.run with point := p, cause := c }) hj hgo
  have hact : s.run.activity = .none := (s.calm_iff.1 hc).1
  rw [hpaused]
  have hended := Run.ended_paused (r := { s.run with point := p, cause := c }) hact hcarry
  have hrun : (s.restedNow.setRun { s.run with point := p, cause := c }).run =
      { s.run with point := p, cause := c } := rfl
  rw [hrun, hended]
  rfl

end Unjoined

/-- The index by the shaft that it finds (R84, R93, R94). -/
theorem indexPulse_seen (s : State) :
    let u := s.shaft
    let run := exec .indexPulse s
    let restarted := if u.stall = none then none else some (120000 / s.cfg.speeds.crawl)
    (u.referenced = false →
      (u.state ≠ .referencing → run = .next (s.setShaft { u with angle := 0, wraps := 0, stall := restarted })) ∧
      (u.state = .referencing → s.run.activity = .none ∨ s.run.activity = .referencing → s.frame.travel = none →
        s.frame.homing = none →
        run = .next ((s.setShaft { u with
          angle := 0, referenced := true, wraps := 0, seenOpen := false, seenLate := false, seenClose := false
          seenPoll := false, speed := 0, braked := true, stall := none, lockout := { u.lockout with rest := true } }).pump))) ∧
    (u.referenced = true →
      (u.angle ≤ 4 → run = .next (s.setShaft { u with angle := 0, stall := restarted })) ∧
      (1020 ≤ u.angle → u.state = .unreferenced ∨ u.state = .atRest ∨ u.state = .holding →
        let corrected : Shaft := { u with angle := 0, wraps := u.wraps - 1, stall := restarted }
        (u.wraps = 0 → run = .next (s.setShaft { corrected with
          seenOpen := false, seenLate := false, seenClose := false, seenPoll := false })) ∧
        (u.wraps ≠ 0 → run = .next (s.setShaft corrected))) ∧
      (1020 ≤ u.angle → run = exec (.encoderCount true) (s.setShaft { u with angle := 1023, stall := restarted }))) := by
  intro u run restarted
  refine ⟨fun href => ⟨fun hstate => ?_, fun hstate hact ht hh => ?_⟩,
    fun href => ⟨fun hangle => ?_, fun hangle hstate => ⟨fun hw => ?_, fun hw => ?_⟩, fun hangle => ?_⟩⟩
  · refine (exec_indexPulse_of_unreferenced href).trans ?_
    rw [if_neg hstate]
    rfl
  · refine (exec_indexPulse_of_unreferenced href).trans ?_
    rw [if_pos hstate, State.restartStall_eq]
    exact congrArg _ (State.indexFound_finish (s := s.setShaft { s.shaft with stall := s.stallRestarted })
      hstate hact ht hh)
  · refine (exec_indexPulse_of_right href (.inl hangle)).trans ?_
    rw [State.indexCorrects_of_past (s := s.setShaft { s.shaft with stall := s.stallRestarted }) hangle]
    rfl
  · refine (exec_indexPulse_of_still href hangle hstate).trans ?_
    rw [Shaft.forward_of_top { s.shaft with stall := s.stallRestarted }]
    exact congrArg (fun u => Host.Outcome.next (s.setShaft u)) (if_pos hw)
  · refine (exec_indexPulse_of_still href hangle hstate).trans ?_
    rw [Shaft.forward_of_top { s.shaft with stall := s.stallRestarted }]
    exact congrArg (fun u => Host.Outcome.next (s.setShaft u)) (if_neg hw)
  · exact exec_indexPulse_of_below href hangle

/-! ## The end of a referencing that a CONTROLLED RESET waited for (R169) -/

theorem State.resetEffect_post (s : State) (e : Event) (src : Sender) :
    (s.setLink (s.link.post e)).resetEffect 0 src = s.resetEffect 0 src := by
  rw [State.resetEffect_lifts, State.resetEffect_lifts]
  unfold Link.post
  split <;> rfl

theorem exec_rest_referenced_reset {s : State} {src : Sender} (hb : s.shaft.braked = true)
    (hs : s.shaft.state = .referencing) (ht : s.frame.travel = none) (hr : s.link.resetBy = some src)
    (hsrc : src = .broadcast ∨ s.link.addressStraps ≠ 15) : exec .shaftRestDeclared s =
      exec (.reset src 0) (((s.setShaft { s.shaft with
        state := .atRest, hostReference := false, lockout := { s.shaft.lockout with referencing := false } }).setFrame
          s.frame.zoned).setLink { s.link with resetBy := none, replies := [] }) := by
  let v := (s.setShaft { s.shaft with
    state := .atRest, hostReference := false, lockout := { s.shaft.lockout with referencing := false } }).setFrame
      s.frame.zoned
  have hdue := State.exec_reset_due (v := v) hr hsrc rfl ht
  have heffect : ∀ w : State, w.resetWaits = v.resetWaits → w.link.resetBy = some src →
      w.resetEffect 0 src = v.resetEffect 0 src → w.resetIfDue = v.resetIfDue := fun w hw hwr he => by
    have hwaits : v.resetWaits = false := by
      rw [Bool.eq_false_iff, Ne, State.resetWaits_iff, show v.frame.travel = none from ht,
        show v.shaft.state = .atRest from rfl]
      simp
    unfold State.resetIfDue State.pendingReset
    rw [hw, hwaits, hwr, show v.link.resetBy = some src from hr]
    exact he
  have hsame : s.referencedNow.resetIfDue = v.resetIfDue :=
    heffect s.referencedNow rfl ((Link.post_resetBy _ _).trans hr) (v.resetEffect_post _ src)
  rw [exec_shaftRestDeclared_of_referencing hb hs, State.referencingRests_eq hs, hsame]
  exact hdue.symm

/-! ## Rest where heads wait to join (R144) -/

section Waiting

variable {s : State} (hb : s.shaft.braked = true) (hs : s.shaft.state = .stopping) (hc : s.calm = true)
  (hh : s.shaft.hold = false) (hstitch : s.frame.stitch = none) (hcarry : s.run.carry = false)
  (hp : s.run.pass = .main) (hr : s.link.resetBy = none) (ha : s.ackedNone = true) (hn : s.noJoins)
  (hroomy : s.roomy) (hone : ∀ h, s.gaps.countP (Gap.openOf h) ≤ 1)
  (hdrop : ∀ h, 1 ≤ h → h ≤ 8 → (s.watchAt h).joining = true → (s.headAt h).state = .dropped)
include hb hs hc hh hstitch hcarry hp hr ha hn hroomy hdrop

include hone in
/-- A stop that brings the waiting heads back (R144). -/
theorem exec_rest_brings (hstop : s.run.state = .stopping) (hat : s.restsHere) : ∃ t, exec .shaftRestDeclared s = .next t ∧
    t.run = { s.run.stopped with heads := t.run.heads } ∧
    t.gaps = gapsClosed (Gap.closes (fun h => (s.watchAt h).joining) headNumbers) s.run.mainCursor s.gaps ∧
    t.link.events = ((s.link.toldClosed (fun h => (s.watchAt h).joining) headNumbers s.run.mainCursor
      s.gaps).post ⟨.stopped, 0, s.run.mainCursor, causeCode s.run.cause⟩).events ∧
    t.shaft = s.restedNow.shaft ∧ t.frame = s.frame.zoned ∧
    ∀ h, 1 ≤ h → h ≤ 8 → ((s.watchAt h).joining = true → (t.headAt h).state = .idle ∧
        t.watchAt h = { s.watchAt h with joining := false }) ∧
      ((s.watchAt h).joining = false → t.headAt h = s.headAt h ∧ t.watchAt h = s.watchAt h) := by
  obtain ⟨hact, htravel, hhoming⟩ := s.calm_iff.1 hc
  obtain ⟨p, hpoint⟩ := s.restedNow.clearPoint_eq
  let v := s.restedNow.setRun { s.restedNow.run with point := p }
  have hv : v.RestsNow := State.restsNow_point hc hstitch hcarry p
  have hadv : v.advance = some v.toPaused := by
    rw [hv.advance_stopping hstop, State.stoppingEnd_of_none (s := v) hat]
  obtain ⟨hrun, hgaps, hlink, hshaft, hframe, hheads⟩ := State.toPaused_joined (v := v) hp hroomy hone hdrop
  have hended : { v.run.ended with state := .paused } = s.run.stopped :=
    (Run.ended_paused (r := v.run) hact hcarry).trans rfl
  have hrun' : v.toPaused.run = { s.run.stopped with heads := v.toPaused.run.heads } := by
    rw [← hended]
    exact hrun
  have hexec := exec_rest_run hb hs hh ha hn hr
  rw [hpoint] at hexec
  have hexec' : exec .shaftRestDeclared s = .next v.finish := hexec
  generalize v.toPaused = w at *
  obtain ⟨prun, -, -, pframe, pshaft, -, pmonitor, pgaps, plink, -⟩ := w.pump_keeps
  refine ⟨w.pump, ?_, ?_, pgaps.trans hgaps, ?_, pshaft.trans hshaft, pframe.trans hframe, fun h hlow hhigh => ?_⟩
  · rw [hexec', State.finish_into hadv]
    · rw [hrun']
      exact hact
    · rw [hrun']
      exact RunState.noConfusion
    · rw [hrun']
      exact RunState.noConfusion
    · rw [hframe]
      exact htravel
    · rw [hframe]
      exact hhoming
  · rw [prun]
    exact hrun'
  · rw [plink]
    exact hlink.events
  · rw [State.headAt_congr (congrArg Run.heads prun), State.watchAt_congr (congrArg Monitor.heads pmonitor)]
    exact hheads h hlow hhigh

/-- The end of the design, with the waiting heads brought back (R144). -/
theorem exec_rest_ends (hstate : s.run.state = .stopping ∨
      (s.run.state = .running ∧ s.run.point = none ∧ s.run.stepDone = false))
    (hat : s.store.recordAt s.cursor = some .finish) : ∃ t, exec .shaftRestDeclared s = .next t ∧
    t.run.state = .finished ∧ ∀ h, 1 ≤ h → h ≤ 8 → (s.watchAt h).joining = true →
      (t.headAt h).state = .idle ∧ t.watchAt h = { s.watchAt h with joining := false } := by
  obtain ⟨hact, htravel, hhoming⟩ := s.calm_iff.1 hc
  obtain ⟨p, hpoint, hfinish⟩ : ∃ p, s.restedNow.clearPoint = s.restedNow.setRun { s.restedNow.run with point := p } ∧
      (s.restedNow.setRun { s.restedNow.run with point := p }).advance =
        some (s.restedNow.setRun { s.restedNow.run with point := p }).toFinished := by
    rcases hstate with hstop | ⟨hrunning, hnone, hstep⟩
    · obtain ⟨p, hpoint⟩ := s.restedNow.clearPoint_eq
      refine ⟨p, hpoint, ?_⟩
      rw [(State.restsNow_point hc hstitch hcarry p).advance_stopping hstop]
      exact congrArg some (State.stoppingEnd_of_finish
        (s := s.restedNow.setRun { s.restedNow.run with point := p }) hp hat)
    · have hkind : s.restedNow.stopKindAt s.restedNow.cursor = some .finish := by
        rw [State.stopKindAt_main (s := s.restedNow) hp hnone,
          show s.restedNow.store.recordAt s.restedNow.cursor = some .finish from hat]
        rfl
      have hstops : s.restedNow.stopKindAt s.restedNow.cursor ≠ none := by
        rw [hkind]
        exact Option.some_ne_none _
      refine ⟨s.restedNow.run.point, (State.clearPoint_of_none (s := s.restedNow) hnone (.inr hstops)).trans
        s.restedNow.setRun_point_self, ?_⟩
      · rw [← s.restedNow.setRun_point_self]
        have hv : s.restedNow.RestsNow := ⟨hc, hstitch, rfl, hcarry⟩
        rw [hv.advance_running hrunning, State.actAtRest_of_stop (s := s.restedNow) hstep hstops,
          State.actOn_main (s := s.restedNow) hp, hkind]
  let v := s.restedNow.setRun { s.restedNow.run with point := p }
  have hadv : v.advance = some v.toFinished := hfinish
  obtain ⟨kact, kstate, -, -, kframe, -⟩ := State.toFinished_blocks (v := v)
  have hfreed := fun h hlow hhigh hj => State.toFinished_freed (v := v) hroomy (h := h) hlow hhigh hj
    (hdrop h hlow hhigh hj)
  have hexec := exec_rest_run hb hs hh ha hn hr
  rw [hpoint] at hexec
  have hexec' : exec .shaftRestDeclared s = .next v.finish := hexec
  generalize v.toFinished = w at *
  obtain ⟨prun, -, -, -, -, -, pmonitor, -⟩ := w.pump_keeps
  refine ⟨w.pump, ?_, by rw [prun]; exact kstate, fun h hlow hhigh hj => ?_⟩
  · rw [hexec', State.finish_into hadv]
    · rw [kact]
    · rw [kstate]
      exact RunState.noConfusion
    · rw [kstate]
      exact RunState.noConfusion
    · rw [kframe]
      exact htravel
    · rw [kframe]
      exact hhoming
  · rw [State.headAt_congr (congrArg Run.heads prun), State.watchAt_congr (congrArg Monitor.heads pmonitor)]
    exact hfreed h hlow hhigh hj

end Waiting

end Sys2Proof.Machine

/-!
PROOF. Rest at the end of a stop (sections 1.3, 1.5, 1.6, 5.3; O50): what the Run Controller does where no head waits to join.
-/

namespace Sys2Proof.Machine
set_option Elab.async false

/-- The state at rest in which the Run Controller looks at the cursor, with a point placed. -/
def State.restedAt (s : State) (p : Option Nat) : State := s.restedNow.setRun { s.run with point := p }

/-- The cause that a rest records: a STOPPING run keeps its own (R18). -/
def Run.causeAtRest (r : Run) (c : StopCause) : Option StopCause :=
  if r.state = .running then some (r.cause.getD c) else r.cause

theorem Run.causeAtRest_running {r : Run} (h : r.state = .running) (c : StopCause) :
    r.causeAtRest c = some (r.cause.getD c) := if_pos h

theorem Run.causeAtRest_stopping {r : Run} (h : r.state = .stopping) (c : StopCause) : r.causeAtRest c = r.cause :=
  if_neg (by rw [h]; exact RunState.noConfusion)

theorem toldClosed_all (c : Nat) (gaps : List Gap) (link : Link) :
    headNumbers.foldl (fun l h => match gaps.find? (fun g => g.head == h && g.state == .opened) with
      | some g => l.post ⟨.gapClosed, h, c, c - g.start⟩
      | none => l) link = link.toldClosed (fun _ => true) headNumbers c gaps := by
  refine List.foldl_ext _ _ _ fun l h _ => ?_
  rw [if_pos rfl]
  unfold Link.postClosed
  cases gaps.find? (fun g => g.head == h && g.state == .opened) <;> rfl

theorem Gap.closes_all (g : Gap) : g.closes (fun _ => true) headNumbers =
    (decide (1 ≤ g.head) && decide (g.head ≤ 8) && g.state == .opened) := by
  rw [Gap.closes_eq, Bool.and_true]

section Rested

variable {s : State} (hb : s.shaft.braked = true) (hs : s.shaft.state = .stopping) (hc : s.calm = true)
  (hh : s.shaft.hold = false) (hstitch : s.frame.stitch = none) (hcarry : s.run.carry = false)
  (hr : s.link.resetBy = none) (ha : s.ackedNone = true) (hn : s.noJoins) (hj : s.joinsWaiting = false)

include hc hstitch hcarry in
theorem State.restedAt_restsNow (p : Option Nat) : (s.restedAt p).RestsNow := State.restsNow_point hc hstitch hcarry p

include hb hs hh hr ha hn in
theorem exec_rest_stopping : ∃ p, exec .shaftRestDeclared s = .next (s.restedAt p).finish := by
  obtain ⟨p, hp⟩ := s.restedNow.clearPoint_eq
  refine ⟨p, ?_⟩
  rw [exec_rest_run hb hs hh ha hn hr, hp]
  rfl

include hb hs hh hr ha hn hj in
theorem exec_rest_pointless (hpoint : s.run.point = none) : exec .shaftRestDeclared s = .next (s.restedAt none).finish := by
  rw [exec_rest_run hb hs hh ha hn hr, State.clearPoint_of_none (s := s.restedNow) hpoint (.inl hj),
    s.restedNow.setRun_point_self, show s.restedNow.run.point = none from hpoint]
  rfl

include hc in
/-- A step that leaves the run where nothing is due. -/
theorem exec_rest_into {v w : State} (hexec : exec .shaftRestDeclared s = .next v.finish) (hadv : v.advance = some w)
    (hact : w.run.activity = .none) (hstate : w.run.state = .paused ∨ w.run.state = .waiting ∨ w.run.state = .finished)
    (hframe : w.frame = s.frame.zoned) : exec .shaftRestDeclared s = .next w.pump := by
  obtain ⟨-, htravel, hhoming⟩ := s.calm_iff.1 hc
  have hnot : w.run.state ≠ .running ∧ w.run.state ≠ .stopping := by
    rcases hstate with h | h | h <;> rw [h] <;> exact ⟨RunState.noConfusion, RunState.noConfusion⟩
  rw [hexec, State.finish_into hadv hact hnot.1 hnot.2 (by rw [hframe]; exact htravel) (by rw [hframe]; exact hhoming)]

include hc in
/-- A step that leaves the run PAUSED at the cursor, with a link that the step has written. -/
theorem exec_rest_pausing {v : State} {c : Option StopCause} {l : Link}
    (hexec : exec .shaftRestDeclared s = .next v.finish)
    (hadv : v.advance = some ((s.restedNow.setRun { s.run.stopped with cause := c }).setLink l)) :
    exec .shaftRestDeclared s = .next ((s.restedNow.setRun { s.run.stopped with cause := c }).setLink l).pump :=
  exec_rest_into hc hexec hadv (s.calm_iff.1 hc).1 (.inl rfl) rfl

include hc in
/-- What the state passed leaves, by the rest's own terms. -/
theorem exec_rest_passes {v w : State} {p mark c : Option _} {l : Link} (hv : v = s.restedAt p)
    (hexec : exec .shaftRestDeclared s = .next v.finish) (hadv : v.advance = some w)
    (hw : w.run.activity = .none ∧ w.run.state = .paused ∧ w.frame = v.frame ∧ v.PassedBy mark c l w.pump) :
    ∃ t, exec .shaftRestDeclared s = .next t ∧ s.restedNow.PassedBy mark c l t := by
  obtain ⟨hact, hstate, hframe, hpass⟩ := hw
  subst hv
  refine ⟨w.pump, exec_rest_into hc hexec hadv hact (.inl hstate) hframe, ?_⟩
  exact ⟨hpass.run, hpass.shaft, hpass.frame, hpass.gov, hpass.gaps, hpass.monitor, hpass.change, hpass.cfg,
    hpass.bus.trans (State.pump_bus_congr (s := s.restedNow) (t := s.restedAt p) rfl rfl), hpass.events⟩

include hc hcarry hj in
theorem State.pauseFor_restedAt (p : Option Nat) (c : StopCause) (hgo : s.passGoesOn = true) :
    (s.restedAt p).pauseFor c = (s.restedNow.setRun { s.run.stopped with cause := some (s.run.cause.getD c) }).setLink
      (s.link.post ⟨.stopped, 0, s.cursor, causeCode (some (s.run.cause.getD c))⟩) := by
  unfold State.pauseFor
  rw [State.recordCause_eq]
  exact State.toPaused_rested hc hcarry p (some (s.run.cause.getD c)) hj hgo

/-! ### A STOPPING run, and a completed STEP (R18, R21) -/

include hb hs hc hh hstitch hcarry hr ha hn hj

theorem exec_rest_stops (hstop : s.run.state = .stopping) (hgo : s.passGoesOn = true) (hat : s.restsHere) :
    exec .shaftRestDeclared s = .next ((s.restedNow.setRun { s.run.stopped with cause := s.run.cause }).setLink
      (s.link.post ⟨.stopped, 0, s.cursor, causeCode s.run.cause⟩)).pump := by
  obtain ⟨p, hexec⟩ := exec_rest_stopping hb hs hh hr ha hn
  have hv := State.restedAt_restsNow hc hstitch hcarry p
  refine exec_rest_pausing hc hexec ?_
  rw [hv.advance_stopping hstop, State.stoppingEnd_of_none (s := s.restedAt p) hat]
  exact congrArg some (State.toPaused_rested hc hcarry p s.run.cause hj hgo)

theorem exec_rest_steps (hrun : s.run.state = .running) (hpoint : s.run.point = none) (hstep : s.run.stepDone = true)
    (hgo : s.passGoesOn = true) :
    exec .shaftRestDeclared s = .next ((s.restedNow.setRun { s.run.stopped with cause := s.run.causeAtRest .step }).setLink
      (s.link.post ⟨.stopped, 0, s.cursor, causeCode (s.run.causeAtRest .step)⟩)).pump := by
  have hv := State.restedAt_restsNow hc hstitch hcarry none
  have hexec := exec_rest_pointless hb hs hh hr ha hn hj hpoint
  rw [Run.causeAtRest_running hrun]
  refine exec_rest_pausing hc hexec ?_
  rw [hv.advance_running hrun]
  exact congrArg some ((if_pos hstep).trans (State.pauseFor_restedAt hc hcarry hj none .step hgo))

/-! ### The record at the cursor, in either state (R9, R18) -/

section Record

variable (hp : s.run.pass = .main) (hstep : s.run.stepDone = false)
include hp hstep

omit hj hb hs hc hh hstitch hcarry hr ha hn in
theorem State.restedAt_actAtRest {r : DesignRecord} {k : StopKind} (hat : s.store.recordAt s.cursor = some r)
    (hk : (s.restedAt none).recordStop s.cursor r = some k) : (s.restedAt none).actAtRest = (s.restedAt none).actOn ∧
      (s.restedAt none).stopKindAt (s.restedAt none).cursor = some k := by
  have hkind : (s.restedAt none).stopKindAt (s.restedAt none).cursor = some k := by
    rw [State.stopKindAt_main (s := s.restedAt none) hp rfl,
      show (s.restedAt none).store.recordAt (s.restedAt none).cursor = some r from hat]
    exact hk
  refine ⟨State.actAtRest_of_stop (s := s.restedAt none) hstep ?_, hkind⟩
  rw [hkind]
  exact Option.some_ne_none k

theorem exec_rest_stop (hstate : s.run.state = .stopping ∨ (s.run.state = .running ∧ s.run.point = none))
    (hat : s.store.recordAt s.cursor = some .stop) : ∃ t, exec .shaftRestDeclared s = .next t ∧
      s.restedNow.PassedBy s.run.mark (s.run.causeAtRest .programmed) s.link t := by
  rcases hstate with hstop | ⟨hrun, hpoint⟩
  · obtain ⟨p, hexec⟩ := exec_rest_stopping hb hs hh hr ha hn
    have hv := State.restedAt_restsNow hc hstitch hcarry p
    rw [Run.causeAtRest_stopping hstop]
    refine exec_rest_passes hc (v := s.restedAt p) rfl hexec ?_
      (State.passStop_paused hv hp hj s.run.cause)
    rw [hv.advance_stopping hstop, State.stoppingEnd_of_stop (s := s.restedAt p) hp hat]
    have hcause : (s.restedAt p).passStop.run.cause = s.run.cause := by
      show (s.restedAt p).advanceCursor.run.cause = _
      rw [(s.restedAt p).advanceCursor_passed.run]
      rfl
    rw [← hcause]
    rfl
  · have hexec := exec_rest_pointless hb hs hh hr ha hn hj hpoint
    have hv := State.restedAt_restsNow hc hstitch hcarry none
    obtain ⟨hacts, hkind⟩ := State.restedAt_actAtRest hp hstep hat (k := .stop) rfl
    rw [Run.causeAtRest_running hrun]
    refine exec_rest_passes hc (v := s.restedAt none) rfl hexec ?_
      (State.passStop_paused hv hp hj (some (s.run.cause.getD .programmed)))
    have hcause : (s.restedAt none).passStop.run.cause = s.run.cause := by
      show (s.restedAt none).advanceCursor.run.cause = _
      rw [(s.restedAt none).advanceCursor_passed.run]
      rfl
    rw [hv.advance_running hrun, hacts, State.actOn_main (s := s.restedAt none) hp, hkind, ← hcause]
    exact congrArg some (congrArg State.toPaused (State.recordCause_eq _ _))

theorem exec_rest_mark {label : Nat} (hstate : s.run.state = .stopping ∨ (s.run.state = .running ∧ s.run.point = none))
    (hat : s.store.recordAt s.cursor = some (.mark label)) (hm : s.run.mark = some label) :
    ∃ t, exec .shaftRestDeclared s = .next t ∧ s.restedNow.PassedBy none (s.run.causeAtRest .mark)
      (s.link.post ⟨.markReached, 0, s.run.mainCursor + 1, label⟩) t := by
  have hpassed : ∀ p, ((s.restedAt p).passMark label).run.cause = s.run.cause := fun p => by
    show (s.restedAt p).advanceCursor.run.cause = _
    rw [(s.restedAt p).advanceCursor_passed.run]
    rfl
  rcases hstate with hstop | ⟨hrun, hpoint⟩
  · obtain ⟨p, hexec⟩ := exec_rest_stopping hb hs hh hr ha hn
    have hv := State.restedAt_restsNow hc hstitch hcarry p
    rw [Run.causeAtRest_stopping hstop]
    refine exec_rest_passes hc (v := s.restedAt p) rfl hexec ?_
      (State.passMark_paused hv hp hj label s.run.cause)
    rw [hv.advance_stopping hstop, State.stoppingEnd_of_mark (s := s.restedAt p) hp hat hm, ← hpassed p]
    rfl
  · have hexec := exec_rest_pointless hb hs hh hr ha hn hj hpoint
    have hv := State.restedAt_restsNow hc hstitch hcarry none
    obtain ⟨hacts, hkind⟩ := State.restedAt_actAtRest hp hstep hat (k := .mark label) (if_pos hm)
    rw [Run.causeAtRest_running hrun]
    refine exec_rest_passes hc (v := s.restedAt none) rfl hexec ?_
      (State.passMark_paused hv hp hj label (some (s.run.cause.getD .mark)))
    rw [hv.advance_running hrun, hacts, State.actOn_main (s := s.restedAt none) hp, hkind, ← hpassed none]
    exact congrArg some (congrArg State.toPaused (State.recordCause_eq _ _))

theorem exec_rest_finish (hstate : s.run.state = .stopping ∨ (s.run.state = .running ∧ s.run.point = none))
    (hat : s.store.recordAt s.cursor = some .finish) (hone : ∀ h, s.gaps.countP (Gap.openOf h) ≤ 1) :
    ∃ t, exec .shaftRestDeclared s = .next t ∧ t.run.state = .finished ∧ t.run.cause = s.run.cause ∧
      t.run.mainCursor = s.run.mainCursor ∧ t.shaft = s.restedNow.shaft ∧ t.frame = s.frame.zoned ∧
      t.gov = s.restedNow.gov ∧
      t.gaps = gapsClosed (Gap.closes (fun _ => true) headNumbers) s.run.mainCursor s.gaps ∧
      t.link.SameButGrant ((s.link.toldClosed (fun _ => true) headNumbers s.run.mainCursor s.gaps).post
        ⟨.designEnded, 0, s.run.mainCursor, t.gaps.length⟩) ∧
      ((∀ g ∈ s.gaps, Gap.closes (fun _ => true) headNumbers g = false) → t.link.grant = s.link.grant ∧
        t.store = s.store) ∧
      ∀ h, 1 ≤ h → h ≤ 8 →
        (s.engagedHead h = true → (s.linkAt h).lost = false → s.dropping h = false → t.liftOnItsWay h .idle = true) ∧
        ((s.headAt h).state = .resting → (t.headAt h).state = .idle) := by
  obtain ⟨p, hexec, hadv⟩ : ∃ p, exec .shaftRestDeclared s = .next (s.restedAt p).finish ∧
      (s.restedAt p).advance = some (s.restedAt p).toFinished := by
    rcases hstate with hstop | ⟨hrun, hpoint⟩
    · obtain ⟨p, hexec⟩ := exec_rest_stopping hb hs hh hr ha hn
      refine ⟨p, hexec, ?_⟩
      rw [(State.restedAt_restsNow hc hstitch hcarry p).advance_stopping hstop,
        State.stoppingEnd_of_finish (s := s.restedAt p) hp hat]
    · obtain ⟨hacts, hkind⟩ := State.restedAt_actAtRest hp hstep hat (k := .finish) rfl
      refine ⟨none, exec_rest_pointless hb hs hh hr ha hn hj hpoint, ?_⟩
      rw [(State.restedAt_restsNow hc hstitch hcarry none).advance_running hrun, hacts,
        State.actOn_main (s := s.restedAt none) hp, hkind]
  obtain ⟨kact, kstate, kcause, kcursor, kframe, kshaft⟩ := State.toFinished_blocks (v := s.restedAt p)
  obtain ⟨ugov, ugaps, ulink, unone, uheads⟩ := State.toFinished_unjoined (v := s.restedAt p) hp hj hone
  generalize (s.restedAt p).toFinished = w at *
  obtain ⟨prun, pstore, pgov, pframe, pshaft, -, -, pgaps, plink, -⟩ := w.pump_keeps
  refine ⟨w.pump, exec_rest_into hc hexec hadv kact (.inr (.inr kstate)) kframe, ?_⟩
  rw [prun, pstore, pgov, pframe, pshaft, pgaps, plink]
  refine ⟨kstate, kcause, kcursor, kshaft, kframe, ugov, ugaps, ulink, unone, fun h hlow hhigh => ?_⟩
  obtain ⟨hlift, hrest⟩ := uheads h hlow hhigh
  rw [State.headAt_congr (congrArg Run.heads prun)]
  exact ⟨fun he hl hd => State.pump_liftOnItsWay (hlift he hl hd), hrest⟩

end Record

end Rested

end Sys2Proof.Machine

/-!
PROOF. INDEX_PULSE and SHAFT_REST_DECLARED (sections 5.1, 5.3, 1.3, 1.5; O50): a RUNNING run at rest, and the obligation.
-/

namespace Sys2Proof.Machine
set_option Elab.async false

section Running

variable {s : State} (hb : s.shaft.braked = true) (hs : s.shaft.state = .stopping) (hc : s.calm = true)
  (hh : s.shaft.hold = false) (hstitch : s.frame.stitch = none) (hcarry : s.run.carry = false)
  (hr : s.link.resetBy = none) (ha : s.ackedNone = true) (hn : s.noJoins) (hj : s.joinsWaiting = false)
  (hrun : s.run.state = .running) (hpoint : s.run.point = none) (hp : s.run.pass = .main)
  (hstep : s.run.stepDone = false)

include hpoint in
theorem State.restedAt_none : s.restedAt none = s.restedNow := by
  unfold State.restedAt
  rw [← hpoint]
  rfl

include hp in
theorem State.main_goesOn : s.passGoesOn = true := by
  unfold State.passGoesOn
  rw [hp]
  rfl

include hc hstitch hcarry hrun hpoint hp hstep in
/-- A RUNNING run at a stop point of the main pass. -/
theorem State.rested_advance {k : StopKind} (hk : s.restedNow.stopKindAt s.cursor = some k) :
    s.restedNow.advance = some s.restedNow.actOn ∧ s.restedNow.actOn = match some k with
      | some .patch => ((s.restedNow.setRun { s.restedNow.run with point := none }).enter .changing).doing (.endStops .pick)
      | some .join => (s.restedNow.setRun { s.restedNow.run with point := none }).aboutToRun .running
      | some .stop => s.restedNow.passStop.pauseFor .programmed
      | some (.colour c) => s.restedNow.beginColour c
      | some .trim => s.restedNow.takeTrim
      | some .finish => s.restedNow.toFinished
      | some (.mark l) => (s.restedNow.passMark l).pauseFor .mark
      | some .fieldLimit => s.restedNow.pauseFor .frameLimit
      | some .zone => s.restedNow.pauseFor .zone
      | some .filledEnd => s.restedNow.starve
      | none => match s.restedNow.store.recordAt s.restedNow.cursor with
        | some r => s.restedNow.beginFromRest r
        | none => s.restedNow := by
  have hv := State.restedAt_restsNow hc hstitch hcarry none
  rw [State.restedAt_none hpoint] at hv
  have hkind : s.restedNow.stopKindAt s.restedNow.cursor = some k := hk
  refine ⟨?_, ?_⟩
  · rw [hv.advance_running hrun, State.actAtRest_of_stop (s := s.restedNow) hstep
      (by rw [hkind]; exact Option.some_ne_none k)]
  · rw [State.actOn_main (s := s.restedNow) hp, hkind] <;> cases k <;> rfl

include hb hs hc hh hstitch hcarry hr ha hn hj hrun hpoint hp hstep

/-- A stop point at which the run is PAUSED with its cause. -/
theorem exec_rest_pauseFor {k : StopKind} {c : StopCause} (hk : s.restedNow.stopKindAt s.cursor = some k)
    (hact : s.restedNow.actOn = s.restedNow.pauseFor c) :
    exec .shaftRestDeclared s = .next ((s.restedNow.setRun { s.run.stopped with cause := s.run.causeAtRest c }).setLink
      (s.link.post ⟨.stopped, 0, s.cursor, causeCode (s.run.causeAtRest c)⟩)).pump := by
  have hexec := exec_rest_pointless hb hs hh hr ha hn hj hpoint
  obtain ⟨hadv, -⟩ := State.rested_advance hc hstitch hcarry hrun hpoint hp hstep hk
  have hpause := State.pauseFor_restedAt hc hcarry hj none c (State.main_goesOn hp)
  rw [State.restedAt_none hpoint] at hexec hpause
  rw [Run.causeAtRest_running hrun]
  exact exec_rest_pausing hc hexec (by rw [hadv, hact, hpause])

omit hb hs hc hh hstitch hcarry hr ha hn hj hrun hstep in
theorem State.rested_filledEnd (hat : s.store.recordAt s.cursor = none) :
    s.restedNow.stopKindAt s.cursor = some .filledEnd := by
  rw [State.stopKindAt_main (s := s.restedNow) hp hpoint, show s.restedNow.store.recordAt s.cursor = none from hat]

/-- The end of the filled records (R20), in a mode that does not wait. -/
theorem exec_rest_starves (hat : s.store.recordAt s.cursor = none) (hm : s.run.mode ≠ .continuous) :
    exec .shaftRestDeclared s = .next ((s.restedNow.setRun { s.run.stopped with
        cause := s.run.causeAtRest s.starvationCause }).setLink
      (s.link.post ⟨.stopped, 0, s.cursor, causeCode (s.run.causeAtRest s.starvationCause)⟩)).pump := by
  have hk := State.rested_filledEnd hpoint hp hat
  refine exec_rest_pauseFor hb hs hc hh hstitch hcarry hr ha hn hj hrun hpoint hp hstep hk ?_
  rw [(State.rested_advance hc hstitch hcarry hrun hpoint hp hstep hk).2]
  exact if_neg hm

/-- The end of the filled records in CONTINUOUS mode. -/
theorem exec_rest_waits (hat : s.store.recordAt s.cursor = none) (hm : s.run.mode = .continuous) :
    exec .shaftRestDeclared s = .next ((s.restedNow.setRun { s.run with
        state := .waiting, cause := s.run.causeAtRest s.starvationCause }).setLink
      (s.link.post ⟨.waiting, 0, s.cursor, causeCode (s.run.causeAtRest s.starvationCause)⟩)).pump := by
  have hk := State.rested_filledEnd hpoint hp hat
  have hexec := exec_rest_pointless hb hs hh hr ha hn hj hpoint
  obtain ⟨hadv, hact⟩ := State.rested_advance hc hstitch hcarry hrun hpoint hp hstep hk
  rw [State.restedAt_none hpoint] at hexec
  have hwait : s.restedNow.actOn = (s.restedNow.setRun { s.run with
      state := .waiting, cause := some (s.run.cause.getD s.starvationCause) }).setLink
      (s.link.post ⟨.waiting, 0, s.cursor, causeCode (some (s.run.cause.getD s.starvationCause))⟩) := by
    rw [hact]
    refine (if_pos hm).trans ?_
    unfold State.toWaiting
    rw [State.recordCause_eq]
    rfl
  rw [hwait] at hadv
  rw [Run.causeAtRest_running hrun]
  exact exec_rest_into hc hexec hadv (s.calm_iff.1 hc).1 (.inr (.inl rfl)) rfl

/-- A TRIM record: the trim begins (R117). -/
theorem exec_rest_trim (hroom : s.change.heads.length = 8) (hat : s.store.recordAt s.cursor = some .trim)
    (hbusy : ∃ h, 1 ≤ h ∧ h ≤ 8 ∧ s.engagedHead h = true ∧ (s.linkAt h).lost = false) :
    ∃ t, exec .shaftRestDeclared s = .next t ∧ t.run = { s.run with state := .changing, activity := .changing } ∧
      t.link = s.link ∧ t.shaft = s.restedNow.shaft ∧ t.frame = s.frame.zoned ∧ t.change.work = .trim ∧
      ∀ h, (1 ≤ h ∧ h ≤ 8 ∧ s.engagedHead h = true ∧ (s.linkAt h).lost = false) →
        (t.workAt h).trim = .waiting ∧ (t.workAt h).trimAttempt = 1 := by
  have hk : s.restedNow.stopKindAt s.cursor = some .trim := by
    rw [State.stopKindAt_main (s := s.restedNow) hp hpoint,
      show s.restedNow.store.recordAt s.cursor = some .trim from hat]
    rfl
  have hv := State.restedAt_restsNow hc hstitch hcarry none
  have hexec := exec_rest_pointless hb hs hh hr ha hn hj hpoint
  rw [State.restedAt_none hpoint] at hexec hv
  obtain ⟨hadv, hact⟩ := State.rested_advance hc hstitch hcarry hrun hpoint hp hstep hk
  obtain ⟨hnone, trun, tlink, tshaft, tframe, twork, theads⟩ := State.takeTrim_begins hv hroom hbusy
  rw [hact] at hadv
  dsimp only at hadv
  generalize s.restedNow.takeTrim = w at *
  obtain ⟨prun, -, -, pframe, pshaft, pchange, -, -, plink, -⟩ := w.pump_keeps
  refine ⟨w.pump, by rw [hexec, State.finish_of_one hadv hnone], ?_⟩
  have hwork : ∀ h, w.pump.workAt h = w.workAt h := State.workAt_congr (congrArg ThreadChange.heads pchange)
  simp only [hwork]
  rw [prun, pframe, pshaft, pchange, plink]
  exact ⟨trun, tlink, tshaft, tframe, twork, theads⟩

/-- A COLOUR record for which no participant has a needle (R123). -/
theorem exec_rest_needless {slot : Nat} (hat : s.store.recordAt s.cursor = some (.colour slot))
    (hnone : ∀ h, 1 ≤ h → h ≤ 8 → s.changes h = true → s.change.needle slot h = 0) :
    exec .shaftRestDeclared s = .next ((s.restedNow.setRun { s.run.stopped with
        cause := s.run.causeAtRest .noHead }).setLink ((s.link.post ⟨.colourBegun, 0, s.cursor, slot⟩).post
          ⟨.stopped, 0, s.cursor, causeCode (s.run.causeAtRest .noHead)⟩)).pump := by
  have hk : s.restedNow.stopKindAt s.cursor = some (.colour slot) := by
    rw [State.stopKindAt_main (s := s.restedNow) hp hpoint,
      show s.restedNow.store.recordAt s.cursor = some (.colour slot) from hat]
    rfl
  have hexec := exec_rest_pointless hb hs hh hr ha hn hj hpoint
  rw [State.restedAt_none hpoint] at hexec
  obtain ⟨hadv, hact⟩ := State.rested_advance hc hstitch hcarry hrun hpoint hp hstep hk
  let told := s.setLink (s.link.post ⟨.colourBegun, 0, s.cursor, slot⟩)
  have hpause := State.pauseFor_restedAt (s := told) hc hcarry hj none .noHead (State.main_goesOn (s := told) hp)
  rw [State.restedAt_none (s := told) hpoint] at hpause
  have hwait : s.restedNow.actOn = (s.restedNow.setRun { s.run.stopped with
      cause := some (s.run.cause.getD .noHead) }).setLink ((s.link.post ⟨.colourBegun, 0, s.cursor, slot⟩).post
        ⟨.stopped, 0, s.cursor, causeCode (some (s.run.cause.getD .noHead))⟩) := by
    rw [hact]
    exact (State.beginColour_none (v := s.restedNow) hnone).trans hpause
  rw [Run.causeAtRest_running hrun]
  exact exec_rest_pausing hc hexec (by rw [hadv, hwait])

/-- A COLOUR record: the colour change begins (R123). -/
theorem exec_rest_colour {slot : Nat} (hroom : s.change.heads.length = 8)
    (hat : s.store.recordAt s.cursor = some (.colour slot))
    (hbusy : ∃ h, (1 ≤ h ∧ h ≤ 8 ∧ s.engagedHead h = true ∧ (s.linkAt h).lost = false) ∧ s.changes h = true ∧
      s.change.needle slot h ≠ 0) (hbefore : s.trimmedBefore = false) :
    ∃ t, exec .shaftRestDeclared s = .next t ∧ t.run = { s.run with state := .changing, activity := .changing } ∧
      t.link = s.link.post ⟨.colourBegun, 0, s.cursor, slot⟩ ∧ t.shaft = s.restedNow.shaft ∧ t.frame = s.frame.zoned ∧
      t.change.work = .colourChange ∧ t.change.newSlot = slot ∧ t.change.casing = false ∧
      ∀ h, (1 ≤ h ∧ h ≤ 8 ∧ s.engagedHead h = true ∧ (s.linkAt h).lost = false) → s.changes h = true →
        (t.workAt h).trim = .waiting ∧ (t.workAt h).target = s.change.needle slot h := by
  have hk : s.restedNow.stopKindAt s.cursor = some (.colour slot) := by
    rw [State.stopKindAt_main (s := s.restedNow) hp hpoint,
      show s.restedNow.store.recordAt s.cursor = some (.colour slot) from hat]
    rfl
  have hv := State.restedAt_restsNow hc hstitch hcarry none
  have hexec := exec_rest_pointless hb hs hh hr ha hn hj hpoint
  rw [State.restedAt_none hpoint] at hexec hv
  obtain ⟨hadv, hact⟩ := State.rested_advance hc hstitch hcarry hrun hpoint hp hstep hk
  obtain ⟨hnone, trun, tlink, tshaft, tframe, twork, tslot, tcasing, theads⟩ :=
    State.beginColour_begins (v := s.restedNow) hv hroom hbusy hbefore
  rw [hact] at hadv
  dsimp only at hadv
  generalize s.restedNow.beginColour slot = w at *
  obtain ⟨prun, -, -, pframe, pshaft, pchange, -, -, plink, -⟩ := w.pump_keeps
  refine ⟨w.pump, by rw [hexec, State.finish_of_one hadv hnone], ?_⟩
  have hwork : ∀ h, w.pump.workAt h = w.workAt h := State.workAt_congr (congrArg ThreadChange.heads pchange)
  simp only [hwork]
  rw [prun, pframe, pshaft, pchange, plink]
  exact ⟨trun, tlink, tshaft, tframe, twork, tslot, tcasing, theads⟩

end Running

/-- Settles O50: by the shaft state and run state, with the record at the cursor. -/
theorem indexAndRest : Obligations.IndexAndRest := by
  refine ⟨indexPulse_seen, ?_⟩
  intro s u run zones f
  refine ⟨fun h => exec_shaftRestDeclared_of_none h, fun hb hs hq hr => ?_, fun src hb hs ht hr hsrc => ?_, fun hb hs hc => ?_⟩
  · have hdue : s.referencedNow.resetIfDue = s.referencedNow := State.resetIfDue_of_none (by
      show (s.link.post _).resetBy = none
      rw [Link.post_resetBy]
      exact hr)
    obtain ⟨h1, h2, h3, h4, h5⟩ := s.quiet_iff.1 hq
    refine (exec_shaftRestDeclared_of_referencing hb hs).trans ?_
    rw [State.referencingRests_eq hs, hdue]
    exact congrArg _ (State.finish_quiet s.referencedNow (s.referencedNow.quiet_iff.2 ⟨h1, h2, h3, h4, h5⟩))
  · exact exec_rest_referenced_reset hb hs ht hr hsrc
  · intro noJoins rested stopped cause paused judged at_
    have hrest : rested = s.restedNow := rfl
    refine ⟨fun hh hstitch hn => exec_rest_held hb hs hc hh hstitch hn,
      fun src hh ha hn hr hsrc => exec_rest_reset hb hs hc hh ha hn hr hsrc, fun hstitch hr hshapes => ?_, ?_, ?_⟩
    · have hroomy : s.roomy := State.roomy_of_shapes hshapes
      have hjoins : ∃ t, exec .shaftRestDeclared s = .next t ∧ s.JoinedAtRest t := by
        cases hh : s.shaft.hold with
        | true => exact exec_rest_joins_held hb hs hc hh hstitch hroomy
        | false => exact exec_rest_joins_free hb hs hc hh hstitch hr hroomy
      obtain ⟨t, ht, hjoined⟩ := hjoins
      exact ⟨t, ht, hjoined.shaft, hjoined.heads⟩
    · intro hh hstitch hcarry hp hr ha hn hshapes hgaps hdrop c back told freed
      have hroomy : s.roomy := State.roomy_of_shapes hshapes
      have hone : ∀ h, s.gaps.countP (Gap.openOf h) ≤ 1 := fun h => (hgaps.2 h).2
      have hback : ∀ g, (headNumbers.contains g.head && g.state == .opened && (s.watchAt g.head).joining) = back g :=
        fun g => g.closes_eq (fun h => (s.watchAt h).joining)
      have htold : told = s.link.toldClosed (fun h => (s.watchAt h).joining) headNumbers c s.gaps :=
        toldClosed_of_find back hback
      have hcursor : s.cursor = c := if_neg (by rw [hp]; exact Pass.noConfusion)
      refine ⟨fun hstop hat => ?_, fun hstate hat => ?_⟩
      · obtain ⟨t, ht, hrun, htgaps, hevents, hshaft, hframe, hheads⟩ :=
          exec_rest_brings hb hs hc hh hstitch hcarry hp hr ha hn hroomy hone hdrop hstop hat
        refine ⟨t, ht, hrun, htgaps.trans (gapsClosed_congr fun g _ => hback g), ?_, hshaft, hframe, hheads⟩
        rw [htold]
        exact hevents
      · exact exec_rest_ends hb hs hc hh hstitch hcarry hp hr ha hn hroomy hdrop hstate hat
    · intro hh hstitch hcarry hstate hr ha hn hj
      refine ⟨fun hstop hgo hat => exec_rest_stops hb hs hc hh hstitch hcarry hr ha hn hj hstop hgo hat,
        fun hrun hstep hgo => ?_, fun hrunning hp hstep hshapes => ?_⟩
      · have hpoint : s.run.point = none := hstate.resolve_left (by rw [hrun]; exact RunState.noConfusion)
        exact exec_rest_steps hb hs hc hh hstitch hcarry hr ha hn hj hrun hpoint hstep hgo
      · intro passed busy c isOpen told
        have hroom : s.change.heads.length = 8 := (s.shapesRight_iff.1 hshapes).2.2.2.1
        have hcases : s.run.state = .stopping ∨ (s.run.state = .running ∧ s.run.point = none) := by
          rcases hstate with hstop | hpoint
          · exact .inl hstop
          · exact hrunning.symm.imp_right fun hrun => ⟨hrun, hpoint⟩
        have hpassed : ∀ {t mark d l}, s.restedNow.PassedBy mark d l t → passed t mark d l := fun h =>
          ⟨h.run, h.shaft, h.frame, h.gov, h.gaps, h.monitor, h.change, h.cfg, h.bus, h.events⟩
        refine ⟨fun hat => ?_, fun label hat hm => ?_, fun hat hgaps => ?_, fun hrun => ?_⟩
        · obtain ⟨t, ht, h⟩ := exec_rest_stop hb hs hc hh hstitch hcarry hr ha hn hj hp hstep hcases hat
          exact ⟨t, ht, hpassed h⟩
        · obtain ⟨t, ht, h⟩ := exec_rest_mark hb hs hc hh hstitch hcarry hr ha hn hj hp hstep hcases hat hm
          exact ⟨t, ht, hpassed h⟩
        · obtain ⟨t, ht, hfin, hcause, hcursor, hshaft, hframe, hgov, htgaps, ⟨g, hlink⟩, hnone, hheads⟩ :=
            exec_rest_finish hb hs hc hh hstitch hcarry hr ha hn hj hp hstep hcases hat fun h => (hgaps.2 h).2
          have htold : told = s.link.toldClosed (fun _ => true) headNumbers c s.gaps := toldClosed_all c s.gaps s.link
          refine ⟨t, ht, hfin, hcause, hcursor, hshaft, hframe, hgov,
            htgaps.trans (gapsClosed_congr fun g _ => g.closes_all), ?_,
            fun hopen => hnone fun g hg => g.closes_all.trans (hopen g hg), fun h hbusy hf => ?_, fun h hlow hhigh =>
            (hheads h hlow hhigh).2⟩
          · rw [htold, hlink]
          · obtain ⟨hlow, hhigh, he, hl⟩ := hbusy
            refine (hheads h hlow hhigh).1 he hl ?_
            unfold State.dropping
            rw [hf]
            rfl
        · have hpoint : s.run.point = none := hstate.resolve_left (by rw [hrun]; exact RunState.noConfusion)
          have hsame : (s.setFrame f).SameRecords s.restedNow := ⟨rfl, rfl, rfl, rfl, rfl⟩
          have hjudged : s.restedNow.stopKindAt s.cursor = judged := hsame.stopKindAt s.cursor
          refine ⟨fun hk => ?_, fun hk => ?_, fun hat => ?_, fun hat hbusy => ?_, fun slot hat => ⟨fun hnone => ?_,
            fun ⟨h, hbusy, hch, hne⟩ hbefore => ?_⟩⟩
          · have hk' := hjudged.trans hk
            exact exec_rest_pauseFor hb hs hc hh hstitch hcarry hr ha hn hj hrun hpoint hp hstep hk'
              (State.rested_advance hc hstitch hcarry hrun hpoint hp hstep hk').2
          · have hk' := hjudged.trans hk
            exact exec_rest_pauseFor hb hs hc hh hstitch hcarry hr ha hn hj hrun hpoint hp hstep hk'
              (State.rested_advance hc hstitch hcarry hrun hpoint hp hstep hk').2
          · exact ⟨fun hm => exec_rest_starves hb hs hc hh hstitch hcarry hr ha hn hj hrun hpoint hp hstep hat hm,
              fun hm => exec_rest_waits hb hs hc hh hstitch hcarry hr ha hn hj hrun hpoint hp hstep hat hm⟩
          · exact exec_rest_trim hb hs hc hh hstitch hcarry hr ha hn hj hrun hpoint hp hstep hroom hat hbusy
          · exact exec_rest_needless hb hs hc hh hstitch hcarry hr ha hn hj hrun hpoint hp hstep hat hnone
          · exact exec_rest_colour hb hs hc hh hstitch hcarry hr ha hn hj hrun hpoint hp hstep hroom hat
              ⟨h, hbusy, hch, hne⟩ hbefore

end Sys2Proof.Machine

/-!
PROOF. Trims and case moves (sections 7.3, 7.4.2; O59, O60): the commands of a failed attempt, and a fault raised in a run
in progress.
-/

namespace Sys2Proof.Machine
set_option Elab.async false

/-! ## Commands other than LOWER and LIFT -/

theorem State.modWork_eq_set (s : State) (h : Nat) (f : HeadWork → HeadWork) : s.modWork h f =
    s.setChange { s.change with heads := s.change.heads.set (h - 1) (f (s.workAt h)) } := by
  unfold State.modWork State.workAt
  rw [List.modify_eq_set, List.getD_eq_getElem?_getD]

theorem State.issue_plain {s : State} {c : BusCommand} (hl : (s.linkAt c.head).lost = false) (ho : c.work.order? = none)
    (hroom : s.bus.queue.length < 16) (hheld : s.bus.held = []) :
    s.issue c = s.setBus { s.bus with queue := s.bus.queue ++ [c] } := by
  have hnoted : s.engageNoted c = s := by
    unfold State.engageNoted
    rw [ho]
  rw [State.issue_of_delivered hl, hnoted, ho, if_neg (by simp),
    if_pos (by rw [hheld]; simp [Config.queuePlaces, hroom])]

theorem State.issue_pair {s : State} {h : Nat} {a b : BusWork} (hl : (s.linkAt h).lost = false) (ha : a.order? = none)
    (hb : b.order? = none) (hroom : s.bus.queue.length < 15) (hheld : s.bus.held = []) :
    (s.issue ⟨h, a⟩).issue ⟨h, b⟩ = s.setBus { s.bus with queue := s.bus.queue ++ [⟨h, a⟩, ⟨h, b⟩] } := by
  rw [State.issue_plain (c := ⟨h, a⟩) hl ha (by omega) hheld]
  have hlength : (s.bus.queue ++ [(⟨h, a⟩ : BusCommand)]).length < 16 := by
    rw [List.length_append, List.length_singleton]
    omega
  rw [State.issue_plain (s := s.setBus { s.bus with queue := s.bus.queue ++ [⟨h, a⟩] }) (c := ⟨h, b⟩) hl hb hlength hheld]
  simp only [State.setBus_bus, List.append_assoc]
  rfl

/-! ## The first failures (R118, R121) -/

theorem State.trimFailed_again {s : State} {h : Nat} (ht : (s.workAt h).trimAttempt < 2)
    (hl : (s.linkAt h).lost = false) (hroom : s.bus.queue.length < 15) (hheld : s.bus.held = []) : s.trimFailed h =
      (s.modWork h (fun w => { w with trimAttempt := 2, trimTimer := false })).setBus
        { s.bus with queue := s.bus.queue ++ [⟨h, .clear⟩, ⟨h, .trim⟩] } :=
  (if_pos ht).trans (State.issue_pair (s := s.modWork h (fun w => { w with trimAttempt := 2, trimTimer := false }))
    hl rfl rfl hroom hheld)

theorem State.caseFailed_again {s : State} {h : Nat} (ht : (s.workAt h).caseAttempt < 3)
    (hl : (s.linkAt h).lost = false) (hroom : s.bus.queue.length < 15) (hheld : s.bus.held = []) : s.caseFailed h =
      (s.modWork h (fun w => { w with case := .clearing, caseTimer := none })).setBus
        { s.bus with queue := s.bus.queue ++ [⟨h, .clear⟩, ⟨h, .poll⟩] } :=
  (if_pos ht).trans (State.issue_pair (s := s.modWork h (fun w => { w with case := .clearing, caseTimer := none }))
    hl rfl rfl hroom hheld)

/-! ## A fault that has been noted (R137) -/

/-- The monitor that notes a new fault. -/
def Monitor.noting (m : Monitor) (h : Nat) (f : PendingFault) : Monitor := { m with
  heads := m.heads.modify (h - 1) (fun v => { v with armed := false, joining := false, fault := some f }) }

/-- The state in which a new fault of head `h` is handled: noted and told, the head handed over, all else as it was. -/
structure State.FaultAt (s : State) (h : Nat) (kind : FaultKind) (n : State) : Prop where
  run : n.run = s.run
  frame : n.frame = s.frame
  shaft : n.shaft = s.shaft
  bus : n.bus = s.bus
  gov : n.gov = s.gov
  cfg : n.cfg = s.cfg
  gaps : n.gaps = s.gaps
  store : n.store = s.store
  link : n.link = s.link.post ⟨.headFault, h, s.cursor, kind.code⟩
  monitor : n.monitor = s.monitor.noting h ⟨kind, .held⟩
  setup : n.change = { s.change with heads := n.change.heads }
  works : ∀ j, h - 1 ≠ j - 1 → n.workAt j = s.workAt j

section Noted

variable {s n : State} {h : Nat} {kind : FaultKind} (f : HeadWork → HeadWork)

theorem State.modWork_faultNoted : s.FaultAt h kind ((s.modWork h f).faultNoted h kind) := by
  obtain ⟨hframe, hshaft, hbus, hgov, hcfg, hgaps, hstore, hlink⟩ := (s.modWork h f).faultNoted_keeps (h := h) (kind := kind)
  refine ⟨State.faultNoted_run, hframe, hshaft, hbus, hgov, hcfg, hgaps, hstore, hlink, ?_, ?_, fun j hj => ?_⟩
  · unfold State.faultNoted
    rw [(State.handOver_keeps _ _).2.2.2.2.2.2.1]
    rfl
  · unfold State.faultNoted State.handOver
    split <;> rfl
  · have hother := State.workAt_modWork_other (s := s) f hj
    unfold State.faultNoted State.handOver
    split
    · refine (State.workAt_modWork_other _ _ hj).trans hother
    · exact hother

variable (hn : s.FaultAt h kind n)
include hn

omit hn in
theorem Monitor.noting_modify (m : Monitor) (h : Nat) (kind : FaultKind) (a b : Handling) :
    { m.noting h ⟨kind, a⟩ with heads := (m.noting h ⟨kind, a⟩).heads.modify (h - 1) (fun v =>
      { v with fault := v.fault.map (fun f => { f with handling := b }) }) } = m.noting h ⟨kind, b⟩ := by
  unfold Monitor.noting
  rw [List.modify_modify_eq]
  rfl

theorem State.FaultAt.handled (b : Handling) : (n.setHandling h b).monitor = s.monitor.noting h ⟨kind, b⟩ := by
  unfold State.setHandling State.modWatch
  rw [State.setMonitor_monitor, hn.monitor]
  exact Monitor.noting_modify _ _ _ _ _

theorem State.FaultAt.watchAt (j : Nat) (hj : h - 1 ≠ j - 1) : n.watchAt j = s.watchAt j := by
  unfold State.watchAt
  rw [hn.monitor]
  exact getD_modify_other _ _ hj

theorem State.FaultAt.headAt (j : Nat) : n.headAt j = s.headAt j := State.headAt_congr (congrArg Run.heads hn.run) j

theorem State.FaultAt.cursor : n.cursor = s.cursor := by
  unfold State.cursor
  rw [hn.run]

theorem State.FaultAt.able (j : Nat) (hj : h - 1 ≠ j - 1) : n.able j = s.able j := by
  have hstamp : n.colourNow = s.colourNow := by
    unfold State.colourNow
    rw [hn.cursor, State.stampAt_congr hn.store hn.cfg]
  have hneedle : n.change.needle = s.change.needle := by
    funext slot k
    unfold ThreadChange.needle ThreadChange.waitingFor ThreadChange.mapAt
    rw [hn.setup]
  unfold State.able State.ableFor
  rw [hn.headAt, hn.run, hn.watchAt j hj, hneedle, hstamp]

/-- Which other heads remain to sew (R139, check 1). -/
theorem State.FaultAt.remains_iff (hh : 1 ≤ h) : headNumbers.any (fun j => n.remains h j) = true ↔
    ∃ j ∈ headNumbers, j ≠ h ∧ (s.watchAt j).fault = none ∧
      (if s.change.work = .colourChange then (s.workAt j).part = true ∧ (s.workAt j).trim ≠ .handedOver ∧
          (s.workAt j).case ≠ .handedOver ∧ (s.workAt j).target ≠ 0
        else (s.headAt j).state = .sewing ∨ s.able j = true) := by
  rw [List.any_eq_true]
  refine exists_congr fun j => and_congr_right fun hj => ?_
  obtain ⟨hlow, -⟩ := (mem_headNumbers j).1 hj
  by_cases hne : j = h
  · subst hne
    simp [State.remains]
  · have hoff : h - 1 ≠ j - 1 := by omega
    have hwork : n.change.work = s.change.work := by rw [hn.setup]
    unfold State.remains
    rw [hn.watchAt j hoff, hn.works j hoff, hn.headAt, hn.able j hoff, hwork]
    split <;> simp [hne, and_assoc]

theorem State.FaultAt.gapRoom_iff : n.gapRoom h = true ↔
    (s.gaps.filter (fun g => g.head == h)).length < 4 ∧ s.gaps.length < 16 := by
  unfold State.gapRoom
  rw [hn.gaps, List.countP_eq_length_filter]
  rw [Bool.and_eq_true]
  exact and_congr decide_eq_true_iff decide_eq_true_iff

theorem State.FaultAt.gapStart : n.gapStart h = if s.change.work = .colourChange then s.run.mainCursor + 1
    else max (max (s.run.mainCursor - s.cfg.thread.overlap) s.run.segmentStart)
      (max s.earliestRetained (s.lastClosedEnd h)) := by
  have hwork : n.change.work = s.change.work := by rw [hn.setup]
  unfold State.gapStart State.earliestRetained State.lastClosedEnd
  rw [hwork, hn.run, hn.cfg, hn.store, hn.gaps]

/-! ## The fault HELD -/

/-- What a fault HELD in a change leaves (R138). -/
structure State.HeldAs (s : State) (h : Nat) (kind : FaultKind) (c : StopCause) (u : State) : Prop where
  run : u.run = { s.run with cause := some (s.run.cause.getD c) }
  link : u.link = s.link.post ⟨.headFault, h, s.cursor, kind.code⟩
  monitor : u.monitor = s.monitor.noting h ⟨kind, .held⟩
  bus : u.bus = s.bus
  frame : u.frame = s.frame
  shaft : u.shaft = s.shaft
  gaps : u.gaps = s.gaps
  gov : u.gov = s.gov
  store : u.store = s.store

theorem State.FaultAt.hold (hkind : kind ≠ .lost) (hc : s.run.state = .changing) (c : StopCause) :
    s.HeldAs h kind c (n.hold h kind c) ∧ (n.hold h kind c).change = n.change := by
  have hstop : n.hold h kind c = (n.setHandling h .held).setRun { n.run with cause := some (n.run.cause.getD c) } := by
    unfold State.hold
    dsimp only
    rw [if_neg hkind]
    unfold State.stopOrder
    rw [show (n.setHandling h .held).run.state = .changing by rw [← hc, ← hn.run]; rfl]
    exact State.recordCause_eq _ _
  have hmonitor := hn.handled .held
  rw [hstop]
  refine ⟨⟨?_, hn.link, hmonitor, hn.bus, hn.frame, hn.shaft, hn.gaps, hn.gov, hn.store⟩, rfl⟩
  rw [State.setRun_run, hn.run]

/-! ## The fault DROPPED -/

/-- What a fault DROPPED in a run leaves (R139). -/
structure State.DroppedAs (s : State) (h : Nat) (kind : FaultKind) (start : Nat) (u : State) : Prop where
  gaps : u.gaps = insertGap ⟨h, start, none, (s.stampAt start).pos, (s.stampAt start).colour, .opened⟩ s.gaps
  link : u.link = (s.link.post ⟨.headFault, h, s.cursor, kind.code⟩).post ⟨.gapOpened, h, start, s.gaps.length + 1⟩
  fault : (u.watchAt h).fault = some ⟨kind, .dropped⟩
  armed : (u.watchAt h).armed = false
  state : u.run.state = s.run.state
  cause : u.run.cause = s.run.cause
  frame : u.frame = s.frame
  shaft : u.shaft = s.shaft
  lifted : s.engagedHead h = true → (u.headAt h).state = (s.headAt h).state ∧
    ((s.linkAt h).lost = false → u.sent ⟨h, .engage ⟨.lift, .dropped, false, false⟩⟩)
  out : s.engagedHead h = false → (u.headAt h).state = .dropped ∧ u.bus = s.bus

theorem State.FaultAt.drop (hkind : kind ≠ .lost) (hroomy : s.roomy) (hlow : 1 ≤ h) (hhigh : h ≤ 8) :
    s.DroppedAs h kind (n.gapStart h) ((n.openGapFor h).drop h kind) := by
  let g : Gap := ⟨h, n.gapStart h, none, (n.stampAt (n.gapStart h)).pos, (n.stampAt (n.gapStart h)).colour, .opened⟩
  let v := (n.openGapFor h).setHandling h .dropped
  have hstamp : n.stampAt (n.gapStart h) = s.stampAt (n.gapStart h) := State.stampAt_congr hn.store hn.cfg _
  have hvgaps : v.gaps = insertGap ⟨h, n.gapStart h, none, (s.stampAt (n.gapStart h)).pos,
      (s.stampAt (n.gapStart h)).colour, .opened⟩ s.gaps := by
    rw [← hstamp, ← hn.gaps]
    rfl
  have hvlink : v.link = (s.link.post ⟨.headFault, h, s.cursor, kind.code⟩).post
      ⟨.gapOpened, h, n.gapStart h, s.gaps.length + 1⟩ := by
    have hlength : (insertGap g n.gaps).length = s.gaps.length + 1 := by
      rw [(insertGap_perm g n.gaps).length_eq, hn.gaps]
      rfl
    rw [← hn.link, ← hlength]
    rfl
  have hvmonitor : v.monitor = s.monitor.noting h ⟨kind, .dropped⟩ := hn.handled .dropped
  obtain ⟨hheads, hwatches, -, -⟩ := hroomy
  have hin : h - 1 < s.monitor.heads.length := by omega
  have hvwatch : v.watchAt h =
      { s.watchAt h with armed := false, joining := false, fault := some ⟨kind, .dropped⟩ } := by
    unfold State.watchAt
    rw [hvmonitor]
    exact getD_modify_same _ _ _ hin
  have hvhead : v.headAt h = s.headAt h := hn.headAt h
  have hdrop : (n.openGapFor h).drop h kind =
      if v.engagedHead h then v.issueLift h .dropped false else v.setHeadState h .dropped := if_neg hkind
  have hengaged : v.engagedHead h = s.engagedHead h := State.engagedHead_congr hvhead
  rw [hengaged] at hdrop
  have hkeeps : ∀ u : State, u.gaps = v.gaps → u.link = v.link → u.monitor = v.monitor → u.run.bare = v.run.bare →
      u.frame = v.frame → u.shaft = v.shaft →
      (s.engagedHead h = true → (u.headAt h).state = (s.headAt h).state ∧
        ((s.linkAt h).lost = false → u.sent ⟨h, .engage ⟨.lift, .dropped, false, false⟩⟩)) →
      (s.engagedHead h = false → (u.headAt h).state = .dropped ∧ u.bus = s.bus) →
      s.DroppedAs h kind (n.gapStart h) u := fun u hgaps hlink hmonitor hbare hframe hshaft hlift hout => by
    have hwatch : u.watchAt h = v.watchAt h := State.watchAt_congr (congrArg Monitor.heads hmonitor) h
    have hrun := Run.of_bare hbare
    have hvrun : v.run = s.run := hn.run
    refine ⟨hgaps.trans hvgaps, hlink.trans hvlink, by rw [hwatch, hvwatch], by rw [hwatch, hvwatch], ?_, ?_,
      hframe.trans hn.frame, hshaft.trans hn.shaft, hlift, hout⟩
    · rw [hrun, hvrun]
    · rw [hrun, hvrun]
  rw [hdrop]
  cases he : s.engagedHead h with
  | true =>
    obtain ⟨-, -, hframe, hshaft, hmonitor, hgaps, hlink, -⟩ := v.issue_keeps ⟨h, .engage ⟨.lift, .dropped, false, false⟩⟩
    refine hkeeps _ hgaps hlink hmonitor (State.issue_bare _ _) hframe hshaft (fun _ => ⟨?_, fun hl => ?_⟩) fun hno => ?_
    · rw [← hvhead]
      exact (State.issue_entry (s := v) (c := ⟨h, .engage ⟨.lift, .dropped, false, false⟩⟩) h).1
    · refine State.sent_issue_same (c := ⟨h, .engage ⟨.lift, .dropped, false, false⟩⟩) ?_
      have hlink : v.linkAt h = s.linkAt h := State.linkAt_congr (congrArg Bus.heads hn.bus) h
      exact (congrArg HeadLink.lost hlink).trans hl
    · rw [he] at hno
      cases hno
  | false =>
    rw [if_neg Bool.false_ne_true, State.setHeadState_of_lifted (hengaged.trans he)]
    refine hkeeps _ rfl rfl rfl rfl rfl rfl (fun hyes => ?_) fun _ => ⟨?_, hn.bus⟩
    · rw [he] at hyes
      cases hyes
    · rw [State.headAt_modHead_same v _ (by
        rw [show v.run = s.run from hn.run]
        omega)]

end Noted

end Sys2Proof.Machine

/-!
PROOF. The thread timers (sections 7.3, 7.4.2, 8.5, 9.1; O59): a trim or case move that fails.
-/

namespace Sys2Proof.Machine
set_option Elab.async false

/-! ## A head handed over stays so -/

theorem State.modWork_stays (P : HeadWork → Prop) {s : State} {h j : Nat} {f : HeadWork → HeadWork}
    (hf : ∀ w, P w → P (f w)) (hw : P (s.workAt j)) : P ((s.modWork h f).workAt j) := by
  by_cases hne : h - 1 = j - 1
  · by_cases hin : j - 1 < s.change.heads.length
    · rw [show (s.modWork h f).workAt j = f (s.workAt j) by
        unfold State.workAt State.modWork
        rw [hne]
        exact getD_modify_same _ _ _ hin]
      exact hf _ hw
    · have hsame : (s.modWork h f).workAt j = s.workAt j := by
        unfold State.workAt State.modWork
        rw [State.setChange_change, List.modify_eq_self (by omega)]
      rw [hsame]
      exact hw
  · rw [State.workAt_modWork_other (s := s) f hne]
    exact hw

theorem State.handOver_stays (P : HeadWork → Prop) {s : State} {h j : Nat}
    (hP : ∀ w : HeadWork, P w → P { w with trim := .handedOver, trimTimer := false, case := .handedOver, caseTimer := none })
    (hw : P (s.workAt j)) : P ((s.handOver h).workAt j) := by
  unfold State.handOver
  split
  · exact State.modWork_stays P hP hw
  · exact hw

theorem State.issue_stays (P : HeadWork → Prop) {s : State} {c : BusCommand} {j : Nat}
    (hP : ∀ w : HeadWork, P w → P { w with trim := .handedOver, trimTimer := false, case := .handedOver, caseTimer := none })
    (hw : P (s.workAt j)) : P ((s.issue c).workAt j) := by
  by_cases hl : (s.linkAt c.head).lost = true
  · have hwork : (s.issue c).workAt j = (s.handOver c.head).workAt j := by
      unfold State.issue
      rw [if_pos hl]
      unfold State.notDelivered
      dsimp only
      split <;> rfl
    rw [hwork]
    exact State.handOver_stays P hP hw
  · rw [State.workAt_congr (congrArg ThreadChange.heads (State.issue_change (Bool.eq_false_iff.2 hl)))]
    exact hw

theorem State.setHeadState_workAt {s : State} {h : Nat} (he : s.engagedHead h = false) (new : HeadState) (j : Nat) :
    (s.setHeadState h new).workAt j = s.workAt j := by
  rw [State.setHeadState_of_lifted he]
  rfl

/-- What the fault does to the head's work leaves it handed over. -/
theorem State.drop_stays (P : HeadWork → Prop) {n : State} {h : Nat} {kind : FaultKind} (hkind : kind ≠ .lost)
    (hP : ∀ w : HeadWork, P w → P { w with trim := .handedOver, trimTimer := false, case := .handedOver, caseTimer := none })
    (hw : P (n.workAt h)) : P ((n.drop h kind).workAt h) := by
  have hdrop : n.drop h kind = if (n.setHandling h .dropped).engagedHead h then
      (n.setHandling h .dropped).issueLift h .dropped false else (n.setHandling h .dropped).setHeadState h .dropped :=
    if_neg hkind
  rw [hdrop]
  split
  · exact State.issue_stays P (s := n.setHandling h .dropped) hP hw
  next he =>
    rw [State.setHeadState_workAt (Bool.eq_false_iff.2 he)]
    exact hw

/-! ## The last failure (R138, R139) -/

/-- What a fault raised in a change of the main pass leaves, by the policy (R138, R139). -/
structure State.Faulted (s : State) (h : Nat) (kind : FaultKind) (remains : Prop) (start : Nat) (u : State) : Prop where
  stopAll : s.monitor.policy = .stopAll → s.HeldAs h kind .fault u
  alone : s.monitor.policy = .dropOut → s.openGap h = none → ¬ remains → s.HeldAs h kind .fault u
  full : s.monitor.policy = .dropOut → s.openGap h = none → remains →
    ¬ ((s.gaps.filter (fun g => g.head == h)).length < 4 ∧ s.gaps.length < 16) → s.HeldAs h kind .gapsFull u
  dropped : s.monitor.policy = .dropOut → s.openGap h = none → remains →
    (s.gaps.filter (fun g => g.head == h)).length < 4 ∧ s.gaps.length < 16 → s.DroppedAs h kind start u

section Raise

variable {s : State} {h : Nat} {kind : FaultKind} (f : HeadWork → HeadWork) (hroomy : s.roomy) (hlow : 1 ≤ h)
  (hhigh : h ≤ 8) (hkind : kind ≠ .lost) (hc : s.run.state = .changing) (hp : s.run.pass = .main)
  (hoff : (s.headAt h).state ≠ .off) (hnone : (s.watchAt h).fault = none)

/-- Which other head remains to sew (R139). -/
def State.remainsFor (s : State) (h : Nat) : Prop := ∃ j ∈ headNumbers, j ≠ h ∧ (s.watchAt j).fault = none ∧
  (if s.change.work = .colourChange then (s.workAt j).part = true ∧ (s.workAt j).trim ≠ .handedOver ∧
      (s.workAt j).case ≠ .handedOver ∧ (s.workAt j).target ≠ 0
    else (s.headAt j).state = .sewing ∨ s.able j = true)

include hroomy hlow hhigh hkind hc hp hoff hnone in
theorem State.raiseFault_changing : s.Faulted h kind (s.remainsFor h)
      (if s.change.work = .colourChange then s.run.mainCursor + 1
        else max (max (s.run.mainCursor - s.cfg.thread.overlap) s.run.segmentStart)
          (max s.earliestRetained (s.lastClosedEnd h))) ((s.modWork h f).raiseFault h kind) ∧
    ∀ P : HeadWork → Prop, (∀ w, P (f w)) →
      (∀ w : HeadWork, P w → P { w with trim := .handedOver, trimTimer := false, case := .handedOver, caseTimer := none }) →
      P (((s.modWork h f).raiseFault h kind).workAt h) := by
  let n := (s.modWork h f).faultNoted h kind
  have hn : s.FaultAt h kind n := State.modWork_faultNoted f
  have hgaps : n.openGap h = s.openGap h := by
    unfold State.openGap
    rw [hn.gaps]
  have hpass : n.run.pass = .main := by
    rw [hn.run]
    exact hp
  have hdropOut : n.dropOut h kind = if (s.openGap h).isSome then n.drop h kind
      else if !(headNumbers.any (fun j => n.remains h j)) then n.hold h kind .fault
      else if !(n.gapRoom h) then n.hold h kind .gapsFull
      else (n.openGapFor h).drop h kind := by
    have hin : n.inRun = true := by
      unfold State.inRun
      rw [hn.run, hc]
    unfold State.dropOut
    rw [if_neg (by rw [hpass]; exact Pass.noConfusion), if_neg (by rw [hin]; exact Bool.false_ne_true), hgaps]
  obtain ⟨hheld, hheldWork⟩ := hn.hold hkind hc .fault
  obtain ⟨hfull, hfullWork⟩ := hn.hold hkind hc .gapsFull
  have hdrop := hn.drop hkind hroomy hlow hhigh
  have hhandle : (s.modWork h f).handleFault h kind = match s.monitor.policy with
      | .stopAll => n.hold h kind .fault
      | .dropOut => n.dropOut h kind := State.handleFault_of_new (s := s.modWork h f) hp hoff hnone
  have hwork : ∀ P : HeadWork → Prop, (∀ w, P (f w)) →
      (∀ w : HeadWork, P w → P { w with trim := .handedOver, trimTimer := false, case := .handedOver, caseTimer := none }) →
      P (n.workAt h) := fun P hf hP => by
    refine State.handOver_stays P hP ?_
    have hsame : (((s.modWork h f).post .headFault h kind.code).modWatch h (fun w =>
        { w with armed := false, joining := false, fault := some ⟨kind, .held⟩ })).workAt h = f (s.workAt h) :=
      State.workAt_modWork_same _ f (by rw [hroomy.2.2.1]; omega)
    rw [hsame]
    exact hf _
  have hcases : ∃ u, u = (s.modWork h f).handleFault h kind ∧ (u = n.hold h kind .fault ∨ u = n.hold h kind .gapsFull ∨
      u = n.drop h kind ∨ u = (n.openGapFor h).drop h kind) := by
    refine ⟨_, rfl, ?_⟩
    rw [hhandle]
    cases s.monitor.policy with
    | stopAll => exact .inl rfl
    | dropOut =>
      dsimp only
      rw [hdropOut]
      split
      · exact .inr (.inr (.inl rfl))
      · split
        · exact .inl rfl
        · split
          · exact .inr (.inl rfl)
          · exact .inr (.inr (.inr rfl))
  obtain ⟨u, hu, hcases⟩ := hcases
  have hupass : u.run.pass = .main := by
    rcases hcases with h1 | h1 | h1 | h1
    · rw [h1, hheld.run]
      exact hp
    · rw [h1, hfull.run]
      exact hp
    · rw [h1, Run.of_bare (n.drop_bare h kind)]
      exact hpass
    · rw [h1, Run.of_bare ((n.openGapFor h).drop_bare h kind)]
      exact hpass
  have hraise : (s.modWork h f).raiseFault h kind = u :=
    (congrArg State.endPatchIfEmpty hu.symm).trans (State.endPatchIfEmpty_of_main hupass)
  rw [hraise]
  refine ⟨⟨fun hpol => ?_, fun hpol hopen hno => ?_, fun hpol hopen hyes hroom => ?_, fun hpol hopen hyes hroom => ?_⟩,
    fun P hf hP => ?_⟩
  · rw [hu, hhandle, hpol]
    exact hheld
  · have hany := Bool.eq_false_iff.2 (mt (hn.remains_iff hlow).1 hno)
    rw [hu, hhandle, hpol, show n.dropOut h kind = n.hold h kind .fault by rw [hdropOut, hopen, hany]; rfl]
    exact hheld
  · have hany := (hn.remains_iff hlow).2 hyes
    have hfew := Bool.eq_false_iff.2 (mt hn.gapRoom_iff.1 hroom)
    rw [hu, hhandle, hpol, show n.dropOut h kind = n.hold h kind .gapsFull by rw [hdropOut, hopen, hany, hfew]; rfl]
    exact hfull
  · have hany := (hn.remains_iff hlow).2 hyes
    have hmany := hn.gapRoom_iff.2 hroom
    rw [hu, hhandle, hpol, ← hn.gapStart,
      show n.dropOut h kind = (n.openGapFor h).drop h kind by rw [hdropOut, hopen, hany, hmany]; rfl]
    exact hdrop
  · have hn' := hwork P hf hP
    rcases hcases with h1 | h1 | h1 | h1
    · rw [h1, State.workAt_congr (congrArg ThreadChange.heads hheldWork)]
      exact hn'
    · rw [h1, State.workAt_congr (congrArg ThreadChange.heads hfullWork)]
      exact hn'
    · rw [h1]
      exact State.drop_stays P hkind hP hn'
    · rw [h1]
      exact State.drop_stays P hkind hP hn'

end Raise

/-! ## The timers -/

theorem timers_fail : ∀ (s : State) (h : Nat), s.shapesRight = true → 1 ≤ h → h ≤ 8 →
      let w := s.workAt h
      let trim := exec (.trimTimerExpiry h) s
      let case_ := exec (.caseTimerExpiry h) s
      let with_ := fun (w' : HeadWork) => s.setChange { s.change with heads := s.change.heads.set (h - 1) w' }
      let queued := fun (u : State) (a b : BusWork) => u.setBus { s.bus with queue := s.bus.queue ++ [⟨h, a⟩, ⟨h, b⟩] }
      let room := (s.linkAt h).lost = false ∧ s.bus.queue.length < 15 ∧ s.bus.held = []
      let strikes := s.run.state = .changing ∧ s.run.pass = .main ∧ (s.headAt h).state ≠ .off ∧ (s.watchAt h).fault = none
      let mark := fun (kind : FaultKind) (how : Handling) => { s.monitor with
        heads := s.monitor.heads.modify (h - 1) (fun v =>
          { v with armed := false, joining := false, fault := some ⟨kind, how⟩ }) }
      let told := fun (kind : FaultKind) => s.link.post ⟨.headFault, h, s.cursor, kind.code⟩
      let held := fun (u : State) (kind : FaultKind) (cause : StopCause) =>
        u.run = { s.run with cause := some (s.run.cause.getD cause) } ∧ u.link = told kind ∧
        u.monitor = mark kind .held ∧ u.bus = s.bus ∧ u.frame = s.frame ∧ u.shaft = s.shaft ∧ u.gaps = s.gaps ∧
        u.gov = s.gov
      let colour := s.change.work = .colourChange
      let remains := ∃ j ∈ headNumbers, j ≠ h ∧ (s.watchAt j).fault = none ∧
        (if colour then (s.workAt j).part = true ∧ (s.workAt j).trim ≠ .handedOver ∧ (s.workAt j).case ≠ .handedOver ∧
            (s.workAt j).target ≠ 0
          else (s.headAt j).state = .sewing ∨ s.able j = true)
      let gapRoom := (s.gaps.filter (fun g => g.head == h)).length < 4 ∧ s.gaps.length < 16
      let start := if colour then s.run.mainCursor + 1
        else max (max (s.run.mainCursor - s.cfg.thread.overlap) s.run.segmentStart)
          (max s.earliestRetained (s.lastClosedEnd h))
      let stamp := s.stampAt start
      let lift : BusCommand := ⟨h, .engage ⟨.lift, .dropped, false, false⟩⟩
      let dropped := fun (u : State) (kind : FaultKind) =>
        u.gaps = insertGap ⟨h, start, none, stamp.pos, stamp.colour, .opened⟩ s.gaps ∧
        u.link = (told kind).post ⟨.gapOpened, h, start, s.gaps.length + 1⟩ ∧
        (u.watchAt h).fault = some ⟨kind, .dropped⟩ ∧ (u.watchAt h).armed = false ∧
        u.run.state = s.run.state ∧ u.run.cause = s.run.cause ∧ u.frame = s.frame ∧ u.shaft = s.shaft ∧
        (s.engagedHead h = true → (u.headAt h).state = (s.headAt h).state ∧
          ((s.linkAt h).lost = false → lift ∈ u.bus.queue ++ u.bus.held)) ∧
        (s.engagedHead h = false → (u.headAt h).state = .dropped ∧ u.bus = s.bus)
      let faulted := fun (u : State) (kind : FaultKind) =>
        (s.monitor.policy = .stopAll → held u kind .fault) ∧
        (s.monitor.policy = .dropOut → s.openGap h = none →
          (¬ remains → held u kind .fault) ∧
          (remains → ¬ gapRoom → held u kind .gapsFull) ∧
          (remains → gapRoom → dropped u kind))
      (w.trim ≠ .waiting ∨ w.trimTimer = false → trim = .next s.finish) ∧
      (w.trim = .waiting → w.trimTimer = true →
        (w.trimAttempt < 2 → room →
          trim = .next ((queued (with_ { w with trimAttempt := 2, trimTimer := false }) .clear .trim).finish)) ∧
        (2 ≤ w.trimAttempt → strikes →
          ∃ u : State, trim = .next u.finish ∧ (u.workAt h).trim = .handedOver ∧ faulted u .trimFail)) ∧
      (w.case ≠ .moving ∨ w.caseTimer = none → case_ = .next s.finish) ∧
      (w.case = .moving → w.caseTimer ≠ none →
        (w.caseAttempt < 3 → room →
          case_ = .next ((queued (with_ { w with case := .clearing, caseTimer := none }) .clear .poll).finish)) ∧
        (3 ≤ w.caseAttempt → strikes →
          ∃ u : State, case_ = .next u.finish ∧ (u.workAt h).case = .handedOver ∧ faulted u .caseJam)) := by
  intro s h hshapes hlow hhigh w trim case_ with_ queued room strikes mark told held colour remains gapRoom start stamp
    lift dropped faulted
  have hroomy : s.roomy := State.roomy_of_shapes hshapes
  have hfaulted : ∀ {u kind}, s.Faulted h kind (s.remainsFor h) start u → faulted u kind := fun {u kind} hu => by
    have hheld : ∀ {c}, s.HeldAs h kind c u → held u kind c := fun hh =>
      ⟨hh.run, hh.link, hh.monitor, hh.bus, hh.frame, hh.shaft, hh.gaps, hh.gov⟩
    refine ⟨fun hp => hheld (hu.stopAll hp), fun hp hopen => ⟨fun hno => hheld (hu.alone hp hopen hno),
      fun hyes hno => hheld (hu.full hp hopen hyes hno), fun hyes hroom => ?_⟩⟩
    have hd := hu.dropped hp hopen hyes hroom
    exact ⟨hd.gaps, hd.link, hd.fault, hd.armed, hd.state, hd.cause, hd.frame, hd.shaft, hd.lifted, hd.out⟩
  have hnotrim : w.trim ≠ .waiting ∨ w.trimTimer = false → s.trimExpired h = s := fun hw => if_neg fun ⟨h1, h2⟩ => by
    rcases hw with hw | hw
    · exact hw h1
    · exact Bool.false_ne_true (hw.symm.trans h2)
  have hnocase : w.case ≠ .moving ∨ w.caseTimer = none → s.caseExpired h = s := fun hw => if_neg fun ⟨h1, h2⟩ => by
    rcases hw with hw | hw
    · exact hw h1
    · rw [show (s.workAt h).caseTimer = none from hw] at h2
      exact Bool.false_ne_true h2
  refine ⟨fun hw => congrArg (fun u : State => Host.Outcome.next u.finish) (hnotrim hw), fun hw ht => ⟨fun hfirst hroom => ?_,
    fun hlast hstrikes => ?_⟩, fun hw => congrArg (fun u : State => Host.Outcome.next u.finish) (hnocase hw),
    fun hw ht => ⟨fun hfirst hroom => ?_, fun hlast hstrikes => ?_⟩⟩
  · obtain ⟨hl, hq, hheld⟩ := hroom
    have hfail := State.trimFailed_again hfirst hl hq hheld
    rw [State.modWork_eq_set] at hfail
    exact congrArg (fun u : State => Host.Outcome.next u.finish) ((if_pos ⟨hw, ht⟩).trans hfail)
  · obtain ⟨hc, hp, hoff, hnone⟩ := hstrikes
    obtain ⟨hu, hwork⟩ := State.raiseFault_changing (kind := .trimFail)
      (fun w => { w with trim := .handedOver, trimTimer := false }) hroomy hlow hhigh FaultKind.noConfusion hc hp hoff hnone
    have hfail : s.trimExpired h =
        (s.modWork h (fun w => { w with trim := .handedOver, trimTimer := false })).raiseFault h .trimFail :=
      (if_pos ⟨hw, ht⟩).trans (if_neg (Nat.not_lt.2 hlast))
    exact ⟨_, congrArg (fun u : State => Host.Outcome.next u.finish) hfail,
      hwork (fun w => w.trim = .handedOver) (fun _ => rfl) (fun _ _ => rfl), hfaulted hu⟩
  · obtain ⟨hl, hq, hheld⟩ := hroom
    have hfail := State.caseFailed_again hfirst hl hq hheld
    rw [State.modWork_eq_set] at hfail
    exact congrArg (fun u : State => Host.Outcome.next u.finish)
      ((if_pos ⟨hw, Option.isSome_iff_ne_none.2 ht⟩).trans hfail)
  · obtain ⟨hc, hp, hoff, hnone⟩ := hstrikes
    obtain ⟨hu, hwork⟩ := State.raiseFault_changing (kind := .caseJam)
      (fun w => { w with case := .handedOver, caseTimer := none }) hroomy hlow hhigh FaultKind.noConfusion hc hp hoff hnone
    have hfail : s.caseExpired h =
        (s.modWork h (fun w => { w with case := .handedOver, caseTimer := none })).raiseFault h .caseJam :=
      (if_pos ⟨hw, Option.isSome_iff_ne_none.2 ht⟩).trans (if_neg (Nat.not_lt.2 hlast))
    exact ⟨_, congrArg (fun u : State => Host.Outcome.next u.finish) hfail,
      hwork (fun w => w.case = .handedOver) (fun _ => rfl) (fun _ _ => rfl), hfaulted hu⟩

end Sys2Proof.Machine

/-!
PROOF. Joins (sections 8.6, 9.2, 7.6; O59): what picking a head does, in either pass.
-/

namespace Sys2Proof.Machine
set_option Elab.async false

/-! ## The first head of a list in head order -/

theorem headNumbers_before {h : Nat} (hlow : 1 ≤ h) (hhigh : h ≤ 8) :
    ∃ front back, headNumbers = front ++ h :: back ∧ ∀ x ∈ front, 1 ≤ x ∧ x < h := by
  refine ⟨headNumbers.take (h - 1), headNumbers.drop h, ?_, ?_⟩ <;> revert h <;> decide

theorem filter_first {p : Nat → Bool} {h : Nat} (hlow : 1 ≤ h) (hhigh : h ≤ 8) (hp : p h = true)
    (hbefore : ∀ j, 1 ≤ j → j < h → ¬ p j = true) : ∃ rest, headNumbers.filter p = h :: rest := by
  obtain ⟨front, back, hsplit, hfront⟩ := headNumbers_before hlow hhigh
  have hnone : front.filter p = [] := List.filter_eq_nil_iff.2 fun x hx => hbefore x (hfront x hx).1 (hfront x hx).2
  exact ⟨back.filter p, by rw [hsplit, List.filter_append, hnone, List.filter_cons_of_pos hp, List.nil_append]⟩

theorem find_first {p : Nat → Bool} {h : Nat} (hlow : 1 ≤ h) (hhigh : h ≤ 8) (hp : p h = true)
    (hbefore : ∀ j, 1 ≤ j → j < h → ¬ p j = true) : headNumbers.find? p = some h := by
  obtain ⟨rest, hrest⟩ := filter_first hlow hhigh hp hbefore
  rw [← List.head?_filter, hrest, List.head?_cons]

/-! ## Case moves -/

theorem State.caseMoveFrom_room {s : State} {h p : Nat} (hl : (s.linkAt h).lost = false) (hroom : s.bus.queue.length < 16)
    (hheld : s.bus.held = []) : s.caseMoveFrom h p = (s.modWork h (fun w => { w with
        case := .moving, ahead := (ringMove p (s.workAt h).target).1, distance := (ringMove p (s.workAt h).target).2
        caseTimer := none })).setBus { s.bus with
          queue := s.bus.queue ++ [⟨h, .caseMove (ringMove p (s.workAt h).target).1 (ringMove p (s.workAt h).target).2⟩] } :=
  State.issue_plain (s := s.modWork h _) (c := ⟨h, .caseMove _ _⟩) hl rfl hroom hheld

theorem State.caseMove_of_known {s : State} {h p : Nat} (hk : (s.workAt h).lastKnown = some p)
    (hne : p ≠ (s.workAt h).target) : s.caseMove h = s.caseMoveFrom h p := by
  unfold State.caseMove
  rw [hk]
  exact if_neg hne

theorem State.caseMove_of_there {s : State} {h : Nat} (hk : (s.workAt h).lastKnown = some (s.workAt h).target) :
    s.caseMove h = s.arrived h := by
  unfold State.caseMove
  rw [hk]
  exact if_pos rfl

theorem State.caseMove_of_unknown {s : State} {h : Nat} (hk : (s.workAt h).lastKnown = none) :
    s.caseMove h = s.caseFailed h := by
  unfold State.caseMove
  rw [hk]

/-! ## The alignment of one head (R129) -/

section Align

variable {s : State} {h slot : Nat}

/-- The head as the alignment of it alone begins. -/
def State.aligningOne (s : State) (h slot : Nat) : State :=
  (s.setChange { s.change with work := .alignOne }).modWork h (fun w =>
    { w with part := true, target := s.change.needle slot h, caseAttempt := 1 })

theorem State.beginAlignOne_eq : s.beginAlignOne h slot = (s.aligningOne h slot).caseMove h := rfl

variable (hin : h - 1 < s.change.heads.length)
include hin

theorem State.aligningOne_work : (s.aligningOne h slot).workAt h =
    { s.workAt h with part := true, target := s.change.needle slot h, caseAttempt := 1 } :=
  State.workAt_modWork_same (s.setChange { s.change with work := .alignOne }) _ hin

/-- From a position not known: CLEAR and a queued POLL (R121). -/
theorem State.beginAlignOne_unknown (hk : (s.workAt h).lastKnown = none) (hl : (s.linkAt h).lost = false)
    (hroom : s.bus.queue.length < 15) (hheld : s.bus.held = []) : ∃ c : ThreadChange, c.work = .alignOne ∧
      s.beginAlignOne h slot = (s.setChange c).setBus { s.bus with queue := s.bus.queue ++ [⟨h, .clear⟩, ⟨h, .poll⟩] } := by
  have hwork := State.aligningOne_work (slot := slot) hin
  have hfail := State.caseFailed_again (s := s.aligningOne h slot) (h := h) (by rw [hwork]; exact (by decide : 1 < 3)) hl hroom hheld
  refine ⟨((s.aligningOne h slot).modWork h (fun w => { w with case := .clearing, caseTimer := none })).change, rfl, ?_⟩
  rw [State.beginAlignOne_eq, State.caseMove_of_unknown (by rw [hwork]; exact hk), hfail]
  rfl

/-- From a position known to be another: the CASE MOVE the shorter way (R119). -/
theorem State.beginAlignOne_known {p : Nat} (hk : (s.workAt h).lastKnown = some p) (hne : p ≠ s.change.needle slot h)
    (hp : p ≤ 12) (hq : s.change.needle slot h ≤ 12) (hl : (s.linkAt h).lost = false) (hroom : s.bus.queue.length < 16)
    (hheld : s.bus.held = []) : ∃ (c : ThreadChange) (ahead : Bool) (n : Nat), c.work = .alignOne ∧
      s.beginAlignOne h slot = (s.setChange c).setBus { s.bus with queue := s.bus.queue ++ [⟨h, .caseMove ahead n⟩] } ∧
      (s.change.needle slot h : Int) % 12 = ((p : Int) + (if ahead then (n : Int) else -n)) % 12 := by
  have hwork := State.aligningOne_work (slot := slot) hin
  have htarget : ((s.aligningOne h slot).workAt h).target = s.change.needle slot h := by rw [hwork]
  have hmove := State.caseMoveFrom_room (s := s.aligningOne h slot) (h := h) (p := p) hl hroom hheld
  rw [htarget] at hmove
  refine ⟨((s.aligningOne h slot).modWork h (fun w => { w with
    case := .moving, ahead := (ringMove p (s.change.needle slot h)).1
    distance := (ringMove p (s.change.needle slot h)).2, caseTimer := none })).change, _, _, rfl, ?_,
    ringMove_reaches hp hq⟩
  rw [State.beginAlignOne_eq, State.caseMove_of_known (by rw [hwork]; exact hk) (by rw [htarget]; exact hne), hmove]
  rfl

end Align

/-! ## A head picked (R144, R152) -/

/-- A head that is to join now. -/
structure State.JoinsNow (s : State) (h : Nat) (after : AfterJoin) : Prop where
  waits : (if after = .patch then s.inPatchSet s.cursor h else (s.watchAt h).joining) = true
  fault : (s.watchAt h).fault = none
  state : after = .patch → (s.headAt h).state = .idle ∨ (s.headAt h).state = .resting

/-- The state that a joining head gets. -/
def AfterJoin.becomes (after : AfterJoin) : HeadState := if after = .patch then .patch else .sewing

section Pick

variable {s : State} {h : Nat} {rest : List Nat} {after : AfterJoin} (hj : s.JoinsNow h after)
include hj

theorem State.pickJoin_eq : s.pickJoin h rest after = match s.alignKind h s.joinSlot with
    | .noHead => (if after = .patch then s.setHeadState h .resting else (s.setHeadState h .resting).joinEffect h).doing
        (.joining rest .pick after)
    | .already => (s.issueLower h after.becomes true false).doing (.joining rest (.lowering h) after)
    | .moving => (s.beginAlignOne h s.joinSlot).doing (.joining rest (.aligning h) after) := by
  have hready : ¬ ((s.watchAt h).fault.isSome || (after == .patch && (s.headAt h).state != .idle &&
      (s.headAt h).state != .resting)) = true := by
    rw [hj.fault]
    by_cases ha : after = .patch
    · rcases hj.state ha with hs | hs <;> rw [hs] <;> simp
    · rw [beq_eq_false_iff_ne.2 ha]
      simp
  unfold State.pickJoin
  dsimp only
  rw [hj.waits, if_neg (by decide), if_neg hready] <;> cases s.alignKind h s.joinSlot <;> rfl

theorem State.pickJoin_rests (hq : s.change.needle s.colourNow h = 0) : s.pickJoin h rest after =
    (if after = .patch then s.setHeadState h .resting else (s.setHeadState h .resting).joinEffect h).doing
      (.joining rest .pick after) := by
  rw [State.pickJoin_eq hj, show s.alignKind h s.joinSlot = .noHead from if_pos hq]

theorem State.pickJoin_lowers (hq : s.change.needle s.colourNow h ≠ 0)
    (hk : (s.workAt h).lastKnown = some (s.change.needle s.colourNow h)) : s.pickJoin h rest after =
    (s.issueLower h after.becomes true false).doing (.joining rest (.lowering h) after) := by
  rw [State.pickJoin_eq hj, show s.alignKind h s.joinSlot = .already from (if_neg hq).trans (if_pos hk)]

theorem State.pickJoin_aligns (hq : s.change.needle s.colourNow h ≠ 0)
    (hk : (s.workAt h).lastKnown ≠ some (s.change.needle s.colourNow h)) : s.pickJoin h rest after =
    (s.beginAlignOne h s.colourNow).doing (.joining rest (.aligning h) after) := by
  rw [State.pickJoin_eq hj, show s.alignKind h s.joinSlot = .moving from (if_neg hq).trans (if_neg hk)]
  rfl

end Pick

/-! ## The steps of the joins -/

section Steps

variable {s : State} {todo : List Nat} {after : AfterJoin} (ht : s.frame.travel = none) (hh : s.frame.homing = none)
include ht hh

theorem State.advance_of_joining {phase : JoinPhase} (hact : s.run.activity = .joining todo phase after) :
    s.advance = s.advanceJoins todo phase after := by
  rw [State.advance_of_still ht hh]
  unfold State.advanceActivity
  rw [hact]

theorem State.advance_picks {h : Nat} {rest : List Nat} (hact : s.run.activity = .joining todo .pick after)
    (hleft : s.joinsLeft todo = h :: rest) : s.advance = some (s.pickJoin h rest after) := by
  rw [State.advance_of_joining ht hh hact]
  unfold State.advanceJoins
  dsimp only
  rw [hleft]

theorem State.advance_joined (hact : s.run.activity = .joining todo .pick after) (hleft : s.joinsLeft todo = []) :
    s.advance = some ((if after = .patch then s.setRun { s.run with patchDone := some s.cursor } else s).afterJoins
      after) := by
  rw [State.advance_of_joining ht hh hact]
  unfold State.advanceJoins
  dsimp only
  rw [hleft]

/-- The LOWER of a join is waited for. -/
theorem State.advance_lowering {h : Nat} (hact : s.run.activity = .joining todo (.lowering h) after) :
    (s.bus.engageOutstanding h = true ∨ (s.headAt h).acked ≠ none → s.advance = none) ∧
    (s.bus.engageOutstanding h = false → (s.headAt h).acked = none →
      s.advance = some (s.setRun { s.run with activity := .joining todo .pick after })) := by
  have hstep : s.advance = if s.engaging h then none else some (s.doing (.joining todo .pick after)) :=
    State.advance_of_joining ht hh hact
  rw [hstep]
  refine ⟨fun hwait => if_pos ?_, fun hout hacked => if_neg ?_⟩
  · unfold State.engaging
    rw [Bool.or_eq_true, Option.isSome_iff_ne_none]
    exact hwait
  · unfold State.engaging
    rw [hout, hacked]
    exact Bool.false_ne_true

/-- The alignment of a joining head is waited for. -/
theorem State.advance_aligning {h : Nat} (hact : s.run.activity = .joining todo (.aligning h) after) :
    (s.casesOver = false → s.advance = none) ∧
    (s.casesOver = true → (s.workAt h).case = .arrived →
      s.advance = some ((s.clearWork.issueLower h after.becomes true false).doing (.joining todo (.lowering h) after))) ∧
    (s.casesOver = true → (s.workAt h).case ≠ .arrived →
      s.advance = some (s.clearWork.doing (.joining todo .pick after))) := by
  have hstep : s.advance = if s.casesOver then
      some (if (s.workAt h).case == .arrived then
          (s.clearWork.issueLower h after.becomes true false).doing (.joining todo (.lowering h) after)
        else s.clearWork.doing (.joining todo .pick after)) else none :=
    State.advance_of_joining ht hh hact
  rw [hstep]
  refine ⟨fun hover => if_neg (ne_true_of_eq_false hover), fun hover hcase => ?_, fun hover hcase => ?_⟩
  · rw [if_pos hover, if_pos (beq_iff_eq.2 hcase)]
  · rw [if_pos hover, if_neg (by rw [beq_iff_eq]; exact hcase)]

end Steps

/-! ## A LOWER sent by a step -/

/-- What a step that sends a LOWER leaves, whatever work it has cleared. -/
theorem State.issueLower_doing {s v : State} {h : Nat} {becomes : HeadState} {a : Activity} (hv : v = s.setChange v.change)
    (hl : (s.linkAt h).lost = false) :
    let u := (v.issueLower h becomes true false).doing a
    u.sent ⟨h, .engage ⟨.lower, becomes, true, false⟩⟩ ∧ u.change = v.change ∧ u.gaps = s.gaps ∧ u.monitor = s.monitor ∧
      u.link = s.link ∧ u.store = s.store ∧ u.frame = s.frame ∧ u.shaft = s.shaft ∧ u.gov = s.gov ∧ u.cfg = s.cfg ∧
      (u.headAt h).state = (s.headAt h).state ∧ u.run = { s.run with activity := a, heads := u.run.heads } := by
  intro u
  have hvl : (v.linkAt h).lost = false := by
    rw [hv]
    exact hl
  obtain ⟨hstore, hgov, hframe, hshaft, hmonitor, hgaps, hlink, hcfg, -⟩ :=
    v.issue_keeps ⟨h, .engage ⟨.lower, becomes, true, false⟩⟩
  have hbare := Run.of_bare (v.issueLower_bare h becomes true false)
  have hentry := (State.issue_entry (s := v) (c := ⟨h, .engage ⟨.lower, becomes, true, false⟩⟩) h).1
  have hchange := State.issue_change (s := v) (c := ⟨h, .engage ⟨.lower, becomes, true, false⟩⟩) hvl
  have hsent := State.sent_issue_same (u := v) (c := ⟨h, .engage ⟨.lower, becomes, true, false⟩⟩) hvl
  have hvs : v.gaps = s.gaps ∧ v.monitor = s.monitor ∧ v.link = s.link ∧ v.store = s.store ∧ v.frame = s.frame ∧
      v.shaft = s.shaft ∧ v.gov = s.gov ∧ v.cfg = s.cfg ∧ v.run = s.run := by
    rw [hv]
    exact ⟨rfl, rfl, rfl, rfl, rfl, rfl, rfl, rfl, rfl⟩
  obtain ⟨h1, h2, h3, h4, h5, h6, h7, h8, h9⟩ := hvs
  refine ⟨hsent, hchange, hgaps.trans h1, hmonitor.trans h2, hlink.trans h3, hstore.trans h4, hframe.trans h5,
    hshaft.trans h6, hgov.trans h7, hcfg.trans h8, hentry.trans ?_, ?_⟩
  · unfold State.headAt
    rw [h9]
  · show { (v.issueLower h becomes true false).run with activity := a } = _
    rw [hbare, h9]
    rfl

end Sys2Proof.Machine

/-!
PROOF. Joins of a main pass (sections 8.6, 6.4, 1.4; O59), and what an answered transaction does first (section 6.3).
-/

namespace Sys2Proof.Machine
set_option Elab.async false

/-! ## A head that has joined (R142, R144) -/

/-- What a join of a main pass leaves: the head in its state, its gap closed at the main cursor, its counts loaded. -/
structure State.JoinedBy (s : State) (h : Nat) (new : HeadState) (u : State) : Prop where
  state : (u.headAt h).state = new
  gaps : u.gaps = closedGaps s.gaps h s.run.mainCursor
  link : u.link.SameButGrant (s.link.postClosed s.gaps h s.run.mainCursor)
  watch : u.watchAt h = { s.watchAt h with ownTieIn := s.cfg.speeds.tieIn, armed := false, joining := false }
  frame : u.frame = s.frame
  shaft : u.shaft = s.shaft
  gov : u.gov = s.gov
  cfg : u.cfg = s.cfg
  bus : u.bus = s.bus
  bare : u.run.bare = s.run.bare
  works : u.change.heads = s.change.heads
  others : ∀ j, h - 1 ≠ j - 1 → s.SameHead u j

section JoinedBy

variable {s : State} {h : Nat} {new : HeadState} (hnew : new.calms = false)
include hnew

theorem State.calmsHead_of_not : s.calmsHead h new = false := by
  unfold State.calmsHead
  rw [hnew, Bool.and_false, Bool.false_and]

theorem HeadWatch.left_of_not (w : HeadWatch) : { w.left new with armed := false } = { w with armed := false } := by
  unfold HeadWatch.left
  rw [hnew]
  split <;> rfl

theorem State.joinEffect_joined (hp : s.run.pass = .main) (hroomy : s.roomy) (hlow : 1 ≤ h) (hhigh : h ≤ 8) :
    s.JoinedBy h new ((s.setHeadState h new).joinEffect h) := by
  let v := s.setHeadState h new
  have hcalms := State.calmsHead_of_not (s := s) (h := h) hnew
  have hvlink : v.link = s.link := (s.setHeadState_link h new).trans (if_neg (ne_true_of_eq_false hcalms))
  have hvgov : v.gov = s.gov := (s.setHeadState_gov h new).trans (if_neg (ne_true_of_eq_false hcalms))
  have hvbare : v.run.bare = s.run.bare := s.setHeadState_bare h new
  have hvcursor : v.run.mainCursor = s.run.mainCursor := by rw [Run.of_bare hvbare]
  have hvpass : v.run.pass = .main := by
    rw [Run.of_bare hvbare]
    exact hp
  obtain ⟨-, vframe, vshaft, vbus, vgaps, vcfg, -⟩ := s.setHeadState_keeps h new
  obtain ⟨jrun, jgov, jframe, jshaft, jbus, jchange, jcfg, -⟩ := v.joinEffect_keeps h
  have hvin : h - 1 < v.monitor.heads.length := by
    rw [State.setHeadState_headsLength new |>.2, hroomy.2.1]
    omega
  have heffect : v.joinEffect h = (v.modWatch h (fun w =>
      { w with ownTieIn := v.cfg.speeds.tieIn, armed := false, joining := false })).closeGap h := by
    unfold State.joinEffect
    exact if_pos hvpass
  refine ⟨?_, ?_, ?_, ?_, jframe.trans vframe, jshaft.trans vshaft, jgov.trans hvgov, jcfg.trans vcfg, jbus.trans vbus,
    ?_, ?_, fun j hj => ?_⟩
  · rw [State.joinEffect_head, State.headAt_setHeadState_same _ _ _ (by rw [hroomy.1]; omega)]
  · have hg := State.closeGap_gaps (v.modWatch h (fun w =>
      { w with ownTieIn := v.cfg.speeds.tieIn, armed := false, joining := false })) h
    rw [heffect, hg, ← vgaps, ← hvcursor]
    rfl
  · have hl := State.closeGap_link (v.modWatch h (fun w =>
      { w with ownTieIn := v.cfg.speeds.tieIn, armed := false, joining := false })) h
    rw [heffect, ← hvlink, ← vgaps, ← hvcursor]
    exact hl
  · have hwatch : v.watchAt h = if s.engagedHead h then (s.watchAt h).left new else s.watchAt h :=
      s.watchAt_setHeadState_same h new (by rw [hroomy.2.1]; omega)
    rw [State.joinEffect_watch hvin, vcfg, hwatch]
    split
    · unfold HeadWatch.left
      rw [hnew]
      split <;> rfl
    · rfl
  · rw [jrun]
    exact hvbare
  · rw [jchange]
    exact State.setHeadState_workHeads new
  · exact (State.setHeadState_sameHead new hj).trans (State.joinEffect_sameHead hj)

end JoinedBy

/-! ## The heads of a main pass that can join now -/

/-- Does the head wait to join, with nothing against it (R144)? -/
def State.waitsNow (s : State) (h : Nat) : Bool :=
  (s.watchAt h).joining && ((s.watchAt h).fault.isNone && !(s.linkAt h).lost)

theorem State.waitsNow_iff (s : State) (h : Nat) : s.waitsNow h = true ↔
    (s.watchAt h).joining = true ∧ (s.watchAt h).fault = none ∧ (s.linkAt h).lost = false := by
  unfold State.waitsNow
  rw [Bool.and_eq_true, Bool.and_eq_true, Option.isNone_iff_eq_none, Bool.not_eq_true']

theorem State.joinsLeft_main {s : State} (hp : s.run.pass = .main) (todo : List Nat) :
    s.joinsLeft todo = headNumbers.filter s.waitsNow := by
  have hleft : s.joinsLeft todo = (headNumbers.filter (fun h => (s.watchAt h).joining)).filter
      (fun h => (s.watchAt h).fault.isNone && !(s.linkAt h).lost) := (if_pos hp).trans (if_pos hp)
  rw [hleft, List.filter_filter]
  refine List.filter_congr fun h _ => ?_
  exact Bool.and_comm _ _

/-! ## An answered transaction (R103, R106) -/

/-- The state in which the result of an answered transaction is handed on. -/
def State.answeredAt (s : State) (h : Nat) : State := s.setBus { s.bus with
  inFlight := none, round := s.bus.round.filter (fun r => !r.todo.isEmpty)
  heads := s.bus.heads.modify (h - 1) (fun l => { l with timeouts := 0 }) }

theorem exec_headAnswer_eq (s : State) (h : Nat) (ok : Bool) (r : StatusRecord) :
    exec (.headAnswer h ok r) s = execHeadAnswer h ok r s := rfl

theorem exec_headAnswer_of_none {s : State} (h : Nat) (ok : Bool) (r : StatusRecord) (hf : s.bus.inFlight = none) :
    exec (.headAnswer h ok r) s = .next s := by
  rw [exec_headAnswer_eq]
  unfold execHeadAnswer
  rw [hf]

theorem exec_headAnswer_of_wrong {s : State} {h : Nat} {ok : Bool} {t : Transaction} (r : StatusRecord)
    (hf : s.bus.inFlight = some t) (hw : ok = false ∨ h ≠ t.head) : exec (.headAnswer h ok r) s = .next s := by
  rw [exec_headAnswer_eq]
  unfold execHeadAnswer
  rw [hf]
  exact congrArg _ (if_pos hw)

theorem exec_headAnswer_of_right {s : State} {h : Nat} {t : Transaction} (r : StatusRecord) (hf : s.bus.inFlight = some t)
    (hh : t.head = h) (hr : t.reported = true) :
    exec (.headAnswer h true r) s = .next ((s.answeredAt h).answered t r).finish := by
  subst hh
  have hnot : ¬ (true = false ∨ t.head ≠ t.head) := fun h => h.elim (fun h => Bool.noConfusion h) (fun h => h rfl)
  rw [exec_headAnswer_eq]
  unfold execHeadAnswer
  rw [hf]
  refine congrArg _ ((if_neg hnot).trans ?_)
  dsimp only
  rw [if_pos hr]
  rfl

theorem exec_headAnswer_of_command {s : State} {h : Nat} {t : Transaction} {w : BusWork} (r : StatusRecord)
    (hf : s.bus.inFlight = some t) (hh : t.head = h) (hr : t.reported = true) (hk : t.kind = .command w)
    (hw : w ≠ .poll) : exec (.headAnswer h true r) s = .next ((s.answeredAt h).acknowledged h w).finish := by
  rw [exec_headAnswer_of_right r hf hh hr]
  unfold State.answered
  rw [hk, hh]
  cases w with
  | poll => exact absurd rfl hw
  | engage o => rfl
  | caseMove ahead n => rfl
  | trim => rfl
  | clear => rfl

/-- An order acknowledged with the shaft not turning for a stitch takes effect at once (R106). -/
theorem State.acknowledged_still {s : State} {h : Nat} {o : EngageOrder} (hr : s.shaft.state ≠ .running)
    (hs : s.shaft.state ≠ .stopping) : s.acknowledged h (.engage o) = (s.takeOrder h o).workAfterOrder h o := by
  have hpolls : s.shaft.state.pollsByAngle = false := by
    cases hst : s.shaft.state with
    | running => exact absurd hst hr
    | stopping => exact absurd hst hs
    | unreferenced => rfl
    | referencing => rfl
    | atRest => rfl
    | holding => rfl
  exact if_neg (ne_true_of_eq_false hpolls)

theorem State.engagedBy_workHeads (s : State) (h : Nat) (o : EngageOrder) :
    (s.engagedBy h o).change.heads = s.change.heads := by
  unfold State.engagedBy
  split
  · split
    · dsimp only
      split
      · rw [(State.joinEffect_keeps _ _).2.2.2.2.2.1]
        exact State.setHeadState_workHeads _
      · exact State.setHeadState_workHeads _
    · rfl
  · split
    · exact State.setHeadState_workHeads _
    · rfl

theorem State.takeOrder_workAt (s : State) (h : Nat) (o : EngageOrder) (j : Nat) :
    (s.takeOrder h o).workAt j = s.workAt j := State.workAt_congr (State.engagedBy_workHeads _ h o) j

theorem State.workAfterOrder_of_lower {s : State} {h : Nat} {o : EngageOrder} (hc : o.cmd = .lower)
    (hw : (s.workAt h).case ≠ .lowering) : s.workAfterOrder h o = s := by
  unfold State.workAfterOrder
  rw [hc]
  exact if_neg hw

end Sys2Proof.Machine

/-!
PROOF. Joins of a main pass (sections 8.6, 1.4; O59): the steps, from the join point to the run that goes on.
-/

namespace Sys2Proof.Machine
set_option Elab.async false

/-- At a join point of a main pass with heads that wait, the joins begin (R143). -/
theorem State.advance_joinPoint {s : State} (hp : s.run.pass = .main) (ht : s.frame.travel = none)
    (hh : s.frame.homing = none) (hrun : s.run.state = .running) (hact : s.run.activity = .none)
    (hshaft : s.shaft.state = .atRest) (hstitch : s.frame.stitch = none) (hcarry : s.run.carry = false)
    (hstep : s.run.stepDone = false) (hpoint : s.run.point = some s.run.mainCursor) (hj : s.joinsWaiting = true) :
    s.advance = some (s.setRun { s.run with
      state := .changing, activity := .joining s.waitingHeads .pick .running, point := none }) := by
  have hv : s.RestsNow := ⟨s.calm_iff.2 ⟨hact, ht, hh⟩, hstitch, hshaft, hcarry⟩
  have hcursor : s.cursor = s.run.mainCursor := if_neg (by rw [hp]; exact Pass.noConfusion)
  have hkind : s.stopKindAt s.cursor = some .join := by
    unfold State.stopKindAt
    rw [if_neg (by rw [hp]; exact fun h => Pass.noConfusion h.1), if_pos ⟨hp, by rw [hpoint, hcursor]⟩]
  rw [hv.advance_running hrun, State.actAtRest_of_stop hstep (by rw [hkind]; exact Option.some_ne_none _),
    State.actOn_main hp, hkind]
  exact congrArg some (if_pos ⟨hp, hj⟩)

theorem State.doing_run_of_bare {s v : State} (h : v.run.bare = s.run.bare) (a : Activity) :
    (v.doing a).run = { s.run with activity := a, heads := (v.doing a).run.heads } := by
  unfold State.doing
  rw [State.setRun_run, Run.of_bare h]

theorem Run.ended_paused_cause {r : Run} {c : Option StopCause} (hc : r.cause = c) : { r.ended with state := .paused } =
    { r with
      state := .paused, cause := c, activity := .none, carry := false, stepping := false, stepDone := false
      keepTieIn := false, point := none, startReturn := none, travelReturn := none, warning := false } := by
  subst hc
  rfl

/-- A run whose joins are over, with a stop cause recorded (R10, R144, log 81). -/
theorem State.afterJoins_paused {s : State} {after : AfterJoin} {k : StopCause} (hp : s.run.pass = .main)
    (hk : s.run.cause = some k) (hj : s.joinsWaiting = false) : s.afterJoins after =
      (s.setRun { s.run.ended with state := .paused }).setLink (s.link.post ⟨.stopped, 0, s.run.mainCursor, k.code⟩) := by
  have hpaused : s.toPaused = (s.setRun { s.run.ended with state := .paused }).setLink
      (s.link.post ⟨.stopped, 0, s.run.mainCursor, k.code⟩) := by
    rw [State.toPaused_eq hj (State.main_goesOn hp), hk]
    have hcursor : s.cursor = s.run.mainCursor := if_neg (by rw [hp]; exact Pass.noConfusion)
    rw [hcursor]
    rfl
  have hsome : s.run.cause.isSome = true := by
    rw [hk]
    rfl
  rw [← hpaused]
  cases after <;> exact if_pos hsome

theorem joins_main : ∀ (s : State) (h : Nat), s.run.pass = .main → s.shapesRight = true → 1 ≤ h → h ≤ 8 →
      let c := s.run.mainCursor
      let waits := fun (j : Nat) => (s.watchAt j).joining = true ∧ (s.watchAt j).fault = none ∧ (s.linkAt j).lost = false
      let isOpen := fun (g : Gap) => g.head == h && g.state == .opened
      let closed := match s.gaps.find? isOpen with
        | none => s.gaps
        | some g => if g.start < c then s.gaps.map (fun x => if isOpen x then { x with stop := some c, state := .closed } else x)
          else s.gaps.filter (fun x => !isOpen x)
      let told := match s.gaps.find? isOpen with
        | none => s.link
        | some g => s.link.post ⟨.gapClosed, h, c, c - g.start⟩
      let reachable := (s.linkAt h).lost = false
      let room := s.bus.queue.length < 16 ∧ s.bus.held = []
      let at_ := fun (a : Activity) => { s.run with activity := a }
      let kept := fun (u : State) => u.frame = s.frame ∧ u.shaft = s.shaft ∧ u.gov = s.gov ∧ u.cfg = s.cfg
      let same := fun (u : State) => u.gaps = s.gaps ∧ u.monitor = s.monitor ∧ u.link = s.link ∧ u.store = s.store ∧ kept u
      let sent := fun (u : State) (w : BusWork) => (⟨h, w⟩ : BusCommand) ∈ u.bus.queue ++ u.bus.held
      let lower : BusWork := .engage ⟨.lower, .sewing, true, false⟩
      let joined := fun (u : State) (state : HeadState) =>
        (u.headAt h).state = state ∧ u.gaps = closed ∧ u.link.events = told.events ∧
        u.watchAt h = { s.watchAt h with ownTieIn := s.cfg.speeds.tieIn, armed := false, joining := false } ∧ kept u ∧
        ∀ j, j ≠ h → 1 ≤ j → j ≤ 8 → u.headAt j = s.headAt j ∧ u.watchAt j = s.watchAt j
      let paused := fun (k : StopCause) => { s.run with
        state := .paused, cause := some k, activity := .none, carry := false, stepping := false, stepDone := false
        keepTieIn := false, point := none, startReturn := none, travelReturn := none, warning := false }
      (s.frame.travel = none → s.frame.homing = none → s.run.state = .running → s.run.activity = .none →
        s.shaft.state = .atRest → s.frame.stitch = none → s.run.carry = false → s.run.stepDone = false →
        s.run.point = some c → s.joinsWaiting = true →
        ∃ todo, s.advance = some (s.setRun { s.run with
          state := .changing, activity := .joining todo .pick .running, point := none })) ∧
      (∀ (todo : List Nat) (after : AfterJoin), after ≠ .patch → s.frame.travel = none → s.frame.homing = none →
        (s.run.activity = .joining todo .pick after → waits h → (∀ j, 1 ≤ j → j < h → ¬ waits j) →
          let q := s.change.needle (s.stampAt c).colour h
          (q = 0 → ∃ u rest, s.advance = some u ∧ joined u .resting ∧ u.bus = s.bus ∧
            u.run = { at_ (.joining rest .pick after) with heads := u.run.heads }) ∧
          (q ≠ 0 → (s.workAt h).lastKnown = some q → ∃ u rest, s.advance = some u ∧ sent u lower ∧ same u ∧
            (u.headAt h).state = (s.headAt h).state ∧
            u.run = { at_ (.joining rest (.lowering h) after) with heads := u.run.heads }) ∧
          (q ≠ 0 → (s.workAt h).lastKnown = none → s.bus.queue.length < 15 → s.bus.held = [] →
            ∃ u rest, s.advance = some u ∧ same u ∧ u.change.work = .alignOne ∧
              u.run = at_ (.joining rest (.aligning h) after) ∧
              u.bus = { s.bus with queue := s.bus.queue ++ [⟨h, .clear⟩, ⟨h, .poll⟩] }) ∧
          (∀ p, q ≠ 0 → q ≤ 12 → p ≤ 12 → (s.workAt h).lastKnown = some p → p ≠ q → room →
            ∃ u rest, s.advance = some u ∧ same u ∧ u.change.work = .alignOne ∧
              u.run = at_ (.joining rest (.aligning h) after) ∧
              ∃ ahead n, u.bus = { s.bus with queue := s.bus.queue ++ [⟨h, .caseMove ahead n⟩] } ∧
                (q : Int) % 12 = ((p : Int) + (if ahead then (n : Int) else -n)) % 12)) ∧
        (s.run.activity = .joining todo (.aligning h) after →
          let settled := ∀ j ∈ headNumbers, (s.workAt j).part = true →
            (s.workAt j).case = .arrived ∨ (s.workAt j).case = .resting ∨ (s.workAt j).case = .handedOver
          (¬ settled → s.advance = none) ∧
          (settled → (s.workAt h).case = .arrived → reachable → ∃ u, s.advance = some u ∧ sent u lower ∧
            u.change.work = .none ∧ same u ∧
            u.run = { at_ (.joining todo (.lowering h) after) with heads := u.run.heads }) ∧
          (settled → (s.workAt h).case ≠ .arrived → ∃ u, s.advance = some u ∧ u.change.work = .none ∧ same u ∧
            u.bus = s.bus ∧ u.run = at_ (.joining todo .pick after))) ∧
        (s.run.activity = .joining todo (.lowering h) after →
          (s.bus.engageOutstanding h = true ∨ (s.headAt h).acked ≠ none → s.advance = none) ∧
          (s.bus.engageOutstanding h = false → (s.headAt h).acked = none →
            s.advance = some (s.setRun (at_ (.joining todo .pick after))))) ∧
        (s.run.activity = .joining todo .pick after → (∀ j ∈ headNumbers, ¬ waits j) →
          (s.run.cause = none →
            (after = .running → s.advance = some (s.setRun { s.run with state := .running, activity := .none })) ∧
            (after = .stepEngage → s.advance = some (s.setRun { s.run with state := .arming, activity := .dueEngage })) ∧
            (after = .fromWaiting → s.advance = some (((s.setRun { s.run with
              state := .running, activity := .none, tieIn := s.cfg.speeds.tieIn }).setMonitor { s.monitor with
                heads := s.monitor.heads.map (fun w => { w with armed := false }) }).setLink
              (s.link.post ⟨.runStarted, 0, c, 4⟩)))) ∧
          (∀ k, s.run.cause = some k → s.joinsWaiting = false →
            s.advance = some ((s.setRun (paused k)).setLink (s.link.post ⟨.stopped, 0, c, k.code⟩))))) ∧
      (∀ (r : StatusRecord) (t : Transaction) (o : EngageOrder), s.bus.inFlight = some t → t.reported = true → t.head = h →
        t.kind = .command (.engage o) → o.cmd = .lower → o.join = true → o.becomes = .sewing →
        s.shaft.state ≠ .running → s.shaft.state ≠ .stopping → (s.headAt h).state = .dropped → (s.watchAt h).fault = none →
        (s.workAt h).case ≠ .lowering →
        ∃ u : State, exec (.headAnswer h true r) s = .next u.finish ∧ joined u .sewing ∧ (u.headAt h).acked = none) := by
  intro s h hp hshapes hlow hhigh c waits isOpen closed told reachable room at_ kept same sent lower joined paused
  have hroomy : s.roomy := State.roomy_of_shapes hshapes
  have hin : h - 1 < s.change.heads.length := by
    rw [hroomy.2.2.1]
    omega
  have hcursor : s.cursor = c := if_neg (by rw [hp]; exact Pass.noConfusion)
  have hcolour : s.colourNow = (s.stampAt c).colour := by
    unfold State.colourNow
    rw [hcursor]
  have hclosed : closedGaps s.gaps h c = closed := rfl
  have htold : s.link.postClosed s.gaps h c = told := rfl
  have hjoined : ∀ {u new}, s.JoinedBy h new u → joined u new := fun hu =>
    ⟨hu.state, hu.gaps, hu.link.events, hu.watch, ⟨hu.frame, hu.shaft, hu.gov, hu.cfg⟩, fun j hne hj _ =>
      have hs := hu.others j (by omega)
      ⟨hs.head, hs.watch⟩⟩
  refine ⟨fun ht hh hrun hact hshaft hstitch hcarry hstep hpoint hj =>
    ⟨_, State.advance_joinPoint hp ht hh hrun hact hshaft hstitch hcarry hstep hpoint hj⟩,
    fun todo after hafter ht hh => ⟨fun hact hw hbefore => ?_, fun hact => ?_, fun hact => ?_, fun hact hnone => ?_⟩,
    fun r t o hf hr hhead hk hcmd hjoin hbecomes hrun hstop hdrop hfault hcase => ?_⟩
  · intro q
    obtain ⟨rest, hrest⟩ := filter_first hlow hhigh (p := s.waitsNow) ((s.waitsNow_iff h).2 hw)
      fun j hj hlt hyes => hbefore j hj hlt ((s.waitsNow_iff j).1 hyes)
    have hadv := State.advance_picks ht hh hact ((State.joinsLeft_main hp todo).trans hrest)
    have hjoins : s.JoinsNow h after := ⟨by rw [if_neg hafter]; exact hw.1, hw.2.1, fun h => absurd h hafter⟩
    have hbecomes : after.becomes = .sewing := if_neg hafter
    have hq : s.change.needle s.colourNow h = q := by rw [hcolour]
    refine ⟨fun h0 => ?_, fun hne hk => ?_, fun hne hk hroom hheld => ?_, fun p hne hq12 hp12 hk hpq hroom => ?_⟩
    · rw [State.pickJoin_rests hjoins (hq.trans h0), if_neg hafter] at hadv
      have hu := State.joinEffect_joined (s := s) (h := h) (new := .resting) rfl hp hroomy hlow hhigh
      generalize (s.setHeadState h .resting).joinEffect h = v at *
      have hjoin : joined v .resting := hjoined hu
      exact ⟨_, rest, hadv, hjoin, hu.bus, State.doing_run_of_bare hu.bare _⟩
    · rw [State.pickJoin_lowers hjoins (by rw [hq]; exact hne) (by rw [hq]; exact hk), hbecomes] at hadv
      obtain ⟨hsent, -, hgaps, hmonitor, hlink, hstore, hframe, hshaft, hgov, hcfg, hstate, hrun⟩ :=
        State.issueLower_doing (s := s) (v := s) (h := h) (becomes := .sewing) (a := .joining rest (.lowering h) after)
          rfl hw.2.2
      exact ⟨_, rest, hadv, hsent, ⟨hgaps, hmonitor, hlink, hstore, hframe, hshaft, hgov, hcfg⟩, hstate, hrun⟩
    · rw [State.pickJoin_aligns hjoins (by rw [hq]; exact hne) (by rw [hk]; exact (Option.some_ne_none _).symm)] at hadv
      obtain ⟨d, hd, hu⟩ := State.beginAlignOne_unknown (slot := s.colourNow) hin hk hw.2.2 hroom hheld
      rw [hu] at hadv
      exact ⟨_, rest, hadv, ⟨rfl, rfl, rfl, rfl, rfl, rfl, rfl, rfl⟩, hd, rfl, rfl⟩
    · obtain ⟨hroom, hheld⟩ := hroom
      rw [State.pickJoin_aligns hjoins (by rw [hq]; exact hne)
        (by rw [hk, hq]; exact fun h => hpq (Option.some.inj h))] at hadv
      obtain ⟨d, ahead, n, hd, hu, hreach⟩ := State.beginAlignOne_known (slot := s.colourNow) hin hk
        (by rw [hq]; exact hpq) hp12 (by rw [hq]; exact hq12) hw.2.2 hroom hheld
      rw [hu] at hadv
      rw [hq] at hreach
      exact ⟨_, rest, hadv, ⟨rfl, rfl, rfl, rfl, rfl, rfl, rfl, rfl⟩, hd, rfl, ahead, n, rfl, hreach⟩
  · intro settled
    obtain ⟨hwait, hlower, hpass⟩ := State.advance_aligning ht hh hact
    refine ⟨fun hno => hwait (Bool.eq_false_iff.2 (mt s.casesOver_iff.1 hno)), fun hyes hcase hl => ?_,
      fun hyes hcase => ?_⟩
    · have hadv := hlower (s.casesOver_iff.2 hyes) hcase
      rw [show after.becomes = .sewing from if_neg hafter] at hadv
      obtain ⟨hsent, hchange, hgaps, hmonitor, hlink, hstore, hframe, hshaft, hgov, hcfg, -, hrun⟩ :=
        State.issueLower_doing (s := s) (v := s.clearWork) (h := h) (becomes := .sewing)
          (a := .joining todo (.lowering h) after) rfl hl
      exact ⟨_, hadv, hsent, by rw [hchange]; rfl, ⟨hgaps, hmonitor, hlink, hstore, hframe, hshaft, hgov, hcfg⟩, hrun⟩
    · exact ⟨_, hpass (s.casesOver_iff.2 hyes) hcase, rfl, ⟨rfl, rfl, rfl, rfl, rfl, rfl, rfl, rfl⟩, rfl, rfl⟩
  · exact State.advance_lowering ht hh hact
  · have hempty : headNumbers.filter s.waitsNow = [] :=
      List.filter_eq_nil_iff.2 fun j hj hyes => hnone j hj ((s.waitsNow_iff j).1 hyes)
    have hadv := State.advance_joined ht hh hact ((State.joinsLeft_main hp todo).trans hempty)
    rw [if_neg hafter] at hadv
    refine ⟨fun hcause => ⟨fun ha => ?_, fun ha => ?_, fun ha => ?_⟩, fun k hk hj => ?_⟩
    · rw [hadv, ha]
      exact congrArg some (if_neg (by rw [hcause]; exact Bool.false_ne_true))
    · rw [hadv, ha]
      exact congrArg some (if_neg (by rw [hcause]; exact Bool.false_ne_true))
    · rw [hadv, ha, ← hcursor]
      exact congrArg some (if_neg (by rw [hcause]; exact Bool.false_ne_true))
    · rw [hadv, State.afterJoins_paused hp hk hj, Run.ended_paused_cause hk]
  · have hexec := exec_headAnswer_of_command r hf hhead hr hk BusWork.noConfusion
    let v := s.answeredAt h
    have hvroomy : v.roomy := State.roomy_of_lengths hroomy rfl rfl rfl (by simp [v, State.answeredAt])
    have horder := State.headAt_orderCleared (s := v) hvroomy hlow hhigh
    have hlowers : (v.orderCleared h).lowers h = true := by
      refine State.lowers_of h (.inr (.inr (.inr (.inr ⟨?_, hfault⟩))))
      rw [horder]
      exact hdrop
    have htake : v.takeOrder h o = ((v.orderCleared h).setHeadState h .sewing).joinEffect h := by
      rw [State.takeOrder_eq, State.engagedBy_lower hcmd hlowers, hbecomes]
      exact if_pos hjoin
    have hwork : (v.takeOrder h o).workAfterOrder h o = v.takeOrder h o :=
      State.workAfterOrder_of_lower hcmd (by rw [State.takeOrder_workAt]; exact hcase)
    have hu := State.joinEffect_joined (s := v.orderCleared h) (h := h) (new := .sewing) rfl hp
      (State.orderCleared_roomy hvroomy) hlow hhigh
    rw [State.acknowledged_still (s := v) hrun hstop, hwork] at hexec
    refine ⟨v.takeOrder h o, hexec, ?_, State.takeOrder_acked hvroomy hlow hhigh⟩
    rw [htake]
    refine ⟨hu.state, hu.gaps, hu.link.events, hu.watch, ⟨hu.frame, hu.shaft, hu.gov, hu.cfg⟩, fun j hne hj _ => ?_⟩
    have hs := hu.others j (by omega)
    exact ⟨hs.head.trans (State.headAt_modHead_other v _ (by omega)), hs.watch⟩

end Sys2Proof.Machine

/-!
PROOF. Patch stops (section 9.2; O59): end stops, joins, the jump and the end of the pass.
-/

namespace Sys2Proof.Machine
set_option Elab.async false

/-! ## The end of a patch pass (R154) -/

theorem State.liftHead_entry {s : State} {h : Nat} (hin : h - 1 < s.run.heads.length) :
    ((s.liftHead h).headAt h).needle = (s.headAt h).needle ∧ ((s.liftHead h).headAt h).state =
      (if (s.headAt h).state = .resting then .idle else (s.headAt h).state) := by
  unfold State.liftHead
  split
  next he =>
    have hnot : (s.headAt h).state ≠ .resting := fun hr => by
      rw [State.engagedHead_of_resting hr] at he
      cases he
    rw [if_neg hnot]
    split
    · exact ⟨rfl, rfl⟩
    · obtain ⟨hstate, hneedle⟩ := State.issue_entry (s := s) (c := ⟨h, .engage ⟨.lift, .idle, false, false⟩⟩) h
      exact ⟨hneedle, hstate⟩
  next =>
    split
    next hr =>
      rw [State.headAt_setHeadState_same _ _ _ hin]
      exact ⟨rfl, rfl⟩
    next hr => exact ⟨rfl, rfl⟩

theorem State.liftAll_entry (s : State) {h : Nat} (hlow : 1 ≤ h) (hhigh : h ≤ 8) :
    (s.liftAll.headAt h).needle = (s.headAt h).needle ∧ (s.liftAll.headAt h).state =
      (if (s.headAt h).state = .resting then .idle else (s.headAt h).state) := by
  by_cases hr : (s.headAt h).state = .resting
  · obtain ⟨u, hu, hfold⟩ := s.liftAll_at hlow hhigh
    have hin : h - 1 < u.run.heads.length := headAt_in (by rw [hu.head, hr]; exact HeadState.noConfusion)
    rw [hfold.head, ← hu.head]
    exact State.liftHead_entry hin
  · obtain ⟨u, hu, hfold⟩ := s.liftAll_at hlow hhigh
    rw [hfold.head, ← hu.head]
    by_cases hin : h - 1 < u.run.heads.length
    · exact State.liftHead_entry hin
    · have hoff : (u.headAt h).state = .off := by
        unfold State.headAt
        rw [List.getD_eq_default _ _ (by omega)]
        rfl
      have hlift : u.liftHead h = u := by
        unfold State.liftHead
        have he : u.engagedHead h = false := by
          unfold State.engagedHead
          rw [hoff]
          rfl
        rw [if_neg (ne_true_of_eq_false he), if_neg (by rw [hoff]; exact HeadState.noConfusion)]
      rw [hlift, if_neg (by rw [hoff]; exact HeadState.noConfusion)]
      exact ⟨rfl, rfl⟩

theorem patch_ends : ∀ (s : State) (back : RunState), s.run.pass = .patch → s.run.passReturn = some back → s.joinsWaiting = false →
      let t := s.endPatch
      t.run = { s.run with
        state := back, pass := .main, patchCursor := none, cause := none, passReturn := none, patchDone := none
        patchSewn := 0, activity := .none, carry := false, stepping := false, stepDone := false, keepTieIn := false
        point := none, startReturn := none, travelReturn := none, warning := false, heads := t.run.heads } ∧
      t.link.events = (s.link.post ⟨.patchDone, 0, s.cursor, s.run.patchSewn⟩).events ∧
      t.gaps = s.gaps ∧ t.frame = s.frame ∧ t.shaft = s.shaft ∧ t.cfg = s.cfg ∧
      ∀ h, 1 ≤ h → h ≤ 8 → (t.headAt h).needle = (s.headAt h).needle ∧
        (t.headAt h).state = (if (s.headAt h).state = .resting then .idle else (s.headAt h).state) ∧
        (s.engagedHead h = true → (s.watchAt h).fault = none → (s.linkAt h).lost = false →
          t.liftOnItsWay h .idle = true) := by
  intro s back hp hback hj t
  let u := s.patchEnded.refreshSlots.release.writePendings
  have hu : u.run = s.patchEnded.run ∧ u.gaps = s.gaps ∧ u.frame = s.frame ∧ u.shaft = s.shaft ∧ u.cfg = s.cfg ∧
      u.monitor = s.monitor ∧ u.bus = s.bus := by
    simp only [u, State.writePendings_keeps, State.release_keeps]
    exact ⟨rfl, rfl, rfl, rfl, rfl, rfl, rfl⟩
  obtain ⟨hrun, hgaps, hframe, hshaft, hcfg, hmonitor, hbus⟩ := hu
  have hlink : u.link.SameButGrant s.patchEnded.link := by
    have hrel := State.release_link s.patchEnded.refreshSlots
    rw [show u.link = s.patchEnded.refreshSlots.release.link by simp only [u, State.writePendings_keeps]]
    exact hrel
  have hresolve : u.resolveJoins = u := by
    refine State.resolveJoins_of_none ?_
    unfold State.joinsWaiting State.watchAt at hj ⊢
    rw [hmonitor]
    exact hj
  have ht : t = u.liftAll := by
    have hend := s.endPatch_eq
    rw [show s.patchEnded.refreshSlots.release.writePendings = u from rfl, hresolve] at hend
    exact hend
  clear_value t u
  have hbare : t.run.bare = u.run.bare := by rw [ht, State.liftAll_bare]
  obtain ⟨-, kframe, kshaft, kgaps, -⟩ := u.liftAll_keeps
  have hheads : ∀ h, u.headAt h = s.headAt h := State.headAt_congr (by rw [hrun]; rfl)
  refine ⟨?_, ?_, by rw [ht, kgaps, hgaps], by rw [ht, kframe, hframe], by rw [ht, kshaft, hshaft], ?_,
    fun h hlow hhigh => ?_⟩
  · rw [Run.of_bare hbare, hrun]
    unfold State.patchEnded
    rw [State.setRun_run, hback]
    rfl
  · rw [ht, State.liftAll_link]
    exact hlink.events
  · rw [ht]
    simp only [State.liftAll_keeps]
    exact hcfg
  · obtain ⟨hneedle, hstate⟩ := u.liftAll_entry hlow hhigh
    rw [ht, hneedle, hstate, hheads]
    refine ⟨rfl, rfl, fun he hf hl => ?_⟩
    refine State.liftAll_lift hlow hhigh ((State.engagedHead_congr (hheads h)).trans he) ?_ ?_
    · unfold State.dropping
      rw [State.watchAt_congr (congrArg Monitor.heads hmonitor), hf]
      rfl
    · rw [State.linkAt_congr (congrArg Bus.heads hbus)]
      exact hl

end Sys2Proof.Machine

/-!
PROOF. Patch stops (section 9.2; O59): the steps at a patch stop point.
-/

namespace Sys2Proof.Machine
set_option Elab.async false

/-! ## The gap of a head, sewn (R152) -/

/-- What the removal of a sewn gap leaves. -/
structure State.Sewn (s : State) (h : Nat) (u : State) : Prop where
  gaps : u.gaps = s.gaps.filter (fun g => !(g.state == .sewing && g.head == h && g.stop == some s.cursor))
  run : u.run = { s.run with activity := .endStops .pick, patchSewn := s.run.patchSewn + 1 }
  bus : u.bus = s.bus
  frame : u.frame = s.frame
  shaft : u.shaft = s.shaft
  events : u.link.events = s.link.events

theorem State.gapSewn_sewn (s : State) (h : Nat) : s.Sewn h (s.gapSewn h) := by
  let p : Gap → Bool := fun g => g.selected && g.head == h && g.stop == some s.cursor
  let v := s.setRun { s.run with patchSewn := s.run.patchSewn + 1 }
  have hsewn : s.gapSewn h = (v.removeGaps p).doing (.endStops .pick) := rfl
  obtain ⟨hgaps, hcases⟩ := v.removeGaps_cases p
  have hblocks : ∀ u : State, u.run = v.run → u.bus = s.bus → u.frame = s.frame → u.shaft = s.shaft →
      u.link.SameButGrant s.link → u.gaps = v.gaps.filter (fun g => !p g) → s.Sewn h (u.doing (.endStops .pick)) :=
    fun u hrun hbus hframe hshaft hlink hgaps => by
      refine ⟨hgaps, ?_, hbus, hframe, hshaft, hlink.events⟩
      unfold State.doing
      rw [State.setRun_run, hrun]
      rfl
  rw [hsewn]
  rcases hcases with ⟨hsame, -⟩ | ⟨hremoved, -⟩
  · rw [hsame] at hgaps ⊢
    exact hblocks v rfl rfl rfl rfl (.refl _) hgaps
  · have hrel := State.release_link (v.setGaps (v.gaps.filter (fun g => !p g)))
    obtain ⟨rrun, -, rframe, rshaft, rbus, -⟩ := (v.setGaps (v.gaps.filter (fun g => !p g))).release_keeps
    rw [hremoved] at hgaps ⊢
    exact hblocks _ rrun rbus rframe rshaft hrel hgaps

/-! ## The steps of a patch stop -/

section Steps

variable {s : State} (ht : s.frame.travel = none) (hh : s.frame.homing = none)
include ht hh

theorem State.advance_of_endStops {phase : EndPhase} (hact : s.run.activity = .endStops phase) :
    s.advance = s.advanceEndStops phase := by
  rw [State.advance_of_still ht hh]
  unfold State.advanceActivity
  rw [hact]

/-- A RUNNING patch pass at rest at a patch stop point. -/
theorem State.advance_patchStop (hp : s.run.pass = .patch) (hrun : s.run.state = .running)
    (hact : s.run.activity = .none) (hshaft : s.shaft.state = .atRest) (hstitch : s.frame.stitch = none)
    (hcarry : s.run.carry = false) (hstep : s.run.stepDone = false) (hstop : s.patchStop s.cursor = true) :
    s.advance = some (s.setRun { s.run with state := .changing, activity := .endStops .pick, point := none }) := by
  have hv : s.RestsNow := ⟨s.calm_iff.2 ⟨hact, ht, hh⟩, hstitch, hshaft, hcarry⟩
  have hkind : s.stopKindAt s.cursor = some .patch := if_pos ⟨hp, hstop⟩
  rw [hv.advance_running hrun, State.actAtRest_of_stop hstep (by rw [hkind]; exact Option.some_ne_none _)]
  unfold State.actOn
  rw [hkind]
  split <;> rfl

/-- The next place, when no gap ends at this one (R151). -/
theorem State.advance_afterEndStops (hact : s.run.activity = .endStops .pick)
    (hnone : ∀ j ∈ headNumbers, ¬ ∃ g ∈ s.gaps, g.state = .sewing ∧ g.head = j ∧ g.stop = some s.cursor) :
    s.advance = some s.afterEndStops := by
  have hnext : s.nextEndStop = none := List.find?_eq_none.2 fun j hj hany => by
    obtain ⟨g, hg, hgp⟩ := List.any_eq_true.1 hany
    simp only [Gap.selected, Bool.and_eq_true, beq_iff_eq] at hgp
    exact hnone j hj ⟨g, hg, hgp.1.1, hgp.1.2, hgp.2⟩
  rw [State.advance_of_endStops ht hh hact]
  unfold State.advanceEndStops
  dsimp only
  rw [hnext]

/-- The first head whose gap ends here. -/
theorem State.advance_endStop {h : Nat} (hlow : 1 ≤ h) (hhigh : h ≤ 8) (hact : s.run.activity = .endStops .pick)
    (hends : ∃ g ∈ s.gaps, g.state = .sewing ∧ g.head = h ∧ g.stop = some s.cursor)
    (hbefore : ∀ j, 1 ≤ j → j < h → ¬ ∃ g ∈ s.gaps, g.state = .sewing ∧ g.head = j ∧ g.stop = some s.cursor) :
    s.advance = some (s.beginEndStop h) := by
  have hiff : ∀ j, (s.gaps.any (fun g => g.selected && g.head == j && g.stop == some s.cursor)) = true ↔
      ∃ g ∈ s.gaps, g.state = .sewing ∧ g.head = j ∧ g.stop = some s.cursor := fun j => by
    simp only [List.any_eq_true, Gap.selected, Bool.and_eq_true, beq_iff_eq, and_assoc]
  have hnext : s.nextEndStop = some h :=
    find_first hlow hhigh ((hiff h).2 hends) fun j hj hlt hyes => hbefore j hj hlt ((hiff j).1 hyes)
  rw [State.advance_of_endStops ht hh hact]
  unfold State.advanceEndStops
  dsimp only
  rw [hnext]

end Steps

theorem State.patchCovers_iff (s : State) (i : Nat) : s.patchCovers i = true ↔
    ∃ g ∈ s.gaps, g.state = .sewing ∧ g.start ≤ i ∧ i < g.stop.getD s.run.mainCursor := by
  unfold State.patchCovers Gap.covers Gap.selected Gap.stopAt
  simp only [List.any_eq_true, Bool.and_eq_true, beq_iff_eq, decide_eq_true_eq]

/-- The next selected start from an index on. -/
theorem State.nextPatchStart_of {s : State} {c i : Nat} {g : Gap}
    (hg : s.gaps.find? (fun x => x.state == .sewing && x.start == i) = some g) (hc : c ≤ i)
    (hmin : ∀ x ∈ s.gaps, x.state = .sewing → c ≤ x.start → i ≤ x.start) : s.nextPatchStart c = some i := by
  have hmem := List.mem_of_find?_eq_some hg
  have hgp := List.find?_some hg
  simp only [Bool.and_eq_true, beq_iff_eq] at hgp
  unfold State.nextPatchStart
  rw [List.min?_eq_some_iff]
  refine ⟨List.mem_map.2 ⟨g, List.mem_filter.2 ⟨hmem, ?_⟩, hgp.2⟩, fun b hb => ?_⟩
  · simp [Gap.selected, hgp.1, hgp.2, hc]
  · obtain ⟨x, hx, rfl⟩ := List.mem_map.1 hb
    obtain ⟨hxm, hxp⟩ := List.mem_filter.1 hx
    simp only [Gap.selected, Bool.and_eq_true, beq_iff_eq, decide_eq_true_eq] at hxp
    exact hmin x hxm hxp.1 hxp.2

theorem State.nextPatchStart_none {s : State} (hnone : ∀ g ∈ s.gaps, g.state ≠ .sewing) (c : Nat) :
    s.nextPatchStart c = none := by
  unfold State.nextPatchStart
  rw [List.min?_eq_none_iff, List.map_eq_nil_iff, List.filter_eq_nil_iff]
  intro g hg
  simp [Gap.selected, hnone g hg]

/-! ## The jump (R151) -/

/-- The state in which the jump begins its travel. -/
def State.jumping (s : State) (i : Nat) : State :=
  ((s.setRun { s.run with patchDone := none }).movePatch i).writePendings

/-- The blocks that the jump leaves. -/
theorem State.jumping_blocks (s : State) (i : Nat) :
    (s.jumping i).run = { s.run with patchCursor := some i, patchDone := none } ∧ (s.jumping i).gaps = s.gaps ∧
    (s.jumping i).bus = s.bus ∧ (s.jumping i).frame = s.frame ∧ (s.jumping i).shaft = s.shaft ∧
    (s.jumping i).cfg = s.cfg ∧ (s.jumping i).monitor = s.monitor := by
  obtain ⟨hrun, -, hframe, hshaft, hbus, -, hmonitor, hgaps, hcfg, -⟩ :=
    (s.setRun { s.run with patchDone := none }).movePatch_blocks i
  unfold State.jumping
  simp only [State.writePendings_keeps]
  exact ⟨hrun, hgaps, hbus, hframe, hshaft, hcfg, hmonitor⟩

theorem State.jumpTo_eq {s : State} {i : Nat} {g : Gap}
    (hg : s.gaps.find? (fun x => x.state == .sewing && x.start == i) = some g) : s.jumpTo i =
    if inField s.cfg.machine (s.originPos.add g.entry) then ((s.jumping i).setRun { (s.jumping i).run with
        state := .travelling, travelReturn := some .changing, activity := .patchTravel }).beginTravel
          [s.originPos.add g.entry]
    else (s.jumping i).pauseFor .frameLimit := by
  obtain ⟨-, hgaps, -, hframe, -, hcfg, -⟩ := s.jumping_blocks i
  have horigin : (s.jumping i).originPos = s.originPos := by
    unfold State.originPos
    rw [hframe]
  have hentry : (s.jumping i).gaps.find? (fun g => g.selected && g.start == i) = some g := by
    rw [hgaps]
    exact hg
  unfold State.jumpTo
  dsimp only
  rw [← State.jumping, hentry]
  dsimp only
  rw [horigin, hcfg]

end Sys2Proof.Machine

/-!
PROOF. Trims, case moves, joins and patch stops (sections 7.3, 7.4.2, 8.6, 9.2; O59): the obligation.
-/

namespace Sys2Proof.Machine
set_option Elab.async false

theorem State.trimOver_iff (s : State) : s.trimOver = true ↔ ∀ j ∈ headNumbers, (s.workAt j).trim ≠ .waiting := by
  unfold State.trimOver
  simp only [List.all_eq_true, bne_iff_ne]

theorem State.inPatchSet_of {s : State} {h : Nat} (hcov : ∃ g ∈ s.gaps,
    (g.state = .sewing ∧ g.start ≤ s.cursor ∧ s.cursor < g.stop.getD s.run.mainCursor) ∧ g.head = h) :
    s.inPatchSet s.cursor h = true := by
  obtain ⟨g, hg, ⟨hs, hlo, hhi⟩, hhead⟩ := hcov
  exact List.any_eq_true.2 ⟨g, hg, by simp [Gap.selected, Gap.covers, Gap.stopAt, hs, hlo, hhi, hhead]⟩

/-- A head outside the needles comes to rest. -/
theorem State.setHeadState_rests {s : State} {h : Nat} (hs : (s.headAt h).state = .idle ∨ (s.headAt h).state = .resting)
    (new : HeadState) : s.setHeadState h new = s.modHead h (fun e => { e with state := new }) ∧
      ((s.modHead h (fun e => { e with state := new })).headAt h).state = new := by
  have he : s.engagedHead h = false := by
    unfold State.engagedHead
    rcases hs with hs | hs <;> rw [hs] <;> rfl
  have hin : h - 1 < s.run.heads.length := headAt_in (by rcases hs with hs | hs <;> rw [hs] <;> exact HeadState.noConfusion)
  exact ⟨State.setHeadState_of_lifted he new, by rw [State.headAt_modHead_same s _ hin]⟩

section Jump

variable {s : State} {i : Nat} {g : Gap} (hg : s.gaps.find? (fun x => x.state == .sewing && x.start == i) = some g)
include hg

theorem State.advance_jumps (ht : s.frame.travel = none) (hh : s.frame.homing = none)
    (hact : s.run.activity = .endStops .pick)
    (hnone : ∀ j ∈ headNumbers, ¬ ∃ g ∈ s.gaps, g.state = .sewing ∧ g.head = j ∧ g.stop = some s.cursor)
    (hcov : ∀ x ∈ s.gaps, ¬ (x.state = .sewing ∧ x.start ≤ s.cursor ∧ s.cursor < x.stop.getD s.run.mainCursor))
    (hc : s.cursor ≤ i) (hmin : ∀ x ∈ s.gaps, x.state = .sewing → s.cursor ≤ x.start → i ≤ x.start) :
    s.advance = some (s.jumpTo i) := by
  have hnot : s.patchCovers s.cursor = false := Bool.eq_false_iff.2 fun hyes => by
    obtain ⟨x, hx, hxc⟩ := (s.patchCovers_iff s.cursor).1 hyes
    exact hcov x hx hxc
  rw [State.advance_afterEndStops ht hh hact hnone]
  unfold State.afterEndStops
  rw [if_neg (ne_true_of_eq_false hnot), State.nextPatchStart_of hg hc hmin]

/-- The jump begun: the patch travel to the gap's entry position. -/
theorem State.jumpTo_inside (hfield : inField s.cfg.machine (s.originPos.add g.entry) = true) :
    (s.jumpTo i).gaps = s.gaps ∧ (s.jumpTo i).bus = s.bus ∧
    (s.jumpTo i).run = { s.run with
      patchCursor := some i, patchDone := none, state := .travelling, travelReturn := some .changing
      activity := .patchTravel } ∧
    (s.jumpTo i).shaft = { s.shaft with lockout := { s.shaft.lockout with travel := true } } ∧
    (s.jumpTo i).frame = { s.frame with
      travel := some ⟨[s.originPos.add g.entry], s.frame.pos, ⟨0, 0⟩, 0, 0, none, false⟩ } := by
  obtain ⟨hrun, hgaps, hbus, hframe, hshaft, -, -⟩ := s.jumping_blocks i
  rw [State.jumpTo_eq hg, if_pos hfield]
  generalize s.jumping i = v at *
  unfold State.beginTravel State.modLockout
  refine ⟨hgaps, hbus, ?_, ?_, ?_⟩
  · rw [State.setShaft_run, State.setFrame_run, State.setRun_run, hrun]
  · rw [State.setShaft_shaft, State.setFrame_shaft, State.setRun_shaft, hshaft]
  · rw [State.setShaft_frame, State.setFrame_frame, State.setRun_frame, hframe]

/-- Outside the field the run is PAUSED with FRAME LIMIT. -/
theorem State.jumpTo_outside (hfield : inField s.cfg.machine (s.originPos.add g.entry) = false)
    (hj : s.joinsWaiting = false) :
    (s.jumpTo i).gaps = s.gaps ∧ (s.jumpTo i).bus = s.bus ∧
    (s.jumpTo i).run = { s.run with
      patchCursor := some i, patchDone := none, state := .paused, cause := some (s.run.cause.getD .frameLimit)
      activity := .none, carry := false, stepping := false, stepDone := false, keepTieIn := false, point := none
      startReturn := none, travelReturn := none, warning := false } ∧
    (s.jumpTo i).shaft = s.shaft ∧ (s.jumpTo i).frame = s.frame := by
  obtain ⟨hrun, hgaps, hbus, hframe, hshaft, -, hmonitor⟩ := s.jumping_blocks i
  rw [State.jumpTo_eq hg, if_neg (ne_true_of_eq_false hfield)]
  generalize s.jumping i = v at *
  have hgoes : v.passGoesOn = true := by
    have hgp := List.find?_some hg
    rw [Bool.and_eq_true] at hgp
    unfold State.passGoesOn State.patchLeft
    rw [hgaps, Bool.or_eq_true]
    exact .inr (List.any_eq_true.2 ⟨g, List.mem_of_find?_eq_some hg, hgp.1⟩)
  have hjoins : v.joinsWaiting = false := by
    unfold State.joinsWaiting State.watchAt at hj ⊢
    rw [hmonitor]
    exact hj
  rw [State.pauseFor_eq .frameLimit hjoins hgoes]
  refine ⟨hgaps, hbus, ?_, hshaft, hframe⟩
  rw [State.setLink_run, State.setRun_run, hrun]
  rfl

end Jump

theorem patch_stops : ∀ (s : State) (h : Nat), s.frame.travel = none → s.frame.homing = none → s.run.pass = .patch → s.shapesRight = true →
      1 ≤ h → h ≤ 8 →
      let c := s.cursor
      let covers := fun (g : Gap) => g.state = .sewing ∧ g.start ≤ c ∧ c < g.stop.getD s.run.mainCursor
      let ends := fun (j : Nat) => ∃ g ∈ s.gaps, g.state = .sewing ∧ g.head = j ∧ g.stop = some c
      let at_ := fun (a : Activity) => { s.run with activity := a }
      let sewn := s.gaps.filter (fun g => !(g.state == .sewing && g.head == h && g.stop == some c))
      let after := { s.run with activity := .endStops .pick, patchSewn := s.run.patchSewn + 1 }
      let reachable := (s.linkAt h).lost = false
      let room := s.bus.queue.length < 16 ∧ s.bus.held = []
      let kept := fun (u : State) => u.frame = s.frame ∧ u.shaft = s.shaft ∧ u.link = s.link ∧ u.monitor = s.monitor
      let sent := fun (u : State) (w : BusWork) => (⟨h, w⟩ : BusCommand) ∈ u.bus.queue ++ u.bus.held
      let lift : BusWork := .engage ⟨.lift, .idle, false, false⟩
      let lower : BusWork := .engage ⟨.lower, .patch, true, false⟩
      let paused := fun (r : Run) (k : StopCause) => { r with
        state := .paused, cause := some k, activity := .none, carry := false, stepping := false, stepDone := false
        keepTieIn := false, point := none, startReturn := none, travelReturn := none, warning := false }
      (s.run.state = .running → s.run.activity = .none → s.shaft.state = .atRest → s.frame.stitch = none →
        s.run.carry = false → s.run.stepDone = false → s.patchStop c = true →
        s.advance = some (s.setRun { s.run with state := .changing, activity := .endStops .pick, point := none })) ∧
      (s.run.activity = .endStops .pick → ends h → (∀ j, 1 ≤ j → j < h → ¬ ends j) →
        (s.engagedHead h = true → reachable → room →
          ∃ u, s.advance = some u ∧ u.run = at_ (.endStops (.trimming h)) ∧ u.change.work = .trim ∧
            (u.workAt h).trim = .waiting ∧ (u.workAt h).trimAttempt = 1 ∧ u.gaps = s.gaps ∧ kept u ∧
            u.bus = { s.bus with queue := s.bus.queue ++ [⟨h, .trim⟩] }) ∧
        ((s.headAt h).state = .resting →
          ∃ u, s.advance = some u ∧ (u.headAt h).state = .idle ∧ u.gaps = sewn ∧ u.bus = s.bus ∧
            u.run = { after with heads := u.run.heads })) ∧
      (s.run.activity = .endStops (.trimming h) →
        ((∃ j ∈ headNumbers, (s.workAt j).trim = .waiting) → s.advance = none) ∧
        ((∀ j ∈ headNumbers, (s.workAt j).trim ≠ .waiting) → s.engagedHead h = true → (s.watchAt h).fault = none →
          reachable →
          ∃ u, s.advance = some u ∧ u.run = { at_ (.endStops (.lifting h)) with heads := u.run.heads } ∧ sent u lift ∧
            u.change.work = .none ∧ u.gaps = s.gaps ∧ kept u)) ∧
      (s.run.activity = .endStops (.lifting h) →
        (s.bus.engageOutstanding h = true ∨ (s.headAt h).acked ≠ none → s.advance = none) ∧
        (s.bus.engageOutstanding h = false → (s.headAt h).acked = none →
          ∃ u, s.advance = some u ∧ u.gaps = sewn ∧ u.run = after ∧ u.bus = s.bus ∧ u.frame = s.frame ∧
            u.shaft = s.shaft ∧ u.link.events = s.link.events)) ∧
      (s.run.activity = .endStops .pick → (∀ j ∈ headNumbers, ¬ ends j) →
        ((∃ g ∈ s.gaps, covers g) →
          s.advance = some (s.setRun (at_ (.joining (if s.run.patchDone = some c then [] else
            headNumbers.filter (fun j => s.gaps.any (fun g => g.state == .sewing && g.head == j && g.start == c)))
            .pick .patch)))) ∧
        (∀ (i : Nat) (g : Gap), (∀ x ∈ s.gaps, ¬ covers x) →
          s.gaps.find? (fun x => x.state == .sewing && x.start == i) = some g → c ≤ i →
          (∀ x ∈ s.gaps, x.state = .sewing → c ≤ x.start → i ≤ x.start) →
          let target := s.originPos.add g.entry
          let moved := { s.run with patchCursor := some i, patchDone := none }
          ∃ u, s.advance = some u ∧
            (inField s.cfg.machine target = true → u.gaps = s.gaps ∧ u.bus = s.bus ∧
              u.run = { moved with state := .travelling, travelReturn := some .changing, activity := .patchTravel } ∧
              u.shaft = { s.shaft with lockout := { s.shaft.lockout with travel := true } } ∧
              u.frame = { s.frame with travel := some ⟨[target], s.frame.pos, ⟨0, 0⟩, 0, 0, none, false⟩ }) ∧
            (inField s.cfg.machine target = false → s.joinsWaiting = false → u.gaps = s.gaps ∧ u.bus = s.bus ∧
              u.run = paused moved (s.run.cause.getD .frameLimit) ∧ u.shaft = s.shaft ∧ u.frame = s.frame)) ∧
        ((∀ g ∈ s.gaps, g.state ≠ .sewing) → s.advance = some s.endPatch)) ∧
      (∀ rest, s.run.activity = .joining (h :: rest) .pick .patch → (∃ g ∈ s.gaps, covers g ∧ g.head = h) →
        (s.watchAt h).fault = none → (s.headAt h).state = .idle ∨ (s.headAt h).state = .resting →
        let q := s.change.needle (s.stampAt c).colour h
        (q = 0 → ∃ u, s.advance = some u ∧ (u.headAt h).state = .resting ∧ u.gaps = s.gaps ∧ kept u ∧ u.bus = s.bus ∧
          u.run.activity = .joining rest .pick .patch) ∧
        (q ≠ 0 → (s.workAt h).lastKnown = some q → reachable →
          ∃ u, s.advance = some u ∧ sent u lower ∧ u.gaps = s.gaps ∧ kept u ∧
            u.run.activity = .joining rest (.lowering h) .patch) ∧
        (∀ p, q ≠ 0 → q ≤ 12 → p ≤ 12 → (s.workAt h).lastKnown = some p → p ≠ q → reachable → room →
          ∃ u, s.advance = some u ∧ u.gaps = s.gaps ∧ kept u ∧ u.change.work = .alignOne ∧
            u.run = at_ (.joining rest (.aligning h) .patch) ∧
            ∃ ahead n, u.bus = { s.bus with queue := s.bus.queue ++ [⟨h, .caseMove ahead n⟩] } ∧
              (q : Int) % 12 = ((p : Int) + (if ahead then (n : Int) else -n)) % 12)) ∧
      (∀ rest, s.run.activity = .joining rest (.aligning h) .patch →
        (∀ j ∈ headNumbers, (s.workAt j).part = true → (s.workAt j).case = .arrived) → (s.workAt h).case = .arrived →
        reachable →
        ∃ u, s.advance = some u ∧ sent u lower ∧ u.change.work = .none ∧ u.gaps = s.gaps ∧ kept u ∧
          u.run.activity = .joining rest (.lowering h) .patch) ∧
      (∀ rest, s.run.activity = .joining rest (.lowering h) .patch →
        (s.bus.engageOutstanding h = true ∨ (s.headAt h).acked ≠ none → s.advance = none) ∧
        (s.bus.engageOutstanding h = false → (s.headAt h).acked = none →
          s.advance = some (s.setRun (at_ (.joining rest .pick .patch))))) ∧
      (s.run.activity = .joining [] .pick .patch →
        (s.run.cause = none →
          s.advance = some (s.setRun { s.run with state := .running, activity := .none, patchDone := some c })) ∧
        (∀ k, s.run.cause = some k → s.joinsWaiting = false → s.patchLeft = true →
          s.advance = some ((s.setRun (paused { s.run with patchDone := some c } k)).setLink
            (s.link.post ⟨.stopped, 0, c, k.code⟩)))) := by
  intro s h ht hh hp hshapes hlow hhigh c covers ends at_ sewn after reachable room kept sent lift lower paused
  have hroomy : s.roomy := State.roomy_of_shapes hshapes
  have hin : h - 1 < s.change.heads.length := by
    rw [hroomy.2.2.1]
    omega
  have hcolour : s.colourNow = (s.stampAt c).colour := rfl
  have hbecomes : AfterJoin.becomes .patch = .patch := rfl
  have hgapSewn := s.gapSewn_sewn h
  refine ⟨fun hrun hact hshaft hstitch hcarry hstep hstop =>
      State.advance_patchStop ht hh hp hrun hact hshaft hstitch hcarry hstep hstop,
    fun hact hends hbefore => ⟨fun he hl hroom => ?_, fun hrest => ?_⟩,
    fun hact => ⟨fun hwait => ?_, fun hover he hf hl => ?_⟩, fun hact => ⟨fun hwait => ?_, fun hout hacked => ?_⟩,
    fun hact hnone => ⟨fun hcov => ?_, fun i g hcov hg hci hmin => ?_, fun hgone => ?_⟩,
    fun rest hact hcov hf hstate => ?_, fun rest hact hall hcase hl => ?_,
    fun rest hact => State.advance_lowering ht hh hact, fun hact => ⟨fun hcause => ?_, fun k hk hj hleft => ?_⟩⟩
  · obtain ⟨hroom, hheld⟩ := hroom
    have hadv := State.advance_endStop ht hh hlow hhigh hact hends hbefore
    let v := (s.setChange { s.change with work := .trim }).modWork h (fun w =>
      { w with part := true, trim := .waiting, trimAttempt := 1, trimTimer := false })
    have hissue := State.issue_plain (s := v) (c := ⟨h, .trim⟩) hl rfl hroom hheld
    have hbegin : s.beginEndStop h = (v.issue ⟨h, .trim⟩).doing (.endStops (.trimming h)) := if_pos he
    have hwork : v.workAt h = { s.workAt h with part := true, trim := .waiting, trimAttempt := 1, trimTimer := false } :=
      State.workAt_modWork_same (s.setChange { s.change with work := .trim }) _ hin
    rw [hbegin, hissue] at hadv
    exact ⟨_, hadv, rfl, rfl, congrArg HeadWork.trim hwork, congrArg HeadWork.trimAttempt hwork, rfl, ⟨rfl, rfl, rfl, rfl⟩,
      rfl⟩
  · have hadv := State.advance_endStop ht hh hlow hhigh hact hends hbefore
    obtain ⟨hset, hidle⟩ := State.setHeadState_rests (s := s) (h := h) (.inr hrest) .idle
    have hbegin : s.beginEndStop h = (s.setHeadState h .idle).gapSewn h :=
      (if_neg (ne_true_of_eq_false (State.engagedHead_of_resting hrest))).trans (if_pos hrest)
    have hu := (s.modHead h (fun e => { e with state := .idle })).gapSewn_sewn h
    rw [hbegin, hset] at hadv
    have hheads : ((s.modHead h (fun e => { e with state := .idle })).gapSewn h).run.heads =
        (s.modHead h (fun e => { e with state := .idle })).run.heads := by rw [hu.run]
    have hhead := State.headAt_congr hheads h
    refine ⟨_, hadv, ?_, hu.gaps, hu.bus, ?_⟩
    · rw [hhead]
      exact hidle
    · rw [hu.run]
      rfl
  · obtain ⟨j, hj, hw⟩ := hwait
    rw [State.advance_of_endStops ht hh hact]
    exact if_neg (fun hover => (s.trimOver_iff.1 hover) j hj hw)
  · have hadv : s.advance = some (s.endStopTrimmed h) := by
      rw [State.advance_of_endStops ht hh hact]
      exact if_pos (s.trimOver_iff.2 hover)
    have hready : (s.clearWork.engagedHead h && (s.clearWork.watchAt h).fault.isNone) = true := by
      rw [show s.clearWork.engagedHead h = true from he, show s.clearWork.watchAt h = s.watchAt h from rfl, hf]
      rfl
    have htrimmed : s.endStopTrimmed h = (s.clearWork.issueLift h .idle false).doing (.endStops (.lifting h)) :=
      if_pos hready
    obtain ⟨-, -, kframe, kshaft, kmonitor, kgaps, klink, -⟩ :=
      s.clearWork.issue_keeps ⟨h, .engage ⟨.lift, .idle, false, false⟩⟩
    have hchange := State.issue_change (s := s.clearWork) (c := ⟨h, .engage ⟨.lift, .idle, false, false⟩⟩) hl
    rw [htrimmed] at hadv
    exact ⟨_, hadv, State.doing_run_of_bare (s := s) (s.clearWork.issueLift_bare h .idle false) _,
      State.sent_issue_same (u := s.clearWork) (c := ⟨h, .engage ⟨.lift, .idle, false, false⟩⟩) hl,
      (congrArg ThreadChange.work hchange).trans rfl, kgaps, ⟨kframe, kshaft, klink, kmonitor⟩⟩
  · rw [State.advance_of_endStops ht hh hact]
    refine if_pos ?_
    unfold State.engaging
    rw [Bool.or_eq_true, Option.isSome_iff_ne_none]
    exact hwait
  · have hadv : s.advance = some (s.gapSewn h) := by
      rw [State.advance_of_endStops ht hh hact]
      refine if_neg ?_
      unfold State.engaging
      rw [hout, hacked]
      exact Bool.false_ne_true
    exact ⟨_, hadv, hgapSewn.gaps, hgapSewn.run, hgapSewn.bus, hgapSewn.frame, hgapSewn.shaft, hgapSewn.events⟩
  · rw [State.advance_afterEndStops ht hh hact hnone]
    exact congrArg some (if_pos ((s.patchCovers_iff c).2 hcov))
  · have hadv := State.advance_jumps hg ht hh hact hnone hcov hci hmin
    exact ⟨_, hadv, State.jumpTo_inside hg, State.jumpTo_outside hg⟩
  · have hnot : s.patchCovers s.cursor = false :=
      Bool.eq_false_iff.2 fun hyes => by
        obtain ⟨x, hx, hxs, -⟩ := (s.patchCovers_iff c).1 hyes
        exact hgone x hx hxs
    rw [State.advance_afterEndStops ht hh hact hnone]
    unfold State.afterEndStops
    rw [if_neg (ne_true_of_eq_false hnot), State.nextPatchStart_none hgone, State.nextPatchStart_none hgone]
  · intro q
    have hleft : s.joinsLeft (h :: rest) = h :: rest := if_neg (by rw [hp]; exact Pass.noConfusion)
    have hadv := State.advance_picks ht hh hact hleft
    have hjoins : s.JoinsNow h .patch := ⟨by rw [if_pos rfl]; exact State.inPatchSet_of hcov, hf, fun _ => hstate⟩
    refine ⟨fun h0 => ?_, fun hne hk hl => ?_, fun p hne hq12 hp12 hk hpq hl hroom => ?_⟩
    · obtain ⟨hset, hresting⟩ := State.setHeadState_rests hstate .resting
      rw [State.pickJoin_rests hjoins h0, if_pos rfl, hset] at hadv
      exact ⟨_, hadv, hresting, rfl, ⟨rfl, rfl, rfl, rfl⟩, rfl, rfl⟩
    · rw [State.pickJoin_lowers hjoins hne hk] at hadv
      obtain ⟨hsent, -, hgaps, hmonitor, hlink, -, hframe, hshaft, -, -, -, hrun⟩ :=
        State.issueLower_doing (s := s) (v := s) (h := h) (becomes := .patch) (a := .joining rest (.lowering h) .patch) rfl hl
      exact ⟨_, hadv, hsent, hgaps, ⟨hframe, hshaft, hlink, hmonitor⟩, by rw [hbecomes, hrun]⟩
    · obtain ⟨hroom, hheld⟩ := hroom
      rw [State.pickJoin_aligns hjoins hne (by rw [hk]; exact fun h => hpq (Option.some.inj h))] at hadv
      obtain ⟨d, ahead, n, hd, hu, hreach⟩ := State.beginAlignOne_known (slot := s.colourNow) hin hk hpq hp12 hq12 hl hroom
        hheld
      rw [hu] at hadv
      exact ⟨_, hadv, rfl, ⟨rfl, rfl, rfl, rfl⟩, hd, rfl, ahead, n, rfl, hreach⟩
  · obtain ⟨-, hlower, -⟩ := State.advance_aligning ht hh hact
    have hadv := hlower (s.casesOver_iff.2 fun j hj hpart => .inl (hall j hj hpart)) hcase
    obtain ⟨hsent, hchange, hgaps, hmonitor, hlink, -, hframe, hshaft, -, -, -, hrun⟩ :=
      State.issueLower_doing (s := s) (v := s.clearWork) (h := h) (becomes := .patch)
        (a := .joining rest (.lowering h) .patch) rfl hl
    exact ⟨_, hadv, hsent, by rw [hbecomes, hchange]; rfl, hgaps, ⟨hframe, hshaft, hlink, hmonitor⟩,
      by rw [hbecomes, hrun]⟩
  · have hleft : s.joinsLeft [] = [] := if_neg (by rw [hp]; exact Pass.noConfusion)
    rw [State.advance_joined ht hh hact hleft, if_pos rfl]
    exact congrArg some (if_neg (by rw [State.setRun_run, hcause]; exact Bool.false_ne_true))
  · have hleft' : s.joinsLeft [] = [] := if_neg (by rw [hp]; exact Pass.noConfusion)
    rw [State.advance_joined ht hh hact hleft', if_pos rfl]
    let v := s.setRun { s.run with patchDone := some s.cursor }
    have hcause : v.run.cause = some k := hk
    have hgoes : v.passGoesOn = true := by
      unfold State.passGoesOn
      rw [show v.patchLeft = true from hleft, Bool.or_true]
    have hpaused : v.afterJoins .patch = v.toPaused := if_pos (by rw [hcause]; rfl)
    rw [hpaused, State.toPaused_eq (s := v) hj hgoes, Run.ended_paused_cause hcause, hcause]
    rfl

/-- Settles O59: the timers, the steps of a patch stop, the joins of a main pass, and the end of the pass. -/
theorem threadTimersFailTheirAttempts : Obligations.ThreadTimersFailTheirAttempts :=
  ⟨timers_fail, patch_stops, joins_main, patch_ends⟩

end Sys2Proof.Machine

/-!
PROOF. Case moves and trims (sections 7.3, 7.4; O60): what a step of the Thread Change Unit does to one head's work.
-/

namespace Sys2Proof.Machine
set_option Elab.async false

/-! ## The case move (R119, R120) -/

/-- The shorter way round the ring. -/
theorem ringMove_shorter {p q : Nat} (hp : 1 ≤ p) (hp12 : p ≤ 12) (hq : 1 ≤ q) (hq12 : q ≤ 12) :
    ringMove p q = (decide (((q : Int) - p) % 12 ≤ ((p : Int) - q) % 12),
      (min (((q : Int) - p) % 12) (((p : Int) - q) % 12)).toNat) := by
  unfold ringMove
  dsimp only
  by_cases h : (q + 12 - p) % 12 ≤ (p + 12 - q) % 12
  · rw [if_pos h, decide_eq_true (by omega)]
    refine Prod.ext rfl ?_
    show (q + 12 - p) % 12 = _
    omega
  · rw [if_neg h, decide_eq_false (by omega)]
    refine Prod.ext rfl ?_
    show (p + 12 - q) % 12 = _
    omega

/-- A command issued takes its own place, or one of those that were there. -/
theorem State.mem_bus_of_issue {s : State} {c d : BusCommand} (hd : d ∈ (s.issue c).bus.queue ++ (s.issue c).bus.held) :
    d ∈ s.bus.queue ++ s.bus.held ∨ d = c := by
  by_cases hl : (s.linkAt c.head).lost = true
  · have hbus : (s.issue c).bus = s.bus := by
      unfold State.issue
      rw [if_pos hl]
      exact (s.notDelivered_keeps c).2.2.2.2.1
    rw [hbus] at hd
    exact .inl hd
  · have hrep : ∀ l : List BusCommand, d ∈ replaceEngage c l → d ∈ l ∨ d = c := fun l hmem => by
      obtain ⟨x, hx, hxd⟩ := List.mem_map.1 hmem
      split at hxd
      · exact .inr hxd.symm
      · exact .inl (hxd ▸ hx)
    rw [State.issue_of_delivered (Bool.eq_false_iff.2 hl), State.setBus_bus] at hd
    simp only [List.mem_append] at hd ⊢
    split at hd
    · rcases hd with hd | hd
      · exact (hrep _ hd).imp_left .inl
      · exact (hrep _ hd).imp_left .inr
    · split at hd
      · simp only [List.mem_append, List.mem_singleton] at hd
        rcases hd with (hd | hd) | hd
        · exact .inl (.inl hd)
        · exact .inr hd
        · exact .inl (.inr hd)
      · simp only [List.mem_append, List.mem_singleton] at hd
        rcases hd with hd | hd | hd
        · exact .inl (.inl hd)
        · exact .inl (.inr hd)
        · exact .inr hd

/-! ## What a step does to one head's work -/

/-- The head's work is `v` and its state `st`, these commands stand behind the queue, and nothing else has changed. -/
structure State.Moved (x : State) (h : Nat) (v : HeadWork) (st : HeadState) (more : List BusWork) (y : State) : Prop where
  work : y.workAt h = v
  state : (y.headAt h).state = st
  queue : y.bus.queue = x.bus.queue ++ more.map (fun k => ⟨h, k⟩)
  links : y.bus.heads = x.bus.heads
  link : y.link = x.link
  bare : y.run.bare = x.run.bare
  frame : y.frame = x.frame
  shaft : y.shaft = x.shaft
  gaps : y.gaps = x.gaps
  store : y.store = x.store
  gov : y.gov = x.gov
  monitor : y.monitor = x.monitor
  cfg : y.cfg = x.cfg
  others : ∀ j, h - 1 ≠ j - 1 → x.SameHead y j

section Moves

variable {x : State} {h : Nat} (hin : h - 1 < x.change.heads.length)
include hin

/-- The head's work alone. -/
theorem State.modWork_moved (f : HeadWork → HeadWork) :
    x.Moved h (f (x.workAt h)) (x.headAt h).state [] (x.modWork h f) :=
  ⟨State.workAt_modWork_same x f hin, rfl, (List.append_nil _).symm, rfl, rfl, rfl, rfl, rfl, rfl, rfl, rfl, rfl, rfl,
    fun _ hj => State.modWork_sameHead f hj⟩

/-- The head's work, and commands behind the queue. -/
theorem State.queued_moved (f : HeadWork → HeadWork) (more : List BusWork) :
    x.Moved h (f (x.workAt h)) (x.headAt h).state more
      ((x.modWork h f).setBus { x.bus with queue := x.bus.queue ++ more.map (fun k => ⟨h, k⟩) }) :=
  ⟨State.workAt_modWork_same x f hin, rfl, rfl, rfl, rfl, rfl, rfl, rfl, rfl, rfl, rfl, rfl, rfl,
    fun j hj => (State.modWork_sameHead f hj).trans (.of_lists (s := x.modWork h f) (t := (x.modWork h f).setBus
      { x.bus with queue := x.bus.queue ++ more.map (fun k => ⟨h, k⟩) }) rfl rfl rfl rfl j)⟩

/-- An attempt that fails and is made again (R118, R121). -/
theorem State.trimFailed_moved (ht : (x.workAt h).trimAttempt < 2) (hl : (x.linkAt h).lost = false)
    (hroom : x.bus.queue.length < 15) (hheld : x.bus.held = []) :
    x.Moved h { x.workAt h with trimAttempt := 2, trimTimer := false } (x.headAt h).state [.clear, .trim]
      (x.trimFailed h) := by
  rw [State.trimFailed_again ht hl hroom hheld]
  exact State.queued_moved hin (fun w => { w with trimAttempt := 2, trimTimer := false }) [.clear, .trim]

theorem State.caseFailed_moved (ht : (x.workAt h).caseAttempt < 3) (hl : (x.linkAt h).lost = false)
    (hroom : x.bus.queue.length < 15) (hheld : x.bus.held = []) :
    x.Moved h { x.workAt h with case := .clearing, caseTimer := none } (x.headAt h).state [.clear, .poll]
      (x.caseFailed h) := by
  rw [State.caseFailed_again ht hl hroom hheld]
  exact State.queued_moved hin (fun w => { w with case := .clearing, caseTimer := none }) [.clear, .poll]

/-- A case move the shorter way (R119). -/
theorem State.caseMoveFrom_moved {p : Nat} (hp : p ≤ 12) (hq : (x.workAt h).target ≤ 12) (hl : (x.linkAt h).lost = false)
    (hroom : x.bus.queue.length < 16) (hheld : x.bus.held = []) : ∃ (ahead : Bool) (n : Nat),
      ((x.workAt h).target : Int) % 12 = ((p : Int) + (if ahead then (n : Int) else -n)) % 12 ∧
      x.Moved h { x.workAt h with case := .moving, ahead := ahead, distance := n, caseTimer := none } (x.headAt h).state
        [.caseMove ahead n] (x.caseMoveFrom h p) := by
  rw [State.caseMoveFrom_room hl hroom hheld]
  exact ⟨_, _, ringMove_reaches hp hq, State.queued_moved hin (fun w => { w with
    case := .moving, ahead := (ringMove p (x.workAt h).target).1, distance := (ringMove p (x.workAt h).target).2
    caseTimer := none }) [.caseMove _ _]⟩

/-- A case that has arrived in an alignment (R128, R129). -/
theorem State.arrived_moved (hw : x.change.work ≠ .colourChange) : x.Moved h { x.workAt h with
    case := .arrived, caseTimer := none }
      (if x.change.work = .alignAll ∧ (x.headAt h).state = .resting then .idle else (x.headAt h).state) [] (x.arrived h) := by
  let v := x.modWork h (fun w => { w with case := .arrived, caseTimer := none })
  have hv := State.modWork_moved hin (fun w => { w with case := .arrived, caseTimer := none })
  have harrived : x.arrived h = if x.change.work = .alignAll ∧ (x.headAt h).state = .resting then v.setHeadState h .idle
      else v := if_neg hw
  rw [harrived]
  by_cases hall : x.change.work = .alignAll ∧ (x.headAt h).state = .resting
  · obtain ⟨hset, hidle⟩ := State.setHeadState_rests (s := v) (h := h) (.inr hall.2) .idle
    rw [if_pos hall, if_pos hall, hset]
    exact ⟨hv.work, hidle, hv.queue, hv.links, hv.link, hv.bare, hv.frame, hv.shaft, hv.gaps, hv.store, hv.gov, hv.monitor,
      hv.cfg, fun j hj => (hv.others j hj).trans (State.modHead_sameHead _ hj)⟩
  · rw [if_neg hall, if_neg hall]
    exact hv

/-- A LOWER behind the queue. -/
theorem State.lowered_moved (f : HeadWork → HeadWork) (becomes : HeadState) (hl : (x.linkAt h).lost = false)
    (hnone : ∀ c ∈ x.bus.queue ++ x.bus.held, c.engages h = false) (hroom : x.bus.queue.length < 16)
    (hheld : x.bus.held = []) : x.Moved h (f (x.workAt h)) (x.headAt h).state [.engage ⟨.lower, becomes, false, false⟩]
      ((x.modWork h f).issueLower h becomes false false) := by
  let v := x.modWork h f
  let c : BusCommand := ⟨h, .engage ⟨.lower, becomes, false, false⟩⟩
  have hbus := State.issue_bus_of_room (s := v) (c := c) hl hnone hroom hheld
  have hwork := State.workAt_congr (congrArg ThreadChange.heads (State.issue_change (s := v) (c := c) hl)) h
  obtain ⟨kstore, kgov, kframe, kshaft, kmonitor, kgaps, klink, kcfg, -⟩ := v.issue_keeps c
  exact ⟨hwork.trans (State.workAt_modWork_same x f hin), (State.issue_entry (s := v) (c := c) h).1,
    (congrArg Bus.queue hbus).trans rfl, State.issue_busHeads v c, klink, State.issue_bare v c, kframe, kshaft, kgaps,
    kstore, kgov, kmonitor, kcfg, fun j hj => (State.modWork_sameHead f hj).trans (State.issue_sameHead hj)⟩

/-- A case that has arrived in a colour change (R125). -/
theorem State.arrived_lowers (hw : x.change.work = .colourChange) (hl : (x.linkAt h).lost = false)
    (hnone : ∀ c ∈ x.bus.queue ++ x.bus.held, c.engages h = false) (hroom : x.bus.queue.length < 16)
    (hheld : x.bus.held = []) : x.Moved h { x.workAt h with case := .lowering, caseTimer := none } (x.headAt h).state
      [.engage ⟨.lower, if x.run.pass = .patch then .patch else .sewing, false, false⟩] (x.arrived h) := by
  have harrived : x.arrived h = (x.modWork h (fun w => { w with case := .lowering, caseTimer := none })).issueLower h
      (if x.run.pass = .patch then .patch else .sewing) false false := if_pos hw
  rw [harrived]
  exact State.lowered_moved hin (fun w => { w with case := .lowering, caseTimer := none })
    (if x.run.pass = .patch then .patch else .sewing) hl hnone hroom hheld

end Moves

/-! ## A fault HELD in a change (R138) -/

/-- What a fault of a head raised in a change under STOP-ALL leaves, its work handed over. -/
structure State.HeldOver (x : State) (h : Nat) (kind : FaultKind) (p : HeadWork → Prop) (y : State) : Prop where
  held : x.HeldAs h kind .fault y
  cfg : y.cfg = x.cfg
  work : p (y.workAt h)
  works : ∀ j, h - 1 ≠ j - 1 → y.workAt j = x.workAt j

theorem State.raiseFault_held {x : State} {h : Nat} {kind : FaultKind} (f : HeadWork → HeadWork) (hin : h - 1 < x.change.heads.length)
    (hkind : kind ≠ .lost) (hc : x.run.state = .changing) (hp : x.run.pass = .main) (hpol : x.monitor.policy = .stopAll)
    (hoff : (x.headAt h).state ≠ .off) (hnone : (x.watchAt h).fault = none) (p : HeadWork → Prop) (hf : p (f (x.workAt h)))
    (hP : ∀ w : HeadWork, p w → p { w with trim := .handedOver, trimTimer := false, case := .handedOver, caseTimer := none }) :
    x.HeldOver h kind p ((x.modWork h f).raiseFault h kind) := by
  let n := (x.modWork h f).faultNoted h kind
  have hn : x.FaultAt h kind n := State.modWork_faultNoted f
  obtain ⟨hheld, hchange⟩ := hn.hold hkind hc .fault
  have hhandle : (x.modWork h f).handleFault h kind = n.hold h kind .fault := by
    rw [State.handleFault_of_new (s := x.modWork h f) (kind := kind) hp hoff hnone,
      show (x.modWork h f).monitor.policy = .stopAll from hpol]
  have hraise : (x.modWork h f).raiseFault h kind = n.hold h kind .fault :=
    (congrArg State.endPatchIfEmpty hhandle).trans (State.endPatchIfEmpty_of_main (by rw [hheld.run]; exact hp))
  have hcfg : (n.hold h kind .fault).cfg = n.cfg := by
    unfold State.hold
    dsimp only
    rw [if_neg hkind]
    unfold State.stopOrder
    rw [show (n.setHandling h .held).run.state = .changing by rw [← hc, ← hn.run]; rfl, State.recordCause_eq]
    rfl
  have hwork : p (n.workAt h) := by
    refine State.handOver_stays p hP ?_
    rw [show (((x.modWork h f).post .headFault h kind.code).modWatch h (fun w =>
        { w with armed := false, joining := false, fault := some ⟨kind, .held⟩ })).workAt h = f (x.workAt h) from
      State.workAt_modWork_same x f hin]
    exact hf
  rw [hraise]
  exact ⟨hheld, hcfg.trans hn.cfg, by rw [State.workAt_congr (congrArg ThreadChange.heads hchange)]; exact hwork,
    fun j hj => by rw [State.workAt_congr (congrArg ThreadChange.heads hchange)]; exact hn.works j hj⟩

end Sys2Proof.Machine

/-!
PROOF. Records (sections 6.4, 6.5; O57, O60): a record as it is read by the Thread Change Unit.
-/

namespace Sys2Proof.Machine
set_option Elab.async false

/-- The state in which a record is read: stored, and its needle taken (R23, R106). -/
def State.recordTaken (s : State) (h : Nat) (r : StatusRecord) : State :=
  ((s.answeredAt h).storeRecord h r).takeNeedle h r

/-- The last known position moved by a record (R120). -/
def State.recordRead (s : State) (h : Nat) (r : StatusRecord) : State :=
  (s.recordTaken h r).modWork h (fun w => { w with lastKnown := if r.casePos = 0 then w.lastKnown else some r.casePos })

/-- What the reading of a record changes at its head: the record, the needle, the last known position. -/
structure State.ReadAt (s : State) (h : Nat) (r : StatusRecord) (x : State) : Prop where
  work : x.workAt h = { s.workAt h with lastKnown := if r.casePos = 0 then (s.workAt h).lastKnown else some r.casePos }
  record : (x.linkAt h).record = some r
  lost : (x.linkAt h).lost = (s.linkAt h).lost
  state : (x.headAt h).state = (s.headAt h).state
  watch : x.watchAt h = s.watchAt h
  queue : x.bus.queue = s.bus.queue
  held : x.bus.held = s.bus.held
  link : x.link = s.link
  bare : x.run.bare = s.run.bare
  frame : x.frame = s.frame
  shaft : x.shaft = s.shaft
  gaps : x.gaps = s.gaps
  store : x.store = s.store
  gov : x.gov = s.gov
  monitor : x.monitor = s.monitor
  setup : x.change = { s.change with heads := x.change.heads }
  cfg : x.cfg = s.cfg
  roomy : x.roomy
  others : ∀ j, h - 1 ≠ j - 1 → s.SameHead x j

section Read

variable {s : State} {h : Nat} (r : StatusRecord) (hroomy : s.roomy) (hlow : 1 ≤ h) (hhigh : h ≤ 8)

theorem State.takeNeedle_cases (s : State) (h : Nat) (r : StatusRecord) : s.takeNeedle h r =
    s.modHead h (fun e => if r.caseState = .atRest then { e with needle := r.casePos } else e) := by
  unfold State.takeNeedle
  split
  · rfl
  · unfold State.modHead
    rw [show (fun e : HeadEntry => e) = id from rfl, List.modify_id]
    rfl

theorem State.recordRead_bus (s : State) (h : Nat) (r : StatusRecord) : (s.recordRead h r).bus = { s.bus with
    inFlight := none, round := s.bus.round.filter (fun r => !r.todo.isEmpty)
    heads := s.bus.heads.modify (h - 1) (fun l => { l with timeouts := 0, record := some r }) } := by
  unfold State.recordRead State.recordTaken
  rw [State.takeNeedle_cases]
  unfold State.storeRecord State.answeredAt State.modLink State.modHead State.modWork
  simp only [State.setChange_bus, State.setRun_bus, State.setBus_bus, List.modify_modify_eq]
  rfl

include hroomy hlow hhigh in
theorem State.recordRead_at : s.ReadAt h r (s.recordRead h r) := by
  obtain ⟨hheads, hwatches, hworks, hlinks⟩ := hroomy
  have hbus := s.recordRead_bus h r
  have hrun : (s.recordRead h r).run = { s.run with heads := s.run.heads.modify (h - 1) (fun e =>
      if r.caseState = .atRest then { e with needle := r.casePos } else e) } := by
    unfold State.recordRead State.recordTaken
    rw [State.takeNeedle_cases]
    rfl
  have hchange : (s.recordRead h r).change = { s.change with heads := s.change.heads.modify (h - 1) (fun w =>
      { w with lastKnown := if r.casePos = 0 then w.lastKnown else some r.casePos }) } := by
    unfold State.recordRead State.recordTaken
    rw [State.takeNeedle_cases]
    rfl
  have hsame : ∀ x : State, x = s.recordRead h r → x.link = s.link ∧ x.frame = s.frame ∧ x.shaft = s.shaft ∧
      x.gaps = s.gaps ∧ x.store = s.store ∧ x.gov = s.gov ∧ x.monitor = s.monitor ∧ x.cfg = s.cfg := fun x hx => by
    unfold State.recordRead State.recordTaken at hx
    rw [State.takeNeedle_cases] at hx
    rw [hx]
    exact ⟨rfl, rfl, rfl, rfl, rfl, rfl, rfl, rfl⟩
  obtain ⟨h1, h2, h3, h4, h5, h6, h7, h8⟩ := hsame _ rfl
  generalize s.recordRead h r = x at *
  have hlinkAt : x.linkAt h = { s.linkAt h with timeouts := 0, record := some r } := by
    unfold State.linkAt
    rw [hbus]
    exact getD_modify_same _ _ _ (by omega)
  have hheadAt : x.headAt h = if r.caseState = .atRest then { s.headAt h with needle := r.casePos } else s.headAt h := by
    unfold State.headAt
    rw [hrun]
    exact getD_modify_same _ _ _ (by omega)
  refine ⟨?_, by rw [hlinkAt], by rw [hlinkAt], by rw [hheadAt]; split <;> rfl,
    State.watchAt_congr (congrArg Monitor.heads h7) h, by rw [hbus], by rw [hbus], h1, by rw [hrun]; rfl, h2, h3, h4, h5,
    h6, h7, by rw [hchange], h8, ⟨?_, ?_, ?_, ?_⟩, fun j hj => ⟨?_, State.watchAt_congr (congrArg Monitor.heads h7) j,
    ?_, ?_⟩⟩
  · unfold State.workAt
    rw [hchange]
    exact getD_modify_same _ _ _ (by omega)
  · rw [hrun, List.length_modify]
    exact hheads
  · rw [h7]
    exact hwatches
  · rw [hchange, List.length_modify]
    exact hworks
  · rw [hbus, List.length_modify]
    exact hlinks
  · unfold State.headAt
    rw [hrun]
    exact getD_modify_other _ _ hj
  · unfold State.workAt
    rw [hchange]
    exact getD_modify_other _ _ hj
  · unfold State.linkAt
    rw [hbus]
    exact getD_modify_other _ _ hj

/-! ## The Thread Change Unit's part (R117, R120, R121) -/

theorem State.changeRecord_eq (s : State) (h : Nat) (r : StatusRecord) (queued : Bool) :
    (s.recordTaken h r).changeRecord h r queued =
      (if (((s.recordRead h r).trimRecord h r).workAt h).case = .clearing then
        (if queued && !((s.recordRead h r).trimRecord h r).laterQueued h BusWork.isPoll then
          ((s.recordRead h r).trimRecord h r).clearedRecord h r else (s.recordRead h r).trimRecord h r)
      else ((s.recordRead h r).trimRecord h r).caseRecord h r) := rfl

/-- The case not being moved: the trim alone is looked at. -/
theorem State.changeRecord_trims {queued : Bool} {y : State} (hy : (s.recordRead h r).trimRecord h r = y)
    (hc : (y.workAt h).case ≠ .clearing) (hm : (y.workAt h).case ≠ .moving) :
    (s.recordTaken h r).changeRecord h r queued = y := by
  rw [State.changeRecord_eq, hy, if_neg hc]
  exact if_neg fun h => hm h.1

theorem State.trimRecord_of_none {x : State} (h : Nat) (r : StatusRecord)
    (hn : (x.workAt h).trim ≠ .waiting ∨ (x.workAt h).trimTimer = false) : x.trimRecord h r = x := by
  refine if_neg fun ⟨h1, h2⟩ => ?_
  rcases hn with hn | hn
  · exact hn h1
  · rw [h2] at hn
    cases hn

/-- The record of another poll than the one that follows the latest CLEAR. -/
theorem State.changeRecord_waits {queued : Bool} (hn : ((s.recordRead h r).workAt h).trim ≠ .waiting)
    (hc : ((s.recordRead h r).workAt h).case = .clearing)
    (hq : (queued && !(s.recordRead h r).laterQueued h BusWork.isPoll) = false) :
    (s.recordTaken h r).changeRecord h r queued = s.recordRead h r := by
  rw [State.changeRecord_eq, State.trimRecord_of_none h r (.inl hn), if_pos hc, hq]
  rfl

/-- The record of the POLL that follows the latest CLEAR (R121). -/
theorem State.changeRecord_clears {queued : Bool} (hn : ((s.recordRead h r).workAt h).trim ≠ .waiting)
    (hc : ((s.recordRead h r).workAt h).case = .clearing)
    (hq : (queued && !(s.recordRead h r).laterQueued h BusWork.isPoll) = true) :
    (s.recordTaken h r).changeRecord h r queued = (s.recordRead h r).clearedRecord h r := by
  rw [State.changeRecord_eq, State.trimRecord_of_none h r (.inl hn), if_pos hc, hq]
  rfl

/-- A record while the case is being moved (R120). -/
theorem State.changeRecord_moves {queued : Bool} (hn : ((s.recordRead h r).workAt h).trim ≠ .waiting)
    (hc : ((s.recordRead h r).workAt h).case = .moving) :
    (s.recordTaken h r).changeRecord h r queued = (s.recordRead h r).caseRecord h r := by
  rw [State.changeRecord_eq, State.trimRecord_of_none h r (.inl hn), if_neg (by rw [hc]; exact CaseProgress.noConfusion)]

end Read

/-! ## The Thread Monitor's part, of a record without penetrations (R131) -/

/-- What a record without penetrations does to the threads of an engaged head. -/
def State.threadRead (y : State) (h : Nat) (r : StatusRecord) : State :=
  if y.engagedHead h then y.updateArmed h r else y

theorem State.threadRead_eq (y : State) (h : Nat) (r : StatusRecord) : ∃ f : HeadWatch → HeadWatch,
    (∀ w, (f w).fault = w.fault) ∧ y.threadRead h r = y.modWatch h f := by
  unfold State.threadRead
  split
  · exact ⟨fun w => { w with
      ownTieIn := w.ownTieIn - r.penetrations
      armed := y.run.tieIn == 0 && w.ownTieIn - r.penetrations == 0 && w.fault.isNone }, fun w => rfl, rfl⟩
  · refine ⟨id, fun _ => rfl, ?_⟩
    unfold State.modWatch
    rw [List.modify_id]
    rfl

theorem State.watchRecord_quiet {y : State} {h : Nat} {r : StatusRecord} (hp : r.penetrations = 0)
    (hb : r.bobbinLow = false) : y.watchRecord h r = y.threadRead h r := by
  have hcount : ∀ z : State, z.updateCountdown h r = z := fun z => if_pos hp
  have hbobbin : ∀ z : State, z.countBobbin h r = z := fun z => if_neg fun hpos => by
    rw [hp] at hpos
    exact Nat.lt_irrefl 0 hpos.2
  have hsense : ∀ z : State, z.senseBobbin h r = z := fun z => if_neg fun hlow => by
    rw [hb] at hlow
    exact Bool.false_ne_true hlow.1
  have htension : ∀ z : State, z.judgeTension h r = z := fun z => if_pos hp
  unfold State.watchRecord State.threadRead
  rw [hcount, hbobbin, hbobbin, hsense, hsense, htension]

/-- A record that agrees with the head table is not compared any further (R109). -/
theorem State.resync_agrees {y : State} {h : Nat} {r : StatusRecord} (he : r.engaged = y.engagedHead h) :
    y.resync h r = y := by
  unfold State.resync
  rw [if_pos he, ite_self]

theorem State.acceptRecord_quiet {s y : State} {h : Nat} {r : StatusRecord} {queued : Bool}
    (hy : (s.recordTaken h r).changeRecord h r queued = y) (hp : r.penetrations = 0) (hb : r.bobbinLow = false)
    (he : r.engaged = y.engagedHead h) : (s.answeredAt h).acceptRecord h r queued = y.threadRead h r := by
  have haccept : (s.answeredAt h).acceptRecord h r queued =
      (((s.recordTaken h r).changeRecord h r queued).watchRecord h r).resync h r := rfl
  rw [haccept, hy, State.watchRecord_quiet hp hb]
  obtain ⟨f, -, hf⟩ := y.threadRead_eq h r
  rw [hf]
  exact State.resync_agrees (y := y.modWatch h f) he

/-! ## What an answer gives -/

/-- The machine around an answered head. -/
structure State.KeptAround (s : State) (h : Nat) (r : StatusRecord) (u : State) : Prop where
  record : (u.linkAt h).record = some r
  state : u.run.state = s.run.state
  frame : u.frame = s.frame
  shaft : u.shaft = s.shaft
  gaps : u.gaps = s.gaps
  store : u.store = s.store
  gov : u.gov = s.gov
  others : ∀ j, h - 1 ≠ j - 1 → u.workAt j = s.workAt j ∧ u.headAt j = s.headAt j ∧ u.watchAt j = s.watchAt j

/-- The head's work and state after an answer, and the commands sent. -/
structure State.Gives (s : State) (h : Nat) (r : StatusRecord) (v : HeadWork) (st : HeadState) (more : List BusWork)
    (u : State) : Prop where
  kept : s.KeptAround h r u
  work : u.workAt h = v
  queue : u.bus.queue = s.bus.queue ++ more.map (fun k => ⟨h, k⟩)
  link : u.link = s.link
  cause : u.run.cause = s.run.cause
  state : (u.headAt h).state = st

theorem State.ReadAt.gives {s x y : State} {h : Nat} {r : StatusRecord} {v : HeadWork} {st : HeadState}
    {more : List BusWork} (hx : s.ReadAt h r x) (m : x.Moved h v st more y) :
    s.Gives h r v st more (y.threadRead h r) := by
  obtain ⟨f, -, hf⟩ := y.threadRead_eq h r
  have hrun : y.run = { s.run with heads := y.run.heads } := Run.of_bare (m.bare.trans hx.bare)
  rw [hf]
  refine ⟨⟨?_, ?_, m.frame.trans hx.frame, m.shaft.trans hx.shaft, m.gaps.trans hx.gaps, m.store.trans hx.store,
    m.gov.trans hx.gov, fun j hj => ?_⟩, m.work, by rw [← hx.queue]; exact m.queue, m.link.trans hx.link, ?_, m.state⟩
  · have hlink : (y.modWatch h f).linkAt h = x.linkAt h := State.linkAt_congr m.links h
    rw [hlink]
    exact hx.record
  · show y.run.state = _
    rw [hrun]
  · have hs := (hx.others j hj).trans (m.others j hj)
    exact ⟨hs.work, hs.head, (State.watchAt_modWatch_other y f hj).trans hs.watch⟩
  · show y.run.cause = _
    rw [hrun]

/-- The head that an answer leaves handed over with its fault HELD. -/
structure State.Faults (s : State) (h : Nat) (r : StatusRecord) (kind : FaultKind) (p : HeadWork → Prop) (u : State) :
    Prop where
  kept : s.KeptAround h r u
  work : p (u.workAt h)
  queue : u.bus.queue = s.bus.queue
  fault : (u.watchAt h).fault = some ⟨kind, .held⟩
  state : (u.headAt h).state = (s.headAt h).state
  cause : u.run.cause = some (s.run.cause.getD .fault)
  link : u.link = s.link.post ⟨.headFault, h, s.cursor, kind.code⟩

theorem State.ReadAt.faults {s x y : State} {h : Nat} {r : StatusRecord} {kind : FaultKind} {p : HeadWork → Prop}
    (hx : s.ReadAt h r x) (hin : h - 1 < s.monitor.heads.length) (m : x.HeldOver h kind p y) :
    s.Faults h r kind p (y.threadRead h r) := by
  obtain ⟨f, hfault, hf⟩ := y.threadRead_eq h r
  have hxrun : x.run = { s.run with heads := x.run.heads } := Run.of_bare hx.bare
  have hrun := m.held.run
  have hmonitor : y.monitor = s.monitor.noting h ⟨kind, .held⟩ := by rw [m.held.monitor, hx.monitor]
  have hhead : ∀ j, y.headAt j = x.headAt j := State.headAt_congr (by rw [hrun])
  have hywatch : y.watchAt h = { s.watchAt h with armed := false, joining := false, fault := some ⟨kind, .held⟩ } := by
    unfold State.watchAt
    rw [hmonitor]
    exact getD_modify_same _ _ _ hin
  have hyin : h - 1 < y.monitor.heads.length := by
    rw [hmonitor]
    unfold Monitor.noting
    rw [List.length_modify]
    exact hin
  rw [hf]
  refine ⟨⟨?_, ?_, m.held.frame.trans hx.frame, m.held.shaft.trans hx.shaft, m.held.gaps.trans hx.gaps,
    m.held.store.trans hx.store, m.held.gov.trans hx.gov, fun j hj => ⟨?_, ?_, ?_⟩⟩, m.work, ?_, ?_, ?_, ?_, ?_⟩
  · have hlink : (y.modWatch h f).linkAt h = x.linkAt h := State.linkAt_congr (congrArg Bus.heads m.held.bus) h
    rw [hlink]
    exact hx.record
  · show y.run.state = _
    rw [hrun, hxrun]
  · exact (m.works j hj).trans (hx.others j hj).work
  · exact (hhead j).trans (hx.others j hj).head
  · rw [State.watchAt_modWatch_other y f hj]
    unfold State.watchAt
    rw [hmonitor]
    exact getD_modify_other _ _ hj
  · exact (congrArg Bus.queue m.held.bus).trans hx.queue
  · rw [State.watchAt_modWatch_same y f hyin, hfault, hywatch]
  · exact (congrArg HeadEntry.state (hhead h)).trans hx.state
  · show y.run.cause = _
    rw [hrun, hxrun]
  · have hcursor : x.cursor = s.cursor := State.cursor_of_bare hx.bare
    rw [← hx.link, ← hcursor]
    exact m.held.link

end Sys2Proof.Machine

/-!
PROOF. Case moves and trims (sections 7.3, 7.4; O60): the case move, and orders that take effect at a head.
-/

namespace Sys2Proof.Machine
set_option Elab.async false

theorem case_moves : ∀ (s : State) (h p q : Nat), 1 ≤ p → p ≤ 12 → 1 ≤ q → q ≤ 12 →
    (s.workAt h).lastKnown = some p → (s.workAt h).target = q →
    let f := ((q : Int) - p) % 12
    let b := ((p : Int) - q) % 12
    let t := s.caseMove h
    (p ≠ q →
      f + b = 12 ∧ 1 ≤ min f b ∧ min f b ≤ 6 ∧
      ((s.linkAt h).lost = false → s.bus.queue.length < 16 → s.bus.held = [] →
        t.bus = { s.bus with queue := s.bus.queue ++ [⟨h, .caseMove (decide (f ≤ b)) (min f b).toNat⟩] })) ∧
    (p = q → ∀ c ∈ t.bus.queue ++ t.bus.held, c ∈ s.bus.queue ++ s.bus.held ∨ ∃ o, c = ⟨h, .engage o⟩) := by
  intro s h p q hp1 hp12 hq1 hq12 hk ht f b t
  refine ⟨fun hne => ⟨by omega, by omega, by omega, fun hl hroom hheld => ?_⟩, fun heq c hc => ?_⟩
  · have hmove := State.caseMoveFrom_room (s := s) (h := h) (p := p) hl hroom hheld
    have ht' : t = s.caseMoveFrom h p := State.caseMove_of_known hk (by rw [ht]; exact hne)
    rw [ht', hmove, State.setBus_bus, ht, ringMove_shorter hp1 hp12 hq1 hq12]
  · have ht' : t = s.arrived h := State.caseMove_of_there (by rw [hk, ht, heq])
    rw [ht'] at hc
    unfold State.arrived at hc
    split at hc
    · rcases State.mem_bus_of_issue hc with hold | hnew
      · exact .inl hold
      · exact .inr ⟨_, hnew⟩
    · refine .inl ?_
      have hbus : ((s.modWork h (fun w => { w with case := .arrived, caseTimer := none })).leftIdle h).bus = s.bus := by
        unfold State.leftIdle
        split
        · exact State.setHeadState_bus _ _ _
        · rfl
      rw [hbus] at hc
      exact hc

/-! ## Orders that take effect (R25, R106) -/

theorem Bus.engageOutstanding_idle {b : Bus} (h : Nat) (hf : b.inFlight = none) :
    b.engageOutstanding h = (b.queue ++ b.held).any (fun c => c.engages h) := by
  unfold Bus.engageOutstanding Bus.outstanding
  rw [hf, List.any_append, Bool.or_false]

/-- A LOWER that takes effect at an IDLE or RESTING head, no join (R25). -/
theorem State.takeOrder_lowers {v : State} {h : Nat} {o : EngageOrder} (hroomy : v.roomy) (hlow : 1 ≤ h) (hhigh : h ≤ 8)
    (hcmd : o.cmd = .lower) (hjoin : o.join = false) (hs : (v.headAt h).state = .idle ∨ (v.headAt h).state = .resting) :
    v.takeOrder h o = v.setRun { v.run with heads := v.run.heads.modify (h - 1) (fun e => { e with
      state := o.becomes, acked := none, queued := if v.bus.engageOutstanding h then e.queued else none }) } := by
  have horder := State.headAt_orderCleared (s := v) hroomy hlow hhigh
  have hs' : ((v.orderCleared h).headAt h).state = .idle ∨ ((v.orderCleared h).headAt h).state = .resting := by
    rw [horder]
    exact hs
  have hlowers : (v.orderCleared h).lowers h = true := State.lowers_of h (hs'.imp_right .inl)
  rw [State.takeOrder_eq, State.engagedBy_lower hcmd hlowers, hjoin, if_neg Bool.false_ne_true,
    (State.setHeadState_rests hs' o.becomes).1]
  unfold State.orderCleared State.modHead
  simp only [State.setRun_run, List.modify_modify_eq]
  rfl

/-- A LIFT that has taken effect at an engaged head. -/
structure State.LiftedTo (s : State) (h : Nat) (new : HeadState) (x : State) : Prop where
  state : (x.headAt h).state = new
  needle : (x.headAt h).needle = (s.headAt h).needle
  armed : (x.watchAt h).armed = false
  works : x.change.heads = s.change.heads
  kind : x.change.work = s.change.work
  bus : x.bus = s.bus
  link : x.link = s.link
  bare : x.run.bare = s.run.bare
  frame : x.frame = s.frame
  shaft : x.shaft = s.shaft
  gaps : x.gaps = s.gaps
  store : x.store = s.store
  gov : x.gov = s.gov
  others : ∀ j, h - 1 ≠ j - 1 → s.SameHead x j

theorem State.takeOrder_lifts {v : State} {h : Nat} {o : EngageOrder} (hroomy : v.roomy) (hlow : 1 ≤ h) (hhigh : h ≤ 8)
    (hcmd : o.cmd = .lift) (hb : o.becomes = .idle ∨ o.becomes = .resting) (he : v.engagedHead h = true)
    (hf : (v.watchAt h).fault = none) : v.LiftedTo h o.becomes (v.takeOrder h o) := by
  let w := v.orderCleared h
  have horder := State.headAt_orderCleared (s := v) hroomy hlow hhigh
  have hwe : w.engagedHead h = true := by
    unfold State.engagedHead at he ⊢
    rw [horder]
    exact he
  have hwroomy : w.roomy := State.orderCleared_roomy hroomy
  have hdrop : w.dropping h = false := by
    unfold State.dropping
    rw [show w.watchAt h = v.watchAt h from rfl, hf]
    rfl
  have htake : v.takeOrder h o = w.setHeadState h o.becomes := by
    rw [State.takeOrder_eq, State.engagedBy_lift hcmd hwe, hdrop, if_neg Bool.false_ne_true]
  have hcalms : o.becomes.calms = false ∧ o.becomes.engaged = false := by
    rcases hb with hb | hb <;> rw [hb] <;> exact ⟨rfl, rfl⟩
  have hnot := State.calmsHead_of_not (s := w) (h := h) hcalms.1
  have hhead := w.headAt_setHeadState_same h o.becomes (by rw [hwroomy.1]; omega)
  have hwatch := w.watchAt_setHeadState_same h o.becomes (by rw [hwroomy.2.1]; omega)
  have hkind : (w.setHeadState h o.becomes).change.work = w.change.work := by
    rw [State.setHeadState_cases, if_neg (by rw [hcalms.1]; simp), if_pos ⟨hwe, hcalms.2⟩]
    have hwork : ∀ (z : State) (k : Nat), (z.writePending k).change.work = z.change.work := fun z k => by
      unfold State.writePending
      rw [State.setChange_change, ThreadChange.apply_keeps]
    exact hwork _ h
  obtain ⟨kstore, kframe, kshaft, kbus, kgaps, -⟩ := w.setHeadState_keeps h o.becomes
  rw [htake]
  refine ⟨by rw [hhead], by rw [hhead, horder], ?_, State.setHeadState_workHeads o.becomes, hkind, kbus,
    (w.setHeadState_link h o.becomes).trans (if_neg (ne_true_of_eq_false hnot)), (w.setHeadState_bare h o.becomes).trans rfl,
    kframe, kshaft, kgaps, kstore, (w.setHeadState_gov h o.becomes).trans (if_neg (ne_true_of_eq_false hnot)),
    fun j hj => (State.modHead_sameHead _ hj).trans (State.setHeadState_sameHead _ hj)⟩
  rw [hwatch, if_pos hwe]
  unfold HeadWatch.left
  rw [hcalms.1, hcalms.2]
  rfl

end Sys2Proof.Machine

/-!
PROOF. Case moves and trims (sections 7.3, 7.4.2; O60): the record of a poll.
-/

namespace Sys2Proof.Machine
set_option Elab.async false

/-- One step after another of the same head's work. -/
theorem State.Moved.after {x y z : State} {h : Nat} {v v' : HeadWork} {st st' : HeadState} {more : List BusWork}
    (m : x.Moved h v st [] y) (n : y.Moved h v' st' more z) : x.Moved h v' st' more z :=
  ⟨n.work, n.state, by rw [n.queue, m.queue, List.map_nil, List.append_nil], n.links.trans m.links, n.link.trans m.link,
    n.bare.trans m.bare, n.frame.trans m.frame, n.shaft.trans m.shaft, n.gaps.trans m.gaps, n.store.trans m.store,
    n.gov.trans m.gov, n.monitor.trans m.monitor, n.cfg.trans m.cfg, fun j hj => (m.others j hj).trans (n.others j hj)⟩

/-- A step that leaves everything as it is. -/
theorem State.Moved.refl (x : State) (h : Nat) : x.Moved h (x.workAt h) (x.headAt h).state [] x :=
  ⟨rfl, rfl, (List.append_nil _).symm, rfl, rfl, rfl, rfl, rfl, rfl, rfl, rfl, rfl, rfl, fun j _ => .refl x j⟩

theorem State.modWork_modWork (s : State) (h : Nat) (f g : HeadWork → HeadWork) :
    (s.modWork h f).modWork h g = s.modWork h (fun w => g (f w)) := by
  unfold State.modWork
  simp only [State.setChange_change, List.modify_modify_eq]
  rfl

section Record

variable {s : State} {h : Nat} {r : StatusRecord} {t : Transaction} (hroomy : s.roomy) (hlow : 1 ≤ h) (hhigh : h ≤ 8)
  (hf : s.bus.inFlight = some t) (hhead : t.head = h) (hr : t.reported = true)
  (hk : t.kind = .roundPoll ∨ t.kind = .command .poll) (hp : r.penetrations = 0) (hb : r.bobbinLow = false)
  (he : r.engaged = s.engagedHead h)

include hf hhead hr hk in
theorem exec_record : exec (.headAnswer h true r) s =
    .next ((s.answeredAt h).acceptRecord h r (decide (t.kind = .command .poll))).finish := by
  rw [exec_headAnswer_of_right r hf hhead hr]
  unfold State.answered
  rcases hk with hk | hk <;> rw [hk, hhead] <;> rfl

include hroomy hlow hhigh hf hhead hr hk hp hb he

/-- The head's work after a record, with the commands sent. -/
theorem record_gives {y : State} {v : HeadWork} {st : HeadState} {more : List BusWork}
    (hy : (s.recordTaken h r).changeRecord h r (decide (t.kind = .command .poll)) = y)
    (m : (s.recordRead h r).Moved h v st more y) (hst : st.engaged = (s.headAt h).state.engaged) :
    ∃ u, exec (.headAnswer h true r) s = .next u.finish ∧ s.Gives h r v st more u := by
  have hengaged : r.engaged = y.engagedHead h := by
    rw [he]
    unfold State.engagedHead
    rw [m.state, hst]
  refine ⟨y.threadRead h r, ?_, (State.recordRead_at r hroomy hlow hhigh).gives m⟩
  rw [exec_record hf hhead hr hk, State.acceptRecord_quiet hy hp hb hengaged]

/-- The fault that a record raises. -/
theorem record_faults {y : State} {kind : FaultKind} {p : HeadWork → Prop}
    (hy : (s.recordTaken h r).changeRecord h r (decide (t.kind = .command .poll)) = y)
    (m : (s.recordRead h r).HeldOver h kind p y) :
    ∃ u, exec (.headAnswer h true r) s = .next u.finish ∧ s.Faults h r kind p u := by
  have hx := State.recordRead_at r hroomy hlow hhigh
  have hengaged : r.engaged = y.engagedHead h := by
    rw [he]
    unfold State.engagedHead
    rw [State.headAt_congr (s := s.recordRead h r) (t := y) (by rw [m.held.run]), hx.state]
  refine ⟨y.threadRead h r, ?_, hx.faults (by rw [hroomy.2.1]; omega) m⟩
  rw [exec_record hf hhead hr hk, State.acceptRecord_quiet hy hp hb hengaged]

/-- A fault raised on the state that a record is read in, under STOP-ALL in a change of the main pass. -/
theorem record_raises {kind : FaultKind} (f : HeadWork → HeadWork) (hkind : kind ≠ .lost) (hc : s.run.state = .changing)
    (hpass : s.run.pass = .main) (hpol : s.monitor.policy = .stopAll) (hoff : (s.headAt h).state ≠ .off)
    (hnone : (s.watchAt h).fault = none) (p : HeadWork → Prop) (hfp : ∀ w, p (f w))
    (hP : ∀ w : HeadWork, p w → p { w with trim := .handedOver, trimTimer := false, case := .handedOver, caseTimer := none })
    (hy : (s.recordTaken h r).changeRecord h r (decide (t.kind = .command .poll)) =
      ((s.recordRead h r).modWork h f).raiseFault h kind) :
    ∃ u, exec (.headAnswer h true r) s = .next u.finish ∧ s.Faults h r kind p u := by
  have hx := State.recordRead_at r hroomy hlow hhigh
  have hrun : (s.recordRead h r).run = { s.run with heads := (s.recordRead h r).run.heads } := Run.of_bare hx.bare
  exact record_faults hroomy hlow hhigh hf hhead hr hk hp hb he hy
    (State.raiseFault_held f (by rw [hx.roomy.2.2.1]; omega) hkind (by rw [hrun]; exact hc) (by rw [hrun]; exact hpass)
      (by rw [hx.monitor]; exact hpol) (by rw [hx.state]; exact hoff) (by rw [hx.watch]; exact hnone) p (hfp _) hP)

/-! ## The trim (R117, R118) -/

section Trim

variable (hnotClearing : (s.workAt h).case ≠ .clearing) (hnotMoving : (s.workAt h).case ≠ .moving)
include hnotClearing hnotMoving

/-- A record that only the trim looks at. -/
theorem record_trim {y : State} {v : HeadWork} {more : List BusWork} (hy : (s.recordRead h r).trimRecord h r = y)
    (m : (s.recordRead h r).Moved h v (s.headAt h).state more y) (hv : v.case = (s.workAt h).case) :
    ∃ u, exec (.headAnswer h true r) s = .next u.finish ∧ s.Gives h r v (s.headAt h).state more u :=
  record_gives hroomy hlow hhigh hf hhead hr hk hp hb he
    (State.changeRecord_trims r hy (by rw [m.work, hv]; exact hnotClearing) (by rw [m.work, hv]; exact hnotMoving)) m rfl

omit hf hhead hr hk hp hb he hnotClearing hnotMoving in
/-- What the trim of a head whose timer runs is told (R117). -/
theorem State.trimRecord_of_waiting (ht : (s.workAt h).trim = .waiting) (htimer : (s.workAt h).trimTimer = true) :
    (s.recordRead h r).trimRecord h r = match r.trimState with
      | .done => (s.recordRead h r).modWork h (fun w => { w with trim := .done, trimTimer := false })
      | .failed => (s.recordRead h r).trimFailed h
      | .busy => s.recordRead h r
      | .idle => s.recordRead h r := by
  have hx := State.recordRead_at r hroomy hlow hhigh
  unfold State.trimRecord
  exact (if_pos (by rw [hx.work]; exact ⟨ht, htimer⟩)).trans (by cases r.trimState <;> rfl)

end Trim

/-! ## The case (R120, R121) -/

/-- The work of the head as a record finds it. -/
def HeadWork.seenIn (w : HeadWork) (r : StatusRecord) : HeadWork :=
  { w with lastKnown := if r.casePos = 0 then w.lastKnown else some r.casePos }

/-- The state of a head whose case has arrived: left lifted in the alignment of all heads (R128). -/
def State.leftState (s : State) (h : Nat) : HeadState :=
  if s.change.work = .alignAll ∧ (s.headAt h).state = .resting then .idle else (s.headAt h).state

omit hroomy hlow hhigh hf hhead hr hk hp hb he in
theorem State.leftState_engaged (s : State) (h : Nat) : (s.leftState h).engaged = (s.headAt h).state.engaged := by
  unfold State.leftState
  split
  next hrest => rw [hrest.2]; rfl
  next => rfl

/-- An arrival in an alignment. -/
theorem record_arrives (hw : s.change.work ≠ .colourChange)
    (hy : (s.recordTaken h r).changeRecord h r (decide (t.kind = .command .poll)) = (s.recordRead h r).arrived h) :
    ∃ u, exec (.headAnswer h true r) s = .next u.finish ∧ s.Gives h r { (s.workAt h).seenIn r with
      case := .arrived, caseTimer := none } (s.leftState h) [] u := by
  have hx := State.recordRead_at r hroomy hlow hhigh
  have hxwork : (s.recordRead h r).change.work = s.change.work := by rw [hx.setup]
  have m := State.arrived_moved (x := s.recordRead h r) (h := h) (by rw [hx.roomy.2.2.1]; omega) (by rw [hxwork]; exact hw)
  rw [hx.work, hxwork, hx.state] at m
  exact record_gives hroomy hlow hhigh hf hhead hr hk hp hb he hy m (s.leftState_engaged h)

/-- An arrival in a colour change. -/
theorem record_lowers (hw : s.change.work = .colourChange) (hl : (s.linkAt h).lost = false)
    (hroom : s.bus.queue.length < 16) (hheld : s.bus.held = []) (hnone : s.bus.engageOutstanding h = false)
    (hy : (s.recordTaken h r).changeRecord h r (decide (t.kind = .command .poll)) = (s.recordRead h r).arrived h) :
    ∃ u, exec (.headAnswer h true r) s = .next u.finish ∧ s.Gives h r { (s.workAt h).seenIn r with
      case := .lowering, caseTimer := none } (s.headAt h).state
        [.engage ⟨.lower, if s.run.pass = .patch then .patch else .sewing, false, false⟩] u := by
  have hx := State.recordRead_at r hroomy hlow hhigh
  have hxwork : (s.recordRead h r).change.work = s.change.work := by rw [hx.setup]
  have hxpass : (s.recordRead h r).run.pass = s.run.pass := by rw [Run.of_bare hx.bare]
  have hfree : ∀ c ∈ s.bus.queue ++ s.bus.held, c.engages h = false := fun c hc => by
    unfold Bus.engageOutstanding Bus.outstanding at hnone
    rw [Bool.or_eq_false_iff, ← List.any_append, List.any_eq_false] at hnone
    exact Bool.eq_false_iff.2 (hnone.1 c hc)
  have m := State.arrived_lowers (x := s.recordRead h r) (h := h) (by rw [hx.roomy.2.2.1]; omega)
    (by rw [hxwork]; exact hw) (by rw [hx.lost]; exact hl) (by rw [hx.queue, hx.held]; exact hfree)
    (by rw [hx.queue]; exact hroom) (by rw [hx.held]; exact hheld)
  rw [hx.work, hxpass, hx.state] at m
  exact record_gives hroomy hlow hhigh hf hhead hr hk hp hb he hy m rfl

/-- An attempt counted, when it is a new one. -/
def State.counted (x : State) (h n : Nat) : State := x.modWork h (fun w => { w with caseAttempt := w.caseAttempt + n })

/-- An attempt that fails before the third (R121). -/
theorem record_retries (n : Nat) (ha : (s.workAt h).caseAttempt + n < 3) (hl : (s.linkAt h).lost = false)
    (hroom : s.bus.queue.length < 15) (hheld : s.bus.held = [])
    (hy : (s.recordTaken h r).changeRecord h r (decide (t.kind = .command .poll)) =
      ((s.recordRead h r).counted h n).caseFailed h) :
    ∃ u, exec (.headAnswer h true r) s = .next u.finish ∧ s.Gives h r { (s.workAt h).seenIn r with
      case := .clearing, caseTimer := none, caseAttempt := (s.workAt h).caseAttempt + n } (s.headAt h).state
        [.clear, .poll] u := by
  have hx := State.recordRead_at r hroomy hlow hhigh
  have hin : h - 1 < (s.recordRead h r).change.heads.length := by
    rw [hx.roomy.2.2.1]
    omega
  have m := State.modWork_moved hin (fun w => { w with caseAttempt := w.caseAttempt + n })
  rw [hx.work, hx.state] at m
  have m' := State.caseFailed_moved (x := (s.recordRead h r).counted h n) (h := h)
    (by unfold State.counted State.modWork; rw [State.setChange_change, List.length_modify]; exact hin)
    (by rw [show ((s.recordRead h r).counted h n).workAt h = _ from m.work]; exact ha)
    (by rw [show ((s.recordRead h r).counted h n).linkAt h = (s.recordRead h r).linkAt h from rfl, hx.lost]; exact hl)
    (by rw [show ((s.recordRead h r).counted h n).bus = (s.recordRead h r).bus from rfl, hx.queue]; exact hroom)
    (by rw [show ((s.recordRead h r).counted h n).bus = (s.recordRead h r).bus from rfl, hx.held]; exact hheld)
  rw [show ((s.recordRead h r).counted h n).workAt h = _ from m.work,
    show (((s.recordRead h r).counted h n).headAt h).state = _ from m.state] at m'
  exact record_gives hroomy hlow hhigh hf hhead hr hk hp hb he hy (m.after m') rfl

/-- The next attempt begun (R121). -/
theorem record_moves_again {p : Nat} (hp12 : p ≤ 12) (hq : (s.workAt h).target ≤ 12) (hl : (s.linkAt h).lost = false)
    (hroom : s.bus.queue.length < 16) (hheld : s.bus.held = [])
    (hy : (s.recordTaken h r).changeRecord h r (decide (t.kind = .command .poll)) =
      ((s.recordRead h r).counted h 1).caseMoveFrom h p) : ∃ (ahead : Bool) (n : Nat),
      ((s.workAt h).target : Int) % 12 = ((p : Int) + (if ahead then (n : Int) else -n)) % 12 ∧
    ∃ u, exec (.headAnswer h true r) s = .next u.finish ∧ s.Gives h r { (s.workAt h).seenIn r with
      case := .moving, ahead := ahead, distance := n, caseTimer := none
      caseAttempt := (s.workAt h).caseAttempt + 1 } (s.headAt h).state [.caseMove ahead n] u := by
  have hx := State.recordRead_at r hroomy hlow hhigh
  have hin : h - 1 < (s.recordRead h r).change.heads.length := by
    rw [hx.roomy.2.2.1]
    omega
  have m := State.modWork_moved hin (fun w => { w with caseAttempt := w.caseAttempt + 1 })
  rw [hx.work, hx.state] at m
  obtain ⟨ahead, n, hreach, m'⟩ := State.caseMoveFrom_moved (x := (s.recordRead h r).counted h 1) (h := h) (p := p)
    (by unfold State.counted State.modWork; rw [State.setChange_change, List.length_modify]; exact hin) hp12
    (by rw [show ((s.recordRead h r).counted h 1).workAt h = _ from m.work]; exact hq)
    (by rw [show ((s.recordRead h r).counted h 1).linkAt h = (s.recordRead h r).linkAt h from rfl, hx.lost]; exact hl)
    (by rw [show ((s.recordRead h r).counted h 1).bus = (s.recordRead h r).bus from rfl, hx.queue]; exact hroom)
    (by rw [show ((s.recordRead h r).counted h 1).bus = (s.recordRead h r).bus from rfl, hx.held]; exact hheld)
  rw [show ((s.recordRead h r).counted h 1).workAt h = _ from m.work,
    show (((s.recordRead h r).counted h 1).headAt h).state = _ from m.state] at m'
  rw [show ((s.recordRead h r).counted h 1).workAt h = _ from m.work] at hreach
  exact ⟨ahead, n, hreach, record_gives hroomy hlow hhigh hf hhead hr hk hp hb he hy (m.after m') rfl⟩

/-- The third attempt fails (R121). -/
theorem record_jams (n : Nat) (ha : 3 ≤ (s.workAt h).caseAttempt + n) (hc : s.run.state = .changing)
    (hpass : s.run.pass = .main) (hpol : s.monitor.policy = .stopAll) (hoff : (s.headAt h).state ≠ .off)
    (hnone : (s.watchAt h).fault = none)
    (hy : (s.recordTaken h r).changeRecord h r (decide (t.kind = .command .poll)) =
      ((s.recordRead h r).counted h n).caseFailed h) :
    ∃ u, exec (.headAnswer h true r) s = .next u.finish ∧ s.Faults h r .caseJam (fun v => v.case = .handedOver) u := by
  have hx := State.recordRead_at r hroomy hlow hhigh
  have hwork : ((s.recordRead h r).counted h n).workAt h = _ := State.workAt_modWork_same (s.recordRead h r) _
    (by rw [hx.roomy.2.2.1]; omega)
  have hfail : ((s.recordRead h r).counted h n).caseFailed h = ((s.recordRead h r).modWork h (fun w =>
      { w with caseAttempt := w.caseAttempt + n, case := .handedOver, caseTimer := none })).raiseFault h .caseJam := by
    have hnot : ¬ (((s.recordRead h r).counted h n).workAt h).caseAttempt < 3 := by
      rw [hwork, hx.work]
      exact Nat.not_lt.2 ha
    refine (if_neg hnot).trans ?_
    unfold State.counted
    rw [State.modWork_modWork]
  exact record_raises hroomy hlow hhigh hf hhead hr hk hp hb he _ FaultKind.noConfusion hc hpass hpol hoff hnone _
    (fun _ => rfl) (fun _ _ => rfl) (hy.trans hfail)

end Record

end Sys2Proof.Machine

/-!
PROOF. Case moves and trims (sections 7.3, 7.4.2, 7.5, 6.6; O60): acknowledgements, records and probes.
-/

namespace Sys2Proof.Machine
set_option Elab.async false

theorem State.counted_zero (x : State) (h : Nat) : x.counted h 0 = x := by
  unfold State.counted State.modWork
  rw [show (fun w : HeadWork => { w with caseAttempt := w.caseAttempt + 0 }) = id from rfl, List.modify_id]
  rfl

theorem State.laterQueued_iff (s : State) (h : Nat) (p : BusWork → Bool) : s.laterQueued h p = true ↔
    ∃ c ∈ s.bus.queue ++ s.bus.held, c.head = h ∧ p c.work = true := by
  unfold State.laterQueued
  simp only [List.any_eq_true, Bool.and_eq_true, beq_iff_eq]

theorem BusWork.isPoll_iff (w : BusWork) : w.isPoll = true ↔ w = .poll := by
  cases w <;> simp [BusWork.isPoll]

theorem BusWork.isCaseMove_iff (w : BusWork) : w.isCaseMove = true ↔ ∃ b m, w = .caseMove b m := by
  cases w <;> simp [BusWork.isCaseMove]

theorem BusWork.isTrim_iff (w : BusWork) : w.isTrim = true ↔ w = .trim := by
  cases w <;> simp [BusWork.isTrim]

theorem State.answeredAt_roomy {s : State} (hs : s.roomy) (h : Nat) : (s.answeredAt h).roomy :=
  State.roomy_of_lengths hs rfl rfl rfl (by simp [State.answeredAt])

/-- An answered transaction leaves no order in flight. -/
theorem State.answeredAt_engageOutstanding (s : State) (h j : Nat) : (s.answeredAt h).bus.engageOutstanding j =
    (s.bus.queue ++ s.bus.held).any (fun c => c.engages j) := Bus.engageOutstanding_idle (b := (s.answeredAt h).bus) j rfl

/-! ## The records that a case waits for (R120, R121) -/

theorem State.caseRecord_of_moving {x : State} {h : Nat} (r : StatusRecord) (hm : (x.workAt h).case = .moving)
    (ht : (x.workAt h).caseTimer.isSome = true) : x.caseRecord h r = match r.caseState with
      | .atRest => if r.casePos = (x.workAt h).target then x.arrived h else x.caseFailed h
      | .moving => x
      | .jammed => x.caseFailed h := by
  unfold State.caseRecord
  exact (if_pos ⟨hm, ht⟩).trans (by cases r.caseState <;> rfl)

section Cleared

variable {x : State} {h p : Nat} {r : StatusRecord}

theorem State.clearedRecord_there (hrest : r.caseState = .atRest)
    (hpos : (if r.casePos = 0 then (x.workAt h).lastKnown else some r.casePos) = some p) (hp : p = (x.workAt h).target) :
    x.clearedRecord h r = x.arrived h := by
  unfold State.clearedRecord
  dsimp only
  rw [if_pos hrest, hpos]
  exact if_pos hp

theorem State.clearedRecord_elsewhere (hrest : r.caseState = .atRest)
    (hpos : (if r.casePos = 0 then (x.workAt h).lastKnown else some r.casePos) = some p) (hp : p ≠ (x.workAt h).target) :
    x.clearedRecord h r = (x.counted h 1).caseMoveFrom h p := by
  unfold State.clearedRecord
  dsimp only
  rw [if_pos hrest, hpos]
  exact if_neg hp

theorem State.clearedRecord_fails (hbad : r.caseState ≠ .atRest ∨
    (if r.casePos = 0 then (x.workAt h).lastKnown else some r.casePos) = none) :
    x.clearedRecord h r = (x.counted h 1).caseFailed h := by
  unfold State.clearedRecord
  dsimp only
  by_cases hrest : r.caseState = .atRest
  · rw [if_pos hrest, hbad.resolve_left (fun hn => hn hrest)]
    rfl
  · exact if_neg hrest

end Cleared

section Answer

variable {s : State} {h : Nat} {r : StatusRecord} {t : Transaction} (hroomy : s.roomy) (hlow : 1 ≤ h) (hhigh : h ≤ 8)
  (hf : s.bus.inFlight = some t) (hhead : t.head = h) (hr : t.reported = true)
include hroomy hlow hhigh hf hhead hr

/-! ## LOWER and LIFT (R125) -/

/-- An acknowledged LOWER, no join, at an IDLE or RESTING head. -/
theorem answer_lowers {o : EngageOrder} (hk : t.kind = .command (.engage o)) (hrun : s.shaft.state ≠ .running)
    (hstop : s.shaft.state ≠ .stopping) (hcmd : o.cmd = .lower) (hjoin : o.join = false)
    (hs : (s.headAt h).state = .idle ∨ (s.headAt h).state = .resting) : exec (.headAnswer h true r) s =
      .next (((s.answeredAt h).setRun { s.run with heads := s.run.heads.modify (h - 1) (fun e => { e with
        state := o.becomes, acked := none
        queued := if (s.bus.queue ++ s.bus.held).any (fun c => c.engages h) then e.queued else none }) }).workAfterOrder
          h o).finish := by
  have hexec := exec_headAnswer_of_command r hf hhead hr hk BusWork.noConfusion
  rw [State.acknowledged_still (s := s.answeredAt h) hrun hstop,
    State.takeOrder_lowers (v := s.answeredAt h) (State.answeredAt_roomy hroomy h) hlow hhigh hcmd hjoin hs,
    State.answeredAt_engageOutstanding] at hexec
  exact hexec

/-- An acknowledged LIFT at an engaged head. -/
theorem answer_lifts {o : EngageOrder} (hk : t.kind = .command (.engage o)) (hrun : s.shaft.state ≠ .running)
    (hstop : s.shaft.state ≠ .stopping) (hcmd : o.cmd = .lift) (hb : o.becomes = .idle ∨ o.becomes = .resting)
    (he : s.engagedHead h = true) (hfault : (s.watchAt h).fault = none) : ∃ x, (s.answeredAt h).LiftedTo h o.becomes x ∧
      exec (.headAnswer h true r) s = .next (x.workAfterOrder h o).finish := by
  have hexec := exec_headAnswer_of_command r hf hhead hr hk BusWork.noConfusion
  rw [State.acknowledged_still (s := s.answeredAt h) hrun hstop] at hexec
  exact ⟨_, State.takeOrder_lifts (v := s.answeredAt h) (State.answeredAt_roomy hroomy h) hlow hhigh hcmd hb he hfault, hexec⟩

omit hroomy hlow hhigh hf hhead hr in
/-- The step of the Thread Change Unit that follows a LIFT. -/
theorem State.LiftedTo.moved {x y : State} {st : HeadState} {v : HeadWork} {more : List BusWork}
    (hx : (s.answeredAt h).LiftedTo h st x) (m : x.Moved h v st more y) : (y.headAt h).state = st ∧
      (y.watchAt h).armed = false ∧ y.workAt h = v ∧ y.bus.queue = s.bus.queue ++ more.map (fun k => ⟨h, k⟩) ∧
      y.link = s.link ∧ y.run.state = s.run.state ∧ y.run.cause = s.run.cause ∧ y.frame = s.frame ∧ y.shaft = s.shaft ∧
      y.gaps = s.gaps ∧ y.store = s.store ∧
      ∀ j, h - 1 ≠ j - 1 → y.workAt j = s.workAt j ∧ y.headAt j = s.headAt j ∧ y.watchAt j = s.watchAt j := by
  have hrun : y.run = { s.run with heads := y.run.heads } := Run.of_bare (m.bare.trans hx.bare)
  refine ⟨m.state, ?_, m.work, m.queue.trans (by rw [hx.bus]; rfl), m.link.trans hx.link, by rw [hrun], by rw [hrun],
    m.frame.trans hx.frame, m.shaft.trans hx.shaft, m.gaps.trans hx.gaps, m.store.trans hx.store, fun j hj => ?_⟩
  · rw [State.watchAt_congr (congrArg Monitor.heads m.monitor)]
    exact hx.armed
  · have hsame := (hx.others j hj).trans (m.others j hj)
    exact ⟨hsame.work, hsame.head, hsame.watch⟩

/-! ## A trim that fails for the second time (R118) -/

theorem record_trimFault (hk : t.kind = .roundPoll ∨ t.kind = .command .poll) (hp : r.penetrations = 0)
    (hb : r.bobbinLow = false) (he : r.engaged = s.engagedHead h) (hnc : (s.workAt h).case ≠ .clearing)
    (hnm : (s.workAt h).case ≠ .moving) (ha : 2 ≤ (s.workAt h).trimAttempt) (hc : s.run.state = .changing)
    (hpass : s.run.pass = .main) (hpol : s.monitor.policy = .stopAll) (hoff : (s.headAt h).state ≠ .off)
    (hnone : (s.watchAt h).fault = none) (htrim : (s.recordRead h r).trimRecord h r = (s.recordRead h r).trimFailed h) :
    ∃ u, exec (.headAnswer h true r) s = .next u.finish ∧ s.Faults h r .trimFail (fun v => v.trim = .handedOver) u := by
  have hx := State.recordRead_at r hroomy hlow hhigh
  have hin : h - 1 < (s.recordRead h r).change.heads.length := by
    rw [hx.roomy.2.2.1]
    omega
  have hrun : (s.recordRead h r).run = { s.run with heads := (s.recordRead h r).run.heads } := Run.of_bare hx.bare
  have hfail : (s.recordRead h r).trimFailed h = ((s.recordRead h r).modWork h (fun w =>
      { w with trim := .handedOver, trimTimer := false })).raiseFault h .trimFail :=
    if_neg (by rw [hx.work]; exact Nat.not_lt.2 ha)
  have m := State.raiseFault_held (x := s.recordRead h r) (h := h) (kind := .trimFail)
    (fun w => { w with trim := .handedOver, trimTimer := false }) hin FaultKind.noConfusion (by rw [hrun]; exact hc)
    (by rw [hrun]; exact hpass) (by rw [hx.monitor]; exact hpol) (by rw [hx.state]; exact hoff)
    (by rw [hx.watch]; exact hnone) (fun v => v.trim = .handedOver ∧ v.case ≠ .clearing ∧ v.case ≠ .moving)
    (by rw [hx.work]; exact ⟨rfl, hnc, hnm⟩)
    (fun _ _ => ⟨rfl, CaseProgress.noConfusion, CaseProgress.noConfusion⟩)
  obtain ⟨u, hu, g⟩ := record_faults hroomy hlow hhigh hf hhead hr hk hp hb he
    (State.changeRecord_trims r (htrim.trans hfail) m.work.2.1 m.work.2.2) m
  exact ⟨u, hu, g.kept, g.work.1, g.queue, g.fault, g.state, g.cause, g.link⟩

/-! ## An answered probe (R111, R110, R141) -/

omit hroomy hlow hhigh hf hhead hr in
/-- The repair of a LOST head without an OPEN gap. -/
theorem State.repair_of_lost {x : State} (hin : h - 1 < x.monitor.heads.length) (hp : x.run.pass = .main)
    (hlost : (x.headAt h).state = .lost) (hfault : (x.watchAt h).fault = some ⟨.lost, .held⟩)
    (hgaps : ∀ g ∈ x.gaps, g.head ≠ h ∨ g.state ≠ .opened) : x.repair h = (x.repairNoted h).setHeadState h .idle := by
  have hopen : (x.repairNoted h).openGap h = none := by
    refine List.find?_eq_none.2 fun g hg hyes => ?_
    rw [Bool.and_eq_true, beq_iff_eq, beq_iff_eq] at hyes
    exact (hgaps g hg).elim (fun hne => hne hyes.1) (fun hne => hne hyes.2)
  have hafter : (x.repairNoted h).afterRepair h (some ⟨.lost, .held⟩) = (x.repairNoted h).setHeadState h .idle := by
    unfold State.afterRepair
    dsimp only
    rw [if_neg (fun hdrop => by cases hdrop), show ((x.repairNoted h).headAt h).state = .lost from hlost]
    dsimp only
    rw [hopen]
    rfl
  have hpass : ((x.repairNoted h).setHeadState h .idle).run.pass = .main := by
    rw [Run.of_bare ((x.repairNoted h).setHeadState_bare h .idle)]
    exact hp
  rw [State.repair_eq x hin, hfault, hafter, State.endPatchIfEmpty_of_main hpass]

omit hroomy hlow hhigh hf hhead hr in
/-- A loss cleared by the answer that ends the transaction. -/
theorem State.answeredAt_clearLoss (s : State) (h : Nat) : (s.answeredAt h).clearLoss h = (s.clearLoss h).answeredAt h := by
  unfold State.answeredAt State.clearLoss State.modLink
  simp only [State.setBus_bus, List.modify_modify_eq]
  rfl

/-- The repair that an answered probe makes of a LOST head without an OPEN gap. -/
theorem answer_probe (hk : t.kind = .probe) (hp : r.penetrations = 0) (hb : r.bobbinLow = false) (he : r.engaged = false)
    (hn : (s.workAt h).trim ≠ .waiting) (hm : (s.workAt h).case ≠ .moving) (hc : (s.workAt h).case ≠ .clearing)
    (hpass : s.run.pass = .main) (hlost : (s.headAt h).state = .lost)
    (hfault : (s.watchAt h).fault = some ⟨.lost, .held⟩) (hwarn : (s.watchAt h).warn = false)
    (hgaps : ∀ g ∈ s.gaps, g.head ≠ h ∨ g.state ≠ .opened) : ∃ u, exec (.headAnswer h true r) s = .next u.finish ∧
      s.KeptAround h r u ∧ u.workAt h = (s.workAt h).seenIn r ∧ (u.headAt h).state = .idle ∧
      (u.linkAt h).lost = false ∧ (u.linkAt h).probe = false ∧ (u.linkAt h).timeouts = 0 ∧
      u.watchAt h = { s.watchAt h with countdown := s.cfg.thread.breakB, excursion := 0, fault := none } ∧
      u.bus.queue = s.bus.queue ∧ u.link = s.link.post ⟨.headRepaired, h, s.cursor, 5⟩ := by
  let c := s.clearLoss h
  let x := c.recordRead h r
  have hlen : h - 1 < s.bus.heads.length := by
    rw [hroomy.2.2.2]
    omega
  have hcroomy : c.roomy := State.roomy_of_lengths hroomy rfl rfl rfl (by simp [c, State.clearLoss, State.modLink])
  have hclink : c.linkAt h = { s.linkAt h with lost := false, timeouts := 0, probe := false, nextMark := .fresh } :=
    getD_modify_same _ _ _ hlen
  have hx : c.ReadAt h r x := State.recordRead_at r hcroomy hlow hhigh
  have hnote : x.trimRecord h r = x := State.trimRecord_of_none h r (.inl (by rw [hx.work]; exact hn))
  have hchange : (c.recordTaken h r).changeRecord h r false = x :=
    State.changeRecord_trims r hnote (by rw [hx.work]; exact hc) (by rw [hx.work]; exact hm)
  have hxstate : (x.headAt h).state = .lost := hx.state.trans hlost
  have hxnot : x.engagedHead h = false := by
    unfold State.engagedHead
    rw [hxstate]
    rfl
  have haccept : ((s.answeredAt h).clearLoss h).acceptRecord h r false = x := by
    rw [State.answeredAt_clearLoss, State.acceptRecord_quiet hchange hp hb (by rw [he, hxnot])]
    exact if_neg (ne_true_of_eq_false hxnot)
  have hxfault : x.watchAt h = s.watchAt h := hx.watch
  have hxrun : x.run = { s.run with heads := x.run.heads } := Run.of_bare hx.bare
  have hxin : h - 1 < x.monitor.heads.length := by
    rw [hx.roomy.2.1]
    omega
  have hrepair := State.repair_of_lost (x := x) hxin (by rw [hxrun]; exact hpass) hxstate (by rw [hxfault]; exact hfault)
    (by rw [hx.gaps]; exact hgaps)
  let n := x.repairNoted h
  obtain ⟨nrun, nstore, nframe, nshaft, nbus, nchange, ngaps, ncfg⟩ := x.repairNoted_keeps h
  have hnstate : n.engagedHead h = false := hxnot
  have hnot := State.calmsHead_of_not (s := n) (h := h) (new := .idle) rfl
  obtain ⟨kstore, kframe, kshaft, kbus, kgaps, -⟩ := n.setHeadState_keeps h .idle
  have hhead' := n.headAt_setHeadState_same h .idle (by rw [nrun, hx.roomy.1]; omega)
  have hwatch' := n.watchAt_setHeadState_same h .idle (by rw [x.repairNoted_headsLength h]; exact hxin)
  have hwork' := State.setHeadState_workHeads (s := n) (h := h) .idle
  have hlink' := (n.setHeadState_link h .idle).trans (if_neg (ne_true_of_eq_false hnot))
  have hgov' := (n.setHeadState_gov h .idle).trans (if_neg (ne_true_of_eq_false hnot))
  have hbare' := n.setHeadState_bare h .idle
  have hothers' : ∀ j, h - 1 ≠ j - 1 → n.SameHead (n.setHeadState h .idle) j := fun j hj => State.setHeadState_sameHead _ hj
  have hexec : exec (.headAnswer h true r) s = .next (n.setHeadState h .idle).finish := by
    rw [exec_headAnswer_of_right r hf hhead hr]
    unfold State.answered
    rw [hk, hhead]
    unfold State.probeAnswered
    dsimp only
    rw [haccept, if_neg (by rw [hxstate]; exact HeadState.noConfusion), hrepair]
  have hlinkAt : (n.setHeadState h .idle).linkAt h = { s.linkAt h with
      lost := false, timeouts := 0, probe := false, nextMark := .fresh, record := some r } := by
    rw [State.linkAt_congr (congrArg Bus.heads (kbus.trans nbus)) h]
    unfold State.linkAt
    rw [c.recordRead_bus h r]
    refine (getD_modify_same _ _ _ (by rw [hcroomy.2.2.2]; omega)).trans ?_
    exact congrArg (fun l : HeadLink => { l with timeouts := 0, record := some r }) hclink
  refine ⟨_, hexec, ⟨?_, ?_, kframe.trans (nframe.trans hx.frame), kshaft.trans (nshaft.trans hx.shaft),
    kgaps.trans (ngaps.trans hx.gaps), kstore.trans (nstore.trans hx.store), ?_, fun j hj => ?_⟩, ?_, ?_, ?_, ?_, ?_, ?_,
    ?_, ?_⟩
  · rw [State.linkAt_congr (congrArg Bus.heads (kbus.trans nbus)) h]
    exact hx.record
  · have hstate' : (n.setHeadState h .idle).run.state = x.run.state := by
      rw [Run.of_bare hbare', nrun]
    rw [hstate', hxrun]
  · exact hgov'.trans ((if_neg (by rw [hxfault, hwarn]; exact Bool.false_ne_true)).trans hx.gov)
  · have hs := (hx.others j hj).trans ⟨by unfold State.headAt; rw [nrun], x.watchAt_repairNoted_other h hj,
      by unfold State.workAt; rw [nchange], by unfold State.linkAt; rw [nbus]⟩
    have ho := (show c.SameHead n j from hs).trans (hothers' j hj)
    exact ⟨ho.work, ho.head, ho.watch⟩
  · rw [State.workAt_congr (hwork'.trans (congrArg ThreadChange.heads nchange)) h]
    exact hx.work
  · rw [hhead']
  · rw [hlinkAt]
  · rw [hlinkAt]
  · rw [hlinkAt]
  · rw [hwatch', hnstate, if_neg Bool.false_ne_true, show n.watchAt h = _ from x.watchAt_repairNoted_same h hxin, hxfault,
      hx.cfg]
    unfold HeadWatch.repaired
    rw [← hwarn]
    rfl
  · exact (congrArg Bus.queue (kbus.trans nbus)).trans hx.queue
  · refine hlink'.trans ?_
    show x.repairPosted h = _
    unfold State.repairPosted
    rw [hxfault, hwarn, if_neg Bool.false_ne_true, hfault, hx.link, State.cursor_of_bare hx.bare]
    rfl

end Answer

theorem answers_follow : ∀ (s : State) (h : Nat) (r : StatusRecord) (t : Transaction), s.shapesRight = true → 1 ≤ h → h ≤ 8 →
    s.bus.inFlight = some t → t.head = h → t.reported = true →
    let run := exec (.headAnswer h true r) s
    let w := s.workAt h
    let last := if r.casePos = 0 then w.lastKnown else some r.casePos
    let seen := { w with lastKnown := last }
    let ended := s.setBus { s.bus with
      inFlight := none, round := s.bus.round.filter (fun r => !r.todo.isEmpty)
      heads := s.bus.heads.modify (h - 1) (fun l => { l with timeouts := 0 }) }
    let later := fun (p : BusWork → Prop) => ∃ c ∈ s.bus.queue ++ s.bus.held, c.head = h ∧ p c.work
    let room := (s.linkAt h).lost = false ∧ s.bus.queue.length < 15 ∧ s.bus.held = []
    let kept := fun (u : State) => (u.linkAt h).record = some r ∧ u.run.state = s.run.state ∧ u.frame = s.frame ∧
      u.shaft = s.shaft ∧ u.gaps = s.gaps ∧ u.store = s.store ∧ u.gov = s.gov ∧
      ∀ j, j ≠ h → 1 ≤ j → j ≤ 8 → u.workAt j = s.workAt j ∧ u.headAt j = s.headAt j ∧ u.watchAt j = s.watchAt j
    let gives := fun (v : HeadWork) (more : List BusWork) => ∃ u : State, run = .next u.finish ∧ kept u ∧ u.workAt h = v ∧
      u.bus.queue = s.bus.queue ++ more.map (fun k => ⟨h, k⟩) ∧ u.link = s.link ∧ u.run.cause = s.run.cause ∧
      (u.headAt h).state = (if s.change.work = .alignAll ∧ w.case ≠ .arrived ∧ v.case = .arrived ∧
        (s.headAt h).state = .resting then .idle else (s.headAt h).state)
    let faults := fun (kind : FaultKind) (p : HeadWork → Prop) =>
      s.run.state = .changing → s.run.pass = .main → s.monitor.policy = .stopAll → (s.headAt h).state ≠ .off →
      (s.watchAt h).fault = none →
      ∃ u : State, run = .next u.finish ∧ kept u ∧ p (u.workAt h) ∧ u.bus.queue = s.bus.queue ∧
        (u.watchAt h).fault = some ⟨kind, .held⟩ ∧ (u.headAt h).state = (s.headAt h).state ∧
        u.run.cause = some (s.run.cause.getD .fault) ∧ u.link = s.link.post ⟨.headFault, h, s.cursor, kind.code⟩
    let fails := fun (attempt : Nat) =>
      (attempt < 3 → room →
        gives { seen with case := .clearing, caseTimer := none, caseAttempt := attempt } [.clear, .poll]) ∧
      (3 ≤ attempt → faults .caseJam (fun v => v.case = .handedOver))
    let arrives :=
      (s.change.work ≠ .colourChange → gives { seen with case := .arrived, caseTimer := none } []) ∧
      (s.change.work = .colourChange → room → s.bus.engageOutstanding h = false →
        gives { seen with case := .lowering, caseTimer := none }
          [.engage ⟨.lower, if s.run.pass = .patch then .patch else .sewing, false, false⟩])
    (∀ ahead n, t.kind = .command (.caseMove ahead n) → w.case = .moving →
      ¬ later (fun k => ∃ b m, k = .caseMove b m) →
      run = .next ((ended.setChange { s.change with heads := s.change.heads.modify (h - 1) (fun v =>
        { v with caseTimer := some (300 + 120 * v.distance) }) }).finish)) ∧
    (∀ o, t.kind = .command (.engage o) → s.shaft.state ≠ .running → s.shaft.state ≠ .stopping →
      (s.watchAt h).fault = none →
      (o.cmd = .lower → o.join = false → (s.headAt h).state = .idle ∨ (s.headAt h).state = .resting →
        o.becomes = .sewing ∨ o.becomes = .patch → w.case = .lowering →
        run = .next (((ended.setRun { s.run with heads := s.run.heads.modify (h - 1) (fun e => { e with
          state := o.becomes, acked := none
          queued := if (s.bus.queue ++ s.bus.held).any (fun c => c.engages h) then e.queued else none }) }).setChange
            { s.change with heads := s.change.heads.modify (h - 1) (fun v => { v with case := .arrived }) }).finish)) ∧
      (o.cmd = .lift → o.becomes = .idle ∨ o.becomes = .resting → s.engagedHead h = true → w.case = .lifting →
        (∀ c ∈ s.bus.queue ++ s.bus.held, c.engages h = false) →
        let lifted := fun (state : HeadState) (v : HeadWork) (more : List BusWork) =>
          ∃ u : State, run = .next u.finish ∧ (u.headAt h).state = state ∧ (u.watchAt h).armed = false ∧ u.workAt h = v ∧
            u.bus.queue = s.bus.queue ++ more.map (fun k => ⟨h, k⟩) ∧ u.link = s.link ∧ u.run.state = s.run.state ∧
            u.run.cause = s.run.cause ∧ u.frame = s.frame ∧ u.shaft = s.shaft ∧ u.gaps = s.gaps ∧ u.store = s.store ∧
            ∀ j, j ≠ h → 1 ≤ j → j ≤ 8 → u.workAt j = s.workAt j ∧ u.headAt j = s.headAt j ∧ u.watchAt j = s.watchAt j
        (w.target = 0 → lifted o.becomes { w with case := .resting } []) ∧
        (∀ p, w.target ≠ 0 → w.target ≤ 12 → p ≤ 12 → w.lastKnown = some p → p ≠ w.target → room →
          ∃ ahead n, (w.target : Int) % 12 = ((p : Int) + (if ahead then (n : Int) else -n)) % 12 ∧
            lifted o.becomes { w with case := .moving, ahead := ahead, distance := n, caseTimer := none }
              [.caseMove ahead n]) ∧
        (w.target ≠ 0 → w.lastKnown = none → w.caseAttempt < 3 → room →
          lifted o.becomes { w with case := .clearing, caseTimer := none } [.clear, .poll]) ∧
        (w.target ≠ 0 → w.lastKnown = some w.target → s.change.work = .colourChange → room →
          lifted o.becomes { w with case := .lowering, caseTimer := none }
            [.engage ⟨.lower, if s.run.pass = .patch then .patch else .sewing, false, false⟩]))) ∧
    (t.kind = .roundPoll ∨ t.kind = .command .poll → r.penetrations = 0 → r.bobbinLow = false →
      r.engaged = s.engagedHead h →
      (w.case ≠ .moving → w.case ≠ .clearing →
        (w.trim ≠ .waiting ∨ w.trimTimer = false → gives seen []) ∧
        (w.trim = .waiting → w.trimTimer = true →
          (r.trimState = .done → gives { seen with trim := .done, trimTimer := false } []) ∧
          (r.trimState = .failed → w.trimAttempt < 2 → room →
            gives { seen with trimAttempt := 2, trimTimer := false } [.clear, .trim]) ∧
          (r.trimState = .failed → 2 ≤ w.trimAttempt → faults .trimFail (fun v => v.trim = .handedOver)) ∧
          (r.trimState = .busy ∨ r.trimState = .idle → gives seen []))) ∧
      (w.trim ≠ .waiting → w.case = .moving →
        (w.caseTimer = none → gives seen []) ∧
        (w.caseTimer ≠ none →
          (r.caseState = .moving → gives seen []) ∧
          (r.caseState = .atRest → r.casePos = w.target → arrives) ∧
          (r.caseState = .jammed ∨ (r.caseState = .atRest ∧ r.casePos ≠ w.target) → fails w.caseAttempt))) ∧
      (w.trim ≠ .waiting → w.case = .clearing →
        (t.kind = .roundPoll ∨ later (fun k => k = .poll) → gives seen []) ∧
        (t.kind = .command .poll → ¬ later (fun k => k = .poll) →
          (r.caseState = .atRest → last = some w.target → arrives) ∧
          (∀ p, r.caseState = .atRest → last = some p → p ≠ w.target → p ≤ 12 → w.target ≤ 12 → room →
            ∃ ahead n, (w.target : Int) % 12 = ((p : Int) + (if ahead then (n : Int) else -n)) % 12 ∧
              gives { seen with case := .moving, ahead := ahead, distance := n, caseTimer := none
                                caseAttempt := w.caseAttempt + 1 } [.caseMove ahead n]) ∧
          (r.caseState ≠ .atRest ∨ last = none → fails (w.caseAttempt + 1))))) ∧
    (t.kind = .probe → r.penetrations = 0 → r.bobbinLow = false → r.engaged = false → w.trim ≠ .waiting →
      w.case ≠ .moving → w.case ≠ .clearing → s.run.pass = .main → (s.headAt h).state = .lost →
      (s.watchAt h).fault = some ⟨.lost, .held⟩ → (s.watchAt h).warn = false →
      (∀ g ∈ s.gaps, g.head ≠ h ∨ g.state ≠ .opened) →
      ∃ u : State, run = .next u.finish ∧ kept u ∧ u.workAt h = seen ∧ (u.headAt h).state = .idle ∧
        (u.linkAt h).lost = false ∧ (u.linkAt h).probe = false ∧ (u.linkAt h).timeouts = 0 ∧
        u.watchAt h = { s.watchAt h with countdown := s.cfg.thread.breakB, excursion := 0, fault := none } ∧
        u.bus.queue = s.bus.queue ∧ u.link = s.link.post ⟨.headRepaired, h, s.cursor, 5⟩) := by
  intro s h r t hshapes hlow hhigh hf hhead hr run w last seen ended later room kept gives faults fails arrives
  have hroomy : s.roomy := State.roomy_of_shapes hshapes
  have hin : h - 1 < s.change.heads.length := by
    rw [hroomy.2.2.1]
    omega
  have hkept : ∀ {u}, s.KeptAround h r u → kept u := fun hu =>
    ⟨hu.record, hu.state, hu.frame, hu.shaft, hu.gaps, hu.store, hu.gov, fun j hne hj _ => hu.others j (by omega)⟩
  refine ⟨fun ahead n hk hcase hlater => ?_, fun o hk hrun hstop hfault => ⟨fun hcmd hjoin hs hb hcase => ?_,
    fun hcmd hb he hcase hfree => ?_⟩, fun hk hp hb he => ?_, fun hk hp hb he hn hm hc hpass hlost hfault hwarn hgaps => ?_⟩
  · have hexec := exec_headAnswer_of_command r hf hhead hr hk BusWork.noConfusion
    have hnot : (s.answeredAt h).laterQueued h BusWork.isCaseMove = false := Bool.eq_false_iff.2 fun hyes => by
      obtain ⟨c, hc, hch, hcm⟩ := (State.laterQueued_iff _ _ _).1 hyes
      exact hlater ⟨c, hc, hch, (BusWork.isCaseMove_iff _).1 hcm⟩
    rw [show (s.answeredAt h).acknowledged h (.caseMove ahead n) = _ from if_pos ⟨hcase, hnot⟩] at hexec
    exact hexec
  · rw [show run = _ from answer_lowers hroomy hlow hhigh hf hhead hr hk hrun hstop hcmd hjoin hs]
    unfold State.workAfterOrder
    rw [hcmd]
    exact congrArg (fun u : State => Host.Outcome.next u.finish) (if_pos hcase)
  · intro lifted
    obtain ⟨x, hx, hexec⟩ := answer_lifts (r := r) hroomy hlow hhigh hf hhead hr hk hrun hstop hcmd hb he hfault
    have hxin : h - 1 < x.change.heads.length := by
      rw [hx.works]
      exact hin
    have hxwork : x.workAt h = w := State.workAt_congr hx.works h
    have hxlost : (x.linkAt h).lost = (s.linkAt h).lost := by
      rw [State.linkAt_congr (congrArg Bus.heads hx.bus) h]
      have hsame : (s.answeredAt h).linkAt h = { s.linkAt h with timeouts := 0 } :=
        getD_modify_same _ _ _ (by rw [hroomy.2.2.2]; omega)
      rw [hsame]
    have hxqueue : x.bus.queue = s.bus.queue := by rw [hx.bus]; rfl
    have hxheld : x.bus.held = s.bus.held := by rw [hx.bus]; rfl
    have hafter : x.workAfterOrder h o = if w.target = 0 then x.modWork h (fun w => { w with case := .resting })
        else x.caseMove h := by
      unfold State.workAfterOrder
      rw [hcmd, hxwork]
      exact if_pos hcase
    have hlifted : ∀ {y v more}, x.workAfterOrder h o = y → x.Moved h v o.becomes more y → lifted o.becomes v more :=
      fun hy m => by
        obtain ⟨h1, h2, h3, h4, h5, h6, h7, h8, h9, h10, h11, h12⟩ := State.LiftedTo.moved hx m
        exact ⟨_, hexec.trans (by rw [hy]), h1, h2, h3, h4, h5, h6, h7, h8, h9, h10, h11,
          fun j hne hj _ => h12 j (by omega)⟩
    refine ⟨fun ht => ?_, fun p ht ht12 hp hk hne hroom => ?_, fun ht hk ha hroom => ?_, fun ht hk hw hroom => ?_⟩
    · have m := State.modWork_moved hxin (fun w => { w with case := .resting })
      rw [hxwork, hx.state] at m
      exact hlifted (hafter.trans (if_pos ht)) m
    · obtain ⟨ahead, n, hreach, m⟩ := State.caseMoveFrom_moved hxin hp (by rw [hxwork]; exact ht12) (hxlost.trans hroom.1)
        (by rw [hxqueue]; have := hroom.2.1; omega) (hxheld.trans hroom.2.2)
      rw [hxwork] at hreach
      rw [hxwork, hx.state] at m
      exact ⟨ahead, n, hreach, hlifted (hafter.trans ((if_neg ht).trans (State.caseMove_of_known (by rw [hxwork]; exact hk)
        (by rw [hxwork]; exact hne)))) m⟩
    · have m := State.caseFailed_moved hxin (by rw [hxwork]; exact ha) (hxlost.trans hroom.1)
        (by rw [hxqueue]; exact hroom.2.1) (hxheld.trans hroom.2.2)
      rw [hxwork, hx.state] at m
      exact hlifted (hafter.trans ((if_neg ht).trans (State.caseMove_of_unknown (by rw [hxwork]; exact hk)))) m
    · have m := State.arrived_lowers hxin (hx.kind.trans hw) (hxlost.trans hroom.1)
        (by rw [hxqueue, hxheld]; exact hfree) (by rw [hxqueue]; have := hroom.2.1; omega) (hxheld.trans hroom.2.2)
      have hxpass : x.run.pass = s.run.pass := by rw [Run.of_bare hx.bare]; rfl
      rw [hxwork, hx.state, hxpass] at m
      exact hlifted (hafter.trans ((if_neg ht).trans (State.caseMove_of_there (by rw [hxwork]; exact hk)))) m
  · have hx : s.ReadAt h r (s.recordRead h r) := State.recordRead_at r hroomy hlow hhigh
    have hlast : w.seenIn r = seen := rfl
    have hgives : ∀ {v : HeadWork} {st : HeadState} {more : List BusWork},
        (∃ u, exec (.headAnswer h true r) s = .next u.finish ∧ s.Gives h r v st more u) →
        st = (if s.change.work = .alignAll ∧ w.case ≠ .arrived ∧ v.case = .arrived ∧ (s.headAt h).state = .resting then .idle
          else (s.headAt h).state) → gives v more := fun ⟨u, hu, g⟩ hst =>
      ⟨u, hu, hkept g.kept, g.work, g.queue, g.link, g.cause, g.state.trans hst⟩
    have hfaults : ∀ {kind : FaultKind} {p : HeadWork → Prop},
        (∃ u, exec (.headAnswer h true r) s = .next u.finish ∧ s.Faults h r kind p u) →
        ∃ u : State, run = .next u.finish ∧ kept u ∧ p (u.workAt h) ∧ u.bus.queue = s.bus.queue ∧
          (u.watchAt h).fault = some ⟨kind, .held⟩ ∧ (u.headAt h).state = (s.headAt h).state ∧
          u.run.cause = some (s.run.cause.getD .fault) ∧ u.link = s.link.post ⟨.headFault, h, s.cursor, kind.code⟩ :=
      fun ⟨u, hu, g⟩ => ⟨u, hu, hkept g.kept, g.work, g.queue, g.fault, g.state, g.cause, g.link⟩
    have hstay : ∀ {v : HeadWork}, (v.case = .arrived → w.case = .arrived) → (s.headAt h).state =
        if s.change.work = .alignAll ∧ w.case ≠ .arrived ∧ v.case = .arrived ∧ (s.headAt h).state = .resting then .idle
          else (s.headAt h).state := fun hv => (if_neg fun ⟨_, hne, harr, _⟩ => hne (hv harr)).symm
    have hquiet : ∀ {y : State}, (s.recordTaken h r).changeRecord h r (decide (t.kind = .command .poll)) = y →
        y = s.recordRead h r → gives seen [] := fun hy hyx => by
      have m := State.Moved.refl (s.recordRead h r) h
      rw [hx.work, hx.state] at m
      exact hgives (record_gives hroomy hlow hhigh hf hhead hr hk hp hb he (hy.trans hyx) m rfl) (hstay id)
    have harrives : w.case ≠ .arrived → (s.recordTaken h r).changeRecord h r (decide (t.kind = .command .poll)) =
        (s.recordRead h r).arrived h → arrives := fun hne hy => by
      refine ⟨fun hw => hgives (record_arrives hroomy hlow hhigh hf hhead hr hk hp hb he hw hy) ?_, fun hw hroom hno =>
        hgives (record_lowers hroomy hlow hhigh hf hhead hr hk hp hb he hw hroom.1 (by have := hroom.2.1; omega) hroom.2.2
          hno hy) (hstay CaseProgress.noConfusion)⟩
      unfold State.leftState
      by_cases hall : s.change.work = .alignAll ∧ (s.headAt h).state = .resting
      · rw [if_pos hall]
        exact (if_pos ⟨hall.1, hne, rfl, hall.2⟩).symm
      · rw [if_neg hall]
        exact (if_neg fun hyes => hall ⟨hyes.1, hyes.2.2.2⟩).symm
    have hfails : ∀ n, (s.recordTaken h r).changeRecord h r (decide (t.kind = .command .poll)) =
        ((s.recordRead h r).counted h n).caseFailed h → fails (w.caseAttempt + n) := fun n hy =>
      ⟨fun ha hroom => hgives (record_retries hroomy hlow hhigh hf hhead hr hk hp hb he n ha hroom.1 hroom.2.1 hroom.2.2
        hy) (hstay CaseProgress.noConfusion), fun ha hc hpass hpol hoff hnone =>
        hfaults (record_jams hroomy hlow hhigh hf hhead hr hk hp hb he n ha hc hpass hpol hoff hnone hy)⟩
    refine ⟨fun hnm hnc => ⟨fun hn => ?_, fun ht htimer => ?_⟩, fun hn hm => ⟨fun hnone => ?_, fun hsome => ?_⟩,
      fun hn hc => ⟨fun hother => ?_, fun hpoll hlater => ?_⟩⟩
    · have hy := State.trimRecord_of_none (x := s.recordRead h r) h r (by rw [hx.work]; exact hn)
      exact hquiet (State.changeRecord_trims r hy (by rw [hx.work]; exact hnc) (by rw [hx.work]; exact hnm)) rfl
    · have htrim := State.trimRecord_of_waiting (r := r) hroomy hlow hhigh ht htimer
      refine ⟨fun hdone => ?_, fun hfailed ha hroom => ?_, fun hfailed ha hc hpass hpol hoff hnone => ?_, fun hbusy => ?_⟩
      · have m := State.modWork_moved (x := s.recordRead h r) (h := h) (by rw [hx.roomy.2.2.1]; omega)
          (fun w => { w with trim := .done, trimTimer := false })
        rw [hx.work, hx.state] at m
        rw [hdone] at htrim
        exact hgives (record_trim hroomy hlow hhigh hf hhead hr hk hp hb he hnc hnm htrim m rfl) (hstay id)
      · have m := State.trimFailed_moved (x := s.recordRead h r) (h := h) (by rw [hx.roomy.2.2.1]; omega)
          (by rw [hx.work]; exact ha) (by rw [hx.lost]; exact hroom.1) (by rw [hx.queue]; exact hroom.2.1)
          (by rw [hx.held]; exact hroom.2.2)
        rw [hx.work, hx.state] at m
        rw [hfailed] at htrim
        exact hgives (record_trim hroomy hlow hhigh hf hhead hr hk hp hb he hnc hnm htrim m rfl) (hstay id)
      · rw [hfailed] at htrim
        exact hfaults (record_trimFault hroomy hlow hhigh hf hhead hr hk hp hb he hnc hnm ha hc hpass hpol hoff hnone htrim)
      · have hy : (s.recordRead h r).trimRecord h r = s.recordRead h r := by
          rcases hbusy with hbusy | hbusy <;> rw [hbusy] at htrim <;> exact htrim
        exact hquiet (State.changeRecord_trims r hy (by rw [hx.work]; exact hnc) (by rw [hx.work]; exact hnm)) rfl
    · have hy := State.changeRecord_moves (queued := decide (t.kind = .command .poll)) r (by rw [hx.work]; exact hn)
        (by rw [hx.work]; exact hm)
      refine hquiet hy (if_neg fun hyes => ?_)
      rw [hx.work] at hyes
      rw [show ({ s.workAt h with lastKnown := last } : HeadWork).caseTimer = none from hnone] at hyes
      cases hyes.2
    · have hy := State.changeRecord_moves (queued := decide (t.kind = .command .poll)) r (by rw [hx.work]; exact hn)
        (by rw [hx.work]; exact hm)
      have hcase := State.caseRecord_of_moving (x := s.recordRead h r) (h := h) r (by rw [hx.work]; exact hm)
        (by rw [hx.work]; exact Option.isSome_iff_ne_none.2 hsome)
      rw [hx.work] at hcase
      have hne : w.case ≠ .arrived := by
        rw [hm]
        exact CaseProgress.noConfusion
      refine ⟨fun hmov => ?_, fun hrest hpos => ?_, fun hbad => ?_⟩
      · rw [hmov] at hcase
        exact hquiet hy hcase
      · rw [hrest] at hcase
        exact harrives hne (hy.trans (hcase.trans (if_pos hpos)))
      · refine hfails 0 (hy.trans (Eq.trans ?_ (congrArg (State.caseFailed · h) (State.counted_zero _ h).symm)))
        rcases hbad with hjam | ⟨hrest, hpos⟩
        · rw [hjam] at hcase
          exact hcase
        · rw [hrest] at hcase
          exact hcase.trans (if_neg hpos)
    · have hq : (decide (t.kind = .command .poll) && !(s.recordRead h r).laterQueued h BusWork.isPoll) = false := by
        rcases hother with hround | hlat
        · rw [hround]
          rfl
        · obtain ⟨c, hcm, hch, hcp⟩ := hlat
          rw [(State.laterQueued_iff _ _ _).2 ⟨c, by rw [hx.queue, hx.held]; exact hcm, hch, (BusWork.isPoll_iff _).2 hcp⟩,
            Bool.not_true, Bool.and_false]
      exact hquiet (State.changeRecord_waits r (by rw [hx.work]; exact hn) (by rw [hx.work]; exact hc) hq) rfl
    · have hnot : (s.recordRead h r).laterQueued h BusWork.isPoll = false := Bool.eq_false_iff.2 fun hyes => by
        obtain ⟨c, hcm, hch, hcp⟩ := (State.laterQueued_iff _ _ _).1 hyes
        rw [hx.queue, hx.held] at hcm
        exact hlater ⟨c, hcm, hch, (BusWork.isPoll_iff _).1 hcp⟩
      have hy := State.changeRecord_clears (queued := decide (t.kind = .command .poll)) r (by rw [hx.work]; exact hn)
        (by rw [hx.work]; exact hc) (by rw [hnot, decide_eq_true hpoll]; rfl)
      have hne : w.case ≠ .arrived := by
        rw [hc]
        exact CaseProgress.noConfusion
      have hpos : (if r.casePos = 0 then ((s.recordRead h r).workAt h).lastKnown else some r.casePos) = last := by
        rw [hx.work]
        show (if r.casePos = 0 then (if r.casePos = 0 then w.lastKnown else some r.casePos) else some r.casePos) =
          if r.casePos = 0 then w.lastKnown else some r.casePos
        split <;> rfl
      have htarget : ((s.recordRead h r).workAt h).target = w.target := by rw [hx.work]
      refine ⟨fun hrest hl => ?_, fun p hrest hl hpne hp12 ht12 hroom => ?_, fun hbad => ?_⟩
      · refine harrives hne (hy.trans (State.clearedRecord_there hrest (hpos.trans hl) htarget.symm))
      · obtain ⟨ahead, n, hreach, hu⟩ := record_moves_again hroomy hlow hhigh hf hhead hr hk hp hb he hp12 ht12 hroom.1
          (by have := hroom.2.1; omega) hroom.2.2
          (hy.trans (State.clearedRecord_elsewhere hrest (hpos.trans hl) (by rw [htarget]; exact hpne)))
        exact ⟨ahead, n, hreach, hgives hu (hstay CaseProgress.noConfusion)⟩
      · exact hfails 1 (hy.trans (State.clearedRecord_fails (hbad.imp_right (hpos.trans ·))))
  · obtain ⟨u, hu, hk, hrest⟩ := answer_probe (r := r) hroomy hlow hhigh hf hhead hr hk hp hb he hn hm hc hpass hlost hfault
      hwarn hgaps
    exact ⟨u, hu, hkept hk, hrest⟩

end Sys2Proof.Machine

/-!
PROOF. The case step of a colour change (R124, R125; O60).
-/

namespace Sys2Proof.Machine
set_option Elab.async false

/-- A command that is no order removes nothing from the queue or the held-back list (R104). -/
theorem State.sent_issue_plain {u : State} {c d : BusCommand} (ho : c.work.order? = none) (hd : u.sent d) :
    (u.issue c).sent d := by
  by_cases hl : (u.linkAt c.head).lost = true
  · have hbus : (u.issue c).bus = u.bus := by
      unfold State.issue
      rw [if_pos hl]
      exact (u.notDelivered_keeps c).2.2.2.2.1
    unfold State.sent
    rw [hbus]
    exact hd
  · unfold State.sent at hd ⊢
    rw [State.issue_of_delivered (Bool.eq_false_iff.2 hl), State.setBus_bus, if_neg (by rw [ho]; simp)]
    rw [List.mem_append] at hd ⊢
    split
    · exact hd.imp_left (List.mem_append_left _)
    · exact hd.imp_right (List.mem_append_left _)

theorem State.issue_casing (u : State) (c : BusCommand) : (u.issue c).change.casing = u.change.casing := by
  by_cases hl : (u.linkAt c.head).lost = true
  · unfold State.issue
    rw [if_pos hl]
    unfold State.notDelivered State.handOver
    dsimp only
    split_ifs <;> rfl
  · rw [State.issue_change (Bool.eq_false_iff.2 hl)]

theorem State.issue_headsLength (u : State) (c : BusCommand) :
    (u.issue c).run.heads.length = u.run.heads.length := by
  by_cases hl : (u.linkAt c.head).lost = true
  · unfold State.issue
    rw [if_pos hl]
    unfold State.notDelivered State.handOver
    dsimp only
    split_ifs <;> simp [State.modHead, State.modWork]
  · rw [State.issue_of_delivered (Bool.eq_false_iff.2 hl), State.setBus_run]
    unfold State.engageNoted
    split <;> simp [State.modHead]

theorem State.WorkedOn.headsLength {u t : State} {x : Nat} (w : u.WorkedOn x t) :
    t.run.heads.length = u.run.heads.length := by
  obtain ⟨g, cs, -, -, rfl⟩ := w.form
  exact List.foldlRecOn (motive := fun v => v.run.heads.length = u.run.heads.length) cs State.issue
    (show (u.modWork x g).run.heads.length = u.run.heads.length from rfl)
    fun v hv c _ => (v.issue_headsLength c).trans hv

theorem State.WorkedOn.casing {u t : State} {x : Nat} (w : u.WorkedOn x t) : t.change.casing = u.change.casing := by
  obtain ⟨g, cs, -, -, rfl⟩ := w.form
  exact List.foldlRecOn (motive := fun v => v.change.casing = u.change.casing) cs State.issue
    (show (u.modWork x g).change.casing = u.change.casing from rfl) fun v hv c _ => (v.issue_casing c).trans hv

theorem State.modHead_id (u : State) (x : Nat) : u.modHead x id = u := by
  unfold State.modHead
  rw [List.modify_id]
  rfl

/-! ## One participant (R125) -/

theorem State.progress_workedOn {u : State} {x : Nat} (c : CaseProgress) :
    u.WorkedOn x (u.modWork x (fun w => { w with case := c })) :=
  ⟨fun w => { w with case := c }, [], fun _ => rfl, by simp, rfl⟩

theorem State.ordered_workedOn {u : State} {x : Nat} (c : CaseProgress) (o : EngageOrder) :
    u.WorkedOn x ((u.modWork x (fun w => { w with case := c })).issue ⟨x, .engage o⟩) :=
  ⟨fun w => { w with case := c }, [⟨x, .engage o⟩], fun _ => rfl, by simp, rfl⟩

/-- A participant's step changes its own items and sends its own commands. -/
theorem State.caseStepHead_workedOn {u : State} {x : Nat} (ha : (u.workAt x).caseAttempt < 3) :
    ∃ e, (u.modHead x e).WorkedOn x (u.caseStepHead x) := by
  unfold State.caseStepHead
  dsimp only
  split
  · exact ⟨id, by rw [u.modHead_id x]; exact State.progress_workedOn .handedOver⟩
  split
  · split
    · exact ⟨id, by rw [u.modHead_id x]; exact State.ordered_workedOn .lifting _⟩
    next he =>
      rw [State.setHeadState_of_lifted (Bool.eq_false_iff.2 he)]
      exact ⟨_, State.progress_workedOn .resting⟩
  split
  · split
    · exact ⟨id, by rw [u.modHead_id x]; exact State.progress_workedOn .arrived⟩
    · exact ⟨id, by rw [u.modHead_id x]; exact State.ordered_workedOn .lowering _⟩
  next hne => exact ⟨id, by rw [u.modHead_id x]; exact State.liftThenMove_workedOn ha hne⟩

section Row

variable {u : State} {h : Nat}

theorem State.caseStepHead_out (ho : (u.workAt h).trim = .handedOver ∨ (u.workAt h).case = .handedOver) :
    u.caseStepHead h = u.modWork h (fun w => { w with case := .handedOver }) := if_pos ho

variable (hin : h - 1 < u.change.heads.length) (hl : (u.linkAt h).lost = false)
include hin hl

/-- The head's work changed and a command sent for it. -/
theorem State.worked_sent (g : HeadWork → HeadWork) (k : BusWork) :
    (((u.modWork h g).issue ⟨h, k⟩).headAt h).state = (u.headAt h).state ∧
    ((u.modWork h g).issue ⟨h, k⟩).workAt h = g (u.workAt h) ∧ ((u.modWork h g).issue ⟨h, k⟩).sent ⟨h, k⟩ := by
  have hd : ((u.modWork h g).linkAt (⟨h, k⟩ : BusCommand).head).lost = false := hl
  refine ⟨(State.issue_entry (s := u.modWork h g) (c := ⟨h, k⟩) h).1, ?_, State.sent_issue_same hd⟩
  unfold State.workAt
  rw [State.issue_change hd]
  exact State.workAt_modWork_same u g hin

variable (ho : ¬ ((u.workAt h).trim = .handedOver ∨ (u.workAt h).case = .handedOver))
include ho

/-- What a participant that is not handed over is given (R125's table). -/
theorem State.caseStepHead_row (ha : (u.workAt h).caseAttempt < 3) :
    let w := u.workAt h
    let t := u.caseStepHead h
    let stays := (t.headAt h).state = (u.headAt h).state
    (w.target = 0 → u.engagedHead h = true → stays ∧ t.workAt h = { w with case := .lifting } ∧
      t.sent ⟨h, .engage ⟨.lift, .resting, false, false⟩⟩) ∧
    (w.target = 0 → u.engagedHead h = false → h - 1 < u.run.heads.length →
      (t.headAt h).state = .resting ∧ t.workAt h = { w with case := .resting }) ∧
    (w.target ≠ 0 → w.lastKnown = some w.target → u.engagedHead h = true →
      t.headAt h = u.headAt h ∧ t.workAt h = { w with case := .arrived }) ∧
    (w.target ≠ 0 → w.lastKnown = some w.target → u.engagedHead h = false → stays ∧
      t.workAt h = { w with case := .lowering } ∧ t.sent ⟨h, .engage ⟨.lower, u.sewingState, false, false⟩⟩) ∧
    (w.target ≠ 0 → w.lastKnown ≠ some w.target → u.engagedHead h = true → stays ∧
      t.workAt h = { w with case := .lifting } ∧ t.sent ⟨h, .engage ⟨.lift, .idle, false, false⟩⟩) ∧
    (∀ p, w.target ≠ 0 → w.target ≤ 12 → p ≤ 12 → w.lastKnown = some p → p ≠ w.target →
      u.engagedHead h = false → stays ∧ ∃ ahead n,
        t.workAt h = { w with case := .moving, ahead := ahead, distance := n, caseTimer := none } ∧
        t.sent ⟨h, .caseMove ahead n⟩ ∧
        (w.target : Int) % 12 = ((p : Int) + (if ahead then (n : Int) else -n)) % 12) ∧
    (w.target ≠ 0 → w.lastKnown = none → u.engagedHead h = false → stays ∧
      t.workAt h = { w with case := .clearing, caseTimer := none } ∧ t.sent ⟨h, .clear⟩ ∧ t.sent ⟨h, .poll⟩) := by
  intro w t stays
  have hzero : w.target = 0 → t = if u.engagedHead h then
      (u.modWork h (fun w => { w with case := .lifting })).issueLift h .resting false
      else (u.setHeadState h .resting).modWork h (fun w => { w with case := .resting }) := fun h0 =>
    (if_neg ho).trans (if_pos h0)
  have hthere : w.target ≠ 0 → w.lastKnown = some w.target → t = if u.engagedHead h then
      u.modWork h (fun w => { w with case := .arrived })
      else (u.modWork h (fun w => { w with case := .lowering })).issueLower h u.sewingState false false := fun h0 hk =>
    (if_neg ho).trans ((if_neg h0).trans (if_pos hk))
  have haway : w.target ≠ 0 → w.lastKnown ≠ some w.target → t = if u.engagedHead h then
      (u.modWork h (fun w => { w with case := .lifting })).issueLift h .idle false else u.caseMove h := fun h0 hk =>
    (if_neg ho).trans ((if_neg h0).trans (if_neg hk))
  refine ⟨fun h0 he => ?_, fun h0 he hrun => ?_, fun h0 hk he => ?_, fun h0 hk he => ?_, fun h0 hk he => ?_,
    fun p h0 h12 hp hk hne he => ?_, fun h0 hk he => ?_⟩
  · have ht := (hzero h0).trans (if_pos he)
    have hs := State.worked_sent hin hl (fun w => { w with case := .lifting }) (.engage ⟨.lift, .resting, false, false⟩)
    clear_value t
    subst ht
    exact hs
  · have ht := (hzero h0).trans (if_neg (ne_true_of_eq_false he))
    rw [State.setHeadState_of_lifted he] at ht
    have hwork := State.workAt_modWork_same (u.modHead h (fun e => { e with state := .resting }))
      (fun w => { w with case := .resting }) hin
    have hhead : (u.modHead h (fun e => { e with state := .resting })).headAt h = { u.headAt h with state := .resting } :=
      getD_modify_same _ _ _ hrun
    clear_value t
    subst ht
    exact ⟨congrArg HeadEntry.state hhead, hwork⟩
  · have ht := (hthere h0 hk).trans (if_pos he)
    have hwork := State.workAt_modWork_same u (fun w => { w with case := .arrived }) hin
    clear_value t
    subst ht
    exact ⟨rfl, hwork⟩
  · have ht := (hthere h0 hk).trans (if_neg (ne_true_of_eq_false he))
    have hs := State.worked_sent hin hl (fun w => { w with case := .lowering })
      (.engage ⟨.lower, u.sewingState, false, false⟩)
    clear_value t
    subst ht
    exact hs
  · have ht := (haway h0 hk).trans (if_pos he)
    have hs := State.worked_sent hin hl (fun w => { w with case := .lifting }) (.engage ⟨.lift, .idle, false, false⟩)
    clear_value t
    subst ht
    exact hs
  · have ht := ((haway h0 (by rw [hk]; exact fun heq => hne (Option.some.inj heq))).trans
      (if_neg (ne_true_of_eq_false he))).trans (State.caseMove_of_known hk hne)
    obtain ⟨h1, h2, h3⟩ := State.worked_sent hin hl (fun w => { w with
      case := .moving, ahead := (ringMove p (u.workAt h).target).1, distance := (ringMove p (u.workAt h).target).2
      caseTimer := none }) (.caseMove (ringMove p (u.workAt h).target).1 (ringMove p (u.workAt h).target).2)
    clear_value t
    subst ht
    exact ⟨h1, _, _, h2, h3, ringMove_reaches hp h12⟩
  · have hfailed : u.caseFailed h = ((u.modWork h (fun w => { w with case := .clearing, caseTimer := none })).issue
        ⟨h, .clear⟩).issue ⟨h, .poll⟩ := if_pos ha
    have ht := (((haway h0 (by rw [hk]; exact fun heq => by cases heq)).trans
      (if_neg (ne_true_of_eq_false he))).trans (State.caseMove_of_unknown hk)).trans hfailed
    obtain ⟨h1, h2, h3⟩ := State.worked_sent hin hl (fun w => { w with case := .clearing, caseTimer := none }) .clear
    let v := (u.modWork h (fun w => { w with case := .clearing, caseTimer := none })).issue ⟨h, .clear⟩
    have hd : (v.linkAt (⟨h, .poll⟩ : BusCommand).head).lost = false := by
      rw [State.linkAt_congr (State.issue_busHeads _ _)]
      exact hl
    have hwork : (v.issue ⟨h, .poll⟩).workAt h = v.workAt h :=
      State.workAt_congr (congrArg ThreadChange.heads (State.issue_change (s := v) (c := ⟨h, .poll⟩) hd)) h
    clear_value t
    subst ht
    exact ⟨(State.issue_entry (s := v) (c := ⟨h, .poll⟩) h).1.trans h1, hwork.trans h2,
      State.sent_issue_plain rfl h3, State.sent_issue_same hd⟩

end Row

/-! ## The case step -/

/-- The case step of a colour change begun, no participant in it yet (R124). -/
def State.casingNow (s : State) : State := s.setChange { s.change with casing := true }

/-- The participants in their turn. -/
def State.caseStepOne (s : State) (u : State) (x : Nat) : State := if (s.workAt x).part then u.caseStepHead x else u

theorem State.beginCaseStep_eq (s : State) : s.beginCaseStep = headNumbers.foldl s.caseStepOne s.casingNow := by
  have hfold : s.beginCaseStep = (headNumbers.filter (fun h => (s.workAt h).part)).foldl State.caseStepHead s.casingNow :=
    rfl
  rw [hfold, foldl_filter_heads]
  rfl

/-- The machine around the participants, and every head's plan, in the case step. -/
structure State.CasingFrom (s u : State) : Prop where
  around : s.casingNow.SameAround u
  kind : u.change.work = s.change.work
  casing : u.change.casing = true
  length : u.run.heads.length = s.run.heads.length
  plan : ∀ k, (u.workAt k).plan = (s.workAt k).plan

section CaseStep

variable {s : State} (hshort : ∀ h ∈ headNumbers, (s.workAt h).part = true → (s.workAt h).caseAttempt < 3)
include hshort

theorem State.CasingFrom.workedOn {u : State} (p : s.CasingFrom u) {x : Nat} (h1 : 1 ≤ x) (h8 : x ≤ 8)
    (hp : (s.workAt x).part = true) : ∃ e, (u.modHead x e).WorkedOn x (u.caseStepHead x) := by
  have hplan := congrArg (fun q : Bool × Nat × Nat × Option Nat => q.2.2.1) (p.plan x)
  refine State.caseStepHead_workedOn ?_
  rw [show (u.workAt x).caseAttempt = (s.workAt x).caseAttempt from hplan]
  exact hshort x ((mem_headNumbers x).2 ⟨h1, h8⟩) hp

theorem State.CasingFrom.step {u : State} (p : s.CasingFrom u) {x : Nat} (h1 : 1 ≤ x) (h8 : x ≤ 8) :
    s.CasingFrom (s.caseStepOne u x) := by
  unfold State.caseStepOne
  split
  next hp =>
    obtain ⟨e, w⟩ := p.workedOn hshort h1 h8 hp
    exact ⟨w.around (p.around.modHead x e), w.workKind.trans p.kind, w.casing.trans p.casing,
      w.headsLength.trans ((List.length_modify ..).trans p.length),
      fun k => (w.plan k).trans (p.plan k)⟩
  · exact p

/-- The step of a participant, seen from another head. -/
theorem State.CasingFrom.aside {u : State} (p : s.CasingFrom u) {x h : Nat} (h1 : 1 ≤ x) (h8 : x ≤ 8) (hlow : 1 ≤ h)
    (hne : x ≠ h) : u.Aside (s.caseStepOne u x) h := by
  unfold State.caseStepOne
  split
  next hp =>
    obtain ⟨e, w⟩ := p.workedOn hshort h1 h8 hp
    exact ((State.Aside.refl u h).modHead e h1 hlow hne).trans (w.aside h1 hlow hne)
  · exact .refl u h

theorem State.beginCaseStep_from : s.CasingFrom s.beginCaseStep := by
  rw [State.beginCaseStep_eq]
  exact foldl_heads_keeps (P := s.CasingFrom) (fun _ _ h1 h8 p => p.step hshort h1 h8) s.casingNow
    ⟨⟨rfl, rfl, rfl, rfl, rfl, rfl, rfl, rfl, rfl, rfl, rfl⟩, rfl, rfl, rfl, fun _ => rfl⟩

/-- What the case step shows of one head: its own step, made on its items as they were. -/
theorem State.beginCaseStep_seen {h : Nat} (hlow : 1 ≤ h) (hhigh : h ≤ 8) : ∃ u, s.CasingFrom u ∧ s.SameHead u h ∧
    (s.caseStepOne u h).Aside s.beginCaseStep h := by
  rw [State.beginCaseStep_eq]
  obtain ⟨u, p, hsame, hseen⟩ := foldl_heads_seen (P := s.CasingFrom) hlow hhigh
    (fun _ _ h1 h8 p => p.step hshort h1 h8) (fun _ _ p h1 h8 hne => p.aside hshort h1 h8 hlow hne) s.casingNow
    ⟨⟨rfl, rfl, rfl, rfl, rfl, rfl, rfl, rfl, rfl, rfl, rfl⟩, rfl, rfl, rfl, fun _ => rfl⟩
  exact ⟨u, p, (show s.SameHead s.casingNow h from ⟨rfl, rfl, rfl, rfl⟩).trans hsame, hseen⟩

end CaseStep

theorem case_step_begins : ∀ s : State, s.frame.travel = none → s.frame.homing = none → s.shapesRight = true → s.run.activity = .changing →
    s.change.work = .colourChange → s.change.casing = false →
    let trimming := ∃ h ∈ headNumbers, (s.workAt h).trim = .waiting
    let sews : HeadState := if s.run.pass = .patch then .patch else .sewing
    (trimming → s.advance = none) ∧
    (¬ trimming → (∀ h ∈ headNumbers, (s.workAt h).part = true → (s.workAt h).caseAttempt < 3) →
      ∃ u, s.advance = some u ∧ u.change.casing = true ∧ u.change.work = .colourChange ∧
        u.run = { s.run with heads := u.run.heads } ∧ u.link = s.link ∧ u.frame = s.frame ∧ u.shaft = s.shaft ∧
        u.gaps = s.gaps ∧ u.store = s.store ∧ u.gov = s.gov ∧ u.monitor = s.monitor ∧ u.cfg = s.cfg ∧
        ∀ h, 1 ≤ h → h ≤ 8 →
          let w := s.workAt h
          let v := u.workAt h
          let out := w.trim = .handedOver ∨ w.case = .handedOver
          let sent := fun (k : BusWork) => (⟨h, k⟩ : BusCommand) ∈ u.bus.queue ++ u.bus.held
          let stays := (u.headAt h).state = (s.headAt h).state
          (w.part = false → v = w ∧ u.headAt h = s.headAt h) ∧
          (w.part = true → out → v = { w with case := .handedOver } ∧ u.headAt h = s.headAt h) ∧
          (w.part = true → ¬ out → (s.linkAt h).lost = false →
            (w.target = 0 → s.engagedHead h = true → stays ∧ v = { w with case := .lifting } ∧
              sent (.engage ⟨.lift, .resting, false, false⟩)) ∧
            (w.target = 0 → s.engagedHead h = false →
              (u.headAt h).state = .resting ∧ v = { w with case := .resting }) ∧
            (w.target ≠ 0 → w.lastKnown = some w.target → s.engagedHead h = true →
              u.headAt h = s.headAt h ∧ v = { w with case := .arrived }) ∧
            (w.target ≠ 0 → w.lastKnown = some w.target → s.engagedHead h = false → stays ∧
              v = { w with case := .lowering } ∧ sent (.engage ⟨.lower, sews, false, false⟩)) ∧
            (w.target ≠ 0 → w.lastKnown ≠ some w.target → s.engagedHead h = true → stays ∧
              v = { w with case := .lifting } ∧ sent (.engage ⟨.lift, .idle, false, false⟩)) ∧
            (∀ p, w.target ≠ 0 → w.target ≤ 12 → p ≤ 12 → w.lastKnown = some p → p ≠ w.target →
              s.engagedHead h = false → stays ∧ ∃ ahead n,
                v = { w with case := .moving, ahead := ahead, distance := n, caseTimer := none } ∧
                sent (.caseMove ahead n) ∧
                (w.target : Int) % 12 = ((p : Int) + (if ahead then (n : Int) else -n)) % 12) ∧
            (w.target ≠ 0 → w.lastKnown = none → s.engagedHead h = false → stays ∧
              v = { w with case := .clearing, caseTimer := none } ∧ sent .clear ∧ sent .poll))) := by
  intro s ht hh hshapes hact hwork hcasing trimming sews
  have hroomy : s.roomy := State.roomy_of_shapes hshapes
  have hadv : s.advance = if s.trimOver then some s.beginCaseStep else none := by
    rw [State.advance_of_still ht hh]
    unfold State.advanceActivity
    rw [hact]
    dsimp only
    rw [hwork]
    exact if_neg (ne_true_of_eq_false hcasing)
  refine ⟨fun ⟨j, hj, hw⟩ => hadv.trans (if_neg fun hover => s.trimOver_iff.1 hover j hj hw), fun hnot hshort => ?_⟩
  have hover : s.trimOver = true := s.trimOver_iff.2 fun j hj hw => hnot ⟨j, hj, hw⟩
  have hfrom := State.beginCaseStep_from hshort
  refine ⟨s.beginCaseStep, hadv.trans (if_pos hover), hfrom.casing, hfrom.kind.trans hwork,
    Run.of_bare hfrom.around.bare, hfrom.around.link, hfrom.around.frame, hfrom.around.shaft, hfrom.around.gaps,
    hfrom.around.store, hfrom.around.gov, hfrom.around.monitor, hfrom.around.cfg, fun h hlow hhigh => ?_⟩
  intro w v out sent stays
  obtain ⟨u, p, hsame, hseen⟩ := State.beginCaseStep_seen hshort hlow hhigh
  have huwork : u.workAt h = w := hsame.work
  have hpart : w.part = true → s.caseStepOne u h = u.caseStepHead h := fun hp => if_pos hp
  have hv : v = (s.caseStepOne u h).workAt h := hseen.items.work
  have hhead : s.beginCaseStep.headAt h = (s.caseStepOne u h).headAt h := hseen.items.head
  have hin : w.part = true → h - 1 < u.change.heads.length := fun hp => work_in (by rw [huwork]; exact hp)
  have hengaged : u.engagedHead h = s.engagedHead h := State.engagedHead_congr hsame.head
  have huout : w.part = true → ¬ out → ¬ ((u.workAt h).trim = .handedOver ∨ (u.workAt h).case = .handedOver) :=
    fun _ hno => by rw [huwork]; exact hno
  have hrun : h - 1 < u.run.heads.length := by
    rw [p.length, hroomy.1]
    omega
  have hsews : u.sewingState = sews := by
    unfold State.sewingState
    rw [p.around.pass]
    rfl
  refine ⟨fun hp => ?_, fun hp ho => ?_, fun hp ho hl => ?_⟩
  · have hnone : s.caseStepOne u h = u := if_neg (ne_true_of_eq_false hp)
    rw [hv, hhead, hnone]
    exact ⟨hsame.work, hsame.head⟩
  · rw [hv, hhead, hpart hp, State.caseStepHead_out (by rw [huwork]; exact ho)]
    exact ⟨(State.workAt_modWork_same u _ (hin hp)).trans (by rw [huwork]), hsame.head⟩
  · have hul : (u.linkAt h).lost = false := by
      rw [hsame.link]
      exact hl
    obtain ⟨r1, r2, r3, r4, r5, r6, r7⟩ := State.caseStepHead_row (hin hp) hul (huout hp ho)
      (by rw [huwork]; exact hshort h ((mem_headNumbers h).2 ⟨hlow, hhigh⟩) hp)
    rw [← hpart hp, ← hhead, ← hv, huwork, hengaged] at r1 r2 r3 r4 r5 r6 r7
    rw [hsame.head] at r1 r3 r4 r5 r6 r7
    have hsent : ∀ k, (s.caseStepOne u h).sent ⟨h, k⟩ → sent k := fun k => hseen.commands ⟨h, k⟩ rfl
    refine ⟨fun h0 he => ?_, fun h0 he => r2 h0 he hrun, r3, fun h0 hk he => ?_, fun h0 hk he => ?_,
      fun q h0 h12 hq hk hne he => ?_, fun h0 hk he => ?_⟩
    · obtain ⟨a, b, c⟩ := r1 h0 he
      exact ⟨a, b, hsent _ c⟩
    · obtain ⟨a, b, c⟩ := r4 h0 hk he
      rw [hsews] at c
      exact ⟨a, b, hsent _ c⟩
    · obtain ⟨a, b, c⟩ := r5 h0 hk he
      exact ⟨a, b, hsent _ c⟩
    · obtain ⟨a, ahead, n, b, c, d⟩ := r6 q h0 h12 hq hk hne he
      exact ⟨a, ahead, n, b, hsent _ c, d⟩
    · obtain ⟨a, b, c, d⟩ := r7 h0 hk he
      exact ⟨a, b, hsent _ c, hsent _ d⟩

/-- Settles O60: what a poll or an acknowledgement does to one head's work, and the case step folded over the participants. -/
theorem caseMovesAndTrimsFollowTheAnswers : Obligations.CaseMovesAndTrimsFollowTheAnswers :=
  ⟨case_moves, answers_follow, case_step_begins⟩

end Sys2Proof.Machine

/-!
PROOF. The end of a change (sections 1.3, 7.3, 7.5; O57): the cursor passes the record, and the run goes on.
-/

namespace Sys2Proof.Machine
set_option Elab.async false

/-! ## The map written, the work at an end (R116) -/

/-- The Thread Change Unit with no work, the last known positions kept. -/
def ThreadChange.idle (c : ThreadChange) : ThreadChange :=
  { c with work := .none, casing := false, heads := c.heads.map (fun w => HeadWork.cleared w.lastKnown) }

theorem State.clearWork_eq (s : State) : s.clearWork = s.setChange s.change.idle := rfl

theorem ThreadChange.apply_idle (c : ThreadChange) (p : PendingNeedle → Bool) : c.idle.apply p = (c.apply p).idle := by
  have hmap : (c.idle.apply p).map = (c.apply p).map := ThreadChange.writes_map (c.waiting.filter p) c.idle c rfl
  have hwaiting : (c.idle.apply p).waiting = (c.apply p).waiting := rfl
  rw [c.idle.apply_keeps p, hmap, hwaiting, c.apply_keeps p]
  rfl

/-! ## The cursor passes the record of a change (R10) -/

/-- The run after a change: the cursor past the record, the segment start after it, the tie-in count loaded. -/
def State.runChanged (s : State) : Run := { s.run with
  mainCursor := if s.run.pass = .patch then s.run.mainCursor else s.run.mainCursor + 1
  patchCursor := if s.run.pass = .patch then some (s.cursor + 1) else s.run.patchCursor
  segmentStart := if s.run.pass = .patch then s.run.segmentStart else s.run.mainCursor + 1
  tieIn := s.cfg.speeds.tieIn, activity := .none }

/-- What the end of a change leaves, the cursor past the record. -/
structure State.Changed (s : State) (l : Link) (c : ThreadChange) (t : State) : Prop where
  run : t.run = s.runChanged
  monitor : t.monitor = { s.monitor with heads := s.monitor.heads.map (fun w => { w with armed := false }) }
  link : t.link.SameButGrant l
  change : t.change = c
  frame : t.frame = s.frame
  shaft : t.shaft = s.shaft
  bus : t.bus = s.bus
  gaps : t.gaps = s.gaps
  gov : t.gov = s.gov
  cfg : t.cfg = s.cfg
  filledEnd : t.store.filledEnd = s.store.filledEnd

theorem State.passChange_changed {s v : State} (hrun : v.run = s.run) (hmonitor : v.monitor = s.monitor)
    (hframe : v.frame = s.frame) (hshaft : v.shaft = s.shaft) (hbus : v.bus = s.bus) (hgaps : v.gaps = s.gaps)
    (hgov : v.gov = s.gov) (hcfg : v.cfg = s.cfg) (hend : v.store.filledEnd = s.store.filledEnd) :
    s.Changed v.link v.change v.passChange := by
  have a := v.advanceCursor_passed
  generalize hu : v.advanceCursor = u at a
  let seg := if u.run.pass = .main then u.setRun { u.run with segmentStart := u.run.mainCursor } else u
  have hpass : v.passChange = (seg.doing .none).loadTieIn := by
    unfold State.passChange
    rw [hu]
  have hseg : seg = u.setRun { u.run with
      segmentStart := if u.run.pass = .patch then u.run.segmentStart else u.run.mainCursor } := by
    show (if u.run.pass = .main then _ else u) = _
    cases hp : u.run.pass with
    | main => rfl
    | patch => rfl
  have hcursor : v.cursor = s.cursor := by
    unfold State.cursor
    rw [hrun]
  rw [hpass, hseg]
  refine ⟨?_, ?_, a.link, a.change, a.frame.trans hframe, a.shaft.trans hshaft, a.bus.trans hbus, a.gaps.trans hgaps,
    a.gov.trans hgov, a.cfg.trans hcfg, a.filledEnd.trans hend⟩
  · show ({ u.run with
      segmentStart := if u.run.pass = .patch then u.run.segmentStart else u.run.mainCursor
      activity := .none, tieIn := u.cfg.speeds.tieIn } : Run) = s.runChanged
    rw [a.run, a.cfg, hcfg]
    unfold State.runPast State.runChanged
    rw [hcursor, hrun]
    cases hp : s.run.pass with
    | main => simp [hp]
    | patch => simp [hp]
  · show ({ u.monitor with heads := u.monitor.heads.map (fun w => { w with armed := false }) } : Monitor) = _
    rw [a.monitor, hmonitor]

/-! ## The run goes on (R10, R126, R144) -/

theorem State.patchOver_of_goesOn {t : State} (hgo : t.passGoesOn = true) : t.patchOver = false := by
  unfold State.passGoesOn at hgo
  unfold State.patchOver
  cases hp : t.run.pass with
  | main => rfl
  | patch =>
    rw [hp] at hgo
    rw [show t.patchLeft = true from hgo]
    rfl

theorem State.afterChange_none {t : State} (hgo : t.passGoesOn = true) (hc : t.run.cause = none) (colour : Bool)
    (hhead : colour = false ∨ t.anyEngaged = true) : t.afterChange colour = t.aboutToRun .running := by
  have hover : t.patchOver = false := State.patchOver_of_goesOn hgo
  have hnone : (colour && !t.anyEngaged) = false := by
    rcases hhead with hhead | hhead <;> rw [hhead]
    · rfl
    · exact Bool.and_false _
  unfold State.afterChange
  rw [hc, hover, hnone]
  rfl

section Goes

variable {s t : State} {l : Link} {c : ThreadChange} (h : s.Changed l c t)
include h

theorem State.Changed.goesOn (hgo : s.passGoesOn = true) : t.passGoesOn = true := by
  unfold State.passGoesOn State.patchLeft at hgo ⊢
  rw [h.run, h.gaps]
  exact hgo

theorem State.Changed.joining (j : Nat) : (t.watchAt j).joining = (s.watchAt j).joining := by
  unfold State.watchAt
  rw [h.monitor]
  simp only [List.getD_eq_getElem?_getD, List.getElem?_map]
  cases s.monitor.heads[j - 1]? <;> rfl

theorem State.Changed.waiting : t.waitingHeads = headNumbers.filter (fun j => (s.watchAt j).joining) :=
  List.filter_congr fun j _ => h.joining j

theorem State.Changed.joinsWaiting : t.joinsWaiting = s.joinsWaiting := by
  unfold State.joinsWaiting
  exact List.any_congr rfl fun j => h.joining j

theorem State.Changed.cursor : t.cursor = s.cursor + 1 := by
  unfold State.cursor
  rw [h.run]
  unfold State.runChanged
  cases hp : s.run.pass with
  | main => simp
  | patch => simp [State.cursor, hp]

/-- With no cause recorded the run becomes RUNNING. -/
theorem State.Changed.runs (hgo : s.passGoesOn = true) (hc : s.run.cause = none)
    (hj : s.run.pass = .patch ∨ s.joinsWaiting = false) (colour : Bool) (hhead : colour = false ∨ t.anyEngaged = true) :
    t.afterChange colour = (t.enter .running).doing .none := by
  rw [State.afterChange_none (h.goesOn hgo) (by rw [h.run]; exact hc) colour hhead]
  have hnot : ¬ (t.run.pass = .main ∧ t.joinsWaiting = true) := by
    rw [h.joinsWaiting, h.run]
    rintro ⟨hp, hw⟩
    rcases hj with hj | hj
    · rw [show s.run.pass = .main from hp] at hj
      cases hj
    · rw [hj] at hw
      cases hw
  exact (if_neg hnot).trans (if_neg (by rw [h.run, show s.runChanged.cause = none from hc]; simp))

/-- With heads that wait to join, they join first (R144). -/
theorem State.Changed.joins (hgo : s.passGoesOn = true) (hc : s.run.cause = none) (hp : s.run.pass = .main)
    (hj : s.joinsWaiting = true) (colour : Bool) (hhead : colour = false ∨ t.anyEngaged = true) :
    t.afterChange colour = (t.enter .changing).doing (.joining t.waitingHeads .pick .running) := by
  rw [State.afterChange_none (h.goesOn hgo) (by rw [h.run]; exact hc) colour hhead]
  exact if_pos ⟨by rw [h.run]; exact hp, h.joinsWaiting.trans hj⟩

/-- With a cause recorded the run becomes PAUSED. -/
theorem State.Changed.pauses (hgo : s.passGoesOn = true) {k : StopCause} (hc : s.run.cause = some k)
    (hj : s.joinsWaiting = false) (colour : Bool) : t.afterChange colour =
      (t.setRun { t.run.ended with state := .paused }).setLink (t.link.post ⟨.stopped, 0, s.cursor + 1, k.code⟩) := by
  have hcause : t.run.cause = some k := by
    rw [h.run]
    exact hc
  have hsome : t.run.cause.isSome = true := by
    rw [hcause]
    rfl
  refine (if_pos hsome).trans ?_
  rw [State.toPaused_eq (h.joinsWaiting.trans hj) (h.goesOn hgo), h.cursor, hcause]
  rfl

/-- A colour change that has left no head engaged pauses the run (R126). -/
theorem State.Changed.stranded (hgo : s.passGoesOn = true) (hc : s.run.cause = none) (hj : s.joinsWaiting = false)
    (hnone : t.anyEngaged = false) : t.afterChange true =
      (t.setRun { t.run.ended with state := .paused, cause := some .noHead }).setLink
        (t.link.post ⟨.stopped, 0, s.cursor + 1, StopCause.noHead.code⟩) := by
  have hcause : t.run.cause = none := by
    rw [h.run]
    exact hc
  have hafter : t.afterChange true = t.pauseFor .noHead := by
    have hover : t.patchOver = false := State.patchOver_of_goesOn (h.goesOn hgo)
    exact (if_neg (by rw [hcause]; exact Bool.false_ne_true)).trans ((if_neg (ne_true_of_eq_false hover)).trans
      (if_pos (by rw [hnone]; rfl)))
  rw [hafter, State.pauseFor_eq .noHead (h.joinsWaiting.trans hj) (h.goesOn hgo), h.cursor, hcause, Option.getD_none]

end Goes

/-! ## The steps due (R14, R117, R126) -/

theorem State.colourDone_changed (s : State) : s.Changed (s.link.post ⟨.colourDone, 0, s.cursor, s.change.newSlot⟩)
    (s.change.apply (fun p => p.slot != s.change.newSlot)).idle s.colourDone := by
  let v := ((s.post .colourDone 0 s.change.newSlot).clearWork).setChange
    ((s.change.apply (fun p => p.slot != s.change.newSlot)).idle)
  have hv : s.colourDone = v.passChange := by
    show State.passChange (((s.post .colourDone 0 s.change.newSlot).clearWork).setChange
      (s.change.idle.apply (fun p => p.slot != s.change.newSlot))) = _
    rw [ThreadChange.apply_idle]
  rw [hv]
  exact State.passChange_changed (s := s) (v := v) rfl rfl rfl rfl rfl rfl rfl rfl rfl

theorem changes_end : ∀ s : State, s.frame.travel = none → s.frame.homing = none →
      let c := s.cursor
      let unarmed := { s.monitor with heads := s.monitor.heads.map (fun w => { w with armed := false }) }
      let passed := fun (r : Run) => { r with
        mainCursor := if s.run.pass = .patch then s.run.mainCursor else s.run.mainCursor + 1
        patchCursor := if s.run.pass = .patch then some (c + 1) else s.run.patchCursor
        segmentStart := if s.run.pass = .patch then s.run.segmentStart else s.run.mainCursor + 1
        tieIn := s.cfg.speeds.tieIn }
      let paused := fun (r : Run) (k : StopCause) => { r with
        state := .paused, cause := some k, activity := .none, carry := false, stepping := false, stepDone := false
        keepTieIn := false, point := none, startReturn := none, travelReturn := none, warning := false }
      let stopped := fun (l : Link) (k : StopCause) => (l.post ⟨.stopped, 0, c + 1, k.code⟩).events
      let idle := fun (w : ThreadChange) => { w with
        work := .none, casing := false
        heads := w.heads.map (fun v => ⟨false, .absent, 0, false, .absent, 0, 0, false, 0, none, v.lastKnown⟩) }
      let kept := fun (u : State) => u.frame = s.frame ∧ u.shaft = s.shaft ∧ u.bus = s.bus ∧ u.gaps = s.gaps ∧
        u.gov = s.gov ∧ u.monitor = unarmed ∧ u.cfg = s.cfg ∧ u.store.filledEnd = s.store.filledEnd
      let goesOn := fun (u : State) (r : Run) (l : Link) =>
        (s.run.cause = none → s.run.pass = .patch ∨ s.joinsWaiting = false →
          u.run = { r with state := .running, activity := .none } ∧ u.link.events = l.events) ∧
        (s.run.cause = none → s.run.pass = .main → s.joinsWaiting = true →
          u.run = { r with
            state := .changing
            activity := .joining (headNumbers.filter (fun j => (s.watchAt j).joining)) .pick .running } ∧
          u.link.events = l.events) ∧
        (∀ k, s.run.cause = some k → u.run = paused r k ∧ u.link.events = stopped l k)
      (s.run.activity = .engaging →
        (s.bus.startOutstanding = true → s.advance = none) ∧
        (s.bus.startOutstanding = false → s.run.cause = none → s.passGoesOn = true →
          s.advance = some (((s.setRun { s.run with
            state := .running, activity := .none, startReturn := none, keepTieIn := false
            tieIn := if s.run.keepTieIn then s.run.tieIn else s.cfg.speeds.tieIn }).setMonitor
              (if s.run.keepTieIn then s.monitor else unarmed)).setLink
            (s.link.post ⟨.runStarted, 0, c, s.run.startValue⟩)))) ∧
      (s.run.activity = .changing → s.change.work = .trim →
        ((∃ h ∈ headNumbers, (s.workAt h).trim = .waiting) → s.advance = none) ∧
        ((∀ h ∈ headNumbers, (s.workAt h).trim ≠ .waiting) → s.passGoesOn = true →
          s.run.cause = none ∨ s.joinsWaiting = false →
          ∃ u, s.advance = some u ∧ kept u ∧ u.change = idle s.change ∧
            goesOn u (passed s.run) s.link)) ∧
      (s.run.activity = .changing → s.change.work = .colourChange → s.change.casing = true →
        let finished := ∀ h ∈ headNumbers, (s.workAt h).part = true →
          (s.workAt h).case = .arrived ∨ (s.workAt h).case = .resting ∨ (s.workAt h).case = .handedOver
        let slot := s.change.newSlot
        let told := s.link.post ⟨.colourDone, 0, c, slot⟩
        (¬ finished → s.advance = none) ∧
        (finished → s.passGoesOn = true → (s.run.cause = none ∧ s.anyEngaged = true) ∨ s.joinsWaiting = false →
          ∃ u, s.advance = some u ∧ kept u ∧ u.change = idle (s.change.apply (fun p => p.slot != slot)) ∧
            (s.run.cause ≠ none ∨ s.anyEngaged = true → goesOn u (passed s.run) told) ∧
            (s.run.cause = none → s.anyEngaged = false →
              u.run = paused (passed s.run) .noHead ∧ u.link.events = stopped told .noHead))) := by
  intro s ht hh c unarmed passed paused stopped idle kept goesOn
  have hcursor : s.cursor = c := rfl
  have hkept : ∀ {l ch t}, s.Changed l ch t → kept t ∧ t.change = ch := fun h =>
    ⟨⟨h.frame, h.shaft, h.bus, h.gaps, h.gov, h.monitor, h.cfg, h.filledEnd⟩, h.change⟩
  have hdue : s.advance = s.advanceActivity := State.advance_of_still ht hh
  have hgoes : ∀ {l : Link} {ch : ThreadChange} {t : State} (colour : Bool), s.Changed l ch t → s.passGoesOn = true →
      s.run.cause = none ∨ s.joinsWaiting = false → colour = false ∨ t.anyEngaged = true ∨ s.run.cause ≠ none →
      kept (t.afterChange colour) ∧ (t.afterChange colour).change = ch ∧ goesOn (t.afterChange colour) (passed s.run) l := by
    intro l ch t colour h hgo hwait hhead
    obtain ⟨hk, hch⟩ := hkept h
    have hevents := h.link.events
    cases hc : s.run.cause with
    | some k =>
      have hj : s.joinsWaiting = false := hwait.resolve_left (by rw [hc]; exact (Option.some_ne_none k))
      rw [h.pauses hgo hc hj colour]
      refine ⟨hk, hch, fun hno => absurd hno (by rw [hc]; exact Option.some_ne_none k),
        fun hno => absurd hno (by rw [hc]; exact Option.some_ne_none k), fun k' hk' => ?_⟩
      rw [hc] at hk'
      cases hk'
      refine ⟨?_, (h.link.post _).events⟩
      show { t.run.ended with state := .paused } = _
      rw [Run.ended_paused_cause (r := t.run) (c := some k) (by rw [h.run]; exact hc), h.run]
      rfl
    | none =>
      have hhead' : colour = false ∨ t.anyEngaged = true := hhead.imp_right (Or.resolve_right · (not_not.2 hc))
      by_cases hj : s.run.pass = .patch ∨ s.joinsWaiting = false
      · rw [h.runs hgo hc hj colour hhead']
        refine ⟨hk, hch, fun _ _ => ⟨?_, hevents⟩, fun _ hp hw => ?_, fun k hno => absurd hno (by rw [hc]; exact (Option.some_ne_none k).symm)⟩
        · show ({ t.run with state := .running, activity := .none } : Run) = _
          rw [h.run]
          rfl
        · rcases hj with hj | hj
          · rw [hp] at hj
            cases hj
          · rw [hj] at hw
            cases hw
      · obtain ⟨hnp, hw⟩ := not_or.1 hj
        have hp : s.run.pass = .main := by
          cases hp : s.run.pass with
          | main => rfl
          | patch => exact absurd hp hnp
        rw [h.joins hgo hc hp (Bool.eq_true_of_not_eq_false hw) colour hhead']
        refine ⟨hk, hch, fun _ hyes => absurd hyes hj, fun _ _ _ => ⟨?_, hevents⟩,
          fun k hno => absurd hno (by rw [hc]; exact (Option.some_ne_none k).symm)⟩
        show ({ t.run with state := .changing, activity := .joining t.waitingHeads .pick .running } : Run) = _
        rw [h.waiting, h.run]
        rfl
  refine ⟨fun hact => ⟨fun hout => ?_, fun hout hc hgo => ?_⟩, fun hact hw => ⟨fun hwait => ?_, fun hover hgo hcj => ?_⟩,
    fun hact hw hcasing => ?_⟩
  · rw [hdue]
    unfold State.advanceActivity
    rw [hact]
    exact if_pos hout
  · rw [hdue]
    unfold State.advanceActivity
    rw [hact]
    refine (if_neg (ne_true_of_eq_false hout)).trans (congrArg some ?_)
    unfold State.unlessOver
    rw [hc, State.patchOver_of_goesOn hgo]
    unfold State.stepRun
    cases s.run.keepTieIn <;> rfl
  · rw [hdue]
    unfold State.advanceActivity
    rw [hact]
    dsimp only
    rw [hw]
    obtain ⟨j, hj, hjw⟩ := hwait
    exact if_neg fun hover => s.trimOver_iff.1 hover j hj hjw
  · have hadv : s.advance = some (s.trimDone.afterChange false) := by
      rw [hdue]
      unfold State.advanceActivity
      rw [hact]
      dsimp only
      rw [hw]
      exact if_pos (s.trimOver_iff.2 hover)
    have h : s.Changed s.link s.change.idle s.trimDone :=
      State.passChange_changed (s := s) (v := s.clearWork) rfl rfl rfl rfl rfl rfl rfl rfl rfl
    exact ⟨_, hadv, hgoes false h hgo hcj (.inl rfl)⟩
  · intro finished slot told
    have hadv : s.advance = if s.casesOver then some (s.colourDone.afterChange true) else none := by
      rw [hdue]
      unfold State.advanceActivity
      rw [hact]
      dsimp only
      rw [hw]
      exact if_pos hcasing
    refine ⟨fun hno => hadv.trans (if_neg (mt s.casesOver_iff.1 hno)), fun hyes hgo hcj => ?_⟩
    have h := s.colourDone_changed
    have hengaged : s.colourDone.anyEngaged = s.anyEngaged := by
      have hheads : s.colourDone.run.heads = s.run.heads := by rw [h.run]; rfl
      unfold State.anyEngaged
      exact List.any_congr rfl fun j => State.engagedHead_congr (State.headAt_congr hheads j)
    rw [if_pos (s.casesOver_iff.2 hyes)] at hadv
    clear hdue
    generalize s.colourDone = t at *
    refine ⟨_, hadv, ?_⟩
    by_cases hstrand : s.run.cause = none ∧ s.anyEngaged = false
    · obtain ⟨hc, hno⟩ := hstrand
      have hj : s.joinsWaiting = false := hcj.resolve_left fun ⟨_, he⟩ => by rw [hno] at he; cases he
      rw [h.stranded hgo hc hj (hengaged.trans hno)]
      obtain ⟨hk, hch⟩ := hkept h
      refine ⟨hk, hch, fun hor => ?_, fun _ _ => ⟨?_, (h.link.post _).events⟩⟩
      · rcases hor with hor | hor
        · exact absurd hc hor
        · rw [hno] at hor
          cases hor
      · show ({ t.run.ended with state := .paused, cause := some .noHead } : Run) = _
        rw [h.run]
        rfl
    · have hor : s.run.cause ≠ none ∨ s.anyEngaged = true := by
        by_cases hc : s.run.cause = none
        · exact .inr (Bool.eq_true_of_not_eq_false fun hno => hstrand ⟨hc, hno⟩)
        · exact .inl hc
      obtain ⟨hk, hch, hg⟩ := hgoes true h hgo (hcj.imp_left And.left) (.inr (hor.symm.imp_left (hengaged.trans ·)))
      exact ⟨hk, hch, fun _ => hg, fun hc hno => absurd ⟨hc, hno⟩ hstrand⟩

end Sys2Proof.Machine

/-!
PROOF. HEAD_ANSWER (sections 6.3, 6.4, 1.7; O57): acknowledged orders and trims.
-/

namespace Sys2Proof.Machine
set_option Elab.async false

/-! ## The step that ends an event -/

theorem finish_settles : ∀ s : State,
      s.finish = (State.settle 262144 s).pump ∧
      (s.advance = none → ∀ n, State.settle n s = s) ∧
      (∀ n t, s.advance = some t → State.settle (n + 1) s = State.settle n t) :=
  fun _ => ⟨rfl, fun h n => State.settle_of_none n h, fun n _ h => State.settle_of_step n h⟩

/-! ## Orders -/

theorem State.workAfterOrder_of_lift {s : State} {h : Nat} {o : EngageOrder} (hc : o.cmd = .lift)
    (hw : (s.workAt h).case ≠ .lifting) : s.workAfterOrder h o = s := by
  unfold State.workAfterOrder
  rw [hc]
  exact if_neg hw

/-- A join in a patch pass takes effect (R152). -/
theorem State.takeOrder_joins {v : State} {h : Nat} {o : EngageOrder} (hroomy : v.roomy) (hlow : 1 ≤ h) (hhigh : h ≤ 8)
    (hcmd : o.cmd = .lower) (hjoin : o.join = true) (hp : v.run.pass = .patch)
    (hs : (v.headAt h).state = .idle ∨ (v.headAt h).state = .resting) :
    v.takeOrder h o = (v.setRun { v.run with heads := v.run.heads.modify (h - 1) (fun e => { e with
      state := o.becomes, acked := none, queued := if v.bus.engageOutstanding h then e.queued else none }) }).modWatch h
        (fun w => { w with ownTieIn := v.cfg.speeds.tieIn, armed := false, joining := false }) := by
  have horder := State.headAt_orderCleared (s := v) hroomy hlow hhigh
  have hs' : ((v.orderCleared h).headAt h).state = .idle ∨ ((v.orderCleared h).headAt h).state = .resting := by
    rw [horder]
    exact hs
  have hlowers : (v.orderCleared h).lowers h = true := State.lowers_of h (hs'.imp_right .inl)
  rw [State.takeOrder_eq, State.engagedBy_lower hcmd hlowers, hjoin, if_pos rfl,
    (State.setHeadState_rests hs' o.becomes).1]
  unfold State.joinEffect
  refine (if_neg (show ¬ _ = Pass.main from fun hm => ?_)).trans ?_
  · rw [show v.run.pass = .main from hm] at hp
    cases hp
  · unfold State.orderCleared State.modHead
    simp only [State.setRun_run, List.modify_modify_eq]
    rfl

section Answer

variable {s : State} {h : Nat} {r : StatusRecord} {t : Transaction} (hroomy : s.roomy) (hlow : 1 ≤ h) (hhigh : h ≤ 8)
  (hf : s.bus.inFlight = some t) (hhead : t.head = h) (hr : t.reported = true)
include hf hhead hr

/-- An order acknowledged while the shaft turns for a stitch waits for TDC (R25). -/
theorem answer_waits {o : EngageOrder} (hk : t.kind = .command (.engage o))
    (hturn : s.shaft.state = .running ∨ s.shaft.state = .stopping) : exec (.headAnswer h true r) s =
      .next (((s.answeredAt h).setRun { s.run with
        heads := s.run.heads.modify (h - 1) (fun e => { e with acked := some o }) }).finish) := by
  have hexec := exec_headAnswer_of_command r hf hhead hr hk BusWork.noConfusion
  have hpolls : (s.answeredAt h).shaft.state.pollsByAngle = true := by
    show s.shaft.state.pollsByAngle = true
    rcases hturn with hturn | hturn <;> rw [hturn] <;> rfl
  rw [show (s.answeredAt h).acknowledged h (.engage o) = _ from if_pos hpolls] at hexec
  exact hexec

/-- An acknowledged trim starts the trim timer (R117). -/
theorem answer_trims (hk : t.kind = .command .trim) (hw : (s.workAt h).trim = .waiting)
    (hnone : ∀ c ∈ s.bus.queue ++ s.bus.held, c.head = h → c.work ≠ .trim) : exec (.headAnswer h true r) s =
      .next (((s.answeredAt h).setChange { s.change with
        heads := s.change.heads.modify (h - 1) (fun w => { w with trimTimer := true }) }).finish) := by
  have hexec := exec_headAnswer_of_command r hf hhead hr hk BusWork.noConfusion
  have hnot : (s.answeredAt h).laterQueued h BusWork.isTrim = false := Bool.eq_false_iff.2 fun hyes => by
    obtain ⟨c, hc, hch, hcm⟩ := (State.laterQueued_iff _ _ _).1 hyes
    exact hnone c hc hch ((BusWork.isTrim_iff _).1 hcm)
  rw [show (s.answeredAt h).acknowledged h .trim = _ from if_pos ⟨hw, hnot⟩] at hexec
  exact hexec

include hroomy hlow hhigh

/-- A LIFT with no work behind it. -/
theorem answer_lifted {o : EngageOrder} (hk : t.kind = .command (.engage o))
    (hturn : ¬ (s.shaft.state = .running ∨ s.shaft.state = .stopping)) (hcmd : o.cmd = .lift)
    (hb : o.becomes = .idle ∨ o.becomes = .resting) (he : s.engagedHead h = true) (hfault : (s.watchAt h).fault = none)
    (hw : (s.workAt h).case ≠ .lifting) : ∃ u, (s.answeredAt h).LiftedTo h o.becomes u ∧
      exec (.headAnswer h true r) s = .next u.finish := by
  obtain ⟨x, hx, hexec⟩ := answer_lifts (r := r) hroomy hlow hhigh hf hhead hr hk (fun h => hturn (.inl h))
    (fun h => hturn (.inr h)) hcmd hb he hfault
  have hwork : x.workAt h = s.workAt h := State.workAt_congr hx.works h
  rw [State.workAfterOrder_of_lift hcmd (by rw [hwork]; exact hw)] at hexec
  exact ⟨x, hx, hexec⟩

/-- A LOWER with no work behind it, no join. -/
theorem answer_lowered {o : EngageOrder} (hk : t.kind = .command (.engage o))
    (hturn : ¬ (s.shaft.state = .running ∨ s.shaft.state = .stopping)) (hcmd : o.cmd = .lower) (hjoin : o.join = false)
    (hs : (s.headAt h).state = .idle ∨ (s.headAt h).state = .resting) (hw : (s.workAt h).case ≠ .lowering) :
    exec (.headAnswer h true r) s = .next ((s.answeredAt h).setRun { s.run with
      heads := s.run.heads.modify (h - 1) (fun e => { e with
        state := o.becomes, acked := none
        queued := if (s.bus.queue ++ s.bus.held).any (fun c => c.engages h) then e.queued else none }) }).finish := by
  rw [answer_lowers (r := r) hroomy hlow hhigh hf hhead hr hk (fun h => hturn (.inl h)) (fun h => hturn (.inr h)) hcmd
    hjoin hs]
  refine congrArg (fun u : State => Host.Outcome.next u.finish) (State.workAfterOrder_of_lower hcmd ?_)
  exact hw

/-- A join of a patch pass (R152). -/
theorem answer_joins {o : EngageOrder} (hk : t.kind = .command (.engage o))
    (hturn : ¬ (s.shaft.state = .running ∨ s.shaft.state = .stopping)) (hcmd : o.cmd = .lower) (hjoin : o.join = true)
    (hp : s.run.pass = .patch) (hs : (s.headAt h).state = .idle ∨ (s.headAt h).state = .resting)
    (hw : (s.workAt h).case ≠ .lowering) :
    ∃ u : State, exec (.headAnswer h true r) s = .next u.finish ∧ (u.headAt h).state = o.becomes ∧
      (u.watchAt h).ownTieIn = s.cfg.speeds.tieIn ∧ (u.watchAt h).armed = false ∧ (u.watchAt h).joining = false ∧
      u.gaps = s.gaps ∧ u.link = s.link ∧ u.run.activity = s.run.activity ∧ u.run.state = s.run.state ∧
      u.shaft = s.shaft ∧ u.frame = s.frame ∧ u.bus = (s.answeredAt h).bus ∧
      (∀ j, j ≠ h → 1 ≤ j → j ≤ 8 → u.headAt j = s.headAt j ∧ u.watchAt j = s.watchAt j) := by
  have hexec := exec_headAnswer_of_command r hf hhead hr hk BusWork.noConfusion
  rw [State.acknowledged_still (s := s.answeredAt h) (fun h => hturn (.inl h)) (fun h => hturn (.inr h)),
    State.workAfterOrder_of_lower hcmd (by rw [State.takeOrder_workAt]; exact hw),
    State.takeOrder_joins (v := s.answeredAt h) (State.answeredAt_roomy hroomy h) hlow hhigh hcmd hjoin hp hs] at hexec
  have hwatch := State.watchAt_modWatch_same ((s.answeredAt h).setRun { s.run with
    heads := s.run.heads.modify (h - 1) (fun e => { e with
      state := o.becomes, acked := none
      queued := if (s.answeredAt h).bus.engageOutstanding h then e.queued else none }) })
    (fun w => { w with ownTieIn := s.cfg.speeds.tieIn, armed := false, joining := false }) (h := h)
    (by show h - 1 < s.monitor.heads.length; rw [hroomy.2.1]; omega)
  have hentry := getD_modify_same s.run.heads (h - 1) (fun e : HeadEntry => { e with
    state := o.becomes, acked := none
    queued := if (s.answeredAt h).bus.engageOutstanding h then e.queued else none }) (by rw [hroomy.1]; omega)
  exact ⟨_, hexec, congrArg HeadEntry.state hentry, congrArg HeadWatch.ownTieIn hwatch, congrArg HeadWatch.armed hwatch,
    congrArg HeadWatch.joining hwatch, rfl, rfl, rfl, rfl, rfl, rfl, rfl,
    fun j hne hj _ => ⟨getD_modify_other _ _ (by omega), State.watchAt_modWatch_other _ _ (by omega)⟩⟩

end Answer

end Sys2Proof.Machine

/-!
PROOF. HEAD_ANSWER (sections 6.5, 1.7; O57): records of heads that are not engaged, and records that disagree (R109).
-/

namespace Sys2Proof.Machine
set_option Elab.async false

section Record

variable {s : State} {h : Nat} {r : StatusRecord} {t : Transaction} (hroomy : s.roomy) (hlow : 1 ≤ h) (hhigh : h ≤ 8)
  (hf : s.bus.inFlight = some t) (hhead : t.head = h) (hr : t.reported = true)
  (hn : (s.workAt h).trim ≠ .waiting) (hc : (s.workAt h).case ≠ .clearing) (hm : (s.workAt h).case ≠ .moving)

include hroomy hlow hhigh hn hc hm in
/-- A record that no work of the Thread Change Unit looks at. -/
theorem State.changeRecord_idle (queued : Bool) : (s.recordTaken h r).changeRecord h r queued = s.recordRead h r := by
  have hx := State.recordRead_at r hroomy hlow hhigh
  have hnote : (s.recordRead h r).trimRecord h r = s.recordRead h r :=
    State.trimRecord_of_none h r (.inl (by rw [hx.work]; exact hn))
  exact State.changeRecord_trims r hnote (by rw [hx.work]; exact hc) (by rw [hx.work]; exact hm)

include hroomy hlow hhigh hf hhead hr hn hc hm

theorem exec_record_idle (hk : t.kind = .roundPoll ∨ t.kind = .command .poll) : exec (.headAnswer h true r) s =
    .next (((s.recordRead h r).watchRecord h r).resync h r).finish := by
  rw [exec_record hf hhead hr hk]
  refine congrArg (fun u : State => Host.Outcome.next u.finish) ?_
  show (((s.recordTaken h r).changeRecord h r _).watchRecord h r).resync h r = _
  rw [State.changeRecord_idle hroomy hlow hhigh hn hc hm]

omit hroomy hlow hhigh hf hhead hr hn hc hm in
theorem State.recordRead_eq (s : State) (h : Nat) (r : StatusRecord) : s.recordRead h r =
    (((s.answeredAt h).setBus { (s.answeredAt h).bus with
      heads := s.bus.heads.modify (h - 1) (fun l => { l with timeouts := 0, record := some r }) }).setRun { s.run with
      heads := s.run.heads.modify (h - 1) (fun e =>
        if r.caseState = .atRest then { e with needle := r.casePos } else e) }).setChange { s.change with
      heads := s.change.heads.modify (h - 1) (fun w =>
        if r.casePos = 0 then w else { w with lastKnown := some r.casePos }) } := by
  have hlast : (fun w : HeadWork => if r.casePos = 0 then w else { w with lastKnown := some r.casePos }) =
      fun w => { w with lastKnown := if r.casePos = 0 then w.lastKnown else some r.casePos } := by
    funext w
    split <;> rfl
  rw [hlast]
  unfold State.recordRead State.recordTaken
  rw [State.takeNeedle_cases]
  unfold State.storeRecord State.answeredAt State.modLink State.modHead State.modWork
  simp only [State.setRun_change, State.setBus_change, State.setBus_run,
    State.setBus_bus, List.modify_modify_eq]
  rfl

omit hroomy hlow hhigh hf hhead hr hn hc hm in
theorem State.recordRead_acked (s : State) (h : Nat) (r : StatusRecord) (hin : h - 1 < s.run.heads.length) :
    ((s.recordRead h r).headAt h).acked = (s.headAt h).acked := by
  rw [State.recordRead_eq]
  refine (congrArg HeadEntry.acked (getD_modify_same _ _ _ hin)).trans ?_
  split <;> rfl

/-- A round's record of a head that is not engaged, with nothing to tell (R106, R23). -/
theorem answer_replaces (hk : t.kind = .roundPoll) (he : s.engagedHead h = false) (hre : r.engaged = false)
    (hb : r.bobbinLow = false) (hz : (s.watchAt h).bobbin = 0) :
    exec (.headAnswer h true r) s = .next (s.recordRead h r).finish := by
  have hx := State.recordRead_at r hroomy hlow hhigh
  have hengaged : (s.recordRead h r).engagedHead h = false := by
    unfold State.engagedHead at he ⊢
    rw [hx.state]
    exact he
  have hcount : ∀ z : State, (z.watchAt h).bobbin = 0 → z.countBobbin h r = z := fun z hz =>
    if_neg fun hpos => by
      rw [hz] at hpos
      exact Nat.lt_irrefl 0 hpos.1
  have hsense : ∀ z : State, z.senseBobbin h r = z := fun z => if_neg fun hlow => by
    rw [hb] at hlow
    exact Bool.false_ne_true hlow.1
  have hwatch : (s.recordRead h r).watchRecord h r = s.recordRead h r := by
    unfold State.watchRecord
    rw [hengaged, if_neg Bool.false_ne_true, hcount _ (by rw [hx.watch]; exact hz), hsense]
  rw [exec_record_idle hroomy hlow hhigh hf hhead hr hn hc hm (.inl hk), hwatch,
    State.resync_agrees (by rw [hre, hengaged])]

/-- A record that disagrees with the head table (R109). -/
theorem answer_resyncs (hk : t.kind = .roundPoll ∨ t.kind = .command .poll) (hne : r.engaged ≠ s.engagedHead h)
    (hp : r.penetrations = 0) (hb : r.bobbinLow = false) :
    let under := (∃ c ∈ s.bus.queue ++ s.bus.held, c.engages h = true) ∨ (s.headAt h).acked ≠ none
    let cmd := if s.engagedHead h then Engage.lower else .lift
    let order : BusCommand := ⟨h, .engage ⟨cmd, (s.headAt h).state, false, false⟩⟩
    ∃ u : State, exec (.headAnswer h true r) s = .next u.finish ∧ (u.linkAt h).record = some r ∧
      (u.headAt h).state = (s.headAt h).state ∧
      u.run.state = s.run.state ∧ u.link = s.link ∧ u.shaft = s.shaft ∧ u.frame = s.frame ∧ u.gaps = s.gaps ∧
      (under → u.bus.queue = s.bus.queue ∧ u.bus.held = s.bus.held) ∧
      (¬ under → (s.linkAt h).lost = false → (u.headAt h).queued = some cmd ∧
        (s.bus.queue.length < 16 → s.bus.held = [] → u.bus.queue = s.bus.queue ++ [order] ∧ u.bus.held = []) ∧
        (¬ (s.bus.queue.length < 16 ∧ s.bus.held = []) →
          u.bus.queue = s.bus.queue ∧ u.bus.held = s.bus.held ++ [order])) := by
  intro under cmd order
  have hx := State.recordRead_at r hroomy hlow hhigh
  let z := (s.recordRead h r).threadRead h r
  have hexec : exec (.headAnswer h true r) s = .next (z.resync h r).finish := by
    rw [exec_record_idle hroomy hlow hhigh hf hhead hr hn hc hm hk, State.watchRecord_quiet hp hb]
  obtain ⟨f, -, hzf⟩ := (s.recordRead h r).threadRead_eq h r
  have hz : z = (s.recordRead h r).modWatch h f := hzf
  have hbus : z.bus = (s.recordRead h r).bus := by rw [hz]; rfl
  have hrun : z.run = (s.recordRead h r).run := by rw [hz]; rfl
  have hlink : z.link = s.link := by rw [hz]; exact hx.link
  have hshaft : z.shaft = s.shaft := by rw [hz]; exact hx.shaft
  have hframe : z.frame = s.frame := by rw [hz]; exact hx.frame
  have hgaps : z.gaps = s.gaps := by rw [hz]; exact hx.gaps
  have hstate : (z.headAt h).state = (s.headAt h).state := by
    rw [State.headAt_congr (congrArg Run.heads hrun)]
    exact hx.state
  have hacked : (z.headAt h).acked = (s.headAt h).acked := by
    rw [State.headAt_congr (congrArg Run.heads hrun)]
    exact s.recordRead_acked h r (by rw [hroomy.1]; omega)
  have hrecord : ∀ u : State, u.bus.heads = z.bus.heads → (u.linkAt h).record = some r ∧
      (u.linkAt h).lost = (s.linkAt h).lost := fun u hu => by
    rw [State.linkAt_congr (hu.trans (congrArg Bus.heads hbus))]
    exact ⟨hx.record, hx.lost⟩
  have hrunstate : ∀ u : State, u.run.bare = z.run.bare → u.run.state = s.run.state := fun u hu => by
    rw [Run.of_bare (hu.trans ((congrArg Run.bare hrun).trans hx.bare))]
  have hqueue : z.bus.queue = s.bus.queue := (congrArg Bus.queue hbus).trans hx.queue
  have hheld : z.bus.held = s.bus.held := (congrArg Bus.held hbus).trans hx.held
  have hengaged : z.engagedHead h = s.engagedHead h := by
    unfold State.engagedHead
    rw [hstate]
  have hflight : z.bus.inFlight = none := by
    rw [hbus, s.recordRead_bus h r]
  have hunder : z.engaging h = true ↔ under := by
    unfold State.engaging
    rw [Bus.engageOutstanding_idle h hflight, hqueue, hheld, hacked, Bool.or_eq_true, List.any_eq_true,
      Option.isSome_iff_ne_none]
  by_cases hu : under
  · have hsame : z.resync h r = z := if_pos (hunder.2 hu)
    rw [hsame] at hexec
    exact ⟨z, hexec, (hrecord z rfl).1, hstate, hrunstate z rfl, hlink, hshaft, hframe, hgaps,
      fun _ => ⟨hqueue, hheld⟩, fun hno => absurd hu hno⟩
  · have hissue : z.resync h r = z.issue order := by
      refine (if_neg (fun hyes => hu (hunder.1 hyes))).trans ((if_neg (by rw [hengaged]; exact hne)).trans ?_)
      have horder : order = ⟨h, .engage ⟨if s.engagedHead h then Engage.lower else .lift, (s.headAt h).state, false, false⟩⟩ :=
        rfl
      rw [hengaged, hstate, horder]
      cases s.engagedHead h <;> rfl
    rw [hissue] at hexec
    obtain ⟨kstore, kgov, kframe, kshaft, kmonitor, kgaps, klink, -⟩ := z.issue_keeps order
    refine ⟨_, hexec, (hrecord _ (State.issue_busHeads z order)).1, (State.issue_entry (s := z) (c := order) h).1.trans hstate,
      hrunstate _ (State.issue_bare z order), klink.trans hlink, kshaft.trans hshaft, kframe.trans hframe,
      kgaps.trans hgaps, fun hyes => absurd hyes hu, fun _ hl => ?_⟩
    have hdel : (z.linkAt order.head).lost = false := (hrecord z rfl).2.trans hl
    have hnone : (z.bus.queue ++ z.bus.held).any (fun d => d.engages order.head) = false := by
      rw [hqueue, hheld]
      exact Bool.eq_false_iff.2 fun hyes => hu (.inl (List.any_eq_true.1 hyes))
    have hnew : (z.issue order).bus = if z.bus.queue.length < Config.queuePlaces && z.bus.held.isEmpty then
        { z.bus with queue := z.bus.queue ++ [order] } else { z.bus with held := z.bus.held ++ [order] } := by
      rw [State.issue_of_delivered hdel, State.setBus_bus, hnone, Bool.and_false, if_neg Bool.false_ne_true]
    have hroom : (decide (z.bus.queue.length < Config.queuePlaces) && z.bus.held.isEmpty) = true ↔
        s.bus.queue.length < 16 ∧ s.bus.held = [] := by
      rw [Bool.and_eq_true, decide_eq_true_iff, List.isEmpty_iff, hqueue, hheld]
      rfl
    refine ⟨?_, fun hlen hempty => ?_, fun hfull => ?_⟩
    · have hin : h - 1 < z.run.heads.length := by
        rw [hrun, hx.roomy.1]
        omega
      rw [State.issue_of_delivered hdel]
      exact congrArg HeadEntry.queued (getD_modify_same _ _ _ hin)
    · rw [hnew, if_pos (hroom.2 ⟨hlen, hempty⟩)]
      exact ⟨congrArg (· ++ [order]) hqueue, hheld.trans hempty⟩
    · rw [hnew, if_neg (fun hyes => hfull (hroom.1 hyes))]
      exact ⟨hqueue, congrArg (· ++ [order]) hheld⟩

end Record

end Sys2Proof.Machine

/-!
PROOF. HEAD_ANSWER (sections 8.2, 8.3, 8.4; O57): what the Thread Monitor reads in a record of an engaged head.
-/

namespace Sys2Proof.Machine
set_option Elab.async false

/-! ## One head's items, the WARN count, the derate flag and the events -/

/-- The head's items, the WARN count, the governor and the Link Interface set; nothing else changed. -/
def State.heard (x : State) (h : Nat) (v : HeadWatch) (n : Nat) (g : Governor) (l : Link) : State :=
  ((x.setMonitor { x.monitor with heads := x.monitor.heads.modify (h - 1) (fun _ => v), warnCount := n }).setGov g).setLink l

section Heard

variable {x : State} {h : Nat} {v : HeadWatch} {n : Nat} {g : Governor} {l : Link}

theorem State.heard_watch (hin : h - 1 < x.monitor.heads.length) : (x.heard h v n g l).watchAt h = v :=
  getD_modify_same _ _ _ hin

theorem State.heard_modWatch (f : HeadWatch → HeadWatch) : (x.heard h v n g l).modWatch h f = x.heard h (f v) n g l := by
  unfold State.heard State.modWatch
  simp only [State.setLink_monitor, State.setGov_monitor, State.setMonitor_monitor, List.modify_modify_eq]
  rfl

theorem State.heard_post (k : EventKind) (m : Nat) : (x.heard h v n g l).post k h m =
    x.heard h v n g (l.post ⟨k, h, x.cursor, m⟩) := rfl

theorem State.heard_setWarnCount (m : Nat) : (x.heard h v n g l).setWarnCount m =
    x.heard h v m { g with derate := m != 0 } l := rfl

theorem modify_getD {α : Type} [Inhabited α] (l : List α) (i : Nat) (f : α → α) :
    l.modify i f = l.modify i (fun _ => f (l.getD i default)) := by
  refine List.ext_getElem? fun j => ?_
  rw [List.getElem?_modify, List.getElem?_modify]
  by_cases hij : i = j
  · subst hij
    rw [List.getD_eq_getElem?_getD]
    cases l[i]? <;> simp
  · simp only [if_neg hij]

theorem State.modWatch_heard (x : State) (h : Nat) (f : HeadWatch → HeadWatch) :
    x.modWatch h f = x.heard h (f (x.watchAt h)) x.monitor.warnCount x.gov x.link := by
  unfold State.modWatch State.heard
  rw [modify_getD]
  rfl

theorem State.heard_self (x : State) (h : Nat) :
    x.heard h (x.watchAt h) x.monitor.warnCount x.gov x.link = x := by
  have hid : x.modWatch h id = x := by
    unfold State.modWatch
    rw [List.modify_id]
    rfl
  exact (x.modWatch_heard h id).symm.trans hid

/-! ## The steps of a record (R131 to R136) -/

/-- The countdown after a record (R132). -/
def HeadWatch.counted (w : HeadWatch) (load : Nat) (r : StatusRecord) : Nat :=
  if r.penetrations = 0 then w.countdown else w.countdownAfter load r

/-- Has the bobbin counter come down to the warn level, for the first time (R134)? -/
def HeadWatch.runsLow (w : HeadWatch) (level : Nat) (r : StatusRecord) : Bool :=
  decide (0 < w.bobbin ∧ 0 < r.penetrations ∧ w.bobbin - r.penetrations ≤ level) && !w.countLow

/-- Does the sensor see the bobbin low, for the first time (R134)? -/
def HeadWatch.sensesLow (w : HeadWatch) (r : StatusRecord) : Bool := r.bobbinLow && !w.sensorLow

/-- The excursion counter after a record (R135). -/
def HeadWatch.swung (w : HeadWatch) (t : ThreadGroup) (r : StatusRecord) : Nat :=
  if r.penetrations = 0 then w.excursion else excursionAfter t r.tension w.excursion

/-- Does the head enter WARN (R135)? -/
def HeadWatch.warns (w : HeadWatch) (t : ThreadGroup) (r : StatusRecord) : Bool :=
  decide (0 < r.penetrations ∧ t.upper ≤ w.swung t r) && !w.warn

/-- Does the head leave WARN (R135)? -/
def HeadWatch.settles (w : HeadWatch) (t : ThreadGroup) (r : StatusRecord) : Bool :=
  decide (0 < r.penetrations ∧ w.swung t r ≤ t.lower) && w.warn

/-- An event posted when the condition holds. -/
def Link.told (l : Link) (b : Bool) (e : Event) : Link := if b then l.post e else l

variable (hin : h - 1 < x.monitor.heads.length) (r : StatusRecord)
include hin

theorem State.heard_updateCountdown (hno : ¬ (0 < r.penetrations ∧ v.counted x.cfg.thread.breakB r = 0 ∧ v.armed = true)) :
    (x.heard h v n g l).updateCountdown h r = x.heard h { v with countdown := v.counted x.cfg.thread.breakB r } n g l := by
  unfold State.updateCountdown HeadWatch.counted
  by_cases hp : r.penetrations = 0
  · rw [if_pos hp, if_pos hp]
  · rw [if_neg hp, if_neg hp]
    dsimp only
    rw [State.heard_modWatch, State.heard_watch hin]
    refine if_neg fun hyes => hno ⟨Nat.pos_of_ne_zero hp, ?_, hyes.2⟩
    unfold HeadWatch.counted
    rw [if_neg hp]
    exact hyes.1

theorem State.heard_updateCountdown_breaks (hp : 0 < r.penetrations) (hc : v.counted x.cfg.thread.breakB r = 0)
    (ha : v.armed = true) : (x.heard h v n g l).updateCountdown h r =
      (x.heard h { v with countdown := v.counted x.cfg.thread.breakB r } n g l).raiseFault h .upperBreak := by
  have hne : r.penetrations ≠ 0 := Nat.ne_of_gt hp
  have hcount : v.counted x.cfg.thread.breakB r = v.countdownAfter x.cfg.thread.breakB r := if_neg hne
  unfold State.updateCountdown
  rw [if_neg hne]
  dsimp only
  rw [State.heard_modWatch, State.heard_watch hin, hcount]
  exact if_pos ⟨hcount.symm.trans hc, ha⟩

theorem State.heard_judgeBobbin : (x.heard h v n g l).judgeBobbin h =
    x.heard h { v with countLow := v.countLow || decide (v.bobbin ≤ x.cfg.thread.warnLevel) } n g
      (l.told (decide (v.bobbin ≤ x.cfg.thread.warnLevel) && !v.countLow) ⟨.bobbinLow, h, x.cursor, 1⟩) := by
  unfold State.judgeBobbin Link.told
  dsimp only
  rw [State.heard_watch hin]
  show (if v.bobbin ≤ x.cfg.thread.warnLevel ∧ v.countLow = false then _ else _) = _
  by_cases hle : v.bobbin ≤ x.cfg.thread.warnLevel
  · cases hc : v.countLow with
    | false =>
      rw [if_pos ⟨hle, rfl⟩, State.heard_post, State.heard_modWatch, decide_eq_true hle]
      rfl
    | true =>
      have hv : { v with countLow := true } = v := by rw [← hc]
      rw [if_neg (fun hyes => Bool.noConfusion hyes.2)]
      show x.heard h v n g l = x.heard h { v with countLow := true } n g (if (_ && false) = true then _ else l)
      rw [hv, Bool.and_false]
      rfl
  · rw [if_neg (fun hyes => hle hyes.1), decide_eq_false hle, Bool.or_false]
    rfl

/-- The head's items after its bobbin is counted. -/
def HeadWatch.sewn (w : HeadWatch) (level : Nat) (r : StatusRecord) : HeadWatch :=
  { w with bobbin := w.bobbin - r.penetrations, countLow := w.countLow || w.runsLow level r }

theorem State.heard_countBobbin_of_pos (hpos : 0 < v.bobbin ∧ 0 < r.penetrations) :
    (x.heard h v n g l).countBobbin h r =
      if v.bobbin - r.penetrations = 0 then
        (x.heard h (v.sewn x.cfg.thread.warnLevel r) n g
          (l.told (v.runsLow x.cfg.thread.warnLevel r) ⟨.bobbinLow, h, x.cursor, 1⟩)).raiseFault h .bobbinOut
      else x.heard h (v.sewn x.cfg.thread.warnLevel r) n g
        (l.told (v.runsLow x.cfg.thread.warnLevel r) ⟨.bobbinLow, h, x.cursor, 1⟩) := by
  have htold : decide (0 < v.bobbin ∧ 0 < r.penetrations ∧ v.bobbin - r.penetrations ≤ x.cfg.thread.warnLevel) =
      decide (v.bobbin - r.penetrations ≤ x.cfg.thread.warnLevel) :=
    decide_eq_decide.2 ⟨fun hyes => hyes.2.2, fun hyes => ⟨hpos.1, hpos.2, hyes⟩⟩
  have hlow : ∀ b c : Bool, (c || (b && !c)) = (c || b) := by decide
  unfold State.countBobbin HeadWatch.sewn HeadWatch.runsLow
  rw [State.heard_watch hin, htold, hlow, if_pos hpos]
  dsimp only
  rw [State.heard_modWatch, State.heard_judgeBobbin hin, State.heard_watch hin]

theorem State.heard_countBobbin (hno : ¬ (0 < v.bobbin ∧ 0 < r.penetrations ∧ v.bobbin ≤ r.penetrations)) :
    (x.heard h v n g l).countBobbin h r = x.heard h (v.sewn x.cfg.thread.warnLevel r) n g
      (l.told (v.runsLow x.cfg.thread.warnLevel r) ⟨.bobbinLow, h, x.cursor, 1⟩) := by
  by_cases hpos : 0 < v.bobbin ∧ 0 < r.penetrations
  · rw [State.heard_countBobbin_of_pos hin r hpos]
    exact if_neg (by omega)
  · have hlow : v.runsLow x.cfg.thread.warnLevel r = false := by
      unfold HeadWatch.runsLow
      rw [decide_eq_false (fun hyes => hpos ⟨hyes.1, hyes.2.1⟩)]
      rfl
    have hsub : v.bobbin - r.penetrations = v.bobbin := by omega
    unfold State.countBobbin HeadWatch.sewn
    rw [State.heard_watch hin, if_neg hpos, hsub, hlow, Bool.or_false]
    rfl

theorem State.heard_senseBobbin : (x.heard h v n g l).senseBobbin h r =
    x.heard h { v with sensorLow := v.sensorLow || r.bobbinLow } n g
      (l.told (v.sensesLow r) ⟨.bobbinLow, h, x.cursor, 2⟩) := by
  unfold State.senseBobbin Link.told HeadWatch.sensesLow
  rw [State.heard_watch hin]
  cases hb : r.bobbinLow with
  | false =>
    rw [if_neg (fun hyes => Bool.noConfusion hyes.1), Bool.or_false]
    rfl
  | true =>
    cases hs : v.sensorLow with
    | false =>
      rw [if_pos ⟨rfl, rfl⟩, State.heard_post, State.heard_modWatch]
      rfl
    | true =>
      have hv : { v with sensorLow := true } = v := by rw [← hs]
      rw [if_neg (fun hyes => Bool.noConfusion hyes.2)]
      show x.heard h v n g l = x.heard h { v with sensorLow := true } n g l
      rw [hv]

theorem State.heard_judgeTension : (x.heard h v n g l).judgeTension h r =
    x.heard h { v with
      excursion := v.swung x.cfg.thread r
      warn := (v.warn || v.warns x.cfg.thread r) && !v.settles x.cfg.thread r }
      (if v.warns x.cfg.thread r then n + 1 else if v.settles x.cfg.thread r then n - 1 else n)
      { g with derate := if v.warns x.cfg.thread r || v.settles x.cfg.thread r then
          (if v.warns x.cfg.thread r then n + 1 else if v.settles x.cfg.thread r then n - 1 else n) != 0 else g.derate }
      ((l.told (v.settles x.cfg.thread r) ⟨.tensionClear, h, x.cursor, v.swung x.cfg.thread r⟩).told
        (v.warns x.cfg.thread r) ⟨.tensionWarn, h, x.cursor, v.swung x.cfg.thread r⟩) := by
  unfold State.judgeTension HeadWatch.warns HeadWatch.settles
  by_cases hp : r.penetrations = 0
  · have hswung : v.swung x.cfg.thread r = v.excursion := if_pos hp
    rw [if_pos hp, decide_eq_false (fun hyes => by omega), decide_eq_false (fun hyes => by omega), hswung]
    simp only [Bool.false_and, Bool.or_false, Bool.not_false, Bool.and_true, Bool.false_eq_true, if_false]
    rfl
  · have hpos := Nat.pos_of_ne_zero hp
    have hswung : v.swung x.cfg.thread r = excursionAfter x.cfg.thread r.tension v.excursion := if_neg hp
    rw [if_neg hp]
    dsimp only
    rw [State.heard_watch hin, State.heard_modWatch, show (x.heard h v n g l).cfg = x.cfg from rfl, ← hswung]
    generalize v.swung x.cfg.thread r = m
    simp only [hpos, true_and]
    cases hw : v.warn with
    | false =>
      by_cases hup : x.cfg.thread.upper ≤ m
      · rw [if_pos ⟨rfl, hup⟩, State.heard_modWatch, State.heard_post, State.heard_setWarnCount, decide_eq_true hup]
        simp only [Link.told, Bool.not_false, Bool.and_true, Bool.and_false, Bool.or_true, Bool.true_or, if_true]
        rfl
      · rw [if_neg (fun hyes => hup hyes.2), if_neg (fun hyes => Bool.noConfusion hyes.1), decide_eq_false hup]
        simp [Link.told]
    | true =>
      by_cases hdown : m ≤ x.cfg.thread.lower
      · rw [if_neg (fun hyes => Bool.noConfusion hyes.1), if_pos ⟨rfl, hdown⟩, State.heard_modWatch, State.heard_post,
          State.heard_setWarnCount, decide_eq_true hdown]
        simp [Link.told]
        rfl
      · rw [if_neg (fun hyes => Bool.noConfusion hyes.1), if_neg (fun hyes => hdown hyes.2), decide_eq_false hdown]
        simp [Link.told]

end Heard

end Sys2Proof.Machine

/-!
PROOF. HEAD_ANSWER (sections 8.2, 8.3, 8.4, 8.5; O57): a record of an engaged head, with the faults that it raises.
-/

namespace Sys2Proof.Machine
set_option Elab.async false

/-! ## A fault HELD while the run sews (R138) -/

/-- What a fault of a head raised in a RUNNING main pass under STOP-ALL leaves. -/
structure State.StopsFor (x : State) (h : Nat) (kind : FaultKind) (y : State) : Prop where
  run : y.run = { x.run with state := .stopping, cause := some (x.run.cause.getD .fault) }
  link : y.link = x.link.post ⟨.headFault, h, x.cursor, kind.code⟩
  monitor : y.monitor = x.monitor.noting h ⟨kind, .held⟩
  bus : y.bus = x.bus
  frame : y.frame = x.frame
  shaft : y.shaft = x.shaft
  gaps : y.gaps = x.gaps
  cfg : y.cfg = x.cfg

theorem State.raiseFault_stops {x : State} {h : Nat} {kind : FaultKind} (hkind : kind ≠ .lost)
    (hc : x.run.state = .running) (hp : x.run.pass = .main) (hpol : x.monitor.policy = .stopAll)
    (hoff : (x.headAt h).state ≠ .off) (hnone : (x.watchAt h).fault = none) :
    x.StopsFor h kind (x.raiseFault h kind) := by
  let n := x.faultNoted h kind
  have hid : x.modWork h id = x := by
    unfold State.modWork
    rw [List.modify_id]
    rfl
  have hn : x.FaultAt h kind n := by
    have hnoted := State.modWork_faultNoted (s := x) (h := h) (kind := kind) id
    rw [hid] at hnoted
    exact hnoted
  have hhold : n.hold h kind .fault = (n.setHandling h .held).setRun { n.run with
      state := .stopping, cause := some (n.run.cause.getD .fault) } := by
    unfold State.hold
    dsimp only
    rw [if_neg hkind]
    unfold State.stopOrder
    rw [show (n.setHandling h .held).run.state = .running by rw [← hc, ← hn.run]; rfl, State.recordCause_eq]
    rfl
  have hhandle : x.handleFault h kind = n.hold h kind .fault := by
    rw [State.handleFault_of_new hp hoff hnone, hpol]
  have hraise : x.raiseFault h kind = n.hold h kind .fault := by
    refine (congrArg State.endPatchIfEmpty hhandle).trans (State.endPatchIfEmpty_of_main ?_)
    rw [hhold]
    show n.run.pass = .main
    rw [hn.run, hp]
  rw [hraise, hhold]
  exact ⟨by rw [State.setRun_run, hn.run], hn.link, hn.handled .held, hn.bus, hn.frame, hn.shaft, hn.gaps, hn.cfg⟩

/-! ## A record of an engaged head (R131 to R136) -/

/-- The threads of an engaged head after a record (R131). -/
def HeadWatch.armedBy (w : HeadWatch) (tie : Nat) (r : StatusRecord) : HeadWatch := { w with
  ownTieIn := w.ownTieIn - r.penetrations
  armed := tie == 0 && w.ownTieIn - r.penetrations == 0 && w.fault.isNone }

/-- The head's items after a record (R131, R132, R134, R135). -/
def HeadWatch.readBy (w : HeadWatch) (tie : Nat) (t : ThreadGroup) (r : StatusRecord) : HeadWatch := { w.armedBy tie r with
  countdown := w.counted t.breakB r
  bobbin := w.bobbin - r.penetrations
  countLow := w.countLow || w.runsLow t.warnLevel r
  sensorLow := w.sensorLow || r.bobbinLow
  excursion := w.swung t r
  warn := (w.warn || w.warns t r) && !w.settles t r }

/-- Does the record bring an upper thread break (R132)? -/
def HeadWatch.breaksBy (w : HeadWatch) (tie : Nat) (t : ThreadGroup) (r : StatusRecord) : Prop :=
  0 < r.penetrations ∧ w.counted t.breakB r = 0 ∧ (w.armedBy tie r).armed = true

/-- Does the record bring the bobbin counter to 0 (R134)? -/
def HeadWatch.emptiesBy (w : HeadWatch) (r : StatusRecord) : Prop :=
  0 < w.bobbin ∧ 0 < r.penetrations ∧ w.bobbin ≤ r.penetrations

section Read

variable {x : State} {h : Nat} (hin : h - 1 < x.monitor.heads.length) (r : StatusRecord)
  (he : x.engagedHead h = true)
include hin he

omit hin in
theorem State.watchRecord_engaged : x.watchRecord h r =
    (((((x.heard h ((x.watchAt h).armedBy x.run.tieIn r) x.monitor.warnCount x.gov x.link).updateCountdown h r).countBobbin
      h r).senseBobbin h r).judgeTension h r) := by
  unfold State.watchRecord
  rw [if_pos he]
  unfold State.updateArmed
  rw [State.modWatch_heard]
  rfl

/-- A record that brings no fault. -/
theorem State.watchRecord_heard (hb : ¬ (x.watchAt h).breaksBy x.run.tieIn x.cfg.thread r)
    (hz : ¬ (x.watchAt h).emptiesBy r) :
    let w := x.watchAt h
    let t := x.cfg.thread
    let n := if w.warns t r then x.monitor.warnCount + 1
      else if w.settles t r then x.monitor.warnCount - 1 else x.monitor.warnCount
    x.watchRecord h r = x.heard h (w.readBy x.run.tieIn t r) n
      { x.gov with derate := if w.warns t r || w.settles t r then n != 0 else x.gov.derate }
      ((((x.link.told (w.runsLow t.warnLevel r) ⟨.bobbinLow, h, x.cursor, 1⟩).told (w.sensesLow r)
        ⟨.bobbinLow, h, x.cursor, 2⟩).told (w.settles t r) ⟨.tensionClear, h, x.cursor, w.swung t r⟩).told (w.warns t r)
          ⟨.tensionWarn, h, x.cursor, w.swung t r⟩) := by
  intro w t n
  rw [State.watchRecord_engaged r he,
    State.heard_updateCountdown (v := (x.watchAt h).armedBy x.run.tieIn r) hin r hb,
    State.heard_countBobbin hin r (v := { (x.watchAt h).armedBy x.run.tieIn r with
      countdown := ((x.watchAt h).armedBy x.run.tieIn r).counted x.cfg.thread.breakB r }) hz,
    State.heard_senseBobbin hin, State.heard_judgeTension hin]
  rfl

omit hin he in
/-- The rest of the Thread Monitor's reading changes the excursion counter alone, with nothing to tell. -/
theorem State.readOn {z : State} (hzin : h - 1 < z.monitor.heads.length) (hsense : (z.watchAt h).sensesLow r = false)
    (hwarns : (z.watchAt h).warns z.cfg.thread r = false) (hcalms : (z.watchAt h).settles z.cfg.thread r = false) :
    (z.senseBobbin h r).judgeTension h r = z.modWatch h (fun w => { w with excursion := w.swung z.cfg.thread r }) := by
  have hs : z.senseBobbin h r = z := if_neg fun hyes => by
    unfold HeadWatch.sensesLow at hsense
    rw [hyes.1, hyes.2] at hsense
    cases hsense
  have ht := State.heard_judgeTension (x := z) (v := z.watchAt h) (n := z.monitor.warnCount) (g := z.gov) (l := z.link)
    hzin r
  rw [State.heard_self, hwarns, hcalms] at ht
  rw [hs, ht, State.modWatch_heard]
  simp only [Bool.or_false, Bool.not_false, Bool.and_true, Bool.false_eq_true, if_false]
  rfl

/-- What the rest of the Thread Monitor's reading does to a head with a fault raised. -/
structure State.FaultRead (x : State) (h : Nat) (kind : FaultKind) (v : HeadWatch) (l : Link) (u : State) : Prop where
  watch : u.watchAt h = { v with armed := false, joining := false, fault := some ⟨kind, .held⟩ }
  run : u.run = { x.run with state := .stopping, cause := some (x.run.cause.getD .fault) }
  link : u.link = l.post ⟨.headFault, h, x.cursor, kind.code⟩
  shaft : u.shaft = x.shaft
  frame : u.frame = x.frame
  gaps : u.gaps = x.gaps

omit hin he in
/-- A record with nothing to tell of sensor and tension. -/
theorem HeadWatch.readBy_quiet {w : HeadWatch} {tie : Nat} {t : ThreadGroup} (hsense : w.sensesLow r = false)
    (hwarns : w.warns t r = false) (hcalms : w.settles t r = false) : w.readBy tie t r =
      { ({ w.armedBy tie r with countdown := w.counted t.breakB r } : HeadWatch).sewn t.warnLevel r with
        excursion := w.swung t r } := by
  have hlow : (w.sensorLow || r.bobbinLow) = w.sensorLow := by
    unfold HeadWatch.sensesLow at hsense
    cases hb : r.bobbinLow with
    | false => exact Bool.or_false _
    | true =>
      rw [hb] at hsense
      cases hs : w.sensorLow with
      | true => rfl
      | false =>
        rw [hs] at hsense
        cases hsense
  unfold HeadWatch.readBy
  rw [hlow, hwarns, hcalms, Bool.or_false, Bool.not_false, Bool.and_true]
  rfl

omit r in
/-- A fault raised as a record is read. -/
theorem State.heard_raised {v : HeadWatch} {n : Nat} {g : Governor} {l : Link} {kind : FaultKind}
    (hrunning : x.run.state = .running) (hp : x.run.pass = .main) (hpol : x.monitor.policy = .stopAll)
    (hkind : kind ≠ .lost) (hnone : v.fault = none) :
    (x.heard h v n g l).StopsFor h kind ((x.heard h v n g l).raiseFault h kind) ∧
    ((x.heard h v n g l).raiseFault h kind).watchAt h =
      { v with armed := false, joining := false, fault := some ⟨kind, .held⟩ } ∧
    h - 1 < ((x.heard h v n g l).raiseFault h kind).monitor.heads.length := by
  have hoff : (x.headAt h).state ≠ .off := fun hoff => by
    unfold State.engagedHead at he
    rw [hoff] at he
    cases he
  have hywatch : (x.heard h v n g l).watchAt h = v := State.heard_watch hin
  have hz := State.raiseFault_stops (x := x.heard h v n g l) (h := h) hkind hrunning hp hpol hoff
    (by rw [hywatch]; exact hnone)
  have hyin : h - 1 < (x.heard h v n g l).monitor.heads.length := by
    show h - 1 < (x.monitor.heads.modify (h - 1) (fun _ => v)).length
    rw [List.length_modify]
    exact hin
  refine ⟨hz, ?_, ?_⟩
  · unfold State.watchAt
    rw [hz.monitor]
    refine (getD_modify_same _ _ _ hyin).trans ?_
    exact congrArg (fun w : HeadWatch => { w with armed := false, joining := false, fault := some ⟨kind, .held⟩ }) hywatch
  · rw [hz.monitor]
    unfold Monitor.noting
    rw [List.length_modify]
    exact hyin

variable (hrunning : x.run.state = .running) (hp : x.run.pass = .main) (hpol : x.monitor.policy = .stopAll)
  (hsense : (x.watchAt h).sensesLow r = false) (hwarns : (x.watchAt h).warns x.cfg.thread r = false)
  (hcalms : (x.watchAt h).settles x.cfg.thread r = false)
include hrunning hp hpol hsense hwarns hcalms

/-- The reading goes on after a fault has been raised. -/
theorem State.faultRead_of {v : HeadWatch} {n : Nat} {g : Governor} {l : Link} {kind : FaultKind} (hkind : kind ≠ .lost)
    (hnone : v.fault = none)
    (hv : (x.watchAt h).readBy x.run.tieIn x.cfg.thread r = { v with excursion := (x.watchAt h).swung x.cfg.thread r })
    (hsame : v.sensorLow = (x.watchAt h).sensorLow ∧ v.excursion = (x.watchAt h).excursion ∧
      v.warn = (x.watchAt h).warn) :
    x.FaultRead h kind ((x.watchAt h).readBy x.run.tieIn x.cfg.thread r) l
      ((((x.heard h v n g l).raiseFault h kind).senseBobbin h r).judgeTension h r) := by
  obtain ⟨hz, hzwatch, hzin⟩ := State.heard_raised (n := n) (g := g) (l := l) hin he hrunning hp hpol hkind hnone
  generalize (x.heard h v n g l).raiseFault h kind = z at *
  have hzcfg : z.cfg = x.cfg := hz.cfg
  obtain ⟨hsensor, hexc, hwarn⟩ := hsame
  have hswung : ∀ t, (z.watchAt h).swung t r = (x.watchAt h).swung t r := fun t => by
    unfold HeadWatch.swung
    rw [hzwatch, ← hexc]
  have hread := State.readOn r hzin (by unfold HeadWatch.sensesLow at hsense ⊢; rw [hzwatch]; rw [← hsensor] at hsense; exact hsense)
    (by unfold HeadWatch.warns at hwarns ⊢; rw [hswung, hzcfg, hzwatch]; rw [← hwarn] at hwarns; exact hwarns)
    (by unfold HeadWatch.settles at hcalms ⊢; rw [hswung, hzcfg, hzwatch]; rw [← hwarn] at hcalms; exact hcalms)
  rw [hread]
  refine ⟨?_, hz.run, hz.link, hz.shaft, hz.frame, hz.gaps⟩
  rw [State.watchAt_modWatch_same _ _ hzin, hswung, hzcfg, hzwatch, hv]

/-- UPPER BREAK (R132, R138). -/
theorem State.watchRecord_breaks (hb : (x.watchAt h).breaksBy x.run.tieIn x.cfg.thread r) (hz : (x.watchAt h).bobbin = 0) :
    x.FaultRead h .upperBreak ((x.watchAt h).readBy x.run.tieIn x.cfg.thread r) x.link (x.watchRecord h r) := by
  let v : HeadWatch := { (x.watchAt h).armedBy x.run.tieIn r with
    countdown := ((x.watchAt h).armedBy x.run.tieIn r).counted x.cfg.thread.breakB r }
  have hnone : v.fault = none := by
    have harmed := (Bool.and_eq_true_iff.1 hb.2.2).2
    exact Option.isNone_iff_eq_none.1 harmed
  have hsewn : v.sewn x.cfg.thread.warnLevel r = v := by
    have hlow : v.runsLow x.cfg.thread.warnLevel r = false := by
      unfold HeadWatch.runsLow
      rw [decide_eq_false (fun hyes => by rw [show v.bobbin = 0 from hz] at hyes; exact Nat.lt_irrefl 0 hyes.1)]
      rfl
    unfold HeadWatch.sewn
    rw [hlow, Bool.or_false, show v.bobbin = 0 from hz, Nat.zero_sub, ← show v.bobbin = 0 from hz]
  have hzwatch := (State.heard_raised (v := v) (n := x.monitor.warnCount) (g := x.gov) (l := x.link)
    (kind := .upperBreak) hin he hrunning hp hpol FaultKind.noConfusion hnone).2.1
  have hcount : ((x.heard h v x.monitor.warnCount x.gov x.link).raiseFault h .upperBreak).countBobbin h r =
      (x.heard h v x.monitor.warnCount x.gov x.link).raiseFault h .upperBreak := if_neg fun hyes => by
    rw [hzwatch] at hyes
    rw [show v.bobbin = 0 from hz] at hyes
    exact Nat.lt_irrefl 0 hyes.1
  rw [State.watchRecord_engaged r he,
    State.heard_updateCountdown_breaks (v := (x.watchAt h).armedBy x.run.tieIn r) hin r hb.1 hb.2.1 hb.2.2, hcount]
  refine State.faultRead_of hin r he hrunning hp hpol hsense hwarns hcalms FaultKind.noConfusion hnone ?_ ⟨rfl, rfl, rfl⟩
  rw [HeadWatch.readBy_quiet r hsense hwarns hcalms]
  exact congrArg (fun w : HeadWatch => { w with excursion := (x.watchAt h).swung x.cfg.thread r }) hsewn

/-- BOBBIN OUT (R134, R138). -/
theorem State.watchRecord_empties (hb : ¬ (x.watchAt h).breaksBy x.run.tieIn x.cfg.thread r)
    (hz : (x.watchAt h).emptiesBy r) (hnone : (x.watchAt h).fault = none) :
    x.FaultRead h .bobbinOut ((x.watchAt h).readBy x.run.tieIn x.cfg.thread r)
      (x.link.told ((x.watchAt h).runsLow x.cfg.thread.warnLevel r) ⟨.bobbinLow, h, x.cursor, 1⟩) (x.watchRecord h r) := by
  have hout : ({ (x.watchAt h).armedBy x.run.tieIn r with
      countdown := ((x.watchAt h).armedBy x.run.tieIn r).counted x.cfg.thread.breakB r } : HeadWatch).bobbin -
      r.penetrations = 0 := Nat.sub_eq_zero_of_le hz.2.2
  rw [State.watchRecord_engaged r he,
    State.heard_updateCountdown (v := (x.watchAt h).armedBy x.run.tieIn r) hin r hb,
    State.heard_countBobbin_of_pos hin r (v := { (x.watchAt h).armedBy x.run.tieIn r with
      countdown := ((x.watchAt h).armedBy x.run.tieIn r).counted x.cfg.thread.breakB r }) ⟨hz.1, hz.2.1⟩, if_pos hout]
  exact State.faultRead_of hin r he hrunning hp hpol hsense hwarns hcalms FaultKind.noConfusion hnone
    (HeadWatch.readBy_quiet r hsense hwarns hcalms) ⟨rfl, rfl, rfl⟩

end Read

end Sys2Proof.Machine

/-!
PROOF. HEAD_ANSWER (sections 6.5, 8.2 to 8.5; O57): the records of engaged heads.
-/

namespace Sys2Proof.Machine
set_option Elab.async false

/-- A round's record of an engaged head (R131, R132, R134, R135, R136, R137). -/
theorem answer_reads {s : State} {h : Nat} {r : StatusRecord} {t : Transaction} (hroomy : s.roomy) (hlow : 1 ≤ h)
    (hhigh : h ≤ 8) (hf : s.bus.inFlight = some t) (hhead : t.head = h) (hr : t.reported = true)
    (hn : (s.workAt h).trim ≠ .waiting) (hc : (s.workAt h).case ≠ .clearing) (hm : (s.workAt h).case ≠ .moving)
    (hk : t.kind = .roundPoll) (he : s.engagedHead h = true) (hre : r.engaged = true) :
    let run := exec (.headAnswer h true r) s
    let w := s.watchAt h
    let g := s.cfg.thread
    let p := r.penetrations
    let own := w.ownTieIn - p
    let armed := s.run.tieIn == 0 && own == 0 && w.fault.isNone
    let count := if p = 0 then w.countdown else if w.countdown = 0 ∧ w.fault ≠ none then 0
      else if r.feed = 0 then w.countdown - p else g.breakB
    let low := decide (0 < w.bobbin ∧ 0 < p ∧ w.bobbin - p ≤ g.warnLevel) && !w.countLow
    let sense := r.bobbinLow && !w.sensorLow
    let n := if p = 0 then w.excursion
      else if r.tension < g.tensionLow ∨ g.tensionHigh < r.tension then min 31 (w.excursion + 1) else w.excursion - 1
    let warns := decide (0 < p ∧ g.upper ≤ n) && !w.warn
    let calms := decide (0 < p ∧ n ≤ g.lower) && w.warn
    let breaks := 0 < p ∧ count = 0 ∧ armed = true
    let empties := 0 < w.bobbin ∧ 0 < p ∧ w.bobbin ≤ p
    let posted := fun (b : Bool) (k : EventKind) (v : Nat) (l : Link) => if b then l.post ⟨k, h, s.cursor, v⟩ else l
    let read := { w with
      ownTieIn := own, armed := armed, countdown := count, bobbin := w.bobbin - p, countLow := w.countLow || low
      sensorLow := w.sensorLow || r.bobbinLow, excursion := n, warn := (w.warn || warns) && !calms }
    let faulted := fun (u : State) (kind : FaultKind) (before : Link) =>
      u.watchAt h = { read with armed := false, joining := false, fault := some ⟨kind, .held⟩ } ∧
      u.run.state = .stopping ∧ u.run.cause = some (s.run.cause.getD .fault) ∧ (u.headAt h).state = (s.headAt h).state ∧
      u.link = before.post ⟨.headFault, h, s.cursor, kind.code⟩ ∧ u.shaft = s.shaft ∧ u.frame = s.frame ∧ u.gaps = s.gaps
    (¬ breaks → ¬ empties →
      ∃ u : State, run = .next u.finish ∧ u.watchAt h = read ∧ (u.linkAt h).record = some r ∧
        u.monitor.warnCount = (if warns then s.monitor.warnCount + 1
          else if calms then s.monitor.warnCount - 1 else s.monitor.warnCount) ∧
        u.gov = { s.gov with derate := if warns || calms then u.monitor.warnCount != 0 else s.gov.derate } ∧
        u.link = posted warns .tensionWarn n (posted calms .tensionClear n
          (posted sense .bobbinLow 2 (posted low .bobbinLow 1 s.link))) ∧
        (u.headAt h).state = (s.headAt h).state ∧ u.run.state = s.run.state ∧ u.run.cause = s.run.cause ∧
        u.shaft = s.shaft ∧ u.frame = s.frame ∧ u.gaps = s.gaps ∧ u.store = s.store) ∧
    (s.monitor.policy = .stopAll → s.run.pass = .main → s.run.state = .running → warns = false → calms = false →
      sense = false →
      (breaks → w.bobbin = 0 → ∃ u : State, run = .next u.finish ∧ faulted u .upperBreak s.link) ∧
      (¬ breaks → empties → w.fault = none →
        ∃ u : State, run = .next u.finish ∧ faulted u .bobbinOut (posted low .bobbinLow 1 s.link))) := by
  intro run w g p own armed count low sense n warns calms breaks empties posted read faulted
  have hx := State.recordRead_at r hroomy hlow hhigh
  have hexec := exec_record_idle (r := r) hroomy hlow hhigh hf hhead hr hn hc hm (.inl hk)
  generalize s.recordRead h r = x at *
  have hin : h - 1 < x.monitor.heads.length := by
    rw [hx.roomy.2.1]
    omega
  have hxe : x.engagedHead h = true := by
    unfold State.engagedHead at he ⊢
    rw [hx.state]
    exact he
  have hxrun : x.run = { s.run with heads := x.run.heads } := Run.of_bare hx.bare
  have hcursor : x.cursor = s.cursor := State.cursor_of_bare hx.bare
  have htie : x.run.tieIn = s.run.tieIn := by rw [hxrun]
  have hcount : count = w.counted g.breakB r := by
    show (if p = 0 then _ else if w.countdown = 0 ∧ w.fault ≠ none then 0 else _) = _
    unfold HeadWatch.counted HeadWatch.countdownAfter
    simp only [Option.isSome_iff_ne_none]
    rfl
  have hread : read = w.readBy s.run.tieIn g r := by
    show ({ w with
      ownTieIn := own, armed := armed, countdown := count, bobbin := w.bobbin - p, countLow := w.countLow || low
      sensorLow := w.sensorLow || r.bobbinLow, excursion := n, warn := (w.warn || warns) && !calms } : HeadWatch) = _
    rw [hcount]
    rfl
  have hbreaks : breaks ↔ w.breaksBy s.run.tieIn g r := by
    show 0 < p ∧ count = 0 ∧ armed = true ↔ _
    rw [hcount]
    rfl
  have hempties : empties ↔ w.emptiesBy r := and_congr_right fun _ => Iff.rfl
  have hquiet : ∀ u : State, u.headAt h = x.headAt h → u.resync h r = u := fun u hu => State.resync_agrees (by
    unfold State.engagedHead at hxe ⊢
    rw [hu, hxe, hre])
  have hdone : ∀ {kind : FaultKind} {l before : Link},
      x.FaultRead h kind ((x.watchAt h).readBy x.run.tieIn x.cfg.thread r) l (x.watchRecord h r) → l = before →
      ∃ u : State, run = .next u.finish ∧ faulted u kind before := fun {kind l before} hu hl => by
    have hhead : (x.watchRecord h r).headAt h = x.headAt h := State.headAt_congr (by rw [hu.run]) h
    rw [hquiet (x.watchRecord h r) hhead] at hexec
    refine ⟨_, hexec, ?_, ?_, ?_, ?_, ?_, hu.shaft.trans hx.shaft, hu.frame.trans hx.frame, hu.gaps.trans hx.gaps⟩
    · rw [hu.watch, hx.watch, htie, hx.cfg, ← hread]
    · rw [hu.run]
    · rw [hu.run, hxrun]
    · rw [hhead, hx.state]
    · rw [hu.link, hl, hcursor]
  refine ⟨fun hnb hne => ?_, fun hpol hp hrunning hnw hnc hns => ⟨fun hb hz => ?_, fun hnb hz hnone => ?_⟩⟩
  · have hheard := State.watchRecord_heard hin r hxe (by rw [hx.watch, htie, hx.cfg]; exact mt hbreaks.2 hnb)
      (by rw [hx.watch]; exact mt hempties.2 hne)
    rw [hx.watch, htie, hx.cfg, hx.monitor, hx.gov, hx.link, hcursor] at hheard
    rw [hquiet (x.watchRecord h r) (by rw [hheard]; rfl), hheard] at hexec
    refine ⟨_, hexec, ?_, hx.record, rfl, rfl, rfl, hx.state, ?_, ?_, hx.shaft, hx.frame, hx.gaps, hx.store⟩
    · rw [hread]
      exact State.heard_watch hin
    · show x.run.state = _
      rw [hxrun]
    · show x.run.cause = _
      rw [hxrun]
  · have hread' := State.watchRecord_breaks hin r hxe (by rw [hxrun]; exact hrunning) (by rw [hxrun]; exact hp)
      (by rw [hx.monitor]; exact hpol) (by rw [hx.watch]; exact hns) (by rw [hx.watch, hx.cfg]; exact hnw)
      (by rw [hx.watch, hx.cfg]; exact hnc) (by rw [hx.watch, htie, hx.cfg]; exact hbreaks.1 hb)
      (by rw [hx.watch]; exact hz)
    exact hdone hread' (by rw [hx.link])
  · have hread' := State.watchRecord_empties hin r hxe (by rw [hxrun]; exact hrunning) (by rw [hxrun]; exact hp)
      (by rw [hx.monitor]; exact hpol) (by rw [hx.watch]; exact hns) (by rw [hx.watch, hx.cfg]; exact hnw)
      (by rw [hx.watch, hx.cfg]; exact hnc) (by rw [hx.watch, htie, hx.cfg]; exact mt hbreaks.2 hnb)
      (by rw [hx.watch]; exact hempties.1 hz) (by rw [hx.watch]; exact hnone)
    exact hdone hread' (by rw [hx.link, hx.watch, hx.cfg, hcursor]; rfl)

end Sys2Proof.Machine

/-!
PROOF. HEAD_ANSWER (sections 1.4, 1.3; O57): the last LOWER of a start, and the first stitch begun from rest.
-/

namespace Sys2Proof.Machine
set_option Elab.async false

/-! ## What the records look like from a run (R8, R53) -/

/-- What of the run the records' stop points and bounds depend on. -/
def Run.looks (r : Run) : Pass × Nat × Option Nat × Option Nat × Option Nat × Option Nat :=
  (r.pass, r.mainCursor, r.patchCursor, r.point, r.patchDone, r.mark)

section Looks

variable {s : State} {r : Run} (hr : r.looks = s.run.looks)
include hr

theorem State.setRun_stopKindAt (i : Nat) : (s.setRun r).stopKindAt i = s.stopKindAt i := by
  obtain ⟨hpass, hmain, -, hpoint, hdone, hmark⟩ : r.pass = s.run.pass ∧ r.mainCursor = s.run.mainCursor ∧
      r.patchCursor = s.run.patchCursor ∧ r.point = s.run.point ∧ r.patchDone = s.run.patchDone ∧
      r.mark = s.run.mark := by
    simpa only [Run.looks, Prod.mk.injEq] using hr
  have hjudge : ∀ dx dy stitch, (s.setRun r).judgeMotion i dx dy stitch = s.judgeMotion i dx dy stitch := fun _ _ _ => rfl
  unfold State.stopKindAt State.patchStop State.patchCovers State.recordStop
  simp only [State.setRun_run, State.setRun_store, State.setRun_gaps, hjudge, hpass, hmain, hpoint, hdone, hmark]

theorem State.setRun_outlook (i : Nat) : (s.setRun r).outlook i = s.outlook i := by
  have hlook : ∀ n i, (s.setRun r).lookAhead n i = s.lookAhead n i := fun n => by
    induction n with
    | zero => exact fun _ => rfl
    | succ n ih =>
      intro i
      unfold State.lookAhead
      simp only [State.setRun_stopKindAt hr, State.setRun_store, State.setRun_cfg, ih]
      rfl
  exact hlook _ i

theorem State.setRun_windowAt (i : Nat) : (s.setRun r).windowAt i = s.windowAt i := by
  have hwindow : ∀ n i d, (s.setRun r).windowFrom n i d = s.windowFrom n i d := fun n => by
    induction n with
    | zero => exact fun _ _ => rfl
    | succ n ih =>
      intro i d
      have hbound : (s.setRun r).boundAt i = s.boundAt i := rfl
      unfold State.windowFrom
      simp only [State.setRun_outlook hr, State.setRun_cfg, hbound, ih]
  exact hwindow _ i 0

end Looks

/-! ## The first stitch of a run, begun from rest (R6, R49, R59) -/

/-- The state in which the move of a STITCH has begun with the shaft at rest. -/
def State.begunFromRest (s : State) (dx dy : Int) : State :=
  ((s.setGov { s.gov with
      last := none
      bound := some (lookBound s.cfg.speeds.decel s.cfg.speeds.maxSpeed (s.windowAt s.cursor))
      window := s.windowAt s.cursor }).setFrame { s.frame with
    x := s.frame.x.begin s.cfg.machine.kX .stitch dx, y := s.frame.y.begin s.cfg.machine.kY .stitch dy
    stitch := some ⟨moveIndex dx dy, false, s.cursor, false⟩ }).setRun { s.run with carry := true }

theorem State.beginFromRest_stitch {s : State} (hs : s.shaft.state = .atRest) (dx dy : Int) :
    s.beginFromRest (.stitch dx dy) = s.begunFromRest dx dy := by
  have hwindow : s.windowKept s.cursor = s.windowAt s.cursor := if_neg (by rw [hs]; exact Bool.false_ne_true)
  unfold State.beginFromRest State.beginRecord
  dsimp only [motionOf]
  unfold State.computeSpeed
  dsimp only
  rw [hwindow]
  rfl

theorem State.RestsNow.advance_stitch {v : State} (h : v.RestsNow) (hrun : v.run.state = .running)
    (hp : v.run.pass = .main) (hstep : v.run.stepDone = false) (hstop : v.stopKindAt v.cursor = none) {dx dy : Int}
    (hr : v.store.recordAt v.cursor = some (.stitch dx dy)) : v.advance = some (v.begunFromRest dx dy) := by
  have hpass : v.passEffects = v := State.passEffects_of_none fun _ r hr' => by
    rw [hr] at hr'
    cases hr'
    rfl
  have hact : v.actAtRest = v.actOn := by
    unfold State.actAtRest
    rw [if_neg (ne_true_of_eq_false hstep), hpass]
  rw [h.advance_running hrun, hact, State.actOn_main hp, hstop, hr]
  exact congrArg some (State.beginFromRest_stitch h.shaft dx dy)

/-! ## The last LOWER of a start (R14, R11, R25) -/

theorem answer_starts {s : State} {h : Nat} {r : StatusRecord} {t : Transaction} (hroomy : s.roomy) (hlow : 1 ≤ h)
    (hhigh : h ≤ 8) (hf : s.bus.inFlight = some t) (hhead : t.head = h) (hr : t.reported = true) :
    let run := exec (.headAnswer h true r) s
    let ended := s.answeredAt h
    let turning := s.shaft.state = .running ∨ s.shaft.state = .stopping
    ∀ o dx dy, t.kind = .command (.engage o) → o = ⟨.lower, .sewing, false, true⟩ → ¬ turning →
     (s.headAt h).state = .idle ∨ (s.headAt h).state = .resting → (s.workAt h).case ≠ .lowering →
     s.run.state = .arming → s.run.activity = .engaging → s.run.cause = none → s.run.pass = .main →
     s.run.carry = false → s.run.stepDone = false → s.shaft.state = .atRest → s.frame.stitch = none →
     s.frame.travel = none → s.frame.homing = none →
     (∀ c ∈ s.bus.queue ++ s.bus.held, ∀ e, c.work = .engage e → e.forStart = false) →
     s.stopKindAt s.cursor = none → s.store.recordAt s.cursor = some (.stitch dx dy) →
     let window := s.windowAt s.cursor
     let bound := window.foldl (fun m e => min m (e.bound + e.distance * s.cfg.speeds.decel)) s.cfg.speeds.maxSpeed
     let begun := fun (x : Axis) (k : Nat) (d : Int) =>
       let steps := ((x.residue : Int) + d * k) / 256
       if d = 0 then x
       else { x with move := some ⟨.stitch, d, steps, 0⟩, dirUp := if steps = 0 then x.dirUp else decide (0 < steps) }
     ∃ u : State, run = .next u ∧
       u.run = { s.run with
         state := .running, activity := .none, startReturn := none, keepTieIn := false, carry := true
         tieIn := if s.run.keepTieIn then s.run.tieIn else s.cfg.speeds.tieIn
         heads := s.run.heads.modify (h - 1) (fun e => { e with
           state := .sewing, acked := none
           queued := if (s.bus.queue ++ s.bus.held).any (fun c => c.engages h) then e.queued else none }) } ∧
       u.link = s.link.post ⟨.runStarted, 0, s.cursor, s.run.startValue⟩ ∧
       u.monitor = (if s.run.keepTieIn then s.monitor
         else { s.monitor with heads := s.monitor.heads.map (fun w => { w with armed := false }) }) ∧
       u.gov = { s.gov with last := none, bound := some bound, window := window } ∧
       u.frame = { s.frame with
         x := begun s.frame.x s.cfg.machine.kX dx, y := begun s.frame.y s.cfg.machine.kY dy
         stitch := some ⟨max dx.natAbs dy.natAbs, false, s.cursor, false⟩ } ∧
       u.shaft = s.shaft ∧ u.bus = ended.pump.bus ∧ u.store = s.store ∧ u.gaps = s.gaps ∧ u.change = s.change ∧
       u.cfg = s.cfg := by
  intro run ended turning o dx dy hk ho hturn hs hw harm hact hcause hp hcarry hstep hshaft hstitch ht hh hnone hstop hrec
    window bound begun
  let v := (s.answeredAt h).setRun { s.run with heads := s.run.heads.modify (h - 1) (fun e => { e with
    state := .sewing, acked := none
    queued := if (s.bus.queue ++ s.bus.held).any (fun c => c.engages h) then e.queued else none }) }
  have hrun : run = .next v.finish := by
    have hlowered := answer_lowered (r := r) hroomy hlow hhigh hf hhead hr hk hturn (by rw [ho]) (by rw [ho]) hs hw
    rw [ho] at hlowered
    exact hlowered
  have hout : v.bus.startOutstanding = false := by
    have hany : ∀ l : List BusCommand, (∀ c ∈ l, c ∈ s.bus.queue ++ s.bus.held) → l.any (fun c => match c.work.order? with
        | some o => o.forStart
        | none => false) = false := fun l hl => List.any_eq_false.2 fun c hc => by
      have hc' := hnone c (hl c hc)
      cases hwork : c.work with
      | engage e =>
        rw [show (BusWork.engage e).order? = some e from rfl]
        exact ne_true_of_eq_false (hc' e hwork)
      | caseMove b n => exact Bool.false_ne_true
      | trim => exact Bool.false_ne_true
      | clear => exact Bool.false_ne_true
      | poll => exact Bool.false_ne_true
    have hqueue := hany s.bus.queue fun c hc => List.mem_append_left _ hc
    have hheld := hany s.bus.held fun c hc => List.mem_append_right _ hc
    exact Bool.or_eq_false_iff.2 ⟨Bool.or_eq_false_iff.2 ⟨hqueue, hheld⟩, rfl⟩
  have hadv := ((changes_end v ht hh).1 hact).2 hout hcause (State.main_goesOn hp)
  let ra : Run := { v.run with
    state := .running, activity := .none, startReturn := none, keepTieIn := false
    tieIn := if s.run.keepTieIn then s.run.tieIn else s.cfg.speeds.tieIn }
  let a := ((v.setRun ra).setMonitor (if s.run.keepTieIn then s.monitor
    else { s.monitor with heads := s.monitor.heads.map (fun w => { w with armed := false }) })).setLink
      (s.link.post ⟨.runStarted, 0, s.cursor, s.run.startValue⟩)
  have hva : v.advance = some a := hadv
  have hlooks : ra.looks = s.run.looks := rfl
  have hsame : (s.setRun ra).SameRecords a := ⟨rfl, rfl, rfl, rfl, rfl⟩
  have hcursor : a.cursor = s.cursor := rfl
  have hrest : a.RestsNow := ⟨a.calm_iff.2 ⟨rfl, ht, hh⟩, hstitch, hshaft, hcarry⟩
  have hab := hrest.advance_stitch rfl hp hstep
    (by rw [hcursor, hsame.stopKindAt, State.setRun_stopKindAt hlooks]; exact hstop) hrec
  have hwindow : a.windowAt a.cursor = window := by
    rw [hcursor, hsame.windowAt, State.setRun_windowAt hlooks]
  let b := a.begunFromRest dx dy
  have hbnone : b.advance = none := State.advance_of_stitch (v := b) (b.calm_iff.2 ⟨rfl, ht, hh⟩) (fun hno => by cases hno)
  refine ⟨b.pump, hrun.trans (congrArg _ (State.finish_of_two hva hab hbnone)), ?_⟩
  obtain ⟨prun, pstore, pgov, pframe, pshaft, pchange, pmonitor, pgaps, plink, pcfg, -⟩ := b.pump_keeps
  have hbgov : b.gov = { s.gov with last := none, bound := some bound, window := window } := by
    show ({ s.gov with
      last := none
      bound := some (lookBound s.cfg.speeds.decel s.cfg.speeds.maxSpeed (a.windowAt a.cursor))
      window := a.windowAt a.cursor } : Governor) = _
    rw [hwindow]
    rfl
  have hdue : ∀ k, b.pollDue k = ended.pollDue k := fun k => by
    have hlink : b.linkAt k = ended.linkAt k := rfl
    have hstate : ((b.headAt k).state != .off) = ((s.headAt k).state != .off) := by
      by_cases hkh : h - 1 = k - 1
      · have hsewing : (b.headAt k).state = .sewing := by
          unfold State.headAt
          rw [← hkh]
          exact congrArg HeadEntry.state (getD_modify_same _ _ _ (by rw [hroomy.1]; omega))
        have hsk : s.headAt k = s.headAt h := by
          unfold State.headAt
          rw [hkh]
        rw [hsewing, hsk]
        rcases hs with hs | hs <;> rw [hs] <;> rfl
      · have hsame : b.headAt k = s.headAt k := getD_modify_other _ _ hkh
        rw [hsame]
    unfold State.pollDue
    rw [hlink, hstate]
    rfl
  exact ⟨prun, plink, pmonitor, pgov.trans hbgov, pframe, pshaft, State.pump_bus_of_due (s := ended) (t := b) rfl hdue,
    pstore, pgaps, pchange, pcfg⟩

end Sys2Proof.Machine

/-!
PROOF. HEAD_ANSWER (sections 6.3 to 6.5, 1.4, 1.7, 8; O57): the obligation.
-/

namespace Sys2Proof.Machine
set_option Elab.async false

theorem head_answers : ∀ (s : State) (h : Nat) (ok : Bool) (r : StatusRecord), s.shapesRight = true →
      let run := exec (.headAnswer h ok r) s
      let ended := s.setBus { s.bus with
        inFlight := none, round := s.bus.round.filter (fun r => !r.todo.isEmpty)
        heads := s.bus.heads.modify (h - 1) (fun l => { l with timeouts := 0 }) }
      let turning := s.shaft.state = .running ∨ s.shaft.state = .stopping
      let w := s.watchAt h
      let g := s.cfg.thread
      let p := r.penetrations
      let own := w.ownTieIn - p
      let armed := s.run.tieIn == 0 && own == 0 && w.fault.isNone
      let count := if p = 0 then w.countdown else if w.countdown = 0 ∧ w.fault ≠ none then 0
        else if r.feed = 0 then w.countdown - p else g.breakB
      let low := decide (0 < w.bobbin ∧ 0 < p ∧ w.bobbin - p ≤ g.warnLevel) && !w.countLow
      let sense := r.bobbinLow && !w.sensorLow
      let n := if p = 0 then w.excursion
        else if r.tension < g.tensionLow ∨ g.tensionHigh < r.tension then min 31 (w.excursion + 1) else w.excursion - 1
      let warns := decide (0 < p ∧ g.upper ≤ n) && !w.warn
      let calms := decide (0 < p ∧ n ≤ g.lower) && w.warn
      let breaks := 0 < p ∧ count = 0 ∧ armed = true
      let empties := 0 < w.bobbin ∧ 0 < p ∧ w.bobbin ≤ p
      let posted := fun (b : Bool) (k : EventKind) (v : Nat) (l : Link) => if b then l.post ⟨k, h, s.cursor, v⟩ else l
      let read := { w with
        ownTieIn := own, armed := armed, countdown := count, bobbin := w.bobbin - p, countLow := w.countLow || low
        sensorLow := w.sensorLow || r.bobbinLow, excursion := n, warn := (w.warn || warns) && !calms }
      let faulted := fun (u : State) (kind : FaultKind) (before : Link) =>
        u.watchAt h = { read with armed := false, joining := false, fault := some ⟨kind, .held⟩ } ∧
        u.run.state = .stopping ∧ u.run.cause = some (s.run.cause.getD .fault) ∧ (u.headAt h).state = (s.headAt h).state ∧
        u.link = before.post ⟨.headFault, h, s.cursor, kind.code⟩ ∧ u.shaft = s.shaft ∧ u.frame = s.frame ∧ u.gaps = s.gaps
      (s.bus.inFlight = none → run = .next s) ∧
      (∀ t, s.bus.inFlight = some t → ok = false ∨ h ≠ t.head → run = .next s) ∧
      (∀ t, s.bus.inFlight = some t → ok = true → h = t.head → t.reported = true → 1 ≤ h → h ≤ 8 →
        (∀ o, t.kind = .command (.engage o) → turning →
          run = .next ((ended.setRun { s.run with
            heads := s.run.heads.modify (h - 1) (fun e => { e with acked := some o }) }).finish)) ∧
        (∀ o, t.kind = .command (.engage o) → ¬ turning → o.cmd = .lift → o.becomes = .idle ∨ o.becomes = .resting →
          s.engagedHead h = true → (s.watchAt h).fault = none → (s.workAt h).case ≠ .lifting →
          ∃ u : State, run = .next u.finish ∧ (u.headAt h).state = o.becomes ∧ (u.headAt h).needle = (s.headAt h).needle ∧
            (u.watchAt h).armed = false ∧ u.bus = ended.bus ∧ u.frame = s.frame ∧ u.shaft = s.shaft ∧ u.link = s.link ∧
            u.store = s.store ∧ u.gaps = s.gaps ∧ u.gov = s.gov ∧
            (∀ j, j ≠ h → 1 ≤ j → j ≤ 8 → u.headAt j = s.headAt j ∧ u.watchAt j = s.watchAt j)) ∧
        (∀ o, t.kind = .command (.engage o) → ¬ turning → o.cmd = .lower → o.join = false →
          (s.headAt h).state = .idle ∨ (s.headAt h).state = .resting → o.becomes = .sewing ∨ o.becomes = .patch →
          (s.workAt h).case ≠ .lowering →
          run = .next ((ended.setRun { s.run with heads := s.run.heads.modify (h - 1) (fun e => { e with
            state := o.becomes, acked := none
            queued := if (s.bus.queue ++ s.bus.held).any (fun c => c.engages h) then e.queued else none }) }).finish)) ∧
        (∀ o dx dy, t.kind = .command (.engage o) → o = ⟨.lower, .sewing, false, true⟩ → ¬ turning →
          (s.headAt h).state = .idle ∨ (s.headAt h).state = .resting → (s.workAt h).case ≠ .lowering →
          s.run.state = .arming → s.run.activity = .engaging → s.run.cause = none → s.run.pass = .main →
          s.run.carry = false → s.run.stepDone = false → s.shaft.state = .atRest → s.frame.stitch = none →
          s.frame.travel = none → s.frame.homing = none →
          (∀ c ∈ s.bus.queue ++ s.bus.held, ∀ e, c.work = .engage e → e.forStart = false) →
          s.stopKindAt s.cursor = none → s.store.recordAt s.cursor = some (.stitch dx dy) →
          let window := s.windowAt s.cursor
          let bound := window.foldl (fun m e => min m (e.bound + e.distance * s.cfg.speeds.decel)) s.cfg.speeds.maxSpeed
          let begun := fun (x : Axis) (k : Nat) (d : Int) =>
            let steps := ((x.residue : Int) + d * k) / 256
            if d = 0 then x
            else { x with move := some ⟨.stitch, d, steps, 0⟩, dirUp := if steps = 0 then x.dirUp else decide (0 < steps) }
          ∃ u : State, run = .next u ∧
            u.run = { s.run with
              state := .running, activity := .none, startReturn := none, keepTieIn := false, carry := true
              tieIn := if s.run.keepTieIn then s.run.tieIn else s.cfg.speeds.tieIn
              heads := s.run.heads.modify (h - 1) (fun e => { e with
                state := .sewing, acked := none
                queued := if (s.bus.queue ++ s.bus.held).any (fun c => c.engages h) then e.queued else none }) } ∧
            u.link = s.link.post ⟨.runStarted, 0, s.cursor, s.run.startValue⟩ ∧
            u.monitor = (if s.run.keepTieIn then s.monitor
              else { s.monitor with heads := s.monitor.heads.map (fun w => { w with armed := false }) }) ∧
            u.gov = { s.gov with last := none, bound := some bound, window := window } ∧
            u.frame = { s.frame with
              x := begun s.frame.x s.cfg.machine.kX dx, y := begun s.frame.y s.cfg.machine.kY dy
              stitch := some ⟨max dx.natAbs dy.natAbs, false, s.cursor, false⟩ } ∧
            u.shaft = s.shaft ∧ u.bus = ended.pump.bus ∧ u.store = s.store ∧ u.gaps = s.gaps ∧ u.change = s.change ∧
            u.cfg = s.cfg) ∧
        (∀ o, t.kind = .command (.engage o) → ¬ turning → o.cmd = .lower → o.join = true → s.run.pass = .patch →
          (s.headAt h).state = .idle ∨ (s.headAt h).state = .resting → (s.workAt h).case ≠ .lowering →
          ∃ u : State, run = .next u.finish ∧ (u.headAt h).state = o.becomes ∧
            (u.watchAt h).ownTieIn = s.cfg.speeds.tieIn ∧ (u.watchAt h).armed = false ∧ (u.watchAt h).joining = false ∧
            u.gaps = s.gaps ∧ u.link = s.link ∧ u.run.activity = s.run.activity ∧ u.run.state = s.run.state ∧
            u.shaft = s.shaft ∧ u.frame = s.frame ∧ u.bus = ended.bus ∧
            (∀ j, j ≠ h → 1 ≤ j → j ≤ 8 → u.headAt j = s.headAt j ∧ u.watchAt j = s.watchAt j)) ∧
        (t.kind = .command .trim → (s.workAt h).trim = .waiting →
          (∀ c ∈ s.bus.queue ++ s.bus.held, c.head = h → c.work ≠ .trim) →
          run = .next ((ended.setChange { s.change with
            heads := s.change.heads.modify (h - 1) (fun w => { w with trimTimer := true }) }).finish)) ∧
        (t.kind = .roundPoll → s.engagedHead h = false → r.engaged = false → r.bobbinLow = false →
          (s.watchAt h).bobbin = 0 → (s.workAt h).trim ≠ .waiting → (s.workAt h).case ≠ .clearing →
          (s.workAt h).case ≠ .moving →
          run = .next ((((ended.setBus { ended.bus with
              heads := s.bus.heads.modify (h - 1) (fun l => { l with timeouts := 0, record := some r }) }).setRun { s.run with
              heads := s.run.heads.modify (h - 1) (fun e =>
                if r.caseState = .atRest then { e with needle := r.casePos } else e) }).setChange { s.change with
              heads := s.change.heads.modify (h - 1) (fun w =>
                if r.casePos = 0 then w else { w with lastKnown := some r.casePos }) }).finish)) ∧
        (t.kind = .roundPoll ∨ t.kind = .command .poll → r.engaged ≠ s.engagedHead h → p = 0 → r.bobbinLow = false →
          (s.workAt h).trim ≠ .waiting → (s.workAt h).case ≠ .clearing → (s.workAt h).case ≠ .moving →
          let under := (∃ c ∈ s.bus.queue ++ s.bus.held, c.engages h = true) ∨ (s.headAt h).acked ≠ none
          let cmd := if s.engagedHead h then Engage.lower else .lift
          let order : BusCommand := ⟨h, .engage ⟨cmd, (s.headAt h).state, false, false⟩⟩
          ∃ u : State, run = .next u.finish ∧ (u.linkAt h).record = some r ∧ (u.headAt h).state = (s.headAt h).state ∧
            u.run.state = s.run.state ∧ u.link = s.link ∧ u.shaft = s.shaft ∧ u.frame = s.frame ∧ u.gaps = s.gaps ∧
            (under → u.bus.queue = s.bus.queue ∧ u.bus.held = s.bus.held) ∧
            (¬ under → (s.linkAt h).lost = false → (u.headAt h).queued = some cmd ∧
              (s.bus.queue.length < 16 → s.bus.held = [] → u.bus.queue = s.bus.queue ++ [order] ∧ u.bus.held = []) ∧
              (¬ (s.bus.queue.length < 16 ∧ s.bus.held = []) →
                u.bus.queue = s.bus.queue ∧ u.bus.held = s.bus.held ++ [order]))) ∧
        (t.kind = .roundPoll → s.engagedHead h = true → r.engaged = true → (s.workAt h).trim ≠ .waiting →
          (s.workAt h).case ≠ .clearing → (s.workAt h).case ≠ .moving →
          (¬ breaks → ¬ empties →
            ∃ u : State, run = .next u.finish ∧ u.watchAt h = read ∧ (u.linkAt h).record = some r ∧
              u.monitor.warnCount = (if warns then s.monitor.warnCount + 1
                else if calms then s.monitor.warnCount - 1 else s.monitor.warnCount) ∧
              u.gov = { s.gov with derate := if warns || calms then u.monitor.warnCount != 0 else s.gov.derate } ∧
              u.link = posted warns .tensionWarn n (posted calms .tensionClear n
                (posted sense .bobbinLow 2 (posted low .bobbinLow 1 s.link))) ∧
              (u.headAt h).state = (s.headAt h).state ∧ u.run.state = s.run.state ∧ u.run.cause = s.run.cause ∧
              u.shaft = s.shaft ∧ u.frame = s.frame ∧ u.gaps = s.gaps ∧ u.store = s.store) ∧
          (s.monitor.policy = .stopAll → s.run.pass = .main → s.run.state = .running → warns = false → calms = false →
            sense = false →
            (breaks → w.bobbin = 0 → ∃ u : State, run = .next u.finish ∧ faulted u .upperBreak s.link) ∧
            (¬ breaks → empties → w.fault = none →
              ∃ u : State, run = .next u.finish ∧ faulted u .bobbinOut (posted low .bobbinLow 1 s.link))))) := by
  intro s h ok r hshapes run ended turning w g p own armed count low sense n warns calms breaks empties posted read faulted
  have hroomy : s.roomy := State.roomy_of_shapes hshapes
  refine ⟨exec_headAnswer_of_none h ok r, fun t hf hw => exec_headAnswer_of_wrong r hf hw,
    fun t hf hok hth hr hlow hhigh => ?_⟩
  subst hok
  have hhead : t.head = h := hth.symm
  refine ⟨fun o hk hturn => answer_waits hf hhead hr hk hturn, fun o hk hturn hcmd hb he hfault hw => ?_,
    fun o hk hturn hcmd hjoin hs hb hw => answer_lowered hroomy hlow hhigh hf hhead hr hk hturn hcmd hjoin hs hw,
    answer_starts hroomy hlow hhigh hf hhead hr,
    fun o hk hturn hcmd hjoin hp hs hw => answer_joins hroomy hlow hhigh hf hhead hr hk hturn hcmd hjoin hp hs hw,
    fun hk hw hnone => answer_trims hf hhead hr hk hw hnone, fun hk he hre hb hz hn hc hm => ?_,
    fun hk hne hp hb hn hc hm => answer_resyncs hroomy hlow hhigh hf hhead hr hn hc hm hk hne hp hb,
    fun hk he hre hn hc hm => answer_reads hroomy hlow hhigh hf hhead hr hn hc hm hk he hre⟩
  · obtain ⟨u, hu, hexec⟩ := answer_lifted (r := r) hroomy hlow hhigh hf hhead hr hk hturn hcmd hb he hfault hw
    exact ⟨u, hexec, hu.state, hu.needle, hu.armed, hu.bus, hu.frame, hu.shaft, hu.link, hu.store, hu.gaps, hu.gov,
      fun j hne hj _ => ⟨(hu.others j (by omega)).head, (hu.others j (by omega)).watch⟩⟩
  · have hexec := answer_replaces (r := r) hroomy hlow hhigh hf hhead hr hn hc hm hk he hre hb hz
    rw [State.recordRead_eq] at hexec
    exact hexec

/-- Settles O57: an answer ends its transaction, by the kind of the transaction; then the step that ends an event, and the
steps due at the end of a start's step 4, of a trim and of a colour change. -/
theorem headAnswerEndsItsTransaction : Obligations.HeadAnswerEndsItsTransaction :=
  ⟨head_answers, finish_settles, changes_end⟩

end Sys2Proof.Machine
